-- ==== Sys2Proof/Word.lean ====
section
/-! DEFINITION. The word types of the block and the plainest arithmetic on them: bit ranges of a register word, saturating
counters, rounding divisions. -/

namespace Sys2Proof

/-- A register value. A 32-bit register holds its value in the low half (R12). -/
abbrev Word := BitVec 64
/-- One byte of a structure in memory or on the media. -/
abbrev Byte := BitVec 8

/-- A named bit range `[hi:lo]`, both ends included (R6), of the register at offset `reg`. -/
structure Field where
  reg : Nat
  hi : Nat
  lo : Nat
deriving DecidableEq, Repr

/-- The number of bits of `[hi:lo]`. -/
def spanBits (hi lo : Nat) : Nat := hi + 1 - lo

/-- The bits `[hi:lo]` of a number (R6). -/
def bitsOf (n hi lo : Nat) : Nat := (n >>> lo) % 2 ^ spanBits hi lo

/-- The bits `[hi:lo]` of a word, as a number (R6). -/
def getBits (w : Word) (hi lo : Nat) : Nat := (w.toNat >>> lo) % 2 ^ spanBits hi lo

/-- The word that has ones in `[hi:lo]` alone. -/
def maskBits (hi lo : Nat) : Word := BitVec.ofNat 64 ((2 ^ spanBits hi lo - 1) <<< lo)

/-- `w` with the bits `[hi:lo]` replaced by the low bits of `v`. -/
def setBits (w : Word) (hi lo v : Nat) : Word :=
  (w &&& ~~~ maskBits hi lo) ||| BitVec.ofNat 64 ((v % 2 ^ spanBits hi lo) <<< lo)

/-- Division rounded up. -/
def ceilDiv (a b : Nat) : Nat := (a + b - 1) / b

/-- A counter of `bits` bits that stops at its largest value (R640). -/
def satAdd (bits a b : Nat) : Nat := min (a + b) (2 ^ bits - 1)

/-- A number as `n` bytes, least significant first (R7). -/
def leBytes : Nat → Nat → List Byte
  | 0, _ => []
  | n + 1, v => BitVec.ofNat 8 v :: leBytes n (v / 256)

/-- The number that bytes spell, least significant first (R7). -/
def leNat : List Byte → Nat
  | [] => 0
  | b :: bs => b.toNat + 256 * leNat bs

end Sys2Proof
end

