-- ==== Sys2Proof/Config.lean ====
section
/-! DEFINITION. What an implementation fixes (the build, Tables 0-1, 1-5 and 21-1) and the free values: constants without
a body, which stand for what the spec leaves open. -/

namespace Sys2Proof

/-- The builds of Table 0-1. -/
inductive Build where
  | dz48
  | dz96
  | dz96P
deriving DecidableEq, Repr

/-- A value the spec leaves open, one per draw; nothing constrains it. -/
opaque Config.freeValue : Nat → BitVec 64
/-- VERSION of an entry of the host function's directory, by its TYPE (R570): the spec gives the field no value. -/
opaque Config.dirVersion : Nat → BitVec 16

/-- Home channels of one controller unit (Table 1-5). -/
def Build.channels : Build → Nat
  | .dz48 => 48
  | .dz96 => 96
  | .dz96P => 96
/-- Home quads (Table 1-5). -/
def Build.quads : Build → Nat
  | .dz48 => 12
  | .dz96 => 24
  | .dz96P => 24
/-- Fabric ports (Table 1-5). -/
def Build.ports : Build → Nat
  | .dz48 => 2
  | .dz96 => 4
  | .dz96P => 4
/-- Hard decoders fitted, the spare excluded (Table 1-5). -/
def Build.hard : Build → Nat
  | .dz48 => 24
  | .dz96 => 48
  | .dz96P => 48
/-- Soft decoders fitted, the spare excluded (Table 1-5). -/
def Build.soft : Build → Nat
  | .dz48 => 6
  | .dz96 => 12
  | .dz96P => 12
/-- Parity engines (Table 1-5). -/
def Build.parity : Build → Nat
  | .dz48 => 2
  | .dz96 => 4
  | .dz96P => 4
/-- Liner banks (Table 1-5); each holds 384 sets on every build. -/
def Build.banks : Build → Nat
  | .dz48 => 8
  | .dz96 => 16
  | .dz96P => 16
/-- Default spare pool size at full population (Table 1-5). -/
def Build.spares : Build → Nat
  | .dz48 => 16
  | .dz96 => 32
  | .dz96P => 32
/-- 1 where the pair logic is present (Table 1-5). -/
def Build.pair : Build → Bool
  | .dz48 => false
  | .dz96 => false
  | .dz96P => true
/-- 1 where the background SRAM scrub is present (Table 1-5). -/
def Build.bgScrub : Build → Bool
  | .dz48 => false
  | .dz96 => true
  | .dz96P => true
/-- GLB_ID.BUILD and HF_IDENT.BUILD (R648). -/
def Build.code : Build → Nat
  | .dz48 => 0x30
  | .dz96 => 0x60
  | .dz96P => 0x61
/-- KiB of one Liner way (Table 21-13): sets of 256 bytes. -/
def Build.wayKib (b : Build) : Nat := b.banks * 384 * 256 / 1024

end Sys2Proof
end

