-- ==== Sys2Proof/Payload.lean ====
section
/-! DEFINITION. The shapes of what arrives with a command: readings, device answers, messages. -/

namespace Sys2Proof

/-- What the probes of a retraining find of the die in one slot (R206): its status byte, the first detecting step of the preamble, and
whether each probe of the searches passed, three to a search: read low edge, read high edge, write low edge, write high edge. -/
structure TrainDie where
  slot : Nat
  status : Nat
  gate : Nat
  rdLow : List Bool
  rdHigh : List Bool
  wrLow : List Bool
  wrHigh : List Bool
deriving DecidableEq, Repr

/-- What SFDP tells of the NOR device (R533, R534): size in MiB, 4-KiB erase, page size, whether 8D-8D-8D is listed, the divider and the
dummy cycles of the highest listed frequency at or below 200 MHz, and whether SFDP read alike in that mode. -/
structure NorSfdp where
  mib : Nat
  erase4k : Bool
  page : Nat
  ddr : Bool
  div : Nat
  dummy : Nat
  same : Bool
deriving DecidableEq, Repr

/-- A copy of a parameter page (R184, R185): whether its CRC-16 is correct, the geometry it gives (R186) and the rate codes it advertises as bits. -/
structure ParamCopy where
  good : Bool
  page : Nat
  spare : Nat
  planes : Nat
  blocks : Nat
  pages : Nat
  luns : Nat
  rates : Nat
deriving DecidableEq, Repr

/-- What a volume answers to the ROM routine (R184): its signatures, bytes 0 to 5 of Read ID at 00h, the copies of its parameter page, and the
unique ID of each LUN, none where its copy check fails (R187). -/
structure RomVolume where
  onfi : Bool
  jedec : Bool
  id : List Nat
  copies : List ParamCopy
  uids : List (Option Nat)
deriving DecidableEq, Repr

/-- What full training finds of a die (Table 5-10): the first detecting step of the preamble, and the steps 0 to 63 of the combined read and
write windows that pass. -/
structure TryDie where
  gate : Option Nat
  rd : List Bool
  wr : List Bool
deriving DecidableEq, Repr

/-- What one try of training finds on a channel: the windows of DQ0 to DQ7 on its lowest used slot, read and write, and its dies in the order
found. -/
structure TryChan where
  rdBits : List (List Bool)
  wrBits : List (List Bool)
  dies : List TryDie
deriving DecidableEq, Repr

/-- What bring-up finds on a quad: its tries of training, each by channel, and the bad blocks of the factory scan as (channel of the quad, die
in the order found, block index). -/
structure BringQuad where
  quad : Nat
  tries : List (List TryChan)
  bad : List (Nat × Nat × Nat)
deriving DecidableEq, Repr

/-- What a read of one codeword slot of a page gives: it reads as erased by the signature of R455, or its decoded image, none where no
step of the ladder allowed decodes it (DESIGN CHOICE, log entry 6). -/
structure MediaRead where
  pdie : Nat
  plane : Nat
  block : Nat
  page : Nat
  slot : Nat
  erased : Bool
  image : Option (List Byte)
deriving DecidableEq, Repr

/-- What an ADC sample measures: a rail group, the VCCQ of a quad, the hold-up bank, the junction of a quad, of the core logic. -/
inductive Sensor where
  | rail (group : Nat)
  | vccq (quad : Nat)
  | bank
  | quadTemp (quad : Nat)
  | coreTemp
deriving DecidableEq, Repr

/-- An item of the pair's shadow (Table 18-2) as the cuff carries it: the records of a journal row; a level table of a vdie or its spare; a
queue's configuration; its indices and ring phases; a command context; its end, 1 written or 2 discarded; tiles placed, with the first BOI and
FILL afterwards; the place of the journal: SEQ, band, row, the checkpoint's SEQ, band and row, STAMP_HWM, and the census record. -/
inductive ShadowItem where
  | journal (seq : Nat) (records : List Byte)
  | levels (vdie : Nat) (target spare : Bool) (table : List Byte)
  | qcfg (queue owner vector : Nat) (regs : List Byte)
  | qidx (queue sqCi cqPi : Nat) (sqPhase cqPhase : Bool)
  | ctxOpen (ctx queue pos cid op : Nat)
  | ctxDone (ctx kind : Nat)
  | place (ctx tiles set band boi fill : Nat)
  | position (at' : Nat × Nat × Nat × Nat × Nat × Nat × Nat) (record : List Byte)
deriving DecidableEq, Repr

/-- What the pair arbiter and the channel units show of the partner at a decision (R589, R590): its CORE_OK line and self-check fault, whether
it has accepted a power fail, whether it has reached READ_READY; the registers of its channel units and rail groups as (offset, value), its
dies as (pdie, family). -/
structure PeerView where
  coreOk : Bool
  cause : Nat
  pfail : Bool
  ready : Bool
  regs : List (Nat × Word)
  dies : List (Nat × Nat)
deriving DecidableEq, Repr

end Sys2Proof
end

