-- ==== Sys2Proof/Syntax.lean ====
section
/-! DEFINITION. The commands of the block: one constructor per row of spec/opcode_table.json, with its operands. -/

namespace Sys2Proof

/-- A command: something from outside that changes the block. An operand is what arrives with it. -/
inductive Instr where
  /-- REG_WRITE (R9): A write to any register field that has no row of its own takes effect by the field's access type. -/
  | regWrite (win requester offset width : Nat) (value : Word)
  /-- SPLIT_READ_LOW (R13): A 32-bit read of the low half of a 64-bit register captures the high half into the requester's
  shadow. -/
  | splitReadLow (win requester offset : Nat)
  /-- BLOCK_RESET (R610): Assertion of BLKRST_n resets every domain of the instance except the always-on domain. -/
  | blockReset
  /-- BLOCK_RESET_RELEASE (R210): Release of BLKRST_n starts census stage 0, clearing the Liner and scratchpad and opening
  the windows. -/
  | blockResetRelease
  /-- IMAGE_LOAD (R212): Census stage 1 discovers the NOR and loads and checks the active image slot, falling back or
  halting with code 1. -/
  | imageLoad (nor : Option NorSfdp)
  /-- PARTNER_WAIT_TIMEOUT (R582): After 2 s without the partner reaching stage 1, the instance runs in MISMATCH. -/
  | partnerWaitTimeout
  /-- SLOT_RELOAD (R213): A write of 0b01 or 0b10 to SLOT_REQ in stage 2 reloads and rechecks that slot, setting or
  clearing HALT. -/
  | slotReload (b : Bool)
  /-- ROM_ENUMERATE (R184): In stage 2 each quad is VCCQ-checked, ZQ-calibrated and its channels enumerated at rate code 0
  by the ROM routine. -/
  | romEnumerate (quad vccq up down : Nat) (channels : List (List RomVolume))
  /-- RAIL_IDLE_CHECK (R219): 64 RGSENSE samples per rail group with no load decide whether the group is used at this
  census. -/
  | railIdleCheck
  /-- GAUNTLET_LOCK (R255): A write of 1 to GNT_LOCK.LOCK in stage 2 locks the Gauntlet, ends the boot window and sends
  the instance to stage 3 or 15. -/
  | gauntletLock
  /-- CENSUS_BRINGUP (R216): Stage 3 starts on a channel after its enumeration: family matching, microcode load, full
  training and the first-census bad-block scan. -/
  | censusBringup (quads : List BringQuad) (decoders : List Nat)
  /-- RAIL_LOAD_STEP (R220): Once the previous step's reads are ready, the next load step starts reads on a rail group and
  checks for droop, lowering ENV_MA on droop. -/
  | railLoadStep
  /-- CENSUS_JOURNAL (R226): Stage 4 reads the census record and journal checkpoint, replays the journal and loads map,
  sets and band entries. -/
  | censusJournal (reads : List MediaRead)
  /-- CENSUS_RECOVERY (R457): Stage 5 runs power-loss recovery in the order of Table 12-7 and ends at READ_READY. -/
  | censusRecovery (reads : List MediaRead)
  /-- RECOVERY_ROW_CLOSE (R460): Rows left open by recovery are padded and their parity programmed, and the band carried
  or closed. -/
  | recoveryRowClose
  /-- WRITE_READY (R236): WRITE_READY is set once READ_READY, HU_DONE and the closing of recovered rows all hold. -/
  | writeReady
  /-- HOLDUP_LIMIT (R224): At the later of measurement end and stage 4 end, the block computes LIMIT and sets HU_DONE. -/
  | holdupLimit
  /-- HOLDUP_TIMEOUT (R223): V_HI not reached within HU_TIMEOUT of reset release makes LIMIT 0, sets FAULT and raises
  hold-up-fault. -/
  | holdupTimeout
  /-- HOLDUP_REMEASURE (R224): Every 65,536 ticks the plateau is measured again and LIMIT lowered if it fell by more than
  2 %. -/
  | holdupRemeasure (vtop : Nat)
  /-- GAP_ASSUMED (R234): With no anchor 1,048,576 ticks after reset release, MediaTime advances by the worst-case gap. -/
  | gapAssumed
  /-- CENSUS_RECORD_COMMIT (R225): A census record is committed at READ_READY, after each checkpoint and at least every
  1,048,576 ticks. -/
  | censusRecordCommit
  /-- TICK (R129): A tick boundary starts every channel's committed plan, advances TICKNO and runs the per-tick work of
  the units. -/
  | tick
  /-- AO_EDGE (R619): An always-on clock edge advances MediaTime by one count. -/
  | aoEdge
  /-- PLAN_COMMIT (R130): At 1 µs before the boundary the planner commits every channel's plan for the next tick. -/
  | planCommit
  /-- CMD_ITEM (R132): A command routine runs on the bus and starts or suspends an array operation. -/
  | cmdItem (channel : Nat) (rdb : List Byte) (waits : List Nat)
  /-- MSEQ_OVERRUN (R192): A routine reaching its declared cost is aborted as microcode fault 1. -/
  | mseqOverrun (channel : Nat) (rdb : List Byte) (waits : List Nat)
  /-- STATUS_ITEM (R134): A status read of one die reports ready, busy or suspended. -/
  | statusItem (channel : Nat) (rdb : List Byte) (waits : List Nat)
  /-- DOUT_ITEM (R133): A column change and data output sends a codeword to the data path. -/
  | doutItem (channel : Nat) (data rdb : List Byte) (waits : List Nat)
  /-- DIN_ITEM (R195): A prepared codeword stream is input to a die's page register. -/
  | dinItem (channel : Nat) (rdb : List Byte) (waits : List Nat)
  /-- TRAIN_ITEM (R206): A retraining tick re-finds the read and write edges of the channel's ready dies. -/
  | trainItem (channel : Nat) (dies : List TrainDie)
  /-- SUSPEND_ABANDON (R356): A suspension not taken effect after 4 ticks is abandoned and the resume planned. -/
  | suspendAbandon (pdie : Nat)
  /-- DIE_TIMEOUT (R361): An operation still busy past its maximum time fails and the die receives RESET_LUN. -/
  | dieTimeout (pdie : Nat)
  /-- DIE_UNRESPONSIVE (R362): A RESET_LUN not ending in bound takes the die out of the plan. -/
  | dieUnresponsive (pdie : Nat)
  /-- TELEMETRY_SAMPLE (R151): An ADC sample of a rail, VCCQ, HUSENSE or junction sensor is taken and used. -/
  | telemetrySample (sensor : Sensor) (value : Int)
  /-- VCCQ_HOLD_END (R178): After 16 in-range ticks the cause-3 hold ends and forced retraining is requested. -/
  | vccqHoldEnd (quad : Nat)
  /-- ZQ_SHORT_CAL (R199): A short ZQ calibration runs every ZQ_PERIOD ticks or on a 10 °C change. -/
  | zqShortCal (quad up down : Nat)
  /-- TRAIN_FORCE (R203): A write of 1 to CHU_TRAIN_CTRL.FORCE requests a forced retraining. -/
  | trainForce (channel : Nat)
  /-- QUEUE_ENABLE (R245): A write of 1 to WQ_CTRL.ENABLE enables a DISABLED queue after the checks of Table 7-1. -/
  | queueEnable (bar : Bool) (q : Nat)
  /-- QUEUE_SHUTDOWN (R281): A write of 1 to WQ_CTRL.SHUTDOWN stops the queue and ends its entries by Table 7-10. -/
  | queueShutdown (bar : Bool) (q : Nat)
  /-- POLL_RESULT (R247): A returned index word updates SQ_PI and CQ_CI seen for the queue. -/
  | pollResult (q : Nat) (word : Word)
  /-- ARB_GRANT (R252): Every 16 CCLK cycles arbitration grants one queue a number of entries to fetch. -/
  | arbGrant
  /-- ENTRY_FETCH_DONE (R266): A fetched submission entry is accepted and checked by steps 1 to 5, 8 and 9. -/
  | entryFetchDone (q pos : Nat) (entry : BitVec 512)
  /-- FRAGMENT_TABLE_FETCH (R265): A fragment table passing its window check is fetched and its entries checked. -/
  | fragmentTableFetch (ctx : Nat) (entries : List (BitVec 128))
  /-- ENTRY_ADMIT (R267): Once readiness holds, an entry passes steps 6 and 7 and state checks and takes its admission
  tick. -/
  | entryAdmit (ctx : Nat)
  /-- COMPLETION_POST (R270): A ready completion is written to the ring when room exists and its vector signalled. -/
  | completionPost (ctx : Nat)
  /-- READ (R260): READ reads COUNT tiles at consecutive BOIs of one band into the destination. -/
  | read (ctx : Nat)
  /-- READ_RESOLVE (R328): All slots of a READ are resolved at the first moment the band entry is in the scratchpad. -/
  | readResolve (ctx : Nat)
  /-- DECODE_DONE (R334): A decoder ends a codeword's ladder step by converging or reaching its iteration limit. -/
  | decodeDone (cw iter : Nat) (out : Option (List Byte))
  /-- WRITE (R300): WRITE takes COUNT tiles into buffers and checks their CRC for placement in a band. -/
  | write (ctx : Nat)
  /-- TILE_INTAKE_DONE (R300): All tiles of an entry have arrived in buffers and passed intake. -/
  | tileIntakeDone (ctx : Nat) (tiles : List (List Byte))
  /-- PLACEMENT (R304): Tiles are placed at consecutive BOIs from FILL, stamped and accumulated. -/
  | placement (ctx : Nat)
  /-- SUBSTITUTION (R318): A failed block is replaced by a free index and preceding pages copied. -/
  | substitution
  /-- JOURNAL_CHECKPOINT (R451): Every 4,096 rows or 48 bands a full checkpoint is written. -/
  | journalCheckpoint
  /-- ERASE_BAND (R325): ERASE_BAND erases every member block of a band. -/
  | eraseBand (ctx : Nat)
  /-- ERASE_START (R325): Once resident rows, earlier readers and the intent are done, erase items are issued. -/
  | eraseStart
  /-- ERASE_SIGNATURE_CHECK (R455): Before the first program after census, a block's erase signature is read and checked. -/
  | eraseSignatureCheck (zeros : List Nat)
  /-- COPY_MEDIA (R302): COPY with SRCMEM 0 reads source tiles from media and places them at DADDR. -/
  | copyMedia (ctx : Nat)
  /-- COPY_MEMORY (R326): COPY with SRCMEM 1 takes tiles from memory and places them at DADDR. -/
  | copyMemory (ctx : Nat)
  /-- READ_RAW_MODE0 (R371): READ_RAW mode 0 delivers raw codeword bytes at the chosen levels. -/
  | readRawMode0 (ctx : Nat)
  /-- READ_RAW_MODE1 (R374): READ_RAW mode 1 delivers decoded tiles after steps 0 and 1. -/
  | readRawMode1 (ctx : Nat)
  /-- READ_RAW_MODE2 (R371): READ_RAW mode 2 delivers three raw images at chosen and soft levels. -/
  | readRawMode2 (ctx : Nat)
  /-- SCRUB_RANGE (R433): SCRUB_RANGE reads a run of tiles, optionally checks parity and writes a summary. -/
  | scrubRange (ctx : Nat)
  /-- CALIBRATE_SAMPLE (R403): CALIBRATE KIND 0 samples zones and updates their targets. -/
  | calibrateSample (ctx : Nat)
  /-- CALIBRATE_SEARCH (R403): CALIBRATE KIND 1 runs a full valley search per zone. -/
  | calibrateSearch (ctx : Nat)
  /-- CALIBRATE_RESET (R403): CALIBRATE KIND 2 sets zone targets to INIT and clears SUSPECT. -/
  | calibrateReset (ctx : Nat)
  /-- SELF_TEST_HARD (R370): SELF_TEST UNIT 1 tests hard decoders. -/
  | selfTestHard (ctx : Nat)
  /-- SELF_TEST_SOFT (R370): SELF_TEST UNIT 2 tests soft decoders. -/
  | selfTestSoft (ctx : Nat)
  /-- BAND_OPEN (R323): BAND_OPEN reserves resources and journals the band OPEN. -/
  | bandOpen (ctx : Nat)
  /-- BAND_CLOSE (R324): BAND_CLOSE pads the open row and programs parity until the band is CLOSED. -/
  | bandClose (ctx : Nat)
  /-- FENCE_QUEUE (R277): FENCE SCOPE 0 waits for its queue's earlier entries. -/
  | fenceQueue (ctx : Nat)
  /-- FENCE_OWNER (R277): FENCE SCOPE 1 waits for earlier entries of every queue of the owner. -/
  | fenceOwner (ctx : Nat)
  /-- QUERY_VDIE_MAP (R89): QUERY page 0x0100 returns 512 vdie map entries. -/
  | queryVdieMap (ctx : Nat)
  /-- QUERY_SET (R89): QUERY page 0x0101 returns a stripe set descriptor. -/
  | querySet (ctx : Nat)
  /-- QUERY_BAND (R91): QUERY page 0x0102 returns a band entry. -/
  | queryBand (ctx : Nat)
  /-- QUERY_SPARES (R89): QUERY page 0x0103 lists spare and retired pdies. -/
  | querySpares (ctx : Nat)
  /-- QUERY_PLANNER (R171): QUERY page 0x0200 returns the planner page. -/
  | queryPlanner (ctx : Nat)
  /-- QUERY_QUEUE (R288): QUERY page 0x0700 returns a queue's state. -/
  | queryQueue (ctx : Nat)
  /-- QUERY_DECODER (R376): QUERY page 0x0900 returns the decoder page. -/
  | queryDecoder (ctx : Nat)
  /-- QUERY_CHANNEL_READ (R376): QUERY page 0x0901 returns a channel read page. -/
  | queryChannelRead (ctx : Nat)
  /-- QUERY_LEVELS (R406): QUERY page 0x0A00 returns a vdie's level page. -/
  | queryLevels (ctx : Nat)
  /-- QUERY_LLR (R406): QUERY page 0x0A01 returns a family's LLR page. -/
  | queryLlr (ctx : Nat)
  /-- QUERY_PATROL (R437): QUERY page 0x0B00 returns the patrol and rebuild page. -/
  | queryPatrol (ctx : Nat)
  /-- QUERY_PARTNER_PLAN (R603): QUERY page 0x1200 returns the partner's planner view while fostering. -/
  | queryPartnerPlan (ctx : Nat)
  /-- QUERY_TELEMETRY (R641): QUERY page 0x1400 returns the telemetry page. -/
  | queryTelemetry (ctx : Nat)
  /-- SET_TIME (R233): SET_TIME carries host time and, as the first anchor, advances MediaTime by the gap. -/
  | setTime (ctx : Nat)
  /-- VDIE_RETIRE (R423): VDIE_CTL ACTION 0 declares a vdie failed as firmware retirement. -/
  | vdieRetire (ctx : Nat)
  /-- VDIE_REBUILD (R423): VDIE_CTL ACTION 1 requests a rebuild onto a spare. -/
  | vdieRebuild (ctx : Nat)
  /-- VDIE_ADD_SPARE (R54): VDIE_CTL ACTION 2 unmaps a vdie and makes its pdie spare. -/
  | vdieAddSpare (ctx : Nat)
  /-- SET_DEFINE (R55): VDIE_CTL ACTION 3 defines a stripe set after its checks. -/
  | setDefine (ctx : Nat) (members : List Nat)
  /-- SET_DELETE (R59): VDIE_CTL ACTION 4 deletes a stripe set. -/
  | setDelete (ctx : Nat)
  /-- POWER_CANCEL (R613): POWER STATE 0 cancels any pending sleep request. -/
  | powerCancel (ctx : Nat)
  /-- POWER_PARK (R613): POWER STATE 1 requests Park. -/
  | powerPark (ctx : Nat)
  /-- POWER_MITTEN (R613): POWER STATE 2 requests Mitten with a sample period. -/
  | powerMitten (ctx : Nat)
  /-- REQ_CANCEL (R613): A write of 0 to PWR_CTRL.REQ cancels a pending request. -/
  | reqCancel
  /-- REQ_PARK (R613): A write of 0b01 to PWR_CTRL.REQ requests Park. -/
  | reqPark
  /-- REQ_MITTEN (R613): A write of 0b10 to PWR_CTRL.REQ requests Mitten at PERIOD_S. -/
  | reqMitten
  /-- DECODER_TEST (R369): Every PERIOD ticks the policy engine starts a self-test of the next decoder. -/
  | decoderTest
  /-- DECODER_TEST_DONE (R366): A decoder test ends and its outcome is recorded. -/
  | decoderTestDone (pass : Bool)
  /-- LEVEL_SAMPLE (R386): A zone's sample falls due and its wordline is read. -/
  | levelSample
  /-- VALLEY_SEARCH (R395): A full valley search burst starts on a zone. -/
  | valleySearch
  /-- TABLE_SCAN (R381): Every 65,536 ticks all level tables' check words are verified. -/
  | tableScan
  /-- PATROL_PASS_END (R408): A patrol pass ends and the next one starts. -/
  | patrolPassEnd
  /-- REHOME_START (R412): A queued band starts re-home and binds new blocks. -/
  | rehomeStart
  /-- REHOME_RELEASE (R413): Old indices return to free lists after reads admitted before the switch complete. -/
  | rehomeRelease
  /-- REBUILD_START (R426): A pending rebuild takes a free slot, binds spare indices and starts. -/
  | rebuildStart
  /-- POWER_FAIL_ACCEPT (R438): PFAIL_n held low for FILTER cycles starts the brown-out sequence. -/
  | powerFailAccept (cycles : Nat)
  /-- PFAIL_GLITCH (R438): A low pulse shorter than FILTER only counts a glitch. -/
  | pfailGlitch (cycles : Nat)
  /-- PFAIL_DRILL (R439): A write of 1 to PWR_PFAIL_CFG.DRILL starts the brown-out sequence. -/
  | pfailDrill
  /-- BROWNOUT_DRAIN_END (R440): Once every program is ready or timed out, phase 3 folds and phase 4 commits the
  directory. -/
  | brownoutDrainEnd
  /-- BROWNOUT_SHELTER_END (R440): When every shelter program ends, the seal record is written. -/
  | brownoutShelterEnd
  /-- POWER_RESTORED (R446): PFAIL_n high for 1,000 ticks after phase 7 raises power-restored. -/
  | powerRestored
  /-- THERM_ASSERT (R528): The filtered THERM_n asserts, capping factors and holding class B. -/
  | thermAssert (cycles : Nat)
  /-- THERM_DEASSERT (R528): The filtered THERM_n deasserts and factors return to f. -/
  | thermDeassert (cycles : Nat)
  /-- THERM_GLITCH (R528): A THERM_n excursion shorter than LEN counts a glitch. -/
  | thermGlitch (cycles : Nat)
  /-- LINE_FILL_DONE (R475): A line fill arrives and waiting requests to the line are served. -/
  | lineFillDone (line : Nat) (bytes : List Byte)
  /-- PREFETCH_FILL_DONE (R481): A prefetch fill arrives and is installed or discarded. -/
  | prefetchFillDone (line : Nat) (bytes : List Byte)
  /-- WRITEBACK_DONE (R476): The fabric acknowledges a write-back and the buffer line is freed. -/
  | writebackDone (port tag : Nat)
  /-- WRITEBACK_ERROR (R477): A failed write-back loses the data and raises liner-writeback-error. -/
  | writebackError (port tag : Nat) (timeout : Bool)
  /-- MERGE_FLUSH (R478): A merge buffer entry is written after 64 idle cycles or another trigger. -/
  | mergeFlush (line : Nat)
  /-- BUCKET_LEAK (R493): Every LEAK ticks each bank's bucket loses one. -/
  | bucketLeak
  /-- SCRUB_LINE (R494): A triggered scrub reads one line per bank every 16 CCLK cycles. -/
  | scrubLine (errs : List (Nat × Nat × Bool))
  /-- CLEAN (R482): LNR_MAINT_OP CLEAN writes back dirty words of the range. -/
  | clean
  /-- INVAL (R482): LNR_MAINT_OP INVAL drops lines of the range without write-back. -/
  | inval
  /-- CLEAN_INVAL (R482): LNR_MAINT_OP CLEAN_INVAL writes back and drops lines of the range. -/
  | cleanInval
  /-- ZERO (R482): LNR_MAINT_OP ZERO zeroes lines of the range. -/
  | zero
  /-- LOCK (R486): LNR_MAINT_OP LOCK fills and locks lines of the range. -/
  | lock
  /-- UNLOCK (R482): LNR_MAINT_OP UNLOCK clears locks of the range. -/
  | unlock
  /-- CLEAN_ALL (R482): LNR_MAINT_OP CLEAN_ALL cleans every cache line. -/
  | cleanAll
  /-- CLEAN_INVAL_ALL (R482): LNR_MAINT_OP CLEAN_INVAL_ALL cleans and drops every cache line. -/
  | cleanInvalAll
  /-- UNLOCK_ALL (R482): LNR_MAINT_OP UNLOCK_ALL clears every lock. -/
  | unlockAll
  /-- SCRUB (R494): LNR_MAINT_OP SCRUB starts one triggered scrub pass of every bank. -/
  | scrub
  /-- MAINT_DONE (R485): A maintenance operation ends when its write-backs are acknowledged. -/
  | maintDone
  /-- LINER_DISABLE (R487): A write of 0 to LNR_CTRL.ENABLE starts DISABLING with a full clean and invalidate. -/
  | linerDisable
  /-- LINER_DISABLED (R487): The last write-back of a disable is acknowledged and STATE becomes DISABLED. -/
  | linerDisabled
  /-- LINER_ENABLE (R488): A write of 1 to LNR_CTRL.ENABLE re-enables the cache with all lines invalid. -/
  | linerEnable
  /-- FLIP_ARM (R495): A write of 1 to LNR_FLIP_CTRL.ARM arms the flip-mask test. -/
  | flipArm
  /-- SP_WINDOW_WRITE (R469): A firmware write through the scratchpad window updates area 0 or 7. -/
  | spWindowWrite (offset width : Nat) (value : Word)
  /-- MOVER_GO (R497): A 1 in MVR_GO checks and queues an idle channel's transfer. -/
  | moverGo (channels : Word)
  /-- MOVER_RESERVE (R502): A queued channel takes its buffer reservation and becomes RUNNING. -/
  | moverReserve (channel : Nat)
  /-- MOVER_GROUP_DONE (R504): Every write of an output group is acknowledged and MVR_DONE grows. -/
  | moverGroupDone (channel : Nat) (data : Option (List Byte))
  /-- MOVER_RECORD (R508): At transfer end the completion record is written and the channel goes IDLE. -/
  | moverRecord (channel : Nat)
  /-- MOVER_ABORT (R509): A 1 in MVR_ABORT ends a queued channel or stops a running one. -/
  | moverAbort (channels : Word)
  /-- MOVER_STOP_DONE (R509): A stopping channel's issued accesses end and it completes with its status. -/
  | moverStopDone (channel : Nat)
  /-- MOVER_RESTART (R511): A write of 1 to MVR_GLOBAL.RESTART clears STOPPED. -/
  | moverRestart
  /-- FABRIC_ERROR (R630): An error response fails the access with the outcome of Table 20-5. -/
  | fabricError (port tag : Nat)
  /-- FABRIC_TIMEOUT (R629): A request unanswered by TIMEOUT ticks times out and its tag epoch advances. -/
  | fabricTimeout (port tag : Nat)
  /-- LATE_RESPONSE (R629): A response with a stale epoch is dropped and counted. -/
  | lateResponse (port tag epoch : Nat)
  /-- EVENT_ACK (R519): A read of EVC_ACK returns and pushes the best deliverable source. -/
  | eventAck (target : Nat)
  /-- EVENT_EOI (R521): A write to EVC_EOI pops the target's stack when it names the top entry. -/
  | eventEoi (target source : Nat)
  /-- EVC_SET (R515): A write to EVC_SET raises an edge source once. -/
  | evcSet (source : Nat)
  /-- EVC_PEND_CLEAR (R525): A write of 1 to a PEND bit clears the pending bit and moderation count. -/
  | evcPendClear (k : Nat) (mask : Word)
  /-- MODERATION_RELEASE (R525): A completion source's HOLDOFF elapses and it is released. -/
  | moderationRelease (host : Bool) (source : Nat)
  /-- STATUS_HOLDOFF_END (R527): A status group's hold-off after acknowledge ends and pending sources release. -/
  | statusHoldoffEnd (group target : Nat)
  /-- CORE_IDLE_ASSERT (R526): A core's idle indication asserts and releases its completion sources. -/
  | coreIdleAssert (target : Nat)
  /-- COMMIT (R545): CFS_CMD COMMIT appends a firmware record to the Brim. -/
  | commit (activate : Bool)
  /-- AHEAD_ERASE (R549): The new ahead sector is erased under the ledger. -/
  | aheadErase (fails : Nat)
  /-- READREC (R557): CFS_CMD READREC writes the current payload of a kind to memory. -/
  | readrec (activate : Bool)
  /-- UPDATE (R553): CFS_CMD UPDATE writes a checked image into the inactive slot. -/
  | update (activate : Bool)
  /-- ACTIVATE (R554): CFS_CMD ACTIVATE makes the valid inactive slot active. -/
  | activate (activate : Bool)
  /-- ABORT (R557): CFS_CMD ABORT ends a running UPDATE after its current NOR operation. -/
  | abort (activate : Bool)
  /-- FORMAT (R557): CFS_CMD FORMAT erases the store and writes the layout descriptor. -/
  | format (activate : Bool)
  /-- RAW_READ (R557): CFS_CMD RAW_READ copies NOR bytes to memory at level 0. -/
  | rawRead (activate : Bool)
  /-- RAW_PROG (R557): CFS_CMD RAW_PROG programs NOR bytes from memory at level 0. -/
  | rawProg (activate : Bool)
  /-- RAW_ERASE (R557): CFS_CMD RAW_ERASE erases one NOR sector at level 0. -/
  | rawErase (activate : Bool)
  /-- NOR_OP_DONE (R557): A store operation ends, setting RESULT and raising cfs-op-done. -/
  | norOpDone (data : Option (List Byte)) (ok : Bool)
  /-- NOR_TIMEOUT (R564): A NOR operation passes its maximum time and is reset and counted interrupted. -/
  | norTimeout
  /-- FUNCTION_LEVEL_RESET (R577): Initiate Function Level Reset ends host queues and resets the function. -/
  | functionLevelReset
  /-- HOT_RESET (R577): A hot reset from the endpoint runs the function reset sequence. -/
  | hotReset
  /-- LINK_DOWN (R577): A link down from the endpoint runs the function reset sequence. -/
  | linkDown
  /-- FUNCTION_RESET_DONE (R577): Once every host queue is DISABLED, host state resets and READY returns to 1. -/
  | functionResetDone
  /-- QUERY_WINDOW_START (R572): A write of 1 to HF_QCTL.START snapshots a permitted page into the query window. -/
  | queryWindowStart
  /-- BUS_MASTER_CHANGE (R573): A change of Bus Master Enable stops or resumes host-queue fabric access. -/
  | busMasterChange (bme : Bool)
  /-- D3_TRANSITION (R573): Entry to or exit from D3hot stops or resumes host-queue fabric access. -/
  | d3Transition (d3 : Bool)
  /-- INTERRUPT_MODE_CHANGE (R575): A change of interrupt mode clears moderation counts and the left mode's pending state. -/
  | interruptModeChange (msixEnable functionMask intxDisable : Bool)
  /-- MSIX_UNMASK (R532): Unmasking a pending MSI-X vector sends its message. -/
  | msixUnmask (vector : Nat)
  /-- HEARTBEAT (R588): A HEARTBEAT message from the partner updates its tick, state and acknowledgements. -/
  | heartbeat (tickno mtime period stage flags ack : Nat)
  /-- JOURNAL (R583): A JOURNAL message applies a partner journal row to the shadow. -/
  | journal (mseq seq : Nat) (records : List Byte)
  /-- LEVELS (R583): A LEVELS message updates a partner level table in the shadow. -/
  | levels (mseq vdie : Nat) (target spare : Bool) (table : List Byte)
  /-- QCFG (R583): A QCFG message records a partner queue's configuration. -/
  | qcfg (mseq queue owner vector : Nat) (regs : List Byte)
  /-- QIDX (R583): A QIDX message records a partner queue's indices. -/
  | qidx (mseq queue sqCi cqPi : Nat) (sqPhase cqPhase : Bool)
  /-- CTX_OPEN (R583): A CTX_OPEN message records a partner command context. -/
  | ctxOpen (mseq ctx queue pos cid op : Nat)
  /-- CTX_DONE (R583): A CTX_DONE message closes a partner command context. -/
  | ctxDone (mseq ctx kind : Nat)
  /-- PLACE (R583): A PLACE message records tiles placed by the partner. -/
  | place (mseq ctx tiles set band boi fill : Nat)
  /-- RESYNC (R586): A RESYNC message loads a slice of the partner's full state. -/
  | resync (mseq part count : Nat) (item : ShadowItem)
  /-- CUFF_RESEND (R584): A message unacknowledged within 64 µs is resent. -/
  | cuffResend
  /-- CUFF_RETRAIN (R584): Every 65,536 ticks a down cuff is retrained. -/
  | cuffRetrain (pass : Bool)
  /-- HEARTBEAT_MISSED (R588): A heartbeat not received in period plus 2 µs counts missed, raising partner-suspect at 4. -/
  | heartbeatMissed (us : Nat)
  /-- SELF_CHECK_FAULT (R588): A self-check fault deasserts CORE_OK. -/
  | selfCheckFault (code unit : Nat)
  /-- YIELD (R588): PAIR_CTRL.YIELD with KEY 0xA5 raises self-check fault 5. -/
  | yield
  /-- HANDOVER_DECISION (R589): The arbiter sees a deasserted CORE_OK and starts a hand-over by fencing the failed
  instance. -/
  | handoverDecision (peer : PeerView)
  /-- HANDOVER_ABORT (R590): After voids commit, partner contexts complete 0x0012 and handover-done is raised. -/
  | handoverAbort (reads : List MediaRead) (record : List Byte) (vectors : List Nat)
  /-- FOSTER_WRITE_READY (R590): When every partner band is closed, foster-write-ready is raised. -/
  | fosterWriteReady (reads : List MediaRead)
  /-- PARTNER_DROP (R592): A partner completion unwritten 65,536 ticks after step 6 is discarded and logged. -/
  | partnerDrop (ctx : Nat)
  /-- GIVE_BACK (R601): PAIR_CTRL.GIVE_BACK closes partner work and returns its quads. -/
  | giveBack
  /-- QUAD_GATE (R612): A quad idle for IDLE_TICKS ticks has its channel clocks gated. -/
  | quadGate (quad : Nat)
  /-- SLEEP_ENTRY (R614): When Table 19-4 holds, the instance enters Park or Mitten. -/
  | sleepEntry (cycles : Nat)
  /-- ALARM (R615): The always-on count reaching PWR_ALARM.AT wakes the instance. -/
  | alarm
  /-- EPWAKE_ASSERT (R615): EPWAKE or a BAR access wakes the instance. -/
  | epwakeAssert
  /-- WAKE_COMPLETE (R616): At the ending edge TICKNO and MediaTime are brought forward and the first tick starts. `zq`
  lists the codes (pull-up, pull-down) that the short ZQ calibration of each enabled quad ends with, in order. -/
  | wakeComplete (zq : List (Nat × Nat))
  /-- MITTEN_WINDOW (R617): Every sample period a Mitten window polls queues and reads sentinels. -/
  | mittenWindow
  /-- WATCHDOG_EXPIRE (R636): PERIOD ticks without a step boundary reset the policy engine. -/
  | watchdogExpire
  /-- WATCHDOG_FORCE (R636): A write of 1 to GLB_WDOG_CFG.FORCE resets the policy engine. -/
  | watchdogForce
  /-- CORE_IDLE_DEASSERT (R526): A core's idle indication deasserts, so moderation again holds back that target's
  unreleased completion sources. -/
  | coreIdleDeassert (target : Nat)
  /-- CUFF_BEAT_CRC_ERROR (R584): A cuff beat arrives with a bad CRC-8, is discarded with all later beats up to a good
  header beat, and is counted toward the 16-error cuff-down limit. -/
  | cuffBeatCrcError
  /-- PARTNER_IMAGE_IDENT (R582): The partner's image HCRC and GENERATION arrive on the cuff and are compared, ending a
  wait or a MISMATCH entered after the 2 s timeout. -/
  | partnerImageIdent (hcrc generation : Nat)
  /-- WINDOW_ACCESS_IN_MITTEN (R615): Any access to the register window during Mitten, a read included, wakes the instance
  and waits until the wake ends. -/
  | windowAccessInMitten (write : Bool)
  /-- POWER_LOSS (R638): The supply is lost without a brown-out sequence, taking the instance to Off and losing everything
  but media, NOR and in-flight operations' partial effects. -/
  | powerLoss
  /-- POWER_ON (R610): Power returns from Off, resetting the always-on domain, its counter and, on DZ3-96P, the pair
  arbiter tokens. -/
  | powerOn
deriving DecidableEq, Repr

end Sys2Proof
end

