-- ==== Sys2Proof/Decode.lean ====
section
/-! DEFINITION. The command that a word spells. The spec's table gives no row any bits: no word spells a command. -/

namespace Sys2Proof

/-- The command spelt by a word of `nbits` bits: none, since no row of the opcode table has bits (DESIGN CHOICE, log entry 4). -/
def decodeTableWord (_nbits _w : Nat) : Option Instr := none

end Sys2Proof
end

