-- ==== Sys2Proof/Machine/Geometry.lean ====
section
/-! DEFINITION. The arithmetic from a media address to a physical location (chapter 2): address formats, parity positions,
member_of and locate, and the first-census choice of spares and vdies. -/

namespace Sys2Proof.Machine

/-! ## Media addresses (R80) -/

/-- The format of a media address. -/
def addrFormat (a : Nat) : Nat := a / 2 ^ 60 % 16
/-- band_fields: the stripe set of a format-0x2 address. -/
def addrSet (a : Nat) : Nat := a / 2 ^ 52 % 256
/-- band_fields: the band. -/
def addrBand (a : Nat) : Nat := a / 2 ^ 38 % 2 ^ 14
/-- band_fields: the BOI. -/
def addrBoi (a : Nat) : Nat := a % 2 ^ 38
/-- The format-0x2 address of a set, band and BOI. -/
def bandAddr (set band boi : Nat) : Nat := 2 * 2 ^ 60 + set * 2 ^ 52 + band * 2 ^ 38 + boi
/-- Format 0x1: vdie, plane, block index, page and codeword slot. -/
def addrVdie (a : Nat) : Nat := a / 2 ^ 48 % 2 ^ 12
def addrPlane (a : Nat) : Nat := a / 2 ^ 45 % 8
def addrBlock (a : Nat) : Nat := a / 2 ^ 31 % 2 ^ 14
def addrPage (a : Nat) : Nat := a / 2 ^ 17 % 2 ^ 14
def addrSlot (a : Nat) : Nat := a / 2 ^ 14 % 8

/-! ## Physical dies (R43) -/

/-- The pdie of a channel and slot. -/
def pdieOf (channel slot : Nat) : Nat := channel * 16 + slot
def pdieChannel (p : Nat) : Nat := p / 16
def pdieSlot (p : Nat) : Nat := p % 16
/-- No pdie (R46). -/
def noPdie : Nat := 0xFFF

/-! ## Stripe rows (R78, R79) -/

/-- P_pos(s). -/
def pPos (w s : Nat) : Nat := w - 1 - s % w
/-- Q_pos(s). -/
def qPos (w s : Nat) : Nat := (pPos w s + 1) % w

/-- member_of's loop over positions `pos`, with `n` left. -/
def memberLoop (p : Nat) (q : Option Nat) (d : Nat) : Nat → Nat → Nat → Option Nat
  | 0, _, _ => none
  | n + 1, pos, seen =>
    if pos == p || some pos == q then memberLoop p q d n (pos + 1) seen
    else if seen == d then some pos
    else memberLoop p q d n (pos + 1) (seen + 1)

/-- member_of (R78): the member position of data position `d` in row `s`. -/
def memberOf (d s w level : Nat) : Option Nat :=
  memberLoop (pPos w s) (if level == 2 then some (qPos w s) else none) d w 0 0

/-- Where a BOI lies within its band (R79): row, data position, plane and slot. -/
structure RowPos where
  row : Nat
  d : Nat
  plane : Nat
  slot : Nat
deriving DecidableEq, Repr

/-- The arithmetic half of locate. -/
def rowPos (width planes slots boi : Nat) : RowPos :=
  let t := boi / slots
  let u := t / planes
  RowPos.mk (u / width) (u % width) (t % planes) (boi % slots)

/-- The BOI of a row position (R79). -/
def boiOf (width planes slots : Nat) (r : RowPos) : Nat :=
  ((r.row * width + r.d) * planes + r.plane) * slots + r.slot

/-! ## The first census (R48) -/

/-- The highest slot of channel `c` that is present and not yet spare. -/
def topSlot (present : Nat → Nat → Bool) (spare : List (Nat × Nat)) (c : Nat) : Nat → Option Nat
  | 0 => none
  | n + 1 => if present c n && !spare.contains (c, n) then some n else topSlot present spare c n

/-- The search for a channel with a candidate, from channel `c` upward modulo `chans`, with `fuel` channels left. -/
def spareFrom (present : Nat → Nat → Bool) (chans : Nat) (spare : List (Nat × Nat)) : Nat → Nat → Option (Nat × Nat)
  | 0, _ => none
  | fuel + 1, c =>
    match topSlot present spare c 16 with
    | some slot => some (c, slot)
    | none => spareFrom present chans spare fuel ((c + 1) % chans)

/-- The spares of first_map, `n` still to choose from number `k` of `s`. -/
def spareLoop (present : Nat → Nat → Bool) (chans s : Nat) : Nat → Nat → List (Nat × Nat) → List (Nat × Nat)
  | 0, _, acc => acc
  | n + 1, k, acc =>
    match spareFrom present chans acc chans ((k * chans) / s) with
    | some e => spareLoop present chans s n (k + 1) (acc ++ [e])
    | none => spareLoop present chans s n (k + 1) acc

/-- All (channel, slot) pairs present, in slot-major order. -/
def slotMajor (present : Nat → Nat → Bool) (chans : Nat) : List (Nat × Nat) :=
  ((List.range 16).map (fun slot => ((List.range chans).filter (fun c => present c slot)).map (fun c => (c, slot)))).flatten

/-- first_map: the spares and, in vdie order, the mapped (channel, slot) pairs. -/
def firstMap (present : Nat → Nat → Bool) (chans ratio : Nat) : List (Nat × Nat) × List (Nat × Nat) :=
  let all := slotMajor present chans
  let s := if ratio = 0 then 0 else (all.length + ratio - 1) / ratio
  let spare := spareLoop present chans s s 0 []
  (spare, all.filter (fun e => !spare.contains e))

end Sys2Proof.Machine
end

