-- ==== Sys2Proof/Machine/Media.lean ====
section
/-! DEFINITION. The three encodings of what the block stores (chapter 3): the tile and its check word, the scrambled image, the
LDPC codeword; and the stripe parity P and Q with reconstruction. Every function is the listing of its rule. -/

namespace Sys2Proof.Machine

/-! ## CRC-32C (R98) -/

/-- One bit of the reflected CRC. -/
def crcBit (c : BitVec 32) : BitVec 32 := if c.getLsbD 0 then (c >>> 1) ^^^ 0x82F63B78#32 else c >>> 1

/-- One byte of the CRC. -/
def crcByte (c : BitVec 32) (b : Byte) : BitVec 32 :=
  let c := c ^^^ b.setWidth 32
  crcBit (crcBit (crcBit (crcBit (crcBit (crcBit (crcBit (crcBit c)))))))

/-- crc32c_core. -/
def crcCore (init : BitVec 32) (m : List Byte) : BitVec 32 := m.foldl crcByte init
/-- crc32c. -/
def crc32c (m : List Byte) : BitVec 32 := crcCore 0xFFFFFFFF#32 m ^^^ 0xFFFFFFFF#32
/-- crc32c_raw. -/
def crcRaw (m : List Byte) : BitVec 32 := crcCore 0#32 m

/-! ## The tile (R92 to R97) -/

/-- The bytes of a tile. -/
def tileBytes : Nat := 4128
/-- The bytes `[o, o + n)` of a structure. -/
def slice (m : List Byte) (o n : Nat) : List Byte := (m.drop o).take n
/-- The number at bytes `[o, o + n)`, least significant byte first (R7). -/
def field (m : List Byte) (o n : Nat) : Nat := leNat (slice m o n)

/-- The check word a tile carries. -/
def tileCrc (t : List Byte) : Nat := field t 4124 4
/-- The address check a tile carries. -/
def tileAchk (t : List Byte) : Nat := field t 4120 4
/-- The write stamp a tile carries. -/
def tileStamp (t : List Byte) : Nat := field t 4112 8
/-- Does a tile's check word hold (R93, R98)? -/
def tileCrcOk (t : List Byte) : Bool := t.length == tileBytes && (crc32c (t.take 4124)).toNat == tileCrc t
/-- Does a tile's address check name band address `a` (R99)? -/
def tileAchkOk (t : List Byte) (a : Nat) : Bool := tileAchk t == a % 2 ^ 32

/-- XOR of two byte strings, the shorter one's length. -/
def xorBytes (a b : List Byte) : List Byte := List.zipWith (· ^^^ ·) a b

/-- patch_crc (R94): the placed tile, its stamp and address check written and its check word derived from the verified one. -/
def patchTile (t : List Byte) (stamp addr : Nat) : List Byte :=
  let new := leBytes 8 stamp ++ leBytes 4 addr
  let delta := xorBytes (slice t 4112 12) new
  let crc := tileCrc t ^^^ (crcRaw delta).toNat
  t.take 4112 ++ new ++ leBytes 4 crc

/-! ## Scrambling (R100 to R104) -/

/-- prbs_step: the new state and the output bit. -/
def prbsStep (s : Nat) : Nat × Nat :=
  let o := ((s >>> 22) ^^^ (s >>> 17)) % 2
  (((s <<< 1) ||| o) % 2 ^ 23, o)

/-- The seed of one codeword slot. -/
def prbsSeed (block page slot : Nat) : Nat :=
  (page * 0x9E37 + slot * 0x01F1 + block * 0x002B) % 2 ^ 64 % 0x7FFFFF + 1

/-- Eight output bits as a byte, bit 0 first, and the state after them. -/
def prbsByte (s : Nat) : Nat → Nat × Nat
  | 0 => (s, 0)
  | n + 1 =>
    let (s', o) := prbsStep s
    let (s'', b) := prbsByte s' n
    (s'', o + 2 * b)

/-- XORs bytes with the sequence from state `s`. -/
def scrambleFrom (s : Nat) : List Byte → List Byte
  | [] => []
  | b :: bs =>
    let (s', x) := prbsByte s 8
    (b ^^^ BitVec.ofNat 8 x) :: scrambleFrom s' bs

/-- The scrambled image of bytes at a physical block, page and slot; also the descrambling (R100). -/
def scramble (block page slot : Nat) (m : List Byte) : List Byte := scrambleFrom (prbsSeed block page slot) m

/-- The padding bytes of a page beyond its last slot (R112). -/
def pagePad (block page slots n : Nat) : List Byte := scramble block page slots (List.replicate n 0#8)

/-! ## LDPC codewords (R105 to R113) -/

/-- base_matrix: the shift of information column `j` at row `i`, if its entry is not empty. -/
def baseShift (mb i j : Nat) : Option Nat :=
  (List.range 4).foldl (fun a t => if (j + t * (mb / 4)) % mb == i then some ((j * (2 * t + 1) * 37 + t * 61) % 256) else a) none

/-- base_matrix: the shift of parity column `c` at row `i`. -/
def parityShift (mb i c : Nat) : Option Nat :=
  if c == 0 then
    (if i == 0 then some 1 else if i == mb / 2 then some 0 else if i + 1 == mb then some 1 else none)
  else if i + 1 == c || i == c then some 0 else none

/-- rot(x, k): bit r of the result is bit (r + k) mod 256 of x. -/
def rot256 (x : BitVec 256) (k : Nat) : BitVec 256 := x.rotateRight (k % 256)

/-- Information column `j` of a 4,128-byte image. -/
def infoCol (img : List Byte) (j : Nat) : BitVec 256 := BitVec.ofNat 256 (leNat (slice img (32 * j) 32))

/-- λ_i of the encoder. -/
def ldpcLambda (img : List Byte) (mb i : Nat) : BitVec 256 :=
  (List.range 129).foldl (fun a j => match baseShift mb i j with
    | some k => a ^^^ rot256 (infoCol img j) k
    | none => a) 0#256

/-- p[c + 1] onward, from row `i` with `n` rows left. -/
def ldpcTail (img : List Byte) (mb : Nat) (p0 : BitVec 256) (i : Nat) (prev : BitVec 256) : Nat → List (BitVec 256)
  | 0 => []
  | n + 1 =>
    let p := ldpcLambda img mb i ^^^ prev ^^^ (if i == mb / 2 then p0 else 0#256)
    p :: ldpcTail img mb p0 (i + 1) p n

/-- ldpc_encode (R109): the parity columns of an image. -/
def ldpcParity (img : List Byte) (mb : Nat) : List (BitVec 256) :=
  let p0 := (List.range mb).foldl (fun a i => a ^^^ ldpcLambda img mb i) 0#256
  let p1 := ldpcLambda img mb 0 ^^^ rot256 p0 1
  p0 :: p1 :: ldpcTail img mb p0 1 p1 (mb - 2)

/-- The codeword of an image: the information part, then the parity columns (R108). -/
def ldpcCodeword (img : List Byte) (mb : Nat) : List Byte :=
  img ++ ((ldpcParity img mb).map (fun p => leBytes 32 p.toNat)).flatten

/-- The block rows of profiles A to F, in order (Table 3-3). -/
def profileRows : List Nat := [12, 14, 16, 18, 20, 24]
/-- The codeword bytes of a profile with `mb` block rows. -/
def codewordBytes (mb : Nat) : Nat := 4128 + 32 * mb
/-- The slots of a page main area: 4 for 16 KiB, 8 for 32 KiB, none otherwise (R110). -/
def pageSlots (page : Nat) : Nat := if page == 16384 then 4 else if page == 32768 then 8 else 0
/-- The profile a family takes: the largest m_b whose slots fit page and spare; 0 when profile A does not fit (R111). -/
def pageProfile (page spare : Nat) : Nat :=
  profileRows.foldl (fun a mb => if pageSlots page * codewordBytes mb ≤ page + spare then mb else a) 0

/-! ## GF(2^8) and stripe parity (R114 to R127) -/

/-- gf_mul's loop from bit `i`, with x already shifted. -/
def gfLoop (b : Nat) : Nat → Nat → Nat → Nat → Nat
  | 0, _, _, r => r
  | n + 1, i, x, r =>
    let r := if (b >>> i) % 2 == 1 then r ^^^ x else r
    let x := x <<< 1
    let x := if x / 256 % 2 == 1 then x ^^^ 0x11D else x
    gfLoop b n (i + 1) x r

/-- gf_mul, polynomial 0x11D. -/
def gfMul (a b : Nat) : Nat := gfLoop b 8 0 a 0 % 256
/-- gf_pow2: g to the power e. -/
def gfPow2 : Nat → Nat
  | 0 => 1
  | e + 1 => gfMul (gfPow2 e) 2
/-- a to the power e. -/
def gfPow (a : Nat) : Nat → Nat
  | 0 => 1
  | e + 1 => gfMul (gfPow a e) a
/-- gf_inv: a to the 254. -/
def gfInv (a : Nat) : Nat := gfPow a 254

/-- An image times a constant. -/
def gfScale (c : Nat) (m : List Byte) : List Byte := m.map (fun b => BitVec.ofNat 8 (gfMul c b.toNat))

/-- An image of zeros. -/
def zeroImage : List Byte := List.replicate tileBytes 0#8

/-- accumulate's P part: adds or removes one image (R116). -/
def accP (ap img : List Byte) : List Byte := xorBytes ap img
/-- accumulate's Q part at data position `d` (R116). -/
def accQ (aq img : List Byte) (d : Nat) : List Byte := xorBytes aq (gfScale (gfPow2 d) img)

/-- recover2 (R124): the images of data positions x and y from the syndromes. -/
def recover2 (pxy qxy : List Byte) (x y : Nat) : List Byte × List Byte :=
  let k := gfInv (gfPow2 x ^^^ gfPow2 y)
  let sx := gfScale k (xorBytes qxy (gfScale (gfPow2 y) pxy))
  (sx, xorBytes pxy sx)

/-- recover1q (R124): one image from Q alone. -/
def recover1q (qx : List Byte) (x : Nat) : List Byte := gfScale (gfInv (gfPow2 x)) qx

/-- The P or Q with the given (data position, image) pairs removed or added. -/
def removeP (p : List Byte) (known : List (Nat × List Byte)) : List Byte := known.foldl (fun a e => accP a e.2) p
def removeQ (q : List Byte) (known : List (Nat × List Byte)) : List Byte := known.foldl (fun a e => accQ a e.2 e.1) q

/-- Recovery of data position `x` by the method of Table 3-5. `p` and `q` are the effective parity images where present,
`known` the present data images; `other` a second missing data position. None: not recoverable. -/
def reconstruct (level : Nat) (p q : Option (List Byte)) (known : List (Nat × List Byte)) (x : Nat) (other : Option Nat) :
    Option (List Byte) :=
  match other, p, q with
  | none, some p, _ => some (removeP p known)
  | none, none, some q => if level = 2 then some (recover1q (removeQ q known) x) else none
  | some y, some p, some q => if level = 2 then some (recover2 (removeP p known) (removeQ q known) x y).1 else none
  | _, _, _ => none

end Sys2Proof.Machine
end

