-- ==== Sys2Proof/Machine/Fields.lean ====
section
/-! DEFINITION. The named fields of every register (the field tables of the chapters; chapter 21 for the offsets):
register offset, highest bit, lowest bit. BAR0-only registers stand at 0x2000000 plus their BAR0 offset. -/

namespace Sys2Proof.Machine.F

/-! TCK_PERIOD (chapter 04) -/
def TCK_PERIOD.CYCLES : Field := Field.mk (0xb0000) 31 16
def TCK_PERIOD.ACTIVE : Field := Field.mk (0xb0000) 5 4
def TCK_PERIOD.PERIOD : Field := Field.mk (0xb0000) 1 0
/-! PLN_HOLD (chapter 04) -/
def PLN_HOLD.HELD (i : Nat) : Field := Field.mk (0xd0300 + 4 * i) 31 0
/-! PLN_OVERRUNS (chapter 04) -/
def PLN_OVERRUNS.COUNT : Field := Field.mk (0xd0310) 31 0
/-! PLN_CTRL (chapter 04) -/
def PLN_CTRL.STARVE : Field := Field.mk (0xd0000) 23 16
def PLN_CTRL.BG_SHARE : Field := Field.mk (0xd0000) 13 8
def PLN_CTRL.THERM_ACTIVE : Field := Field.mk (0xd0000) 2 2
def PLN_CTRL.HOLD_BG : Field := Field.mk (0xd0000) 1 1
/-! PLN_QUAD_RAIL (chapter 04) -/
def PLN_QUAD_RAIL.QUAD7 (i : Nat) : Field := Field.mk (0xd0200 + 4 * i) 31 28
def PLN_QUAD_RAIL.QUAD6 (i : Nat) : Field := Field.mk (0xd0200 + 4 * i) 27 24
def PLN_QUAD_RAIL.QUAD5 (i : Nat) : Field := Field.mk (0xd0200 + 4 * i) 23 20
def PLN_QUAD_RAIL.QUAD4 (i : Nat) : Field := Field.mk (0xd0200 + 4 * i) 19 16
def PLN_QUAD_RAIL.QUAD3 (i : Nat) : Field := Field.mk (0xd0200 + 4 * i) 15 12
def PLN_QUAD_RAIL.QUAD2 (i : Nat) : Field := Field.mk (0xd0200 + 4 * i) 11 8
def PLN_QUAD_RAIL.QUAD1 (i : Nat) : Field := Field.mk (0xd0200 + 4 * i) 7 4
def PLN_QUAD_RAIL.QUAD0 (i : Nat) : Field := Field.mk (0xd0200 + 4 * i) 3 0
/-! PLN_RAIL_CFG (chapter 04) -/
def PLN_RAIL_CFG.NOMINAL_MV (i : Nat) : Field := Field.mk (0xd0100 + 8 * i) 63 48
def PLN_RAIL_CFG.DROOP_MV (i : Nat) : Field := Field.mk (0xd0100 + 8 * i) 47 32
def PLN_RAIL_CFG.ENV_MA (i : Nat) : Field := Field.mk (0xd0100 + 8 * i) 15 0
/-! PLN_ADAPT (chapter 04) -/
def PLN_ADAPT.THERM_CAP : Field := Field.mk (0xd0004) 25 16
def PLN_ADAPT.FLOOR : Field := Field.mk (0xd0004) 9 0
/-! PLN_RAIL_STAT (chapter 04) -/
def PLN_RAIL_STAT.DROOPS (i : Nat) : Field := Field.mk (0xd0180 + 8 * i) 63 48
def PLN_RAIL_STAT.MIN_MV (i : Nat) : Field := Field.mk (0xd0180 + 8 * i) 47 32
def PLN_RAIL_STAT.USED_MA (i : Nat) : Field := Field.mk (0xd0180 + 8 * i) 31 16
def PLN_RAIL_STAT.FACTOR (i : Nat) : Field := Field.mk (0xd0180 + 8 * i) 9 0
/-! CHU_QUAD_CFG (chapter 05) -/
def CHU_QUAD_CFG.MODE (i : Nat) : Field := Field.mk (0x120000 + 64 * i) 31 28
def CHU_QUAD_CFG.RATE (i : Nat) : Field := Field.mk (0x120000 + 64 * i) 27 24
def CHU_QUAD_CFG.DIFF (i : Nat) : Field := Field.mk (0x120000 + 64 * i) 23 23
def CHU_QUAD_CFG.VCCQ18 (i : Nat) : Field := Field.mk (0x120000 + 64 * i) 22 22
def CHU_QUAD_CFG.WP_HIGH (i : Nat) : Field := Field.mk (0x120000 + 64 * i) 21 21
def CHU_QUAD_CFG.ENABLED (i : Nat) : Field := Field.mk (0x120000 + 64 * i) 20 20
def CHU_QUAD_CFG.DRV (i : Nat) : Field := Field.mk (0x120000 + 64 * i) 19 16
def CHU_QUAD_CFG.ODT (i : Nat) : Field := Field.mk (0x120000 + 64 * i) 15 12
def CHU_QUAD_CFG.PHY_MHZ (i : Nat) : Field := Field.mk (0x120000 + 64 * i) 11 0
/-! CHU_CFG (chapter 05) -/
def CHU_CFG.ENABLED (i : Nat) : Field := Field.mk (0x100000 + 1024 * i) 31 31
def CHU_CFG.DIES (i : Nat) : Field := Field.mk (0x100000 + 1024 * i) 20 16
def CHU_CFG.PRESENT (i : Nat) : Field := Field.mk (0x100000 + 1024 * i) 15 0
/-! CHU_ERR (chapter 05) -/
def CHU_ERR.MSEQ_FAULTS (i : Nat) : Field := Field.mk (0x100200 + 1024 * i) 63 48
def CHU_ERR.BUS_CHECK (i : Nat) : Field := Field.mk (0x100200 + 1024 * i) 47 32
def CHU_ERR.TRAIN_FAILS (i : Nat) : Field := Field.mk (0x100200 + 1024 * i) 31 16
def CHU_ERR.ZQ_FAILS (i : Nat) : Field := Field.mk (0x100200 + 1024 * i) 15 0
/-! CHU_MSEQ_LAST (chapter 05) -/
def CHU_MSEQ_LAST.ROUTINE (i : Nat) : Field := Field.mk (0x100208 + 1024 * i) 31 26
def CHU_MSEQ_LAST.CODE (i : Nat) : Field := Field.mk (0x100208 + 1024 * i) 23 16
def CHU_MSEQ_LAST.SLOT (i : Nat) : Field := Field.mk (0x100208 + 1024 * i) 14 11
def CHU_MSEQ_LAST.PC (i : Nat) : Field := Field.mk (0x100208 + 1024 * i) 10 0
/-! CHU_TCYC (chapter 05) -/
def CHU_TCYC.HI (i j : Nat) : Field := Field.mk (0x100010 + 1024 * i + 4 * j) 31 16
def CHU_TCYC.LO (i j : Nat) : Field := Field.mk (0x100010 + 1024 * i + 4 * j) 15 0
/-! CHU_QUAD_ZQ (chapter 05) -/
def CHU_QUAD_ZQ.PULLUP (i : Nat) : Field := Field.mk (0x120004 + 64 * i) 29 24
def CHU_QUAD_ZQ.PULLDOWN (i : Nat) : Field := Field.mk (0x120004 + 64 * i) 21 16
def CHU_QUAD_ZQ.LIMITED (i : Nat) : Field := Field.mk (0x120004 + 64 * i) 15 15
def CHU_QUAD_ZQ.CALS (i : Nat) : Field := Field.mk (0x120004 + 64 * i) 14 0
/-! CHU_DESKEW_RD (chapter 05) -/
def CHU_DESKEW_RD.DQ (i : Nat) : Field := Field.mk (0x100080 + 1024 * i) 47 0
/-! CHU_DESKEW_WR (chapter 05) -/
def CHU_DESKEW_WR.DQ (i : Nat) : Field := Field.mk (0x100088 + 1024 * i) 47 0
/-! CHU_DIE_TRIM (chapter 05) -/
def CHU_DIE_TRIM.VALID (i j : Nat) : Field := Field.mk (0x100100 + 1024 * i + 8 * j) 63 63
def CHU_DIE_TRIM.TEMP (i j : Nat) : Field := Field.mk (0x100100 + 1024 * i + 8 * j) 55 48
def CHU_DIE_TRIM.GATE (i j : Nat) : Field := Field.mk (0x100100 + 1024 * i + 8 * j) 43 32
def CHU_DIE_TRIM.RD_CTR (i j : Nat) : Field := Field.mk (0x100100 + 1024 * i + 8 * j) 29 24
def CHU_DIE_TRIM.WR_CTR (i j : Nat) : Field := Field.mk (0x100100 + 1024 * i + 8 * j) 21 16
def CHU_DIE_TRIM.RD_MARGIN (i j : Nat) : Field := Field.mk (0x100100 + 1024 * i + 8 * j) 15 8
def CHU_DIE_TRIM.WR_MARGIN (i j : Nat) : Field := Field.mk (0x100100 + 1024 * i + 8 * j) 7 0
/-! CHU_TRAIN_CTRL (chapter 05) -/
def CHU_TRAIN_CTRL.MIN_MARGIN (i : Nat) : Field := Field.mk (0x100040 + 1024 * i) 23 16
def CHU_TRAIN_CTRL.TEMP_DELTA (i : Nat) : Field := Field.mk (0x100040 + 1024 * i) 15 8
def CHU_TRAIN_CTRL.FORCE (i : Nat) : Field := Field.mk (0x100040 + 1024 * i) 1 1
/-! CHU_TRAIN_STAT (chapter 05) -/
def CHU_TRAIN_STAT.COUNT (i : Nat) : Field := Field.mk (0x100044 + 1024 * i) 31 16
def CHU_TRAIN_STAT.MARGIN (i : Nat) : Field := Field.mk (0x100044 + 1024 * i) 15 8
def CHU_TRAIN_STAT.PEND_ERROR (i : Nat) : Field := Field.mk (0x100044 + 1024 * i) 7 7
def CHU_TRAIN_STAT.PEND_FW (i : Nat) : Field := Field.mk (0x100044 + 1024 * i) 6 6
def CHU_TRAIN_STAT.PEND_TEMP (i : Nat) : Field := Field.mk (0x100044 + 1024 * i) 5 5
def CHU_TRAIN_STAT.PEND_MARGIN (i : Nat) : Field := Field.mk (0x100044 + 1024 * i) 4 4
def CHU_TRAIN_STAT.PEND_VCCQ (i : Nat) : Field := Field.mk (0x100044 + 1024 * i) 3 3
def CHU_TRAIN_STAT.LAST_ERROR (i : Nat) : Field := Field.mk (0x100044 + 1024 * i) 2 2
def CHU_TRAIN_STAT.RESULT (i : Nat) : Field := Field.mk (0x100044 + 1024 * i) 1 0
/-! CHU_TRAIN_TICK (chapter 05) -/
def CHU_TRAIN_TICK.TICK (i : Nat) : Field := Field.mk (0x100048 + 1024 * i) 63 0
/-! PWR_BOOT_CTRL (chapter 06) -/
def PWR_BOOT_CTRL.FRESH_KEY : Field := Field.mk (0xb0100) 15 8
def PWR_BOOT_CTRL.SLOT_REQ : Field := Field.mk (0xb0100) 2 1
def PWR_BOOT_CTRL.STAGED_B : Field := Field.mk (0xb0100) 0 0
/-! PWR_HOLDUP (chapter 06) -/
def PWR_HOLDUP.VTOP_MV : Field := Field.mk (0xb0110) 63 48
def PWR_HOLDUP.CAP_UF : Field := Field.mk (0xb0110) 43 24
def PWR_HOLDUP.LIMIT : Field := Field.mk (0xb0110) 23 16
def PWR_HOLDUP.SOURCE : Field := Field.mk (0xb0110) 13 12
def PWR_HOLDUP.HU_DONE : Field := Field.mk (0xb0110) 1 1
def PWR_HOLDUP.FAULT : Field := Field.mk (0xb0110) 0 0
/-! PWR_HOLDUP_E (chapter 06) -/
def PWR_HOLDUP_E.AVAIL_UJ : Field := Field.mk (0xb0118) 63 32
def PWR_HOLDUP_E.FIXED_UJ : Field := Field.mk (0xb0118) 31 0
/-! PWR_CENSUS (chapter 06) -/
def PWR_CENSUS.STAGE : Field := Field.mk (0xb0108) 31 28
def PWR_CENSUS.HALT : Field := Field.mk (0xb0108) 27 24
def PWR_CENSUS.WD_RESTARTS : Field := Field.mk (0xb0108) 23 16
def PWR_CENSUS.FIRST : Field := Field.mk (0xb0108) 7 7
def PWR_CENSUS.SLOT_B : Field := Field.mk (0xb0108) 6 6
def PWR_CENSUS.ANCHORED : Field := Field.mk (0xb0108) 5 5
def PWR_CENSUS.GAP_ASSUMED : Field := Field.mk (0xb0108) 4 4
def PWR_CENSUS.HU_DONE : Field := Field.mk (0xb0108) 3 3
def PWR_CENSUS.WRITE_READY : Field := Field.mk (0xb0108) 1 1
def PWR_CENSUS.READ_READY : Field := Field.mk (0xb0108) 0 0
/-! PWR_CENSUS_TIME (chapter 06) -/
def PWR_CENSUS_TIME.READY_US : Field := Field.mk (0xb010c) 31 0
/-! WQ_SQ_BASE (chapter 07) -/
def WQ_SQ_BASE.ADDR (i : Nat) : Field := Field.mk (0x40000 + 64 * i) 63 6
/-! WQ_CQ_BASE (chapter 07) -/
def WQ_CQ_BASE.ADDR (i : Nat) : Field := Field.mk (0x40008 + 64 * i) 63 6
/-! WQ_IDX_ADDR (chapter 07) -/
def WQ_IDX_ADDR.ADDR (i : Nat) : Field := Field.mk (0x40010 + 64 * i) 63 3
/-! WQ_CFG (chapter 07) -/
def WQ_CFG.DEPTH_M1 (i : Nat) : Field := Field.mk (0x40018 + 64 * i) 31 16
def WQ_CFG.VECTOR (i : Nat) : Field := Field.mk (0x40018 + 64 * i) 9 0
/-! WQ_POLL (chapter 07) -/
def WQ_POLL.PREFETCH (i : Nat) : Field := Field.mk (0x4001c + 64 * i) 11 8
def WQ_POLL.INTERVAL (i : Nat) : Field := Field.mk (0x4001c + 64 * i) 7 0
/-! WQ_ARB (chapter 07) -/
def WQ_ARB.URGENT (i : Nat) : Field := Field.mk (0x40020 + 64 * i) 31 31
def WQ_ARB.BURST_M1 (i : Nat) : Field := Field.mk (0x40020 + 64 * i) 21 16
def WQ_ARB.WEIGHT (i : Nat) : Field := Field.mk (0x40020 + 64 * i) 15 8
/-! WQ_READPOL (chapter 07) -/
def WQ_READPOL.DEADLINE (i : Nat) : Field := Field.mk (0x40024 + 64 * i) 31 16
def WQ_READPOL.CEIL (i : Nat) : Field := Field.mk (0x40024 + 64 * i) 2 0
/-! WQ_CTRL (chapter 07) -/
def WQ_CTRL.DISCARD (i : Nat) : Field := Field.mk (0x40028 + 64 * i) 2 2
def WQ_CTRL.SHUTDOWN (i : Nat) : Field := Field.mk (0x40028 + 64 * i) 1 1
def WQ_CTRL.ENABLE (i : Nat) : Field := Field.mk (0x40028 + 64 * i) 0 0
/-! WQ_STATUS (chapter 07) -/
def WQ_STATUS.STATE (i : Nat) : Field := Field.mk (0x4002c + 64 * i) 31 30
def WQ_STATUS.CAUSE (i : Nat) : Field := Field.mk (0x4002c + 64 * i) 29 24
def WQ_STATUS.SQ_CI (i : Nat) : Field := Field.mk (0x4002c + 64 * i) 15 0
/-! WQ_OUT (chapter 07) -/
def WQ_OUT.CQ_PI (i : Nat) : Field := Field.mk (0x40030 + 64 * i) 31 16
def WQ_OUT.OUTSTANDING (i : Nat) : Field := Field.mk (0x40030 + 64 * i) 15 0
/-! WQ_MAXOUT (chapter 07) -/
def WQ_MAXOUT.LIMIT (i : Nat) : Field := Field.mk (0x40034 + 64 * i) 15 0
/-! GNT_LOCK (chapter 07) -/
def GNT_LOCK.LOCK : Field := Field.mk (0x10000) 0 0
/-! GNT_SETMASK (chapter 07) -/
def GNT_SETMASK.SETS (i j : Nat) : Field := Field.mk (0x10400 + 32 * i + 8 * j) 63 0
/-! GNT_WIN_BASE (chapter 07) -/
def GNT_WIN_BASE.BASE (i : Nat) : Field := Field.mk (0x11000 + 16 * i) 63 12
def GNT_WIN_BASE.VALID (i : Nat) : Field := Field.mk (0x11000 + 16 * i) 0 0
/-! GNT_WIN_LIMIT (chapter 07) -/
def GNT_WIN_LIMIT.LIMIT (i : Nat) : Field := Field.mk (0x11008 + 16 * i) 63 12
def GNT_WIN_LIMIT.WRITE (i : Nat) : Field := Field.mk (0x11008 + 16 * i) 1 1
def GNT_WIN_LIMIT.READ (i : Nat) : Field := Field.mk (0x11008 + 16 * i) 0 0
/-! GNT_QWIN (chapter 07) -/
def GNT_QWIN.WINDOWS (i : Nat) : Field := Field.mk (0x12000 + 16 * i) 63 0
/-! GNT_QATTR (chapter 07) -/
def GNT_QATTR.OPCODES (i : Nat) : Field := Field.mk (0x12008 + 16 * i) 47 32
def GNT_QATTR.SETMASK (i : Nat) : Field := Field.mk (0x12008 + 16 * i) 23 20
def GNT_QATTR.CEILING (i : Nat) : Field := Field.mk (0x12008 + 16 * i) 15 13
def GNT_QATTR.OWNER (i : Nat) : Field := Field.mk (0x12008 + 16 * i) 9 8
/-! PTY_PIN_BASE (chapter 08) -/
def PTY_PIN_BASE.BASE : Field := Field.mk (0xd0800) 63 12
/-! PTY_PIN_SIZE (chapter 08) -/
def PTY_PIN_SIZE.PAGES : Field := Field.mk (0xd0808) 31 0
/-! PTY_PIN_STAT (chapter 08) -/
def PTY_PIN_STAT.FAB_TILES : Field := Field.mk (0xd0810) 63 32
def PTY_PIN_STAT.FAB_FREE : Field := Field.mk (0xd0810) 31 0
/-! PTY_ROWSTORE (chapter 08) -/
def PTY_ROWSTORE.ACC_KIB : Field := Field.mk (0xd0818) 63 48
def PTY_ROWSTORE.ACC_FREE_KIB : Field := Field.mk (0xd0818) 47 32
def PTY_ROWSTORE.SP_TILES : Field := Field.mk (0xd0818) 31 16
def PTY_ROWSTORE.SP_FREE : Field := Field.mk (0xd0818) 15 0
/-! PTY_OPEN (chapter 08) -/
def PTY_OPEN.CEILING : Field := Field.mk (0xd0820) 31 24
def PTY_OPEN.RESERVED : Field := Field.mk (0xd0820) 23 16
def PTY_OPEN.STRIPES : Field := Field.mk (0xd0820) 15 8
def PTY_OPEN.BANDS : Field := Field.mk (0xd0820) 7 0
/-! PTY_STAMP (chapter 08) -/
def PTY_STAMP.NEXT : Field := Field.mk (0xd0828) 63 0
/-! PTY_WFAIL (chapter 08) -/
def PTY_WFAIL.PROG_FAILS : Field := Field.mk (0xd0830) 63 48
def PTY_WFAIL.SUBSTS : Field := Field.mk (0xd0830) 47 32
def PTY_WFAIL.VOIDED : Field := Field.mk (0xd0830) 31 16
def PTY_WFAIL.INTAKE_WAITS : Field := Field.mk (0xd0830) 15 0
/-! DEC_CFG (chapter 09) -/
def DEC_CFG.ITER5 : Field := Field.mk (0xd0400) 31 24
def DEC_CFG.ITER4 : Field := Field.mk (0xd0400) 23 16
def DEC_CFG.ITER1 : Field := Field.mk (0xd0400) 15 8
def DEC_CFG.ITER0 : Field := Field.mk (0xd0400) 7 0
/-! DEC_POOL (chapter 09) -/
def DEC_POOL.HARD_ACTIVE : Field := Field.mk (0xd0408) 31 24
def DEC_POOL.SOFT_ACTIVE : Field := Field.mk (0xd0408) 23 16
def DEC_POOL.HSPARE_TEST : Field := Field.mk (0xd0408) 15 15
def DEC_POOL.HSPARE_RET : Field := Field.mk (0xd0408) 14 14
def DEC_POOL.SSPARE_TEST : Field := Field.mk (0xd0408) 13 13
def DEC_POOL.SSPARE_RET : Field := Field.mk (0xd0408) 12 12
def DEC_POOL.HARD_FOR : Field := Field.mk (0xd0408) 11 6
def DEC_POOL.SOFT_FOR : Field := Field.mk (0xd0408) 5 2
/-! DEC_RETIRED (chapter 09) -/
def DEC_RETIRED.SOFT : Field := Field.mk (0xd0410) 61 49
def DEC_RETIRED.HARD : Field := Field.mk (0xd0410) 48 0
/-! DEC_WARN (chapter 09) -/
def DEC_WARN.STEP : Field := Field.mk (0xd0404) 18 16
def DEC_WARN.BITS : Field := Field.mk (0xd0404) 15 0
/-! DEC_TEST (chapter 09) -/
def DEC_TEST.PERIOD : Field := Field.mk (0xd040c) 31 8
def DEC_TEST.BUSY : Field := Field.mk (0xd040c) 0 0
/-! CAL_CTRL (chapter 10) -/
def CAL_CTRL.HOLD : Field := Field.mk (0xe0000) 31 31
def CAL_CTRL.SAMPLE_EXP : Field := Field.mk (0xe0000) 27 24
def CAL_CTRL.MAX_STEP : Field := Field.mk (0xe0000) 19 16
def CAL_CTRL.FULL_MAX : Field := Field.mk (0xe0000) 15 8
def CAL_CTRL.TRIG : Field := Field.mk (0xe0000) 7 0
/-! CAL_STAT (chapter 10) -/
def CAL_STAT.SUSPECT : Field := Field.mk (0xe0008) 63 48
def CAL_STAT.TABLE_FAULTS : Field := Field.mk (0xe0008) 47 32
def CAL_STAT.REJECTS : Field := Field.mk (0xe0008) 31 16
def CAL_STAT.SEARCHES : Field := Field.mk (0xe0008) 15 0
/-! PTL_CTRL (chapter 11) -/
def PTL_CTRL.HOLD : Field := Field.mk (0xe0100) 31 31
def PTL_CTRL.HOLD_REHOME : Field := Field.mk (0xe0100) 30 30
def PTL_CTRL.NO_AUTO_RETIRE : Field := Field.mk (0xe0100) 29 29
def PTL_CTRL.PASS_DAYS : Field := Field.mk (0xe0100) 23 16
def PTL_CTRL.ACCEL : Field := Field.mk (0xe0100) 15 12
def PTL_CTRL.REB_MAX : Field := Field.mk (0xe0100) 11 8
def PTL_CTRL.REHOME_MAX : Field := Field.mk (0xe0100) 7 4
/-! PTL_STAT (chapter 11) -/
def PTL_STAT.PASSES : Field := Field.mk (0xe0108) 63 32
def PTL_STAT.QUEUED : Field := Field.mk (0xe0108) 31 16
def PTL_STAT.REHOMING : Field := Field.mk (0xe0108) 15 8
def PTL_STAT.PASS_PCT : Field := Field.mk (0xe0108) 7 0
/-! PTL_REBUILD (chapter 11) -/
def PTL_REBUILD.ACTIVE (i : Nat) : Field := Field.mk (0xe0140 + 8 * i) 63 63
def PTL_REBUILD.URGENT (i : Nat) : Field := Field.mk (0xe0140 + 8 * i) 62 62
def PTL_REBUILD.PAIRED (i : Nat) : Field := Field.mk (0xe0140 + 8 * i) 61 61
def PTL_REBUILD.VDIE (i : Nat) : Field := Field.mk (0xe0140 + 8 * i) 59 48
def PTL_REBUILD.SET (i : Nat) : Field := Field.mk (0xe0140 + 8 * i) 47 40
def PTL_REBUILD.BAND (i : Nat) : Field := Field.mk (0xe0140 + 8 * i) 39 26
def PTL_REBUILD.ROW (i : Nat) : Field := Field.mk (0xe0140 + 8 * i) 25 12
def PTL_REBUILD.PERMILLE (i : Nat) : Field := Field.mk (0xe0140 + 8 * i) 9 0
/-! PWR_PFAIL_CFG (chapter 12) -/
def PWR_PFAIL_CFG.FILTER : Field := Field.mk (0xb0200) 15 8
def PWR_PFAIL_CFG.DRILL : Field := Field.mk (0xb0200) 1 1
/-! PWR_PFAIL_STAT (chapter 12) -/
def PWR_PFAIL_STAT.PHASE : Field := Field.mk (0xb0208) 63 60
def PWR_PFAIL_STAT.SEALED : Field := Field.mk (0xb0208) 59 59
def PWR_PFAIL_STAT.DRILL : Field := Field.mk (0xb0208) 58 58
def PWR_PFAIL_STAT.SHELTERED : Field := Field.mk (0xb0208) 47 32
def PWR_PFAIL_STAT.FOLDED : Field := Field.mk (0xb0208) 31 16
def PWR_PFAIL_STAT.GLITCHES : Field := Field.mk (0xb0208) 15 0
/-! PWR_RECOVERY (chapter 12) -/
def PWR_RECOVERY.SHELTERED : Field := Field.mk (0xb0210) 63 48
def PWR_RECOVERY.READBACK : Field := Field.mk (0xb0210) 47 32
def PWR_RECOVERY.VOIDED : Field := Field.mk (0xb0210) 31 16
def PWR_RECOVERY.REERASED : Field := Field.mk (0xb0210) 15 8
def PWR_RECOVERY.SOURCE : Field := Field.mk (0xb0210) 3 2
def PWR_RECOVERY.LOST : Field := Field.mk (0xb0210) 1 1
def PWR_RECOVERY.DONE : Field := Field.mk (0xb0210) 0 0
/-! PWR_LAST_PFAIL (chapter 12) -/
def PWR_LAST_PFAIL.SEAL_US : Field := Field.mk (0xb0218) 31 0
/-! LNR_SP_WAYS (chapter 13) -/
def LNR_SP_WAYS.NEED : Field := Field.mk (0x80004) 23 16
def LNR_SP_WAYS.IMAGE : Field := Field.mk (0x80004) 15 8
def LNR_SP_WAYS.WAYS : Field := Field.mk (0x80004) 4 0
/-! LNR_SP_AREA (chapter 13) -/
def LNR_SP_AREA.BASE_KIB (i : Nat) : Field := Field.mk (0x80300 + 8 * i) 63 32
def LNR_SP_AREA.SIZE_KIB (i : Nat) : Field := Field.mk (0x80300 + 8 * i) 31 0
/-! LNR_REGION_BASE (chapter 13) -/
def LNR_REGION_BASE.BASE (i : Nat) : Field := Field.mk (0x80100 + 16 * i) 63 12
def LNR_REGION_BASE.ATTR (i : Nat) : Field := Field.mk (0x80100 + 16 * i) 2 1
def LNR_REGION_BASE.VALID (i : Nat) : Field := Field.mk (0x80100 + 16 * i) 0 0
/-! LNR_REGION_LIMIT (chapter 13) -/
def LNR_REGION_LIMIT.LIMIT (i : Nat) : Field := Field.mk (0x80108 + 16 * i) 63 12
/-! LNR_MAINT_BASE (chapter 13) -/
def LNR_MAINT_BASE.BASE : Field := Field.mk (0x80200) 63 8
/-! LNR_MAINT_LEN (chapter 13) -/
def LNR_MAINT_LEN.LINES : Field := Field.mk (0x80208) 31 0
/-! LNR_MAINT_OP (chapter 13) -/
def LNR_MAINT_OP.BUSY : Field := Field.mk (0x80210) 31 31
def LNR_MAINT_OP.RESULT : Field := Field.mk (0x80210) 27 24
def LNR_MAINT_OP.OP : Field := Field.mk (0x80210) 3 0
/-! LNR_MAINT_STAT (chapter 13) -/
def LNR_MAINT_STAT.SKIPPED_LOCKED : Field := Field.mk (0x80218) 63 48
def LNR_MAINT_STAT.LOCK_FAILS : Field := Field.mk (0x80218) 47 32
def LNR_MAINT_STAT.LINES_DONE : Field := Field.mk (0x80218) 31 0
/-! LNR_CTRL (chapter 13) -/
def LNR_CTRL.STATE : Field := Field.mk (0x80000) 31 30
def LNR_CTRL.PF_DEPTH : Field := Field.mk (0x80000) 11 8
def LNR_CTRL.PF_EN : Field := Field.mk (0x80000) 1 1
def LNR_CTRL.ENABLE : Field := Field.mk (0x80000) 0 0
/-! LNR_ECC_CFG (chapter 13) -/
def LNR_ECC_CFG.THRESH : Field := Field.mk (0x80400) 31 24
def LNR_ECC_CFG.SCRUB_RATE : Field := Field.mk (0x80400) 19 16
def LNR_ECC_CFG.SCRUB_BG : Field := Field.mk (0x80400) 15 15
def LNR_ECC_CFG.LEAK : Field := Field.mk (0x80400) 11 0
/-! LNR_ECC_CNT (chapter 13) -/
def LNR_ECC_CNT.CORRECTED : Field := Field.mk (0x80408) 63 32
def LNR_ECC_CNT.UNCORR_CLEAN : Field := Field.mk (0x80408) 31 0
/-! LNR_ECC_CNT2 (chapter 13) -/
def LNR_ECC_CNT2.UNCORR_LOST : Field := Field.mk (0x80410) 63 32
def LNR_ECC_CNT2.PASSES : Field := Field.mk (0x80410) 31 0
/-! LNR_ECC_LAST (chapter 13) -/
def LNR_ECC_LAST.VALID : Field := Field.mk (0x80418) 63 63
def LNR_ECC_LAST.KIND : Field := Field.mk (0x80418) 62 61
def LNR_ECC_LAST.DIRTY : Field := Field.mk (0x80418) 60 60
def LNR_ECC_LAST.WAY : Field := Field.mk (0x80418) 59 55
def LNR_ECC_LAST.BANK : Field := Field.mk (0x80418) 54 51
def LNR_ECC_LAST.INDEX : Field := Field.mk (0x80418) 50 42
def LNR_ECC_LAST.WORD : Field := Field.mk (0x80418) 41 37
/-! LNR_BUCKET (chapter 13) -/
def LNR_BUCKET.BANK3 (i : Nat) : Field := Field.mk (0x80420 + 8 * i) 63 48
def LNR_BUCKET.BANK2 (i : Nat) : Field := Field.mk (0x80420 + 8 * i) 47 32
def LNR_BUCKET.BANK1 (i : Nat) : Field := Field.mk (0x80420 + 8 * i) 31 16
def LNR_BUCKET.BANK0 (i : Nat) : Field := Field.mk (0x80420 + 8 * i) 15 0
/-! LNR_FLIP_DATA (chapter 13) -/
def LNR_FLIP_DATA.MASK : Field := Field.mk (0x80500) 63 0
/-! LNR_FLIP_CTRL (chapter 13) -/
def LNR_FLIP_CTRL.TEST_EN : Field := Field.mk (0x80508) 31 31
def LNR_FLIP_CTRL.CHECK : Field := Field.mk (0x80508) 23 16
def LNR_FLIP_CTRL.TARGET : Field := Field.mk (0x80508) 12 12
def LNR_FLIP_CTRL.BANK : Field := Field.mk (0x80508) 11 8
def LNR_FLIP_CTRL.ARMED : Field := Field.mk (0x80508) 1 1
def LNR_FLIP_CTRL.ARM : Field := Field.mk (0x80508) 0 0
/-! MVR_SRC (chapter 14) -/
def MVR_SRC.ADDR (i : Nat) : Field := Field.mk (0x90000 + 128 * i) 63 0
/-! MVR_DST (chapter 14) -/
def MVR_DST.ADDR (i : Nat) : Field := Field.mk (0x90008 + 128 * i) 63 0
/-! MVR_CNT (chapter 14) -/
def MVR_CNT.ELEM_M1 (i : Nat) : Field := Field.mk (0x90010 + 128 * i) 63 48
def MVR_CNT.N2_M1 (i : Nat) : Field := Field.mk (0x90010 + 128 * i) 47 32
def MVR_CNT.N1_M1 (i : Nat) : Field := Field.mk (0x90010 + 128 * i) 31 16
def MVR_CNT.N0_M1 (i : Nat) : Field := Field.mk (0x90010 + 128 * i) 15 0
/-! MVR_SSTEP01 (chapter 14) -/
def MVR_SSTEP01.S1 (i : Nat) : Field := Field.mk (0x90018 + 128 * i) 63 32
def MVR_SSTEP01.S0 (i : Nat) : Field := Field.mk (0x90018 + 128 * i) 31 0
/-! MVR_DSTEP01 (chapter 14) -/
def MVR_DSTEP01.D1 (i : Nat) : Field := Field.mk (0x90020 + 128 * i) 63 32
def MVR_DSTEP01.D0 (i : Nat) : Field := Field.mk (0x90020 + 128 * i) 31 0
/-! MVR_STEP2 (chapter 14) -/
def MVR_STEP2.D2 (i : Nat) : Field := Field.mk (0x90028 + 128 * i) 63 32
def MVR_STEP2.S2 (i : Nat) : Field := Field.mk (0x90028 + 128 * i) 31 0
/-! MVR_MODE (chapter 14) -/
def MVR_MODE.BUFQ (i : Nat) : Field := Field.mk (0x90030 + 128 * i) 27 24
def MVR_MODE.G_LOG2 (i : Nat) : Field := Field.mk (0x90030 + 128 * i) 23 20
def MVR_MODE.K_M1 (i : Nat) : Field := Field.mk (0x90030 + 128 * i) 19 16
def MVR_MODE.PRIO (i : Nat) : Field := Field.mk (0x90030 + 128 * i) 12 12
def MVR_MODE.PACK (i : Nat) : Field := Field.mk (0x90030 + 128 * i) 11 11
def MVR_MODE.POST_CLEAN (i : Nat) : Field := Field.mk (0x90030 + 128 * i) 10 10
def MVR_MODE.PRE_INVAL (i : Nat) : Field := Field.mk (0x90030 + 128 * i) 9 9
def MVR_MODE.IRQ (i : Nat) : Field := Field.mk (0x90030 + 128 * i) 8 8
def MVR_MODE.SRC_SP (i : Nat) : Field := Field.mk (0x90030 + 128 * i) 5 5
def MVR_MODE.DST_SP (i : Nat) : Field := Field.mk (0x90030 + 128 * i) 4 4
def MVR_MODE.XFORM (i : Nat) : Field := Field.mk (0x90030 + 128 * i) 3 0
/-! MVR_STAT (chapter 14) -/
def MVR_STAT.STATE (i : Nat) : Field := Field.mk (0x90034 + 128 * i) 31 30
def MVR_STAT.LAST_STATUS (i : Nat) : Field := Field.mk (0x90034 + 128 * i) 15 0
/-! MVR_CREC (chapter 14) -/
def MVR_CREC.ADDR (i : Nat) : Field := Field.mk (0x90038 + 128 * i) 63 4
def MVR_CREC.SP (i : Nat) : Field := Field.mk (0x90038 + 128 * i) 0 0
/-! MVR_MAP (chapter 14) -/
def MVR_MAP.MAP (i : Nat) : Field := Field.mk (0x90040 + 128 * i) 63 0
/-! MVR_RESID (chapter 14) -/
def MVR_RESID.I2 (i : Nat) : Field := Field.mk (0x90048 + 128 * i) 63 48
def MVR_RESID.I1 (i : Nat) : Field := Field.mk (0x90048 + 128 * i) 47 32
def MVR_RESID.I0 (i : Nat) : Field := Field.mk (0x90048 + 128 * i) 31 16
def MVR_RESID.VALID (i : Nat) : Field := Field.mk (0x90048 + 128 * i) 0 0
/-! MVR_DONE (chapter 14) -/
def MVR_DONE.BYTES (i : Nat) : Field := Field.mk (0x90050 + 128 * i) 63 0
/-! MVR_GO (chapter 14) -/
def MVR_GO.GO : Field := Field.mk (0x91000) 31 0
/-! MVR_ABORT (chapter 14) -/
def MVR_ABORT.ABORT : Field := Field.mk (0x91004) 31 0
/-! MVR_GLOBAL (chapter 14) -/
def MVR_GLOBAL.STOPPED : Field := Field.mk (0x91008) 31 31
def MVR_GLOBAL.CAUSE_CH : Field := Field.mk (0x91008) 12 8
def MVR_GLOBAL.TIMEOUT : Field := Field.mk (0x91008) 1 1
def MVR_GLOBAL.RESTART : Field := Field.mk (0x91008) 0 0
/-! MVR_BUF (chapter 14) -/
def MVR_BUF.FREE : Field := Field.mk (0x9100c) 6 0
/-! EVC_SRC_CFG (chapter 15) -/
def EVC_SRC_CFG.ENABLE (i : Nat) : Field := Field.mk (0x20000 + 4 * i) 31 31
def EVC_SRC_CFG.LEVEL (i : Nat) : Field := Field.mk (0x20000 + 4 * i) 30 30
def EVC_SRC_CFG.TARGET (i : Nat) : Field := Field.mk (0x20000 + 4 * i) 11 8
def EVC_SRC_CFG.PRIO (i : Nat) : Field := Field.mk (0x20000 + 4 * i) 3 0
/-! EVC_PEND (chapter 15) -/
def EVC_PEND.PEND (i : Nat) : Field := Field.mk (0x20800 + 8 * i) 63 0
/-! EVC_INSVC (chapter 15) -/
def EVC_INSVC.INSVC (i : Nat) : Field := Field.mk (0x20840 + 8 * i) 63 0
/-! EVC_SET (chapter 15) -/
def EVC_SET.SOURCE : Field := Field.mk (0x20880) 8 0
/-! EVC_ACK (chapter 15) -/
def EVC_ACK.SOURCE (i : Nat) : Field := Field.mk (0x21000 + 64 * i) 9 0
/-! EVC_EOI (chapter 15) -/
def EVC_EOI.SOURCE (i : Nat) : Field := Field.mk (0x21004 + 64 * i) 8 0
/-! EVC_TGT_STAT (chapter 15) -/
def EVC_TGT_STAT.FAULT (i : Nat) : Field := Field.mk (0x21008 + 64 * i) 31 31
def EVC_TGT_STAT.TOP (i : Nat) : Field := Field.mk (0x21008 + 64 * i) 30 22
def EVC_TGT_STAT.DEPTH (i : Nat) : Field := Field.mk (0x21008 + 64 * i) 21 17
def EVC_TGT_STAT.IDLE (i : Nat) : Field := Field.mk (0x21008 + 64 * i) 16 16
def EVC_TGT_STAT.LINE (i : Nat) : Field := Field.mk (0x21008 + 64 * i) 15 15
def EVC_TGT_STAT.FAULTS (i : Nat) : Field := Field.mk (0x21008 + 64 * i) 12 5
def EVC_TGT_STAT.RUNNING (i : Nat) : Field := Field.mk (0x21008 + 64 * i) 4 0
/-! EVC_TGT_STACK (chapter 15) -/
def EVC_TGT_STACK.PRIOS (i : Nat) : Field := Field.mk (0x21010 + 64 * i) 63 0
/-! EVC_GRP_CFG (chapter 15) -/
def EVC_GRP_CFG.COMPLETION (i : Nat) : Field := Field.mk (0x20900 + 4 * i) 15 15
def EVC_GRP_CFG.COUNT_M1 (i : Nat) : Field := Field.mk (0x20900 + 4 * i) 13 8
def EVC_GRP_CFG.HOLDOFF (i : Nat) : Field := Field.mk (0x20900 + 4 * i) 7 0
/-! EVC_FILTER (chapter 15) -/
def EVC_FILTER.THERM : Field := Field.mk (0x22000) 31 31
def EVC_FILTER.GLITCHES : Field := Field.mk (0x22000) 23 8
def EVC_FILTER.LEN : Field := Field.mk (0x22000) 7 0
/-! EVC_HOST_MOD (chapter 15) -/
def EVC_HOST_MOD.COUNT_M1 : Field := Field.mk (0x22010) 13 8
def EVC_HOST_MOD.HOLDOFF : Field := Field.mk (0x22010) 7 0
/-! EVC_HINTX_PEND (chapter 15) -/
def EVC_HINTX_PEND.PEND (i : Nat) : Field := Field.mk (0x22100 + 8 * i) 63 0
/-! CFS_DEV (chapter 16) -/
def CFS_DEV.SIZE_MIB : Field := Field.mk (0xa0000) 63 48
def CFS_DEV.SLOT_KIB : Field := Field.mk (0xa0000) 47 32
def CFS_DEV.RING : Field := Field.mk (0xa0000) 31 16
def CFS_DEV.IFACE : Field := Field.mk (0xa0000) 5 4
def CFS_DEV.FORMATTED : Field := Field.mk (0xa0000) 3 3
def CFS_DEV.SFDP_OK : Field := Field.mk (0xa0000) 2 2
/-! CFS_CLK (chapter 16) -/
def CFS_CLK.EW_BITS : Field := Field.mk (0xa0008) 27 24
def CFS_CLK.DIV : Field := Field.mk (0xa0008) 23 16
def CFS_CLK.DUMMY : Field := Field.mk (0xa0008) 12 8
def CFS_CLK.SLOW : Field := Field.mk (0xa0008) 0 0
/-! CFS_PROT_LEVEL (chapter 16) -/
def CFS_PROT_LEVEL.LOWER_KEY : Field := Field.mk (0xa0010) 31 24
def CFS_PROT_LEVEL.UPD_EN : Field := Field.mk (0xa0010) 16 16
def CFS_PROT_LEVEL.REQ : Field := Field.mk (0xa0010) 9 8
def CFS_PROT_LEVEL.LEVEL : Field := Field.mk (0xa0010) 1 0
/-! CFS_CMD (chapter 16) -/
def CFS_CMD.BUSY : Field := Field.mk (0xa0020) 31 31
def CFS_CMD.RESULT : Field := Field.mk (0xa0020) 27 24
def CFS_CMD.ACTIVATE : Field := Field.mk (0xa0020) 8 8
def CFS_CMD.OP : Field := Field.mk (0xa0020) 3 0
/-! CFS_ADDR (chapter 16) -/
def CFS_ADDR.ADDR : Field := Field.mk (0xa0028) 63 4
/-! CFS_ARG (chapter 16) -/
def CFS_ARG.OFFSET : Field := Field.mk (0xa0030) 63 32
def CFS_ARG.LEN : Field := Field.mk (0xa0030) 31 0
/-! CFS_STAT (chapter 16) -/
def CFS_STAT.COMMITS : Field := Field.mk (0xa0038) 63 32
def CFS_STAT.EW_REWRITES : Field := Field.mk (0xa0038) 31 16
def CFS_STAT.INVALID : Field := Field.mk (0xa0038) 15 8
def CFS_STAT.ACTIVE_B : Field := Field.mk (0xa0038) 1 1
def CFS_STAT.ACTIVE_VALID : Field := Field.mk (0xa0038) 0 0
/-! CFS_BRIM (chapter 16) -/
def CFS_BRIM.HEAD : Field := Field.mk (0xa0040) 63 48
def CFS_BRIM.POS : Field := Field.mk (0xa0040) 43 40
def CFS_BRIM.ROTATIONS : Field := Field.mk (0xa0040) 31 0
/-! HF_STATUS (chapter 17) -/
def HF_STATUS.READY : Field := Field.mk (0x2001000) 31 31
def HF_STATUS.LAST_RESET : Field := Field.mk (0x2001000) 30 28
def HF_STATUS.MODE : Field := Field.mk (0x2001000) 27 26
def HF_STATUS.QUEUES : Field := Field.mk (0x2001000) 15 0
/-! HF_IDENT (chapter 17) -/
def HF_IDENT.BUILD : Field := Field.mk (0x2001008) 63 56
def HF_IDENT.INSTANCE : Field := Field.mk (0x2001008) 55 48
def HF_IDENT.DZ_VERSION : Field := Field.mk (0x2001008) 47 32
def HF_IDENT.FIRST_Q : Field := Field.mk (0x2001008) 31 16
def HF_IDENT.LAST_Q : Field := Field.mk (0x2001008) 15 0
/-! GLB_HFN_STATUS (chapter 17) -/
def GLB_HFN_STATUS.PRESENT : Field := Field.mk (0x200) 31 31
def GLB_HFN_STATUS.READY : Field := Field.mk (0x200) 30 30
def GLB_HFN_STATUS.LAST_RESET : Field := Field.mk (0x200) 29 27
def GLB_HFN_STATUS.RESETS : Field := Field.mk (0x200) 23 16
def GLB_HFN_STATUS.BME : Field := Field.mk (0x200) 1 1
def GLB_HFN_STATUS.D3 : Field := Field.mk (0x200) 0 0
/-! HF_QCTL (chapter 17) -/
def HF_QCTL.BUSY : Field := Field.mk (0x2010000) 31 31
def HF_QCTL.RESULT : Field := Field.mk (0x2010000) 27 24
def HF_QCTL.START : Field := Field.mk (0x2010000) 16 16
def HF_QCTL.PAGE : Field := Field.mk (0x2010000) 15 0
/-! HF_QPARAM (chapter 17) -/
def HF_QPARAM.PARAM : Field := Field.mk (0x2010008) 63 0
/-! PAIR_CTRL (chapter 18) -/
def PAIR_CTRL.KEY : Field := Field.mk (0x400000) 15 8
def PAIR_CTRL.GIVE_BACK : Field := Field.mk (0x400000) 1 1
def PAIR_CTRL.YIELD : Field := Field.mk (0x400000) 0 0
/-! PAIR_STAT (chapter 18) -/
def PAIR_STAT.STATE : Field := Field.mk (0x400008) 63 60
def PAIR_STAT.LAST_CAUSE : Field := Field.mk (0x400008) 59 56
def PAIR_STAT.MISSED : Field := Field.mk (0x400008) 55 48
def PAIR_STAT.CUFF_UP : Field := Field.mk (0x400008) 47 47
def PAIR_STAT.MIRROR_VALID : Field := Field.mk (0x400008) 46 46
def PAIR_STAT.PARTNER_CORE_OK : Field := Field.mk (0x400008) 45 45
def PAIR_STAT.PARTNER_PFAIL : Field := Field.mk (0x400008) 44 44
def PAIR_STAT.GB_RESULT : Field := Field.mk (0x400008) 43 40
def PAIR_STAT.LAST_COLD : Field := Field.mk (0x400008) 39 39
def PAIR_STAT.HANDOVERS : Field := Field.mk (0x400008) 31 16
def PAIR_STAT.RESYNCS : Field := Field.mk (0x400008) 15 0
/-! PAIR_HOME (chapter 18) -/
def PAIR_HOME.HOME : Field := Field.mk (0x400010) 47 0
/-! PAIR_PEER (chapter 18) -/
def PAIR_PEER.TICKNO : Field := Field.mk (0x400018) 63 0
/-! PAIR_CUFF (chapter 18) -/
def PAIR_CUFF.CRC_ERRORS : Field := Field.mk (0x400020) 63 48
def PAIR_CUFF.DOWNS : Field := Field.mk (0x400020) 47 32
def PAIR_CUFF.RETRANS : Field := Field.mk (0x400020) 31 0
/-! PAIR_HO_TIME (chapter 18) -/
def PAIR_HO_TIME.READ_US : Field := Field.mk (0x400028) 63 32
def PAIR_HO_TIME.WRITE_US : Field := Field.mk (0x400028) 31 0
/-! PAIR_FOSTERQ (chapter 18) -/
def PAIR_FOSTERQ.FOSTER (i : Nat) : Field := Field.mk (0x400100 + 8 * i) 63 0
/-! TCK_TICKNO (chapter 19) -/
def TCK_TICKNO.TICKNO : Field := Field.mk (0xb0008) 63 0
/-! TCK_MTIME (chapter 19) -/
def TCK_MTIME.MEDIATIME : Field := Field.mk (0xb0010) 63 0
/-! TCK_AOCNT (chapter 19) -/
def TCK_AOCNT.COUNT : Field := Field.mk (0xb0018) 47 0
/-! TCK_FRAC (chapter 19) -/
def TCK_FRAC.PHASE : Field := Field.mk (0xb0020) 29 16
def TCK_FRAC.ACC : Field := Field.mk (0xb0020) 8 0
/-! TCK_LASTSLEEP (chapter 19) -/
def TCK_LASTSLEEP.COUNTS : Field := Field.mk (0xb0028) 47 0
/-! PWR_CTRL (chapter 19) -/
def PWR_CTRL.IDLE_TICKS : Field := Field.mk (0xb0300) 23 16
def PWR_CTRL.IDLE_EN : Field := Field.mk (0xb0300) 2 2
def PWR_CTRL.REQ : Field := Field.mk (0xb0300) 1 0
/-! PWR_STAT (chapter 19) -/
def PWR_STAT.STATE : Field := Field.mk (0xb0308) 31 29
def PWR_STAT.PENDING : Field := Field.mk (0xb0308) 28 27
def PWR_STAT.LAST_WAKE : Field := Field.mk (0xb0308) 26 24
def PWR_STAT.GATED : Field := Field.mk (0xb0308) 23 0
/-! PWR_MITTEN (chapter 19) -/
def PWR_MITTEN.PERIOD_S : Field := Field.mk (0xb0310) 31 16
def PWR_MITTEN.SENT_BITS : Field := Field.mk (0xb0310) 15 0
/-! PWR_MITTEN_STAT (chapter 19) -/
def PWR_MITTEN_STAT.WINDOWS : Field := Field.mk (0xb0318) 63 32
def PWR_MITTEN_STAT.SENTINELS : Field := Field.mk (0xb0318) 31 16
def PWR_MITTEN_STAT.WORST : Field := Field.mk (0xb0318) 15 0
/-! PWR_ALARM (chapter 19) -/
def PWR_ALARM.AT : Field := Field.mk (0xb0320) 47 0
/-! GLB_FAULT_STAT (chapter 20) -/
def GLB_FAULT_STAT.FATAL : Field := Field.mk (0x400) 63 63
def GLB_FAULT_STAT.FATAL_CAUSE : Field := Field.mk (0x400) 62 56
def GLB_FAULT_STAT.SAT_SEEN : Field := Field.mk (0x400) 55 55
def GLB_FAULT_STAT.LOCKED_WRITES : Field := Field.mk (0x400) 31 16
def GLB_FAULT_STAT.DATAPATH_FAULTS : Field := Field.mk (0x400) 15 0
/-! GLB_LOG_CFG (chapter 20) -/
def GLB_LOG_CFG.THRESH : Field := Field.mk (0x410) 31 16
def GLB_LOG_CFG.CAP : Field := Field.mk (0x410) 15 0
/-! GLB_LOG_HEAD (chapter 20) -/
def GLB_LOG_HEAD.NEXT : Field := Field.mk (0x418) 63 0
/-! GLB_LOG_ACK (chapter 20) -/
def GLB_LOG_ACK.ACK : Field := Field.mk (0x420) 63 0
/-! GLB_LOG_STAT (chapter 20) -/
def GLB_LOG_STAT.OVERWRITTEN : Field := Field.mk (0x428) 63 32
def GLB_LOG_STAT.WRITTEN : Field := Field.mk (0x428) 31 0
/-! GLB_FAB_CFG (chapter 20) -/
def GLB_FAB_CFG.TIMEOUT : Field := Field.mk (0x430) 15 0
/-! GLB_FAB_STAT (chapter 20) -/
def GLB_FAB_STAT.ERRORS (i : Nat) : Field := Field.mk (0x440 + 8 * i) 63 48
def GLB_FAB_STAT.TIMEOUTS (i : Nat) : Field := Field.mk (0x440 + 8 * i) 47 32
def GLB_FAB_STAT.LATE (i : Nat) : Field := Field.mk (0x440 + 8 * i) 31 0
/-! GLB_WDOG_CFG (chapter 20) -/
def GLB_WDOG_CFG.FORCE : Field := Field.mk (0x460) 31 31
def GLB_WDOG_CFG.PERIOD : Field := Field.mk (0x460) 23 0
/-! GLB_WDOG_STAT (chapter 20) -/
def GLB_WDOG_STAT.PE_HALTED : Field := Field.mk (0x468) 63 63
def GLB_WDOG_STAT.RESETS : Field := Field.mk (0x468) 47 32
def GLB_WDOG_STAT.RECENT : Field := Field.mk (0x468) 31 24
/-! GLB_TEMP_CFG (chapter 20) -/
def GLB_TEMP_CFG.HYST : Field := Field.mk (0x470) 15 8
def GLB_TEMP_CFG.HIGH : Field := Field.mk (0x470) 7 0
/-! GLB_ID (chapter 21) -/
def GLB_ID.SIGNATURE : Field := Field.mk (0x0) 63 32
def GLB_ID.BUILD : Field := Field.mk (0x0) 31 24
def GLB_ID.INSTANCE : Field := Field.mk (0x0) 23 16
def GLB_ID.MAJOR : Field := Field.mk (0x0) 15 8
def GLB_ID.MINOR : Field := Field.mk (0x0) 7 0
/-! GLB_CAPS (chapter 21) -/
def GLB_CAPS.CHANNELS : Field := Field.mk (0x8) 63 56
def GLB_CAPS.QUADS : Field := Field.mk (0x8) 55 48
def GLB_CAPS.HARD : Field := Field.mk (0x8) 47 40
def GLB_CAPS.SOFT : Field := Field.mk (0x8) 39 32
def GLB_CAPS.BANKS : Field := Field.mk (0x8) 31 24
def GLB_CAPS.PORTS : Field := Field.mk (0x8) 23 20
def GLB_CAPS.PARITY : Field := Field.mk (0x8) 19 16
def GLB_CAPS.PAIR : Field := Field.mk (0x8) 15 15
def GLB_CAPS.BG_SCRUB : Field := Field.mk (0x8) 14 14
/-! GLB_STATUS (chapter 21) -/
def GLB_STATUS.STAGE : Field := Field.mk (0x10) 31 28
def GLB_STATUS.READ_READY : Field := Field.mk (0x10) 27 27
def GLB_STATUS.WRITE_READY : Field := Field.mk (0x10) 26 26
def GLB_STATUS.FATAL : Field := Field.mk (0x10) 25 25
def GLB_STATUS.PE_HALTED : Field := Field.mk (0x10) 24 24
def GLB_STATUS.PFAIL : Field := Field.mk (0x10) 23 23
def GLB_STATUS.SEALED : Field := Field.mk (0x10) 22 22
def GLB_STATUS.POWER : Field := Field.mk (0x10) 21 19
def GLB_STATUS.LINER_ON : Field := Field.mk (0x10) 18 18
def GLB_STATUS.LOCKED : Field := Field.mk (0x10) 17 17
def GLB_STATUS.HFN_READY : Field := Field.mk (0x10) 16 16
def GLB_STATUS.PAIR_STATE : Field := Field.mk (0x10) 15 12

end Sys2Proof.Machine.F
end

