-- ==== Sys2Proof/Machine/EventNo.lean ====
section
/-! DEFINITION. The event sources by name (Tables 15-1, 16-9, 18-9, 19-6 and 20-2). -/

namespace Sys2Proof.Machine.Ev

/-- mover-done of Mover channel `c`. -/
def moverDone (c : Nat) : Nat := 256 + c
def readReady : Nat := 288
def writeReady : Nat := 289
def censusHalted : Nat := 290
def powerFailAccepted : Nat := 291
def powerFailSealed : Nat := 292
def powerRestored : Nat := 293
def holdUpFault : Nat := 294
def holdUpLow : Nat := 295
def thermalAlert : Nat := 296
def planOverrun : Nat := 304
/-- rail-droop of rail group `g`. -/
def railDroop (g : Nat) : Nat := 305 + g
def railFault : Nat := 313
def railWeak : Nat := 314
def zqFault : Nat := 320
def dieTimeout : Nat := 321
def dieUnresponsive : Nat := 322
def readUnrecoverable : Nat := 336
def decoderRetired : Nat := 337
def levelTableFault : Nat := 338
def calibrationSuspect : Nat := 339
def patrolPassDone : Nat := 352
def rehomeAbandoned : Nat := 353
def slotLost : Nat := 354
def parityMismatch : Nat := 355
def dieFailed : Nat := 356
def channelFailed : Nat := 357
def retireDeferred : Nat := 358
def rebuildStarted : Nat := 359
def rebuildDone : Nat := 360
def setState : Nat := 361
def linerUncorrectable : Nat := 368
def linerEccRate : Nat := 369
def linerWritebackError : Nat := 370
def moverFabricError : Nat := 371
def queueError : Nat := 384
def faultFatal : Nat := 400
def logThreshold : Nat := 401
def logOverrun : Nat := 402
def fabricError : Nat := 403
def fabricTimeout : Nat := 404
def watchdogReset : Nat := 405
def lockedWrite : Nat := 406
def datapathFault : Nat := 407
def junctionHigh : Nat := 408
def vccqFault : Nat := 409
def counterSaturated : Nat := 410
def cfsOpDone : Nat := 416
def recordEarlyWarning : Nat := 417
def recordInvalid : Nat := 418
def norEraseFault : Nat := 419
def norTimeout : Nat := 420
def cfsHalfwipe : Nat := 421
def cfsIfaceFallback : Nat := 422
def sleepEntered : Nat := 432
def woke : Nat := 433
def mittenSentinel : Nat := 434
def mittenWindowDone : Nat := 435
def timeAnomaly : Nat := 436
def gapAssumed : Nat := 437
def partnerSuspect : Nat := 448
def handoverStart : Nat := 449
def handoverDone : Nat := 450
def fosterWriteReady : Nat := 451
def cuffDown : Nat := 452
def cuffUp : Nat := 453
def pairMismatch : Nat := 454
def giveBackDone : Nat := 455
def partnerDropped : Nat := 456
def eoiFault : Nat := 496

/-- The sources that Table 15-1 does not leave reserved (R516); those of the pair only on DZ3-96P. -/
def assigned (pair : Bool) (src : Nat) : Bool :=
  src ≤ 296 || (304 ≤ src && src ≤ 314) || (320 ≤ src && src ≤ 322) || (336 ≤ src && src ≤ 339) ||
  (352 ≤ src && src ≤ 361) || (368 ≤ src && src ≤ 371) || src == 384 || (400 ≤ src && src ≤ 410) ||
  (416 ≤ src && src ≤ 422) || (432 ≤ src && src ≤ 437) || (pair && 448 ≤ src && src ≤ 456) || src == 496

/-- The level sources of Table 15-1. -/
def level (src : Nat) : Bool := src == 296 || src == 401 || src == 408

end Sys2Proof.Machine.Ev
end

