-- ==== Sys2Proof/Machine/RegTable.lean ====
section
/-! DEFINITION. The register map of one controller unit (chapter 21 and the field tables of the chapters that own each
register): every register's offset, index strides, width, reset value and the masks of its fields by access type. -/

namespace Sys2Proof.Machine

/-- One row of the register map: the registers at `base + stride * i + stride2 * j`, `i < count`, `j < count2`.
`count48` is the range of the first index on DZ3-48 (R32). The masks hold the bits of each access type of Table 0-3. -/
structure RegRow where
  name : String
  base : Nat
  stride : Nat
  count : Nat
  count48 : Nat
  stride2 : Nat
  count2 : Nat
  width : Nat
  reset : Nat
  rw : Nat
  rwl : Nat
  w1c : Nat
  w1p : Nat
  wo : Nat
deriving DecidableEq, Repr

/-- The rows of the TCK_ registers. -/
def regTableTck : List RegRow := [
  RegRow.mk "TCK_PERIOD" 0xb0000 1 1 1 1 1 32 0x25800011 0x3 0x0 0x0 0x0 0x0,
  RegRow.mk "TCK_TICKNO" 0xb0008 1 1 1 1 1 64 0x0 0x0 0x0 0x0 0x0 0x0,
  RegRow.mk "TCK_MTIME" 0xb0010 1 1 1 1 1 64 0x0 0x0 0x0 0x0 0x0 0x0,
  RegRow.mk "TCK_AOCNT" 0xb0018 1 1 1 1 1 64 0x0 0x0 0x0 0x0 0x0 0x0,
  RegRow.mk "TCK_FRAC" 0xb0020 1 1 1 1 1 32 0x0 0x0 0x0 0x0 0x0 0x0,
  RegRow.mk "TCK_LASTSLEEP" 0xb0028 1 1 1 1 1 64 0x0 0x0 0x0 0x0 0x0 0x0]

/-- The rows of the PLN_ registers. -/
def regTablePln : List RegRow := [
  RegRow.mk "PLN_HOLD" 0xd0300 4 3 3 1 1 32 0x0 0x0 0x0 0x0 0x0 0x0,
  RegRow.mk "PLN_OVERRUNS" 0xd0310 1 1 1 1 1 32 0x0 0x0 0x0 0x0 0x0 0x0,
  RegRow.mk "PLN_CTRL" 0xd0000 1 1 1 1 1 32 0x401400 0xff3f02 0x0 0x0 0x0 0x0,
  RegRow.mk "PLN_QUAD_RAIL" 0xd0200 4 3 3 1 1 32 0x0 0x0 0x0 0x0 0x0 0x0,
  RegRow.mk "PLN_RAIL_CFG" 0xd0100 8 8 8 1 1 64 0x0 0xffffffff0000ffff 0x0 0x0 0x0 0x0,
  RegRow.mk "PLN_ADAPT" 0xd0004 1 1 1 1 1 32 0x25801f4 0x3ff03ff 0x0 0x0 0x0 0x0,
  RegRow.mk "PLN_RAIL_STAT" 0xd0180 8 8 8 1 1 64 0x3e8 0x0 0x0 0x0 0x0 0x0]

/-- The rows of the CHU_ registers. -/
def regTableChu : List RegRow := [
  RegRow.mk "CHU_QUAD_CFG" 0x120000 64 24 12 1 1 32 0x190 0x0 0x0 0x0 0x0 0x0,
  RegRow.mk "CHU_CFG" 0x100000 1024 96 48 1 1 32 0x0 0x0 0x0 0x0 0x0 0x0,
  RegRow.mk "CHU_ERR" 0x100200 1024 96 48 1 1 64 0x0 0x0 0x0 0x0 0x0 0x0,
  RegRow.mk "CHU_MSEQ_LAST" 0x100208 1024 96 48 1 1 32 0x0 0x0 0x0 0x0 0x0 0x0,
  RegRow.mk "CHU_TCYC" 0x100010 1024 96 48 4 8 32 0x0 0x0 0x0 0x0 0x0 0x0,
  RegRow.mk "CHU_QUAD_ZQ" 0x120004 64 24 12 1 1 32 0x20200000 0x0 0x0 0x0 0x0 0x0,
  RegRow.mk "CHU_DESKEW_RD" 0x100080 1024 96 48 1 1 64 0x820820820820 0x0 0x0 0x0 0x0 0x0,
  RegRow.mk "CHU_DESKEW_WR" 0x100088 1024 96 48 1 1 64 0x820820820820 0x0 0x0 0x0 0x0 0x0,
  RegRow.mk "CHU_DIE_TRIM" 0x100100 1024 96 48 8 16 64 0x20200000 0x0 0x0 0x0 0x0 0x0,
  RegRow.mk "CHU_TRAIN_CTRL" 0x100040 1024 96 48 1 1 32 0x81400 0xffff00 0x0 0x0 0x2 0x0,
  RegRow.mk "CHU_TRAIN_STAT" 0x100044 1024 96 48 1 1 32 0x0 0x0 0x0 0x0 0x0 0x0,
  RegRow.mk "CHU_TRAIN_TICK" 0x100048 1024 96 48 1 1 64 0x0 0x0 0x0 0x0 0x0 0x0]

/-- The rows of the PWR_ registers. -/
def regTablePwr : List RegRow := [
  RegRow.mk "PWR_BOOT_CTRL" 0xb0100 1 1 1 1 1 32 0x0 0x0 0xff06 0x0 0x0 0x0,
  RegRow.mk "PWR_HOLDUP" 0xb0110 1 1 1 1 1 64 0x0 0x0 0x0 0x0 0x0 0x0,
  RegRow.mk "PWR_HOLDUP_E" 0xb0118 1 1 1 1 1 64 0x0 0x0 0x0 0x0 0x0 0x0,
  RegRow.mk "PWR_CENSUS" 0xb0108 1 1 1 1 1 32 0x0 0x0 0x0 0x0 0x0 0x0,
  RegRow.mk "PWR_CENSUS_TIME" 0xb010c 1 1 1 1 1 32 0x0 0x0 0x0 0x0 0x0 0x0,
  RegRow.mk "PWR_PFAIL_CFG" 0xb0200 1 1 1 1 1 32 0x3200 0xff00 0x0 0x0 0x2 0x0,
  RegRow.mk "PWR_PFAIL_STAT" 0xb0208 1 1 1 1 1 64 0x0 0x0 0x0 0x0 0x0 0x0,
  RegRow.mk "PWR_RECOVERY" 0xb0210 1 1 1 1 1 64 0x0 0x0 0x0 0x0 0x0 0x0,
  RegRow.mk "PWR_LAST_PFAIL" 0xb0218 1 1 1 1 1 32 0x0 0x0 0x0 0x0 0x0 0x0,
  RegRow.mk "PWR_CTRL" 0xb0300 1 1 1 1 1 32 0x100004 0xff0007 0x0 0x0 0x0 0x0,
  RegRow.mk "PWR_STAT" 0xb0308 1 1 1 1 1 32 0x0 0x0 0x0 0x0 0x0 0x0,
  RegRow.mk "PWR_MITTEN" 0xb0310 1 1 1 1 1 32 0x2580060 0xffffffff 0x0 0x0 0x0 0x0,
  RegRow.mk "PWR_MITTEN_STAT" 0xb0318 1 1 1 1 1 64 0x0 0x0 0x0 0x0 0x0 0x0,
  RegRow.mk "PWR_ALARM" 0xb0320 1 1 1 1 1 64 0x0 0xffffffffffff 0x0 0x0 0x0 0x0]

/-- The rows of the WQ_ registers. -/
def regTableWq : List RegRow := [
  RegRow.mk "WQ_SQ_BASE" 0x40000 64 1024 1024 1 1 64 0x0 0xffffffffffffffc0 0x0 0x0 0x0 0x0,
  RegRow.mk "WQ_CQ_BASE" 0x40008 64 1024 1024 1 1 64 0x0 0xffffffffffffffc0 0x0 0x0 0x0 0x0,
  RegRow.mk "WQ_IDX_ADDR" 0x40010 64 1024 1024 1 1 64 0x0 0xfffffffffffffff8 0x0 0x0 0x0 0x0,
  RegRow.mk "WQ_CFG" 0x40018 64 1024 1024 1 1 32 0x10000 0xffff03ff 0x0 0x0 0x0 0x0,
  RegRow.mk "WQ_POLL" 0x4001c 64 1024 1024 1 1 32 0x1 0xfff 0x0 0x0 0x0 0x0,
  RegRow.mk "WQ_ARB" 0x40020 64 1024 1024 1 1 32 0x100 0x803fff00 0x0 0x0 0x0 0x0,
  RegRow.mk "WQ_READPOL" 0x40024 64 1024 1024 1 1 32 0x400006 0xffff0007 0x0 0x0 0x0 0x0,
  RegRow.mk "WQ_CTRL" 0x40028 64 1024 1024 1 1 32 0x0 0x4 0x0 0x0 0x3 0x0,
  RegRow.mk "WQ_STATUS" 0x4002c 64 1024 1024 1 1 32 0x0 0x0 0x0 0x0 0x0 0x0,
  RegRow.mk "WQ_OUT" 0x40030 64 1024 1024 1 1 32 0x0 0x0 0x0 0x0 0x0 0x0,
  RegRow.mk "WQ_MAXOUT" 0x40034 64 1024 1024 1 1 32 0x0 0xffff 0x0 0x0 0x0 0x0]

/-- The rows of the GNT_ registers. -/
def regTableGnt : List RegRow := [
  RegRow.mk "GNT_LOCK" 0x10000 1 1 1 1 1 32 0x0 0x0 0x1 0x0 0x0 0x0,
  RegRow.mk "GNT_SETMASK" 0x10400 32 16 16 8 4 64 0x0 0x0 0xffffffffffffffff 0x0 0x0 0x0,
  RegRow.mk "GNT_WIN_BASE" 0x11000 16 64 64 1 1 64 0x0 0x0 0xfffffffffffff001 0x0 0x0 0x0,
  RegRow.mk "GNT_WIN_LIMIT" 0x11008 16 64 64 1 1 64 0x0 0x0 0xfffffffffffff003 0x0 0x0 0x0,
  RegRow.mk "GNT_QWIN" 0x12000 16 1024 1024 1 1 64 0x0 0x0 0xffffffffffffffff 0x0 0x0 0x0,
  RegRow.mk "GNT_QATTR" 0x12008 16 1024 1024 1 1 64 0xe000 0x0 0xffff00f0e300 0x0 0x0 0x0]

/-- The rows of the PTY_ registers. -/
def regTablePty : List RegRow := [
  RegRow.mk "PTY_PIN_BASE" 0xd0800 1 1 1 1 1 64 0x0 0x0 0xfffffffffffff000 0x0 0x0 0x0,
  RegRow.mk "PTY_PIN_SIZE" 0xd0808 1 1 1 1 1 64 0x0 0x0 0xffffffff 0x0 0x0 0x0,
  RegRow.mk "PTY_PIN_STAT" 0xd0810 1 1 1 1 1 64 0x0 0x0 0x0 0x0 0x0 0x0,
  RegRow.mk "PTY_ROWSTORE" 0xd0818 1 1 1 1 1 64 0x0 0x0 0x0 0x0 0x0 0x0,
  RegRow.mk "PTY_OPEN" 0xd0820 1 1 1 1 1 32 0x0 0x0 0x0 0x0 0x0 0x0,
  RegRow.mk "PTY_STAMP" 0xd0828 1 1 1 1 1 64 0x0 0x0 0x0 0x0 0x0 0x0,
  RegRow.mk "PTY_WFAIL" 0xd0830 1 1 1 1 1 64 0x0 0x0 0x0 0x0 0x0 0x0]

/-- The rows of the DEC_ registers. -/
def regTableDec : List RegRow := [
  RegRow.mk "DEC_CFG" 0xd0400 1 1 1 1 1 32 0x2814280c 0xffffffff 0x0 0x0 0x0 0x0,
  RegRow.mk "DEC_POOL" 0xd0408 1 1 1 1 1 32 0x300c0000 0x0 0x0 0x0 0x0 0x0,
  RegRow.mk "DEC_RETIRED" 0xd0410 1 1 1 1 1 64 0x0 0x0 0x0 0x0 0x0 0x0,
  RegRow.mk "DEC_WARN" 0xd0404 1 1 1 1 1 32 0x20078 0x7ffff 0x0 0x0 0x0 0x0,
  RegRow.mk "DEC_TEST" 0xd040c 1 1 1 1 1 32 0x400000 0xffffff00 0x0 0x0 0x0 0x0]

/-- The rows of the CAL_ registers. -/
def regTableCal : List RegRow := [
  RegRow.mk "CAL_CTRL" 0xe0000 1 1 1 1 1 32 0x7082814 0x8f0fffff 0x0 0x0 0x0 0x0,
  RegRow.mk "CAL_STAT" 0xe0008 1 1 1 1 1 64 0x0 0x0 0x0 0x0 0x0 0x0]

/-- The rows of the PTL_ registers. -/
def regTablePtl : List RegRow := [
  RegRow.mk "PTL_CTRL" 0xe0100 1 1 1 1 1 32 0x73420 0xe0fffff0 0x0 0x0 0x0 0x0,
  RegRow.mk "PTL_STAT" 0xe0108 1 1 1 1 1 64 0x0 0x0 0x0 0x0 0x0 0x0,
  RegRow.mk "PTL_REBUILD" 0xe0140 8 8 8 1 1 64 0x0 0x0 0x0 0x0 0x0 0x0]

/-- The rows of the LNR_ registers. -/
def regTableLnr : List RegRow := [
  RegRow.mk "LNR_SP_WAYS" 0x80004 1 1 1 1 1 32 0x18 0x0 0x0 0x0 0x0 0x0,
  RegRow.mk "LNR_SP_AREA" 0x80300 8 8 8 1 1 64 0x0 0x0 0x0 0x0 0x0 0x0,
  RegRow.mk "LNR_REGION_BASE" 0x80100 16 16 16 1 1 64 0x0 0x0 0xfffffffffffff007 0x0 0x0 0x0,
  RegRow.mk "LNR_REGION_LIMIT" 0x80108 16 16 16 1 1 64 0x0 0x0 0xfffffffffffff000 0x0 0x0 0x0,
  RegRow.mk "LNR_MAINT_BASE" 0x80200 1 1 1 1 1 64 0x0 0xffffffffffffff00 0x0 0x0 0x0 0x0,
  RegRow.mk "LNR_MAINT_LEN" 0x80208 1 1 1 1 1 64 0x0 0xffffffff 0x0 0x0 0x0 0x0,
  RegRow.mk "LNR_MAINT_OP" 0x80210 1 1 1 1 1 32 0x0 0x0 0x0 0x0 0x0 0xf,
  RegRow.mk "LNR_MAINT_STAT" 0x80218 1 1 1 1 1 64 0x0 0x0 0x0 0x0 0x0 0x0,
  RegRow.mk "LNR_CTRL" 0x80000 1 1 1 1 1 32 0x40000403 0xf03 0x0 0x0 0x0 0x0,
  RegRow.mk "LNR_ECC_CFG" 0x80400 1 1 1 1 1 32 0x10048400 0xff0f8fff 0x0 0x0 0x0 0x0,
  RegRow.mk "LNR_ECC_CNT" 0x80408 1 1 1 1 1 64 0x0 0x0 0x0 0x0 0x0 0x0,
  RegRow.mk "LNR_ECC_CNT2" 0x80410 1 1 1 1 1 64 0x0 0x0 0x0 0x0 0x0 0x0,
  RegRow.mk "LNR_ECC_LAST" 0x80418 1 1 1 1 1 64 0x0 0x0 0x0 0x8000000000000000 0x0 0x0,
  RegRow.mk "LNR_BUCKET" 0x80420 8 4 4 1 1 64 0x0 0x0 0x0 0x0 0x0 0x0,
  RegRow.mk "LNR_FLIP_DATA" 0x80500 1 1 1 1 1 64 0x0 0xffffffffffffffff 0x0 0x0 0x0 0x0,
  RegRow.mk "LNR_FLIP_CTRL" 0x80508 1 1 1 1 1 32 0x0 0xff1f00 0x80000000 0x0 0x1 0x0]

/-- The rows of the MVR_ registers. -/
def regTableMvr : List RegRow := [
  RegRow.mk "MVR_SRC" 0x90000 128 32 32 1 1 64 0x0 0xffffffffffffffff 0x0 0x0 0x0 0x0,
  RegRow.mk "MVR_DST" 0x90008 128 32 32 1 1 64 0x0 0xffffffffffffffff 0x0 0x0 0x0 0x0,
  RegRow.mk "MVR_CNT" 0x90010 128 32 32 1 1 64 0x0 0xffffffffffffffff 0x0 0x0 0x0 0x0,
  RegRow.mk "MVR_SSTEP01" 0x90018 128 32 32 1 1 64 0x0 0xffffffffffffffff 0x0 0x0 0x0 0x0,
  RegRow.mk "MVR_DSTEP01" 0x90020 128 32 32 1 1 64 0x0 0xffffffffffffffff 0x0 0x0 0x0 0x0,
  RegRow.mk "MVR_STEP2" 0x90028 128 32 32 1 1 64 0x0 0xffffffffffffffff 0x0 0x0 0x0 0x0,
  RegRow.mk "MVR_MODE" 0x90030 128 32 32 1 1 32 0x1000100 0xfff1f3f 0x0 0x0 0x0 0x0,
  RegRow.mk "MVR_STAT" 0x90034 128 32 32 1 1 32 0x0 0x0 0x0 0x0 0x0 0x0,
  RegRow.mk "MVR_CREC" 0x90038 128 32 32 1 1 64 0x0 0xfffffffffffffff1 0x0 0x0 0x0 0x0,
  RegRow.mk "MVR_MAP" 0x90040 128 32 32 1 1 64 0xfedcba9876543210 0xffffffffffffffff 0x0 0x0 0x0 0x0,
  RegRow.mk "MVR_RESID" 0x90048 128 32 32 1 1 64 0x0 0x0 0x0 0x0 0x0 0x0,
  RegRow.mk "MVR_DONE" 0x90050 128 32 32 1 1 64 0x0 0x0 0x0 0x0 0x0 0x0,
  RegRow.mk "MVR_GO" 0x91000 1 1 1 1 1 32 0x0 0x0 0x0 0x0 0xffffffff 0x0,
  RegRow.mk "MVR_ABORT" 0x91004 1 1 1 1 1 32 0x0 0x0 0x0 0x0 0xffffffff 0x0,
  RegRow.mk "MVR_GLOBAL" 0x91008 1 1 1 1 1 32 0x0 0x0 0x0 0x0 0x1 0x0,
  RegRow.mk "MVR_BUF" 0x9100c 1 1 1 1 1 32 0x40 0x0 0x0 0x0 0x0 0x0]

/-- The rows of the EVC_ registers. -/
def regTableEvc : List RegRow := [
  RegRow.mk "EVC_SRC_CFG" 0x20000 4 512 512 1 1 32 0xf 0x80000f0f 0x0 0x0 0x0 0x0,
  RegRow.mk "EVC_PEND" 0x20800 8 8 8 1 1 64 0x0 0x0 0x0 0xffffffffffffffff 0x0 0x0,
  RegRow.mk "EVC_INSVC" 0x20840 8 8 8 1 1 64 0x0 0x0 0x0 0x0 0x0 0x0,
  RegRow.mk "EVC_SET" 0x20880 1 1 1 1 1 32 0x0 0x0 0x0 0x0 0x0 0x1ff,
  RegRow.mk "EVC_ACK" 0x21000 64 16 16 1 1 32 0x3ff 0x0 0x0 0x0 0x0 0x0,
  RegRow.mk "EVC_EOI" 0x21004 64 16 16 1 1 32 0x0 0x0 0x0 0x0 0x0 0x1ff,
  RegRow.mk "EVC_TGT_STAT" 0x21008 64 16 16 1 1 32 0x7fc00010 0x0 0x0 0x80000000 0x0 0x0,
  RegRow.mk "EVC_TGT_STACK" 0x21010 64 16 16 1 1 64 0xffffffffffffffff 0x0 0x0 0x0 0x0 0x0,
  RegRow.mk "EVC_GRP_CFG" 0x20900 4 32 32 1 1 32 0x0 0x3fff 0x0 0x0 0x0 0x0,
  RegRow.mk "EVC_FILTER" 0x22000 1 1 1 1 1 32 0x32 0xff 0x0 0x0 0x0 0x0,
  RegRow.mk "EVC_HOST_MOD" 0x22010 1 1 1 1 1 32 0x0 0x3fff 0x0 0x0 0x0 0x0,
  RegRow.mk "EVC_HINTX_PEND" 0x22100 8 16 16 1 1 64 0x0 0x0 0x0 0xffffffffffffffff 0x0 0x0]

/-- The rows of the CFS_ registers. -/
def regTableCfs : List RegRow := [
  RegRow.mk "CFS_DEV" 0xa0000 1 1 1 1 1 64 0x0 0x0 0x0 0x0 0x0 0x0,
  RegRow.mk "CFS_CLK" 0xa0008 1 1 1 1 1 32 0x4300800 0xfff1f01 0x0 0x0 0x0 0x0,
  RegRow.mk "CFS_PROT_LEVEL" 0xa0010 1 1 1 1 1 32 0x0 0x0 0xff010300 0x0 0x0 0x0,
  RegRow.mk "CFS_CMD" 0xa0020 1 1 1 1 1 32 0x0 0x100 0x0 0x0 0x0 0xf,
  RegRow.mk "CFS_ADDR" 0xa0028 1 1 1 1 1 64 0x0 0xfffffffffffffff0 0x0 0x0 0x0 0x0,
  RegRow.mk "CFS_ARG" 0xa0030 1 1 1 1 1 64 0x0 0xffffffffffffffff 0x0 0x0 0x0 0x0,
  RegRow.mk "CFS_STAT" 0xa0038 1 1 1 1 1 64 0x0 0x0 0x0 0x0 0x0 0x0,
  RegRow.mk "CFS_BRIM" 0xa0040 1 1 1 1 1 64 0x0 0x0 0x0 0x0 0x0 0x0]

/-- The rows of the HF_ registers. -/
def regTableHf : List RegRow := [
  RegRow.mk "HF_STATUS" 0x2001000 1 1 1 1 1 32 0x40000000 0x0 0x0 0x0 0x0 0x0,
  RegRow.mk "HF_IDENT" 0x2001008 1 1 1 1 1 64 0x0 0x0 0x0 0x0 0x0 0x0,
  RegRow.mk "HF_QCTL" 0x2010000 1 1 1 1 1 32 0x0 0xffff 0x0 0x0 0x10000 0x0,
  RegRow.mk "HF_QPARAM" 0x2010008 1 1 1 1 1 64 0x0 0xffffffffffffffff 0x0 0x0 0x0 0x0]

/-- The rows of the GLB_ registers. -/
def regTableGlb : List RegRow := [
  RegRow.mk "GLB_HFN_STATUS" 0x200 1 1 1 1 1 32 0xa0000000 0x0 0x0 0x0 0x0 0x0,
  RegRow.mk "GLB_FAULT_STAT" 0x400 1 1 1 1 1 64 0x0 0x0 0x0 0x80000000000000 0x0 0x0,
  RegRow.mk "GLB_LOG_CFG" 0x410 1 1 1 1 1 32 0x4000000 0xffff0000 0x0 0x0 0x0 0x0,
  RegRow.mk "GLB_LOG_HEAD" 0x418 1 1 1 1 1 64 0x1 0x0 0x0 0x0 0x0 0x0,
  RegRow.mk "GLB_LOG_ACK" 0x420 1 1 1 1 1 64 0x0 0xffffffffffffffff 0x0 0x0 0x0 0x0,
  RegRow.mk "GLB_LOG_STAT" 0x428 1 1 1 1 1 64 0x0 0x0 0x0 0x0 0x0 0x0,
  RegRow.mk "GLB_FAB_CFG" 0x430 1 1 1 1 1 32 0x40 0xffff 0x0 0x0 0x0 0x0,
  RegRow.mk "GLB_FAB_STAT" 0x440 8 4 4 1 1 64 0x0 0x0 0x0 0x0 0x0 0x0,
  RegRow.mk "GLB_WDOG_CFG" 0x460 1 1 1 1 1 32 0x4000 0xffffff 0x0 0x0 0x80000000 0x0,
  RegRow.mk "GLB_WDOG_STAT" 0x468 1 1 1 1 1 64 0x0 0x0 0x0 0x0 0x0 0x0,
  RegRow.mk "GLB_TEMP_CFG" 0x470 1 1 1 1 1 32 0x569 0xffff 0x0 0x0 0x0 0x0,
  RegRow.mk "GLB_ID" 0x0 1 1 1 1 1 64 0x0 0x0 0x0 0x0 0x0 0x0,
  RegRow.mk "GLB_CAPS" 0x8 1 1 1 1 1 64 0x0 0x0 0x0 0x0 0x0 0x0,
  RegRow.mk "GLB_STATUS" 0x10 1 1 1 1 1 32 0x40000 0x0 0x0 0x0 0x0 0x0]

/-- The rows of the PAIR_ registers. -/
def regTablePair : List RegRow := [
  RegRow.mk "PAIR_CTRL" 0x400000 1 1 1 1 1 32 0x0 0xff00 0x0 0x0 0x3 0x0,
  RegRow.mk "PAIR_STAT" 0x400008 1 1 1 1 1 64 0x0 0x0 0x0 0x0 0x0 0x0,
  RegRow.mk "PAIR_HOME" 0x400010 1 1 1 1 1 64 0x0 0x0 0x0 0x0 0x0 0x0,
  RegRow.mk "PAIR_PEER" 0x400018 1 1 1 1 1 64 0x0 0x0 0x0 0x0 0x0 0x0,
  RegRow.mk "PAIR_CUFF" 0x400020 1 1 1 1 1 64 0x0 0x0 0x0 0x0 0x0 0x0,
  RegRow.mk "PAIR_HO_TIME" 0x400028 1 1 1 1 1 64 0x0 0x0 0x0 0x0 0x0 0x0,
  RegRow.mk "PAIR_FOSTERQ" 0x400100 8 16 16 1 1 64 0x0 0x0 0xffffffffffffffff 0x0 0x0 0x0]

/-- The whole register map (Tables 21-2 to 21-14). -/
def regTable : List RegRow :=
  regTableTck ++ regTablePln ++ regTableChu ++ regTablePwr ++ regTableWq ++ regTableGnt ++ regTablePty ++ regTableDec ++ regTableCal ++ regTablePtl ++ regTableLnr ++ regTableMvr ++ regTableEvc ++ regTableCfs ++ regTableHf ++ regTableGlb ++ regTablePair

/-- Does this row hold a register at `off` on this build? (R32: the index range of channels and quads by build.) -/
def rowHas (b : Build) (r : RegRow) (off : Nat) : Bool :=
  r.base ≤ off &&
    let d := off - r.base
    let i := d / r.stride
    let j := (d - r.stride * i) / r.stride2
    (i < (if b = .dz48 then r.count48 else r.count)) && (j < r.count2) && (d == r.stride * i + r.stride2 * j)

/-- The row of the register whose offset is `off`, if a table of chapter 21 assigns one (R644). -/
def regRow (b : Build) (off : Nat) : Option RegRow := regTable.find? (fun r => rowHas b r off)

/-- The reset value of the register at `off` (R645), with the variants by build and side that chapter 21 gives. -/
def regReset (b : Build) (right : Bool) (off : Nat) : Word :=
  if off == 0 then BitVec.ofNat 64 (0x445A000300000300 + b.code * 2 ^ 24 + (if right then 2 ^ 16 else 0))
  else if off == 8 then
    (match b with
     | .dz48 => 0x300C180608220000#64
     | .dz96 => 0x6018300C10444000#64
     | .dz96P => 0x6018300C1044C000#64)
  else if off == 0xD0408 then (if b = .dz48 then 0x18060000#64 else 0x300C0000#64)
  else if off == 0x80400 then (if b = .dz48 then 0x10000400#64 else 0x10048400#64)
  else if off == 0x400010 then
    (if b = .dz96P then (if right then 0xFFFFFF000000#64 else 0xFFFFFF#64) else 0#64)
  else if 0x20000 ≤ off && off < 0x20800 then
    (let src := (off - 0x20000) / 4
     if !Ev.assigned b.pair src then 0#64 else if Ev.level src then 0x4000000F#64 else 0xF#64)
  else if 0x20900 ≤ off && off < 0x20940 then 0x8000#64
  else match regRow b off with
    | some r => BitVec.ofNat 64 r.reset
    | none => 0#64

end Sys2Proof.Machine
end

