-- ==== Sys2Proof/Machine/Store.lean ====
section
/-! DEFINITION. Sparse data by key, in one canonical form: keys strictly rising, and no entry equal to what an unlisted key
reads as. Registers, memories and every numbered object of the block are held in stores. -/

namespace Sys2Proof.Machine

/-- A sparse map from numbers: key and value pairs in canonical form. -/
abbrev Store (α : Type) := List (Nat × α)

/-- What key `k` holds; `d` gives what an unlisted key reads as. -/
def storeGet {α : Type} (d : Nat → α) : Store α → Nat → α
  | [], k => d k
  | (k', v) :: t, k => if k = k' then v else storeGet d t k

/-- Puts an entry in its place by key. -/
def storeIns {α : Type} (k : Nat) (v : α) : Store α → Store α
  | [] => [(k, v)]
  | (k', v') :: t =>
    if k < k' then (k, v) :: (k', v') :: t
    else if k = k' then (k, v) :: t
    else (k', v') :: storeIns k v t

/-- Removes every entry of a key. -/
def storeDel {α : Type} (k : Nat) : Store α → Store α
  | [] => []
  | (k', v') :: t => if k = k' then storeDel k t else (k', v') :: storeDel k t

/-- Makes key `k` hold `v`, keeping the canonical form: the value an unlisted key reads as is not listed. -/
def storePut {α : Type} [DecidableEq α] (d : Nat → α) (m : Store α) (k : Nat) (v : α) : Store α :=
  if v = d k then storeDel k m else storeIns k v m

/-- Every key of the list is above `lo`, and they rise strictly. -/
def storeSorted {α : Type} : Option Nat → Store α → Bool
  | _, [] => true
  | lo, (k, _) :: t => (match lo with | none => true | some l => l < k) && storeSorted (some k) t

/-- The canonical form of a store. -/
def storeWf {α : Type} [DecidableEq α] (d : Nat → α) (m : Store α) : Bool :=
  storeSorted none m && m.all (fun e => decide (e.2 ≠ d e.1))

/-- The keys listed, in rising order. -/
def storeKeys {α : Type} (m : Store α) : List Nat := m.map (·.1)

end Sys2Proof.Machine
end

