-- ==== Sys2Proof/Machine/State.lean ====
section
/-! DEFINITION. The state of one controller unit as plain data: every register, queue, context, table, buffer, counter, mode and pin
the spec gives it, the commands that wait, and the state after reset. -/

namespace Sys2Proof.Machine

/-! ## Register access -/

/-- What R13 holds for one requester limited to 32-bit accesses: the shadow of a 64-bit register's high half after a read of
its low half, and a low half written but not yet in effect. The first number of each pair is the register's key. -/
structure Split where
  shadow : Option (Nat × Nat)
  held : Option (Nat × Nat)
deriving DecidableEq, Repr

/-! ## Event concentrator and event log (chapters 15 and 20) -/

/-- Moderation of one completion source or host vector (R525): raises since the last acknowledge, the tick of the first of
them, and whether the source has been released. -/
structure Moderation where
  count : Nat
  first : Nat
  released : Bool
deriving DecidableEq, Repr

/-- One entry of a target's running-priority stack: source and priority (R518). -/
structure StackEntry where
  src : Nat
  prio : Nat
deriving DecidableEq, Repr

/-- The event concentrator beside its registers. `nests` holds each target's entries, top first; `ackTick` the tick of the
last acknowledge of group `g` by target `t` under key `16 * g + t` while its hold-off lasts (R527); `junction` the condition of
junction-high with its hysteresis (R641). -/
structure Evc where
  mods : Store Moderation
  hostMods : Store Moderation
  nests : Store (List StackEntry)
  ackTick : Store (Option Nat)
  junction : Bool
deriving DecidableEq, Repr

/-- One 64-byte entry of the event log (Table 20-3), bytes 28 to 59 as `payload`. `lseq` 0: never written. -/
structure LogEntry where
  lseq : Nat
  mtime : Nat
  tickno : Nat
  type : Nat
  cls : Nat
  payload : List Byte
deriving DecidableEq, Repr

/-! ## Fabric requests (chapter 20) -/

/-- The access a fabric request serves (Table 20-5): the index word of a queue, `n` ring entries from a queue's fetch
position, fragment table `k` of a context, tile `i` of a context read or written, a context's status array or result buffer, a
completion post, a Liner line fill or write-back, a line read without allocation, a merge buffer entry written, a group of a Mover channel, a
completion record of a channel, a buffer of the configuration store, a pin-region read of the brown-out sequence, a tile written to buffer
`k` of the fabric pool, the member list of a VDIE_CTL entry. -/
inductive FabWho where
  | poll (q : Nat)
  | fetch (q n : Nat)
  | table (ctx k : Nat)
  | tileIn (ctx i : Nat)
  | tileOut (ctx i : Nat)
  | statusArray (ctx : Nat)
  | result (ctx : Nat)
  | post (q : Nat)
  | fill (line : Nat)
  | writeback (line : Nat)
  | pass (line : Nat)
  | merge (line : Nat)
  | pin (k : Nat)
  | mover (ch : Nat)
  | moverRecord (ch : Nat)
  | cfsBuffer
  | pinRead (slot : Nat)
  | members (ctx : Nat)
deriving DecidableEq, Repr

/-- The port and tag a request was issued on, the tick of its issue and the timeout that then applied (R629). -/
structure FabTag where
  port : Nat
  tag : Nat
  tick : Nat
  limit : Nat
deriving DecidableEq, Repr

/-- A fabric request of the block, waiting or issued. A `cached` request is served by the Liner line by line: `lines` are still to be served,
`got` holds the lines read, `data` the bytes to write. -/
structure FabReq where
  who : FabWho
  write : Bool
  addr : Nat
  len : Nat
  issued : Option FabTag
  cached : Bool
  lines : List Nat
  got : List (Nat × List Byte)
  data : List Byte
deriving DecidableEq, Repr

/-! ## Work queues and commands (chapter 7) -/

/-- A queue pair beside its registers: the indices last polled, the fetch position, the expected phases, the arbitration
credit, the settings latched at the last tick boundary (R244), the counters of Table 7-13, copies of entries by position, the
abort status of a shutdown under way (0: none), whether an entry met census stage 15 (R237), and the cuff message the next acceptance waits for (R587). -/
structure Queue where
  piSeen : Nat
  ciSeen : Nat
  fetchPos : Nat
  sqPhase : Bool
  cqPhase : Bool
  credit : Nat
  poll : Word
  arb : Word
  fetched : Nat
  completed : Nat
  refetches : Nat
  refused : Nat
  fabricFails : Nat
  late : Nat
  fullTicks : Nat
  copies : List (Nat × BitVec 512)
  abort : Nat
  discard : Bool
  shutTick : Nat
  halted : Bool
  idxMsg : Option Nat
deriving DecidableEq, Repr

/-- Where a command context stands between fetch and the end of its completion (R254). -/
inductive CtxState where
  | free
  | tables     -- the fragment chain is being fetched
  | waiting    -- checked; waits for admission
  | admitted   -- admitted; its opcode has not started
  | running    -- its opcode's work is under way
  | ready      -- its completion is ready (R270)
deriving DecidableEq, Repr

/-- One data fragment of an entry, in table order (R264). -/
structure Frag where
  addr : Nat
  len : Nat
deriving DecidableEq, Repr

/-- One tile of a READ, WRITE or COPY: its BOI, its status once known, the ladder step and corrected bits it ended with,
and its bytes where the block holds them. `place` is the number of its buffer in the pool. `src` is how it resolved: 0 on the media, 1 placed, 2 void, 3 unwritten, 4 lost. -/
structure TileJob where
  boi : Nat
  src : Nat
  status : Option Nat
  step : Nat
  bits : Nat
  data : List Byte
  place : Nat
deriving DecidableEq, Repr

/-- One command context (R254). `seq` is the order of fetch, `admSeq` the order of admission (R267), `readySeq` the order in
which completions became ready (R271). `bufs` is the pool its tiles are held in (0 none, 1 fabric, 2 scratchpad), `fromRes` how many of them are
of its band's reservation, `taken` whether intake has ended, `ended` whether placement has, `aborting` the abort status on its
way, `openMsg` and `doneMsg` the cuff messages its service and its completion wait for (R587); `noted` whether it raised
read-unrecoverable, `checks` the parity reads a SCRUB_RANGE waits for, `groups` and `badGroups` the first BOIs of the groups it
checked and found wrong, `queued` 1 more than its reason of Table 11-8, `fields` the result page it gathers. -/
structure Ctx where
  state : CtxState
  queue : Nat
  seq : Nat
  entry : BitVec 512
  level : Nat
  admTick : Nat
  admSeq : Nat
  ceil : Nat
  deadline : Nat
  frags : List Frag
  nTables : Nat
  nEntries : Nat
  nextTable : Option (Nat × Nat)
  tiles : List TileJob
  placed : Nat
  firstBoi : Nat
  firstStamp : Nat
  voided : Bool
  bufs : Nat
  fromRes : Nat
  taken : Bool
  ended : Bool
  aborting : Nat
  doneMsg : Option Nat
  openMsg : Option Nat
  waitsFor : List Nat
  status : Nat
  detail : Nat
  r0 : Nat
  r1 : Nat
  r2 : Nat
  late : Bool
  readySeq : Nat
  noted : Bool
  checks : Nat
  groups : List Nat
  badGroups : List Nat
  queued : Nat
  fields : List (Nat × Nat × Nat)
deriving DecidableEq, Repr

/-! ## Power states, time, watchdog and telemetry (chapters 19 and 20) -/

/-- Power and reset of the unit: without power, with BLKRST_n asserted, or running. -/
inductive Phase where
  | off
  | held
  | on
deriving DecidableEq, Repr

/-- A sentinel of Mitten sampling (R617). -/
structure Sentinel where
  set : Nat
  band : Nat
  boi : Nat
deriving DecidableEq, Repr

/-- A register write that arrived while the unit slept and is served after wake (Table 19-3). -/
structure HeldWrite where
  win : Nat
  requester : Nat
  offset : Nat
  width : Nat
  value : Word
deriving DecidableEq, Repr

/-- Sleep and wake beside the registers of chapter 19. `closing` holds from the entry to sleep until its wake: nothing is admitted (R614). `reqPeriod` is the period in seconds of a pending Mitten request,
`firstAo` the always-on count at sleep entry, `entryAo` where the timebase stopped last, `period` and `nextWindow` the sampling in force, `left` the sentinel decodes still
due in the open window, `wake` the cause of a wake under way (0: none), `quiet` each quad's ticks without work (R612). -/
structure Sleep where
  closing : Bool
  reqPeriod : Nat
  firstAo : Nat
  entryAo : Nat
  period : Nat
  nextWindow : Nat
  sentinels : List Sentinel
  left : Nat
  wake : Nat
  quiet : Store Nat
  held : List HeldWrite
deriving DecidableEq, Repr

/-- The policy-engine watchdog (R635 to R637): the tick of the last step boundary, the activity of that step (0: none yet),
the ticks of the resets within the window of R637, and the MediaTime from which a reset waits for a NOR operation (R564). -/
structure Wdog where
  lastStep : Nat
  activity : Nat
  resets : List Nat
  wait : Option Nat
deriving DecidableEq, Repr

/-- The last samples of the telemetry unit (Table 20-8). -/
structure Telemetry where
  coreTemp : Int
  maxTemp : Option Int
  vccqMv : Store Nat
  quadTemp : Store Int
  bankMv : Nat
  samples : Nat
deriving DecidableEq, Repr

/-! ## The direct host function (chapter 17) -/

/-- One entry of the MSI-X table (R651). -/
structure MsixEntry where
  addr : Nat
  data : Nat
  mask : Bool
deriving DecidableEq, Repr

/-- The kinds of function reset (Table 17-5). -/
inductive FnReset where
  | flr
  | hot
  | linkDown
deriving DecidableEq, Repr

/-- The direct host function beside its registers: MSI-X and INTx enables of configuration space, the MSI-X table and PBA,
the function resets under way (R577), and the query window's content as (offset, bytes, value). -/
structure HostFn where
  msixEn : Bool
  fnMask : Bool
  intxDis : Bool
  table : Store MsixEntry
  pba : Store Bool
  resets : List FnReset
  window : List (Nat × Nat × Nat)
deriving DecidableEq, Repr

/-! ## Geometry (chapter 2) -/

/-- A vdie map entry (Table 2-1): STATE 0 NORMAL, 1 REBUILDING, 2 FAILED. -/
structure Vdie where
  mapped : Bool
  state : Nat
  family : Nat
  member : Bool
  journal : Bool
  pos : Nat
  set : Nat
  oldPdie : Nat
  pdie : Nat
deriving DecidableEq, Repr

/-- The condition of a pdie (R52), with `absent` where no die has been found. -/
inductive PdieCond where
  | absent
  | mapped
  | spareFree
  | spareClaimed
  | retired
deriving DecidableEq, Repr

/-- A physical die: its condition, the volume and LUN address recorded for its slot (R45), its unique ID and family, its bad
block indices (R66), the erase counts of its blocks (R415) and its shelter block with its next free page (R448). `checked` lists the blocks
erased or found erased since the census, `sigFails` those whose erase signature failed once (R455). -/
structure Pdie where
  cond : PdieCond
  volume : Nat
  lun : Nat
  uid : Nat
  family : Nat
  bad : List Nat
  wear : Store Nat
  shelter : Option Nat
  shelterPage : Nat
  checked : List Nat
  sigFails : List Nat
deriving DecidableEq, Repr

/-- A stripe set descriptor (Table 2-10). `w` 0: not defined. -/
structure SetDesc where
  w : Nat
  level : Nat
  family : Nat
  mode : Nat
  planes : Nat
  slots : Nat
  bands : Nat
  rows : Nat
  members : List Nat
deriving DecidableEq, Repr

/-- A band table entry (Table 2-5) with the void BOIs the journal records for it (R87), its lost slots (R416) and its correction records (R120). STATE is the code of Table 2-4. -/
structure Band where
  state : Nat
  rehoming : Bool
  fill : Nat
  voids : List Nat
  lost : List Nat
  corr : List (Nat × List Byte)
  opened : Nat
  closedAt : Nat
  reads : Nat
  blocks : List Nat
deriving DecidableEq, Repr

/-- One parameter entry of a Sweind image (R539): its section type, family index, identifier, element size in bytes and
elements. -/
structure Param where
  sect : Nat
  family : Nat
  id : Nat
  size : Nat
  elems : List Nat
deriving DecidableEq, Repr
/-! ## Dies, codeword reads, programs and erases (chapters 4, 5, 8 and 9) -/

/-- The array operations of a die. -/
inductive OpKind where
  | read
  | prog
  | erase
  | reset
deriving DecidableEq, Repr

/-- An array operation in progress (R134, R146, R157, R361). `cls` is 0 for class U, 1 for F, 2 for B; `pass` the program pass X6;
`job` the program or erase it belongs to; `est` the estimated end; `lastRun` the tick of its start or last resume; `nom` the
ticks of its typical time. -/
structure ArrayOp where
  kind : OpKind
  slc : Bool
  cls : Nat
  pass : Nat
  job : Nat
  block : Nat
  est : Nat
  lastRun : Nat
  nom : Nat
  susps : Nat
  late : Bool
deriving DecidableEq, Repr

/-- A suspension (R158, R355): the tick of its CMD, the tick from which the die is treated as suspended, whether the die was seen
suspended, whether its reads are fixed, the codeword reads that joined and still want their sense, the class of the read that
obtained it, whether it was abandoned (R356), and the microcode faults of its resume. -/
structure Susp where
  cmdTick : Nat
  start : Nat
  taken : Bool
  fixed : Bool
  joined : List Nat
  cls : Nat
  gone : Bool
  faults : Nat
deriving DecidableEq, Repr

/-- What the block keeps of a die beside its geometry: the program, erase or reset and its suspension, the array read, the offsets
loaded last with their zone (R194), a RESET_LUN to be planned, its class and its bound, whether it is unresponsive (R362), the burst that occupies it (R397), the counters of
Table 9-5 and the events of the criteria of Table 11-4 with their ticks. -/
structure Die where
  op : Option ArrayOp
  read : Option ArrayOp
  susp : Option Susp
  kept : Option (List Int)
  resetPend : Bool
  resetCls : Nat
  resetTill : Nat
  unresp : Bool
  burst : Option Nat
  senses : Nat
  lateReady : Nat
  timeouts : Nat
  notTaken : Nat
  unrec : Nat
  corrMax : Nat
  toTicks : List Nat
  vsTicks : List Nat
  unTicks : List (Nat × Nat)
  critTick : Nat
  noReserve : Bool
  toRetire : Bool
deriving DecidableEq, Repr

/-- What a codeword read serves: tile `i` of a READ, COPY or SCRUB_RANGE; slot `i` of a READ_RAW; patrol; a helper of another
codeword at data position `pos` (64 for P, 65 for Q); codeword `i` of a burst; a sentinel; codeword `i` of a page that a copy
task makes; the image of tile `i` of an aborted entry (R120); the P or Q (64 or 65) of a group that SCRUB_RANGE checks. -/
inductive CwFor where
  | tile (ctx i : Nat)
  | raw (ctx i : Nat)
  | patrol
  | helper (cw pos : Nat)
  | burst (b i : Nat)
  | sentinel (i : Nat)
  | page (task i : Nat)
  | image (ctx i : Nat)
  | check (ctx boi pos : Nat)
deriving DecidableEq, Repr

/-- Where a codeword stands within a ladder step: it waits for a sense, its page is being sensed, its data waits in the page
register, a decoder works on it, its helpers are being read. -/
inductive CwStage where
  | want
  | sensing
  | inReg
  | decode
  | helpers
deriving DecidableEq, Repr

/-- One codeword read. `set` is the key of its stripe set (none for physical reads), `pos` its member position, `tracked` the
levels fixed at step 0 (R384), `shift` the predicted shift, `est` the valley shift, `need` the senses its step still takes,
`held` those it has, `jumped` whether it came to step 6 by a jump or read-around (R343, R164), `noJump` the rule of R346, `backStep` the step it came from; `images` the group's images by data position, 64 for P and 65 for Q, `awaited` the helpers still
out; `missed` the deadline miss of R166; `phase` 1 once step 3 has its estimate; `achk` whether its ACHK failed; `limit` the iteration limit of the decode under way; `part` the bytes of a sense transferred so far (R133); `fresh` says that
no sense of its step has been taken (R343). -/
structure Cw where
  use : CwFor
  cls : Nat
  level : Nat
  order : Nat
  ceil : Nat
  deadline : Nat
  admTick : Nat
  set : Option Nat
  band : Nat
  boi : Nat
  row : Nat
  pos : Nat
  vdie : Nat
  spare : Bool
  pdie : Nat
  plane : Nat
  block : Nat
  page : Nat
  slot : Nat
  slc : Bool
  stage : CwStage
  step : Nat
  tracked : List Int
  shift : List Int
  est : Int
  need : List (List Int)
  held : List (List Int × List Byte)
  faults : Nat
  jumped : Bool
  noJump : Bool
  backStep : Nat
  images : List (Nat × Option (List Byte))
  awaited : Nat
  missed : Bool
  phase : Nat
  achk : Bool
  limit : Nat
  part : List Byte
  fresh : Bool
deriving DecidableEq, Repr

/-- What a page program serves: the data page or a parity page of a placed row, a page of R310 content, a page of a journal row,
a shelter image, a page of a copy task. -/
inductive ProgFor where
  | data
  | parity (q : Bool)
  | fill
  | journal (ns : Nat)
  | shelter (q : Bool)
  | copy (task : Nat)
deriving DecidableEq, Repr

/-- One page program: its images by codeword, in (plane, slot) order; how many have been input, the bytes input of the next one, whether
the program runs, the plane it has come to where the family programs planes one by one (R183), and the codeword number (beyond the
last: the confirm) of the item that faulted last. -/
structure Prog where
  use : ProgFor
  cls : Nat
  level : Nat
  order : Nat
  set : Nat
  band : Nat
  row : Nat
  pos : Nat
  pdie : Nat
  block : Nat
  page : Nat
  pass : Nat
  slc : Bool
  planes : Nat
  slots : Nat
  images : List (List Byte)
  input : Nat
  running : Bool
  faults : Nat
  part : Nat
  plane : Nat
  faultAt : Nat
deriving DecidableEq, Repr

/-- Why a block is erased (ERASE_INTENT, Table 12-4), with the band and member position of a band erase; the
erase of a block of the journal set at its creation. -/
inductive EraseFor where
  | band (set b pos : Nat)
  | shelter
  | journalBand (b pos : Nat)
  | create (b pos : Nat)
  | freeIndex
  | recovery
  | spareBlock (task : Nat)
deriving DecidableEq, Repr

/-- An erase: `intent` once its intent is committed, `ready` once it may be planned (R325, R453), `ended` while its outcome is being
journaled. -/
structure EraseJob where
  use : EraseFor
  cls : Nat
  level : Nat
  order : Nat
  pdie : Nat
  block : Nat
  planes : Nat
  slc : Bool
  intent : Bool
  ready : Bool
  running : Bool
  faults : Nat
  ended : Bool
  plane : Nat
deriving DecidableEq, Repr

/-- The bus work of a plan item (Table 4-1). -/
inductive Act where
  | read
  | prog
  | erase
  | suspend
  | resume
  | setLevels
  | resetLun
  | status
  | dout
  | din
  | train
deriving DecidableEq, Repr

/-- A plan item: its die, the jobs it serves, its cost in channel cycles without volume selection, its class, and of a transfer the
byte range of its codeword (R133). -/
structure Item where
  act : Act
  pdie : Nat
  jobs : List Nat
  cost : Nat
  cls : Nat
  off : Nat
  len : Nat
deriving DecidableEq, Repr

/-- The planner beside its registers: the plans committed for the next tick and those in execution, by channel; the causes of
hold; items and cycles of the last tick; the samples of the tick by rail group; ticks of
refusal per class B request and the requests promoted; 1 more than the tick of the last deassertion of THERM_n; the counters of Table 4-7. -/
structure Planner where
  plans : Store (List Item)
  planTick : Nat
  exec : Store (List Item)
  lastItems : Store Nat
  lastCycles : Store Nat
  hold : Store Nat
  nextHold : Store Nat
  railMa : Store Nat
  samples : Store (List Nat)
  starve : Store Nat
  promoted : List Nat
  refused : Store Nat
  suspends : Store Nat
  arounds : Store Nat
  waits : Store Nat
  misses : Store Nat
  promos : Store Nat
  thermTick : Nat
  runItems : Store Nat
  runCycles : Store Nat
deriving DecidableEq, Repr

/-- A channel unit beside its registers: the volume selected last (R188), the microcode store with each routine's place as (family,
routine, first word, words), the slot from which the rotation of R206 goes on, the edges (low, high) found last by 2 × slot, one more for
writes, the last 4,096 decoded codewords as a count and a bit string of those that
did not converge at step 0, and the other triggers of Table 5-11 and criteria of R419. -/
structure Chan where
  vol : Option Nat
  ucode : List Nat
  places : List (Nat × Nat × Nat × Nat)
  rot : Nat
  edges : Store (Nat × Nat)
  decs : Nat
  fails : Nat
  checkTicks : List Nat
  faultTicks : List Nat
  errTrain : Bool
  cause3 : Nat
  badTrains : Nat
  critTicks : List Nat
  failed : Bool
deriving DecidableEq, Repr

/-- A quad beside its registers: its VCCQ samples in sequence out of range, its ticks in sequence in range, whether its channels are held for it, junction temperature at the last ZQ
calibration, tick of that calibration, codes that wait for the next boundary. -/
structure Quad where
  bad : Nat
  good : Nat
  held : Bool
  zqTemp : Int
  zqTick : Nat
  zqNew : Option (Nat × Nat)
  gated : Bool
deriving DecidableEq, Repr

/-! ## Writing (chapter 8) -/

/-- A data slot of a resident row: 0 unplaced, 1 placed, 2 void; the entry that placed it; its tile while a buffer holds it and
the pool of that buffer, whether it is of the band's reservation, and its number in the pool; whether its image has been folded out; the
block under whose seed its image was added to the accumulators (R24, R116). -/
structure Slot where
  st : Nat
  ctx : Option Nat
  buf : Option (List Byte)
  fab : Bool
  res : Bool
  folded : Bool
  place : Nat
  seed : Nat
deriving DecidableEq, Repr

/-- A resident row. `pages` holds each member position's page: 0 not yet commanded, 1 commanded, 2 programmed, 3 failed or
missing; `par` the state of the parity: 0 pending, 1 programmed. Slots are keyed by BOI less the row's first BOI, accumulators
by 8 × plane + slot. -/
structure ORow where
  row : Nat
  opened : Nat
  covered : Bool
  accP : Store (List Byte)
  accQ : Store (List Byte)
  slots : Store Slot
  pages : Store Nat
  par : Nat
  shelter : Option (Nat × Nat × Nat × Nat × Nat × Nat)
deriving DecidableEq, Repr

/-- What the write path keeps of a band: its resident rows, its reservation, the entries in placement order, a close under way
with the entries that wait for it, the pages programmed on each member as bits, and substitutions made per member. -/
structure WBand where
  rows : List ORow
  reserved : Bool
  entries : List Nat
  closing : Bool
  closers : List Nat
  done : Store Nat
  substs : Store Nat
  stopped : List Nat
deriving DecidableEq, Repr

/-! ## The journal (chapter 12) -/

/-- What comes about when a record's row commits (R449). -/
inductive JEff where
  | nothing
  | finish (ctx status detail r0 : Nat)
  | vdie (v : Nat) (x : Vdie)
  | setDef (g : Nat) (d : SetDesc)
  | setDel (g : Nat)
  | band (set b : Nat) (state fill closedAt : Nat)
  | voids (set b boi n : Nat)
  | corr (set b boi : Nat) (image : List Byte)
  | lost (set b boi : Nat)
  | badBlock (pdie index : Nat)
  | retire (pdie : Nat)
  | shelter (pdie index : Nat)
  | bindPending (task : Nat)
  | bindCommit (task : Nat)
  | bindNow (set b pos index : Nat)
  | intent (job : Nat)
  | erased (job : Nat) (ok : Bool)
  | rebuilt (task : Nat)
  | hwm (ns v : Nat)
  | ckptEnd (ns seq : Nat)
  | plDir
  | plSeal
  | recovered
deriving DecidableEq, Repr

/-- A journal record: its type and payload (Table 12-4) and its effect. -/
structure JItem where
  type : Nat
  bytes : List Byte
  eff : JEff
deriving DecidableEq, Repr

/-- A namespace's journal: SEQ of the last committed row, band and row of the next one, records that wait and those of the row in
flight with the programs it still awaits and whether one failed, rows and bands since the last checkpoint, the place and SEQ of that
checkpoint, the place of one under way, the high-water stamp and, for the fostered namespace, the next stamp. -/
structure Journal where
  seq : Nat
  band : Nat
  row : Nat
  pend : List JItem
  flight : List JItem
  progs : List Nat
  bad : Bool
  rowsSince : Nat
  bandsSince : Nat
  ckptFirst : Nat
  ckptBand : Nat
  ckptRow : Nat
  ckptSeq : Nat
  newBand : Nat
  newRow : Nat
  inCkpt : Bool
  hwm : Nat
  next : Nat
deriving DecidableEq, Repr

/-! ## Power fail (chapter 12) -/

/-- A brown-out sequence: MediaTime at its acceptance, SEQ of each namespace's directory, and the namespaces whose directory or seal
is still to commit; rows that could not be folded (Table 20-5), each as 16384 × band key + row; `due` whether an acceptance waits for the
wake it caused, by a drill where `drill`; `settle` whether a power fail during census waits for the operations started (R239). -/
structure PowerFail where
  start : Nat
  dir : Store Nat
  wait : Nat
  unread : List Nat
  due : Bool
  drill : Bool
  settle : Bool
deriving DecidableEq, Repr

/-! ## The policy engine (chapters 10 and 11) -/

/-- The kinds of copy task: a re-home with its reason, the rebuild of a vdie, a block substitution on a member. -/
inductive TaskKind where
  | rehome (reason : Nat)
  | rebuild
  | subst
deriving DecidableEq, Repr

/-- A copy task. `set`, `band`, `pos` name the member block it works on (for a re-home the band), `vdie` the vdie of a rebuild;
`blocks` are the new indices by member position of a re-home or the one of a substitution, `old` the indices they replace;
`bind` the spare's indices, `rb` the row boundaries and `mask` the rows to copy of a rebuild, by band key. `stage` 0 binding,
1 copying, 2 switching, 3 releasing. `work` lists the pages still to make, each as 64 × row + position; `page` the images gathered
for the first of them by codeword, `left` the codeword reads it still waits for, `progs` its program; `accP` and `accQ` the fresh
parity of the row under way; `stop` the failed page of a substitution; `start` the MediaTime of the first copy program; `adm` the
order of admission at the switch; `slot` the PTL_REBUILD register; `since` the rows since the last rebuild checkpoint; `found` the rows
that a resumed rebuild found made, by band key. -/
structure Task where
  kind : TaskKind
  cls : Nat
  level : Nat
  set : Nat
  band : Nat
  pos : Nat
  vdie : Nat
  blocks : List Nat
  old : List Nat
  bind : Store Nat
  rb : Store Nat
  mask : Store Nat
  stage : Nat
  work : List Nat
  page : Store (List Byte)
  left : Nat
  progs : List Nat
  accP : Store (List Byte)
  accQ : Store (List Byte)
  stop : Nat
  start : Nat
  adm : Nat
  slot : Nat
  since : Nat
  found : Store Nat
deriving DecidableEq, Repr

/-- A band in the re-home queue (R411): set key, band, reason, whether its re-home is in progress. -/
structure Requeue where
  set : Nat
  band : Nat
  reason : Nat
  active : Bool
deriving DecidableEq, Repr

/-- The patrol pass: its number, end time, whether accelerated, the pages still to read as (set key, band, row, position), those
at its start. -/
structure Patrol where
  pass : Nat
  due : Nat
  accel : Bool
  accelDone : Bool
  left : List (Nat × Nat × Nat × Nat)
  total : Nat
  running : Bool
deriving DecidableEq, Repr

/-- The counters of Table 11-10. -/
structure PatrolCounts where
  reads : Nat
  queued : Nat
  recon : Nat
  unrec : Nat
  rehomes : Nat
  abandoned : Nat
  lost : Nat
  dies : Nat
  channels : Nat
  rebuilds : Nat
  deferred : Nat
deriving DecidableEq, Repr

/-- The tracking state of one zone (Tables 10-5 and 10-7). `last` is the wordline of the last good class F read as
(set key, band, wordline), `due` whether a sample is due at once, `retry` the tick before which no search is tried again. -/
structure Zone where
  laRef : Nat
  suspect : Bool
  run : Nat
  outcome : Nat
  samples : Nat
  rejects : Nat
  feed : Nat
  feedFails : Nat
  up0 : Nat
  dn0 : Nat
  lastTick : Nat
  lastSample : Nat
  last : Option (Nat × Nat × Nat)
  due : Bool
  retry : Nat
  plane : Nat
  search : Bool
deriving DecidableEq, Repr

/-- The level tables of a vdie or of its spare (R379, R380), with the check words of R381, the slopes, the zones
and the band (set key, band) that patrol read last on the vdie. -/
structure Levels where
  applied : List Int
  target : List Int
  crcA : Nat
  crcT : Nat
  k : List Int
  zones : Store Zone
  patrolBand : Option (Nat × Nat)
deriving DecidableEq, Repr

/-- A calibration burst or sample: its vdie and zone, kind (0 sample, 1 search), the CALIBRATE entry it serves, its place, the
senses still due, and the data gathered: raw images and corrected codewords by index. -/
structure Burst where
  vdie : Nat
  spare : Bool
  zone : Nat
  search : Bool
  ctx : Option Nat
  set : Nat
  band : Nat
  pdie : Nat
  plane : Nat
  block : Nat
  wordline : Nat
  senses : List (Nat × List Int)
  raws : Store (List Byte)
  goods : Store (List Byte)
  failed : Bool
  binding : Nat
  left : Nat
deriving DecidableEq, Repr

/-- The LLR tables of a family with their counts (R402). -/
structure Llr where
  t4 : List Int
  t5 : List Int
  n4 : Store Nat
  n5 : Store Nat
  words4 : Nat
  words5 : Nat
  windows4 : Nat
  windows5 : Nat
deriving DecidableEq, Repr

/-- The counters of the decoder page (Table 9-4), and the decoder test under way: its decoder (hard decoders first, then soft),
whether it is the repeat of R368, and the SELF_TEST entry it serves with the decoders that entry still tests. -/
structure Decoders where
  stepEnd : Store Nat
  miscorrect : Nat
  jumps : Nat
  abandoned : Nat
  achkFails : Nat
  unrec : Nat
  ceilings : Nat
  warnings : Nat
  tests : Nat
  testFails : Nat
  hardBusy : Nat
  softBusy : Nat
  cur : Option Nat
  again : Bool
  ctx : Option Nat
  todo : List Nat
  nextUp : Nat
  lastTick : Nat
  tested : Nat
  failed : Nat
  retired : Nat
deriving DecidableEq, Repr

/-! ## The glove pair (chapter 18) -/

/-- A cuff message sent and not yet covered by an ACK (R584). -/
structure CuffMsg where
  mseq : Nat
  type : Nat
  head : List Byte
  payload : List Byte
  sent : Nat
  resends : Nat
deriving DecidableEq, Repr

/-- A partner queue in the shadow: its configuration as QCFG carried it, its indices and phases as QIDX carried them, the CQ_CI
last polled by the survivor. -/
structure ShadowQueue where
  cfg : List Byte
  sqCi : Nat
  cqPi : Nat
  sqPhase : Bool
  cqPhase : Bool
  ciSeen : Nat
deriving DecidableEq, Repr

/-- A partner command context in the shadow, with the runs that PLACE recorded of it as (set, band, first BOI, count); `detail` of its
0x0012 completion, `ready` whether that completion waits to be written (R592). -/
structure ShadowCtx where
  queue : Nat
  pos : Nat
  cid : Nat
  op : Nat
  runs : List (Nat × Nat × Nat × Nat)
  detail : Nat
  ready : Bool
deriving DecidableEq, Repr

/-- The pair logic beside its registers: MSEQ of the last message sent and of the last received in order; the messages kept; ticks of CRC
errors; the partner's last heartbeat, with MediaTime of both instances then; the partner's image identity; the CORE_OK line of this instance
and its self-check fault; the shadow of Table 18-2: queues, contexts, journal rows by SEQ, level tables keyed by 2 × vdie + table, FILL of
OPEN bands by band key, the slices of the last resync by part, the journal's position with it as (SEQ, band, row, checkpoint's SEQ, band and row, STAMP_HWM), the
partner's census record; `downTick` the tick the cuff went down or was last retrained in vain; the hand-over under way: its step, when it was decided, the tick of
step 6, whether foster writes are ready, the pages whose program failed as (set key, band, row, position), and whether the partner's census
record is due. -/
structure Pair where
  tx : Nat
  rx : Nat
  sent : List CuffMsg
  crcTicks : List Nat
  peerPeriod : Option Nat
  peerStage : Nat
  peerFlags : Nat
  peerTime : Nat
  ownTime : Nat
  image : Option (Nat × Nat)
  coreOk : Bool
  cause : Nat
  waiting : Bool
  shadowQ : Store ShadowQueue
  shadowC : Store ShadowCtx
  rows : Store (List Byte)
  levels : Store (List Byte)
  fills : Store Nat
  parts : Store (List Byte)
  place : Nat × Nat × Nat × Nat × Nat × Nat × Nat
  record : List Byte
  upOnce : Bool
  downTick : Nat
  step : Nat
  decidedUs : Nat
  abortTick : Nat
  fosterWrites : Bool
  redo : List (Nat × Nat × Nat × Nat)
  recDue : Bool
deriving DecidableEq, Repr

/-! ## The configuration store (chapter 16) -/

/-- What a record append serves: a commit of the block, the COMMIT of firmware, the active-slot record of an operation, a copy of a
current record (R545, R546, R548). -/
inductive AppendFor where
  | block
  | firmware
  | slot
  | copy
deriving DecidableEq, Repr

/-- A record that waits to be appended: its 236-byte payload. -/
structure Append where
  use : AppendFor
  payload : List Byte
deriving DecidableEq, Repr

/-- One NOR operation: the erase of a 4-KiB sector at an offset, under the ledger with a region and sector where `led` (R549); the program
of bytes at an offset; the program of the record at the front of those that wait, at the head. -/
inductive NorStep where
  | erase (off region sector : Nat) (led : Bool)
  | prog (off : Nat) (bytes : List Byte)
  | append
deriving DecidableEq, Repr

/-- A firmware operation of Table 16-8 with its arguments, the bytes read from memory, the NOR operations still to run, whether it has
met its check, and whether ABORT has been written. -/
structure CfsOp where
  code : Nat
  activate : Bool
  addr : Nat
  off : Nat
  len : Nat
  todo : List NorStep
  fetched : Bool
  aborted : Bool
deriving DecidableEq, Repr

/-- The configuration store beside its registers: the NOR's bytes by offset; the NOR operation under way, the MediaTime of its start and the
number of read-backs it failed; records that wait; whether the ahead sector is still to be erased; the place of the next ledger entry as (ledger sector, entry, LSEQ); the next
position in the head sector; where the current record of each kind lies, as 16 × sector + position; the firmware operation; a slot
reload that waits for an UPDATE (R556). -/
structure Cfs where
  mem : Store Byte
  cur : Option NorStep
  started : Nat
  tries : Nat
  appends : List Append
  aheadDue : Bool
  ledger : Nat × Nat × Nat
  pos : Nat
  recs : Store Nat
  op : Option CfsOp
  reload : Option Bool
deriving DecidableEq, Repr


/-! ## Census (chapter 6) -/

/-- A die that enumeration found and a family matched (R184 to R187): its home channel, volume, LUN, family, unique ID and the rate codes
it advertises as bits; whether it passed training and its family is loaded; the slot its trims stand under; its bad block indices
found by the factory scan. -/
structure Found where
  home : Nat
  volume : Nat
  lun : Nat
  family : Nat
  uid : Nat
  rates : Nat
  used : Bool
  slot : Nat
  bad : List Nat
deriving DecidableEq, Repr

/-- The hold-up measurement (R221, R223): whether the first sample was already at or above V_LO, the times from reset release of the first
samples at or above V_LO and V_HI, the samples of the last millisecond as (time, mV), whether the plateau is reached, its samples, the
plateau found, and the tick of the last remeasurement. -/
structure HoldUp where
  charged : Option Bool
  tLo : Option Nat
  tHi : Option Nat
  near : List (Nat × Nat)
  settled : Bool
  plateau : List Nat
  vTop : Option Nat
  lastTick : Nat
deriving DecidableEq, Repr

/-- A sheltered row as a directory lists it (Table 12-4, PL_DIR kind 2): set key, band, row, then P's die, block and first page, then Q's. -/
structure Shelter where
  set : Nat
  band : Nat
  row : Nat
  p : Nat × Nat × Nat
  q : Nat × Nat × Nat
deriving DecidableEq, Repr

/-- A run as a directory lists it (PL_DIR kind 3): set key, band, first BOI, count, queue, CID. -/
structure Run where
  set : Nat
  band : Nat
  boi : Nat
  count : Nat
  queue : Nat
  cid : Nat
deriving DecidableEq, Repr

/-- What replay of the journal gathers for recovery (R456): SEQ of the first row of the last directory and whether it was sealed, the
microseconds of its seal, whether a RECOVERED follows it; its OPEN bands with their FILL, sheltered rows, runs and next stamp; blocks
under an intent without its end as (pdie, block, reason), blocks of no band opened since that were erased, pending bindings as (set key, position, band, index), rebuilds as (vdie, band
key, RB, index). -/
structure Replay where
  dirSeq : Option Nat
  sealed : Bool
  sealUs : Nat
  fills : List (Nat × Nat × Nat)
  shelters : List Shelter
  runs : List Run
  nextStamp : Nat
  intents : List (Nat × Nat × Nat)
  dones : List (Nat × Nat)
  pendings : List (Nat × Nat × Nat × Nat)
  ckpts : List (Nat × Nat × Nat × Nat)
deriving DecidableEq, Repr

/-- Census beside its registers. `imaged` whether an image has been taken since reset release; `rom` what each quad's enumeration
answered, by quad; `roms` the quads whose enumeration has ended, `out` those left unused; `idle` the samples of the idle check by rail
group, `idleDone` the groups decided; `found` the dies; `brought` whether bring-up has run; `load` the load step under way as (group, step,
dies, droop seen), `loadNext` the group to step next; `record` the census record read, `added` the microseconds added to MediaTime since
reset release, `gap` the gap assumed, `anchor` the time anchor as (H, M'), `lastRecord` the tick of the last census record; `step` the step
of Table 12-7 to take next; `close` the bands whose rows are still to be closed, as (set key, band); `profiles` 1 more
than the recorded profile of each family (R113); `phase` where stage 4 stands (0: nothing read yet, 1: the journal set is being created, 2:
its first checkpoint is being written); `recDue` whether a census record is due; `anomalies` the census anomalies of R229; `ident` HCRC
and GENERATION of the image loaded. -/
structure Census where
  imaged : Bool
  rom : Store (List (List RomVolume))
  roms : List Nat
  out : List Nat
  idle : Store (List Nat)
  idleDone : List Nat
  found : List Found
  brought : Bool
  load : Option (Nat × Nat × List Nat × Bool)
  loadNext : Nat
  record : List Byte
  added : Nat
  gap : Nat
  anchor : Option (Nat × Nat)
  lastRecord : Nat
  hu : HoldUp
  replay : Replay
  step : Nat
  close : List (Nat × Nat)
  profiles : Store Nat
  phase : Nat
  recDue : Bool
  anomalies : Nat
  ident : Option (Nat × Nat)
deriving DecidableEq, Repr


/-! ## The Liner (chapter 13) -/

/-- A valid cache line: its line address, dirty and locked, the words that hold data as bits, its 256 bytes. -/
structure LLine where
  tag : Nat
  dirty : Bool
  locked : Bool
  wv : Nat
  data : List Byte
deriving DecidableEq, Repr

/-- The miss a bank has outstanding (R475): its line, the way chosen, whether it is a prefetch, whether its data is to be discarded on
arrival (R485), and whether the line is locked when it arrives. -/
structure Miss where
  line : Nat
  way : Nat
  prefetch : Bool
  drop : Bool
  lock : Bool
deriving DecidableEq, Repr

/-- A line in a write-back buffer (R476): its key, and the maintenance owner it was written for. -/
structure WbLine where
  line : Nat
  key : Nat
  owner : Option Nat
deriving DecidableEq, Repr

/-- An entry of the merge buffer (R478): its line, its bytes where they are valid, and the accesses that wrote them. -/
structure MergeEntry where
  line : Nat
  bytes : List (Option Byte)
  whos : List FabWho
deriving DecidableEq, Repr

/-- A stream tracker (R480): requester and page, the line last accessed, the stride, the misses seen (3: confirmed). -/
structure Stream where
  req : Nat
  page : Nat
  last : Nat
  stride : Int
  count : Nat
deriving DecidableEq, Repr

/-- A maintenance operation under way: who runs it (0: LNR_MAINT_OP, 1: a disable, 2 + c: Mover channel c), its code of Table 13-5, and the
lines still to process. -/
structure Maint where
  owner : Nat
  code : Nat
  todo : List Nat
deriving DecidableEq, Repr

/-- The Liner beside its registers. Lines are keyed by 32 × set + way, with the set numbered 384 × bank + index; `merge` is oldest first, `merging`
the entries being written, `streams` most recently used first; `trig` holds 1 more than the position of a bank's triggered scrub pass, `scrubPos`
the position of the background pass; `rated` the banks whose bucket has reached its threshold (R493); `flips` the flipped bits of stored
words as (data mask, check mask), keyed by 33 × line key + word, word 32 for the tag; `sp` the words of area 7 by window word. -/
structure Liner where
  lines : Store (Option LLine)
  plru : Store Nat
  miss : Store (Option Miss)
  wbuf : List WbLine
  merge : List MergeEntry
  merging : List MergeEntry
  streams : List Stream
  ops : List Maint
  trig : Store Nat
  scrubPos : Nat
  rated : List Nat
  flips : Store (Nat × Nat)
  sp : Store Word
deriving DecidableEq, Repr

/-! ## The Mover (chapter 14) -/

/-- Where a Mover channel stands: nothing under way, the source range is being invalidated, the reads of a group are out, its writes are out,
the destination is being cleaned, the issued accesses of a stopped channel end, the record is due, bytes 0 to 14 of the record are out. -/
inductive MvStage where
  | idle
  | inval
  | reading
  | writing
  | clean
  | stopping
  | record
  | first
deriving DecidableEq, Repr

/-- A Mover channel beside its registers: its stage, the source groups completed, the status it ends with, whether it holds its reservation. -/
structure MvCh where
  stage : MvStage
  group : Nat
  status : Nat
  held : Bool
deriving DecidableEq, Repr

/-! ## What leaves the block -/

/-- What a step sends out of the block, in order. -/
inductive Out where
  /-- A fabric request issued: port, tag, epoch, write, address, length (R629). -/
  | fabric (port tag epoch : Nat) (write : Bool) (addr len : Nat)
  /-- The bytes of a write of a tile, a status array or a ring entry. -/
  | data (addr : Nat) (bytes : List Byte)
  /-- A page of `len` bytes written to `addr`: the (offset, bytes, value) fields given, all other bytes 0. -/
  | page (addr len : Nat) (fields : List (Nat × Nat × Nat))
  /-- A completion entry written at `addr` (R270). -/
  | completion (q addr : Nat) (entry : BitVec 256)
  /-- An MSI-X message (R532). -/
  | msix (vector addr data : Nat)
  /-- A cuff message: TYPE, MSEQ, header bytes 8 to 15, payload (R583). -/
  | cuff (type mseq : Nat) (head payload : List Byte)
  /-- What a routine drives on a channel's bus: the routine, then its cycles, each as (kind, value): 0 command, 1 address, 2 data
  input byte count, 3 data output byte count, 4 data cycle (R190, R191). -/
  | bus (channel routine : Nat) (cycles : List (Nat × Nat))
  /-- HCRC and GENERATION of the image, sent to the partner (R582). -/
  | ident (hcrc generation : Nat)
  /-- A census record committed through the partner's configuration store port (R596). -/
  | partnerRecord (payload : List Byte)
  /-- The host vectors of the partner's function that the pair logic is to signal (R593). -/
  | partnerVectors (vectors : List Nat)
  /-- The bytes of a DIN item (R195). -/
  | din (channel : Nat) (bytes : List Byte)
deriving DecidableEq, Repr

/-! ## Stops -/

/-- The reasons a step stops with a fault. No command of the block stops so: every effect the spec gives is taken. -/
inductive Fault where
  /-- Raised by no meaning. Safe: nothing is claimed of a state after it. -/
  | none
deriving DecidableEq, Repr

/-- The reasons a command is refused by the model. -/
inductive Refusal where
  /-- Raised by an arm of `exec` whose command has no meaning yet. Safe. -/
  | notModelled (mnemonic : String)
deriving DecidableEq, Repr

/-- The state of one controller unit. `pending` is the queue of waiting commands, first in, first out. `draws` counts the
free values drawn; it is the model's own field. `latch` holds the settings whose changes take effect at a tick boundary; `staging` the image in the staging area (R211), `subUs` the microseconds of
ticks since the last always-on edge (R619); `moverQ` the Mover channels QUEUED, in order. -/
structure State where
  build : Build
  right : Bool
  pending : List Instr
  phase : Phase
  windowsOpen : Bool
  regs : Store Word
  latch : Store Word
  splits : Store Split
  readData : Nat
  out : List Out
  draws : Nat
  subUs : Nat
  evc : Evc
  log : Store LogEntry
  fab : List FabReq
  epochs : Store Nat
  queues : Store Queue
  ctxs : Store Ctx
  lastU : Nat
  lastW : Nat
  fetchSeq : Nat
  admSeq : Nat
  readySeq : Nat
  sleep : Sleep
  wdog : Wdog
  telem : Telemetry
  host : HostFn
  vdies : Store Vdie
  pdies : Store Pdie
  sets : Store SetDesc
  bands : Store Band
  params : List Param
  dies : Store Die
  cws : Store Cw
  progs : Store Prog
  erases : Store EraseJob
  nextJob : Nat
  pln : Planner
  chans : Store Chan
  quads : Store Quad
  wbands : Store WBand
  journals : Store Journal
  pf : PowerFail
  tasks : Store Task
  requeue : List Requeue
  rebuildPend : List Nat
  patrol : Patrol
  patCounts : PatrolCounts
  levels : Store Levels
  bursts : Store Burst
  llrs : Store Llr
  decs : Decoders
  pair : Pair
  cfs : Cfs
  staging : List Byte
  liner : Liner
  mover : Store MvCh
  moverQ : List Nat
  census : Census
deriving DecidableEq, Repr

/-! ## Reset -/

/-- A requester with no shadow and nothing held (R13). -/
def Split.none : Split := Split.mk Option.none Option.none
/-- Moderation with no raise counted (R525). -/
def Moderation.zero : Moderation := Moderation.mk 0 0 false
/-- A position of the event log that was never written (Table 20-3). -/
def LogEntry.blank : LogEntry := LogEntry.mk 0 0 0 0 0 []
/-- A queue as block reset leaves it, beside its registers. -/
def Queue.zero : Queue :=
  Queue.mk 0 0 0 true true 0 1#64 0x100#64 0 0 0 0 0 0 0 [] 0 false 0 false none
/-- A free command context. -/
def Ctx.zero : Ctx where
  state := .free
  queue := 0
  seq := 0
  entry := 0#512
  level := 0
  admTick := 0
  admSeq := 0
  ceil := 0
  deadline := 0
  frags := []
  nTables := 0
  nEntries := 0
  nextTable := none
  tiles := []
  placed := 0
  firstBoi := 0
  firstStamp := 0
  voided := false
  bufs := 0
  fromRes := 0
  taken := false
  ended := false
  aborting := 0
  doneMsg := none
  openMsg := none
  waitsFor := []
  status := 0
  detail := 0
  r0 := 0
  r1 := 0
  r2 := 0
  late := false
  readySeq := 0
  noted := false
  checks := 0
  groups := []
  badGroups := []
  queued := 0
  fields := []
/-- The event concentrator with empty stacks and nothing counted (R530). -/
def Evc.zero : Evc := Evc.mk [] [] [] [] false
/-- An MSI-X table entry after reset: Mask 1, address and data 0 (R651). -/
def MsixEntry.reset : MsixEntry := MsixEntry.mk 0 0 true
/-- No sleep requested and none under way. -/
def Sleep.zero : Sleep := Sleep.mk false 0 0 0 0 0 [] 0 0 [] []
/-- The watchdog before its first step boundary. -/
def Wdog.zero : Wdog := Wdog.mk 0 0 [] none
/-- Telemetry before its first sample. -/
def Telemetry.zero : Telemetry := Telemetry.mk 0 none [] [] 0 0
/-- The host function after a function reset. -/
def HostFn.zero : HostFn := HostFn.mk false false false [] [] [] []
/-- An unmapped vdie number (Table 2-1). -/
def Vdie.unmapped : Vdie := Vdie.mk false 0 0 false false 0 0 0 0
/-- A slot where no die has been found. -/
def Pdie.absent : Pdie := Pdie.mk .absent 0 0 0 0 [] [] none 0 [] []
/-- A stripe set that is not defined. -/
def SetDesc.undef : SetDesc := SetDesc.mk 0 0 0 0 0 0 0 0 []
/-- A band in state UNERASED with nothing bound. -/
def Band.unerased : Band := Band.mk 0 false 0 [] [] [] 0 0 0 []
/-- A die with nothing under way. -/
def Die.idle : Die :=
  Die.mk none none none none false 1 0 false none 0 0 0 0 0 0 [] [] [] 0 false false
/-- A planner with no plan. -/
def Planner.zero : Planner :=
  Planner.mk [] 0 [] [] [] [] [] [] [] [] [] [] [] [] [] [] [] 0 [] []
/-- A channel unit before census. -/
def Chan.zero : Chan := Chan.mk none [] [] 0 [] 0 0 [] [] false 0 0 [] false
/-- A quad before census. -/
def Quad.zero : Quad := Quad.mk 0 0 false 0 0 none false
/-- A codeword read not yet begun. -/
def Cw.zero : Cw where
  use := .patrol
  cls := 2
  level := 7
  order := 0
  ceil := 6
  deadline := 0
  admTick := 0
  set := none
  band := 0
  boi := 0
  row := 0
  pos := 0
  vdie := 0
  spare := false
  pdie := 0
  plane := 0
  block := 0
  page := 0
  slot := 0
  slc := false
  stage := .want
  step := 0
  tracked := []
  shift := []
  est := 0
  need := []
  held := []
  faults := 0
  jumped := false
  noJump := false
  backStep := 0
  images := []
  awaited := 0
  missed := false
  phase := 0
  achk := false
  limit := 0
  part := []
  fresh := false
/-- A page program not yet begun. -/
def Prog.zero : Prog where
  use := .fill
  cls := 1
  level := 0
  order := 0
  set := 0
  band := 0
  row := 0
  pos := 0
  pdie := 0
  block := 0
  page := 0
  pass := 0
  slc := false
  planes := 1
  slots := 4
  images := []
  input := 0
  running := false
  faults := 0
  part := 0
  plane := 0
  faultAt := 0
/-- An erase whose intent is not yet recorded. -/
def EraseJob.zero : EraseJob := EraseJob.mk .freeIndex 2 7 0 0 0 1 false false false false 0 false 0
/-- A data slot that holds nothing. -/
def Slot.empty : Slot := Slot.mk 0 none none false false false 0 0
/-- A band with nothing resident. -/
def WBand.none : WBand := WBand.mk [] false [] false [] [] [] []
/-- A journal before its first row. -/
def Journal.zero : Journal := Journal.mk 0 0 0 [] [] [] false 0 0 0 0 0 0 0 0 false 0 0
/-- A copy task not yet begun. -/
def Task.zero : Task :=
  Task.mk .rebuild 2 7 0 0 0 0 [] [] [] [] [] 0 [] [] 0 [] [] [] 0 0 0 0 0 []
/-- Patrol before its first pass. -/
def Patrol.zero : Patrol := Patrol.mk 0 0 false false [] 0 false
/-- The counters of Table 11-10 at block reset. -/
def PatrolCounts.zero : PatrolCounts := PatrolCounts.mk 0 0 0 0 0 0 0 0 0 0 0
/-- A zone with nothing measured. -/
def Zone.zero : Zone := Zone.mk 0 false 0 0 0 0 0 0 0 0 0 0 none false 0 0 false
/-- Level tables of an unmapped vdie. -/
def Levels.zero : Levels := Levels.mk [] [] 0 0 [] [] none
/-- A burst not yet begun. -/
def Burst.zero : Burst := Burst.mk 0 false 0 false none 0 0 0 0 0 0 [] [] [] false 0 0
/-- LLR tables of an unused family. -/
def Llr.zero : Llr := Llr.mk [] [] [] [] 0 0 0 0
/-- The decoder pool's counters at block reset. -/
def Decoders.zero : Decoders := Decoders.mk [] 0 0 0 0 0 0 0 0 0 0 0 none false none [] 0 0 0 0 0
/-- The pair logic after reset: CORE_OK is asserted. -/
def Pair.zero : Pair where
  tx := 0
  rx := 0
  sent := []
  crcTicks := []
  peerPeriod := none
  peerStage := 0
  peerFlags := 0
  peerTime := 0
  ownTime := 0
  image := none
  coreOk := true
  cause := 0
  waiting := false
  shadowQ := []
  shadowC := []
  rows := []
  levels := []
  fills := []
  parts := []
  place := (0, 0, 0, 0, 0, 0, 0)
  record := []
  upOnce := false
  downTick := 0
  step := 0
  decidedUs := 0
  abortTick := 0
  fosterWrites := false
  redo := []
  recDue := false

/-- No brown-out sequence. -/
def PowerFail.zero : PowerFail := PowerFail.mk 0 [] 0 [] false false false
/-- A tile of which nothing is known. -/
def TileJob.blank : TileJob := TileJob.mk 0 0 none 0 0 [] 0
/-- The store beside its registers before discovery. What the NOR holds is not the block's; in the model it reads as erased until
something is written. -/
def Cfs.zero : Cfs := Cfs.mk [] none 0 0 [] false (0, 0, 1) 0 [] none none

/-- No hold-up sample taken. -/
def HoldUp.zero : HoldUp := HoldUp.mk none none none [] false [] none 0
/-- Nothing replayed. -/
def Replay.zero : Replay := Replay.mk none false 0 [] [] [] 0 [] [] [] []
/-- Census before its first stage. -/
def Census.zero : Census where
  imaged := false
  rom := []
  roms := []
  out := []
  idle := []
  idleDone := []
  found := []
  brought := false
  load := none
  loadNext := 0
  record := []
  added := 0
  gap := 0
  anchor := none
  lastRecord := 0
  hu := HoldUp.zero
  replay := Replay.zero
  step := 1
  close := []
  profiles := []
  phase := 0
  recDue := false
  anomalies := 0
  ident := none

/-- The Liner with every line invalid, as block reset leaves it. -/
def Liner.zero : Liner := Liner.mk [] [] [] [] [] [] [] [] [] 0 [] [] []
/-- A Mover channel with no transfer. -/
def MvCh.idle : MvCh := MvCh.mk .idle 0 0 false

/-- The unit right after block reset, BLKRST_n not yet released (R610). The build and the side are the model's choice
(DESIGN CHOICE, log entry 1): DZ3-96P, left (DEDUCED, log entry 3). -/
def State.reset : State where
  build := .dz96P
  right := false
  pending := []
  phase := .held
  windowsOpen := false
  regs := []
  latch := []
  splits := []
  readData := 0
  out := []
  draws := 0
  subUs := 0
  evc := Evc.zero
  log := []
  fab := []
  epochs := []
  queues := []
  ctxs := []
  lastU := 0
  lastW := 0
  fetchSeq := 0
  admSeq := 0
  readySeq := 0
  sleep := Sleep.zero
  wdog := Wdog.zero
  telem := Telemetry.zero
  host := HostFn.zero
  vdies := []
  pdies := []
  sets := []
  bands := []
  params := []
  dies := []
  cws := []
  progs := []
  erases := []
  nextJob := 0
  pln := Planner.zero
  chans := []
  quads := []
  wbands := []
  journals := []
  pf := PowerFail.zero
  tasks := []
  requeue := []
  rebuildPend := []
  patrol := Patrol.zero
  patCounts := PatrolCounts.zero
  levels := []
  bursts := []
  llrs := []
  decs := Decoders.zero
  pair := Pair.zero
  cfs := Cfs.zero
  staging := []
  liner := Liner.zero
  mover := []
  moverQ := []
  census := Census.zero

end Sys2Proof.Machine
end

