-- ==== Sys2Proof/Machine/Ops.lean ====
section
/-! DEFINITION. The named operations every family shares: register fields, counters, free values, raising events, signalling
the host, writing the event log, and fabric requests. -/

namespace Sys2Proof.Machine

/-! ## Registers -/

/-- The register at `off` (its reset value where nothing has written it). -/
def State.reg (s : State) (off : Nat) : Word := storeGet (regReset s.build s.right) s.regs off

/-- Makes the register at `off` hold `w`. -/
def State.setReg (s : State) (off : Nat) (w : Word) : State :=
  { s with regs := storePut (regReset s.build s.right) s.regs off w }

/-- A register field's value. -/
def State.getF (s : State) (f : Field) : Nat := getBits (s.reg f.reg) f.hi f.lo

/-- Makes a register field hold the low bits of `v`, the rest of the register unchanged. -/
def State.setF (s : State) (f : Field) (v : Nat) : State :=
  s.setReg f.reg (setBits (s.reg f.reg) f.hi f.lo v)

/-- A one-bit field as a truth value. -/
def State.flag (s : State) (f : Field) : Bool := s.getF f != 0

/-- The setting in force of a register whose changes take effect at a tick boundary. -/
def State.regL (s : State) (off : Nat) : Word := storeGet (regReset s.build s.right) s.latch off
/-- A field of it. -/
def State.getL (s : State) (f : Field) : Nat := getBits (s.regL f.reg) f.hi f.lo
/-- A one-bit field of it. -/
def State.flagL (s : State) (f : Field) : Bool := s.getL f != 0
/-- At a tick boundary the settings of CAL_CTRL, PTL_CTRL, DEC_CFG and PLN_CTRL written before come into force. -/
def State.takeLatch (s : State) : State :=
  { s with latch := [0xD0000, 0xD0400, 0xE0000, 0xE0100].foldl (fun m off =>
      storePut (regReset s.build s.right) m off (s.reg off)) s.latch }

/-- Sets or clears a one-bit field. -/
def State.setFlag (s : State) (f : Field) (b : Bool) : State := s.setF f (if b then 1 else 0)

/-- The current tick number (R620). -/
def State.tickno (s : State) : Nat := s.getF F.TCK_TICKNO.TICKNO
/-- MediaTime in µs (R619). -/
def State.mtime (s : State) : Nat :=
  s.getF F.TCK_MTIME.MEDIATIME + min s.subUs ((15625 + s.getF F.TCK_FRAC.ACC) / 512 - 1)
/-- MediaTime as a namespace records it: for the fostered one with the offset of the partner's last heartbeat (R596) (DESIGN CHOICE, log entry 15; DEDUCED, log entry 236). -/
def State.nsTime (s : State) (ns : Nat) : Nat :=
  if ns = 0 then s.mtime else ((s.mtime : Int) + s.pair.peerTime - s.pair.ownTime).toNat
/-- The always-on count (R621). -/
def State.aocnt (s : State) : Nat := s.getF F.TCK_AOCNT.COUNT
/-- The tick period in force in µs: ACTIVE codes 0 to 3 stand for 4, 8, 12 and 16 (R128). -/
def State.periodUs (s : State) : Nat := 4 * (s.getF F.TCK_PERIOD.ACTIVE + 1)
/-- The census stage (Table 6-1). -/
def State.stage (s : State) : Nat := s.getF F.PWR_CENSUS.STAGE
/-- Is the Gauntlet locked (R255)? -/
def State.locked (s : State) : Bool := s.flag F.GNT_LOCK.LOCK
/-- Has a power fail, or a drill, been accepted and not yet ended (R438, R439)? -/
def State.pfail (s : State) : Bool := s.getF F.PWR_PFAIL_STAT.PHASE != 0
/-- Is the unit in the fatal state (R634)? -/
def State.fatal (s : State) : Bool := s.flag F.GLB_FAULT_STAT.FATAL

/-! ## Sleep and service -/

/-- Is the unit in Park, in Mitten, in a Mitten sample window (Table 19-3), or entering? -/
def State.asleep (s : State) : Bool := 2 ≤ s.getF F.PWR_STAT.STATE && s.getF F.PWR_STAT.STATE ≤ 5
/-- Is the unit in Mitten or one of its sample windows? -/
def State.mitten (s : State) : Bool := 3 ≤ s.getF F.PWR_STAT.STATE && s.getF F.PWR_STAT.STATE ≤ 4
/-- Are the register and scratchpad windows open, and not those of a fenced instance (R594, R646)? (DESIGN CHOICE, log entry 5; DEDUCED, log entry 60). -/
def State.served (s : State) : Bool := s.phase == .on && s.windowsOpen && s.getF F.PAIR_STAT.STATE != 6
/-- Do the work queue engine, the data path, the planner and the policy engine work? Not without power or in reset, not in the
fatal state (R634), not after the seal of a brown-out sequence (R446), not fenced by a hand-over (R590). -/
def State.working (s : State) : Bool :=
  s.phase == .on && !s.fatal && !s.flag F.PWR_PFAIL_STAT.SEALED && s.getF F.PAIR_STAT.STATE != 6
/-- The same, awake: clocks of the core run and ticks are counted. -/
def State.awake (s : State) : Bool := s.working && !s.asleep

/-- A wake source of Table 19-5: the wake begins, or follows the entry under way, its cause recorded (R615); cause 8 reads 0. -/
def State.startWake (s : State) (cause : Nat) : State :=
  if s.asleep && s.sleep.wake == 0 then
    ({ s with sleep := { s.sleep with wake := cause } }).setF F.PWR_STAT.LAST_WAKE cause
  else s

/-- A register write that finds the unit asleep: it wakes the unit and is served after wake (Table 19-3). -/
def State.holdWrite (s : State) (h : HeldWrite) : State :=
  let s := s.startWake 1
  { s with sleep := { s.sleep with held := s.sleep.held ++ [h] } }

/-- A sample window ends without a wake when its polls are answered and its last sentinel is decoded; the instance sleeps again (R617). How far
the tick then running has come is not stated: the phase is a free value (DEDUCED, log entry 75). -/
def State.windowOver (s : State) : Bool :=
  s.getF F.PWR_STAT.STATE == 4 && s.sleep.left == 0 && s.sleep.wake == 0 &&
    !s.fab.any (fun r => match r.who with | .poll _ => true | _ => false)

/-! ## Steps of the policy engine (R635) -/

/-- The policy engine is stopped (R637) (DEDUCED, log entry 116). -/
def State.peHalted (s : State) : Bool := s.flag F.GLB_WDOG_STAT.PE_HALTED
/-- A step boundary of an activity (DESIGN CHOICE, log entry 21). -/
def State.peStep (s : State) (a : Nat) : State := { s with wdog := { s.wdog with lastStep := s.tickno, activity := a } }
/-- A step boundary within the activity under way (DEDUCED, log entry 196). -/
def State.peMark (s : State) : State := s.peStep s.wdog.activity

/-! ## Free values -/

/-- The free value of the next draw. -/
def State.drawn (s : State) : Nat := (Config.freeValue s.draws).toNat
/-- Takes the draw (DESIGN CHOICE, log entry 8). -/
def State.draw (s : State) : State := { s with draws := s.draws + 1 }

/-! ## Events (chapter 15) -/

/-- Sends something out of the block (DESIGN CHOICE, log entry 7). -/
def State.emit (s : State) (o : Out) : State := { s with out := s.out ++ [o] }

/-- The pending bit of a source. -/
def pendF (src : Nat) : Field := Field.mk (0x20800 + 8 * (src / 64)) (src % 64) (src % 64)
/-- The in-service bit of a source. -/
def insvcF (src : Nat) : Field := Field.mk (0x20840 + 8 * (src / 64)) (src % 64) (src % 64)
/-- The INTx pending bit of a host vector. -/
def hintxF (v : Nat) : Field := Field.mk (0x22100 + 8 * (v / 64)) (v % 64) (v % 64)

/-- The effective acknowledged position of the log: a value of NEXT or above acts as NEXT - 1. -/
def State.logAck (s : State) : Nat := min (s.getF F.GLB_LOG_ACK.ACK) (s.getF F.GLB_LOG_HEAD.NEXT - 1)

/-- Entries of the log that firmware has not acknowledged (R627). -/
def State.logUnacked (s : State) : Nat := s.getF F.GLB_LOG_HEAD.NEXT - 1 - s.logAck

/-- The condition of a level source (Table 15-1): thermal-alert, log-threshold, junction-high. -/
def State.levelCond (s : State) (src : Nat) : Bool :=
  if src == Ev.thermalAlert then s.flag F.EVC_FILTER.THERM
  else if src == Ev.logThreshold then
    s.getF F.GLB_LOG_CFG.THRESH != 0 && decide (s.getF F.GLB_LOG_CFG.THRESH ≤ s.logUnacked)
  else if src == Ev.junctionHigh then s.evc.junction
  else false

/-- Is a source pending? A level source is pending while its condition holds (R514). -/
def State.isPending (s : State) (src : Nat) : Bool :=
  if Ev.level src then s.levelCond src else s.flag (pendF src)

/-- The moderation of a completion source. -/
def State.mod (s : State) (src : Nat) : Moderation := storeGet (fun _ => Moderation.zero) s.evc.mods src
/-- Sets the moderation of a completion source. -/
def State.setMod (s : State) (src : Nat) (m : Moderation) : State :=
  { s with evc := { s.evc with mods := storePut (fun _ => Moderation.zero) s.evc.mods src m } }
/-- The moderation of a host vector. -/
def State.hostMod (s : State) (v : Nat) : Moderation := storeGet (fun _ => Moderation.zero) s.evc.hostMods v
/-- Sets the moderation of a host vector. -/
def State.setHostMod (s : State) (v : Nat) (m : Moderation) : State :=
  { s with evc := { s.evc with hostMods := storePut (fun _ => Moderation.zero) s.evc.hostMods v m } }

/-- One more raise of a moderated source at tick `now`: the count, the tick of the first raise, and the release by count, by
a hold-off of 0 or by an idle target (R525). A source once released stays released (DEDUCED, log entry 78). -/
def Moderation.raised (m : Moderation) (now countM1 holdoff : Nat) (idle : Bool) : Moderation :=
  let n := m.count + 1
  let f := if m.count = 0 then now else m.first
  Moderation.mk n f (m.released || decide (countM1 + 1 ≤ n) || decide (f + holdoff ≤ now) || idle)

/-- The target a source is delivered to (R517). -/
def State.target (s : State) (src : Nat) : Nat := s.getF (F.EVC_SRC_CFG.TARGET src)
/-- A core's idle indication (R526). -/
def State.coreIdle (s : State) (t : Nat) : Bool := s.flag (F.EVC_TGT_STAT.IDLE t)

/-- Raises an edge source once (R514 to R516, R525). Level and reserved sources are not raised so. -/
def State.raise (s : State) (src : Nat) : State :=
  if !Ev.assigned s.build.pair src || Ev.level src then s
  else
    let s := s.setF (pendF src) 1
    if src < 256 then
      s.setMod src ((s.mod src).raised s.tickno (s.getF (F.EVC_GRP_CFG.COUNT_M1 (src / 16)))
        (s.getF (F.EVC_GRP_CFG.HOLDOFF (src / 16))) (s.coreIdle (s.target src)))
    else s

/-! ## Counters (R639, R640) -/

/-- Adds to a counter that wraps. -/
def State.countWrap (s : State) (f : Field) (n : Nat) : State := s.setF f (s.getF f + n)

/-- Ends the sample window where it is over. -/
def State.windowEnd (s : State) : State :=
  if s.windowOver then
    let s : State := { s with sleep := { s.sleep with entryAo := s.aocnt } }
    let s := (s.setF F.TCK_FRAC.PHASE (s.drawn % (512 * s.periodUs))).draw
    ((s.setF F.PWR_STAT.STATE 3).countWrap F.PWR_MITTEN_STAT.WINDOWS 1).raise Ev.mittenWindowDone
  else s

/-- Notes that a saturating counter went from `v` to `v'` with maximum `m`: the first time it reaches its maximum SAT_SEEN is
set and counter-saturated raised, and again only after firmware has cleared SAT_SEEN (R640). -/
def State.noteSat (s : State) (v v' m : Nat) : State :=
  if v < m && v' == m && !s.flag F.GLB_FAULT_STAT.SAT_SEEN then
    (s.setF F.GLB_FAULT_STAT.SAT_SEEN 1).raise Ev.counterSaturated
  else s

/-- Adds to a counter that saturates. -/
def State.countSat (s : State) (f : Field) (n : Nat) : State :=
  let v := s.getF f
  let v' := satAdd (spanBits f.hi f.lo) v n
  (s.setF f v').noteSat v v' (2 ^ spanBits f.hi f.lo - 1)

/-! ## Host signalling (R531, R532, R573, R574) -/

/-- The interrupt mode of the host function: 1 MSI-X, 2 INTx, 0 none (R574). -/
def State.hostMode (s : State) : Nat :=
  if s.host.msixEn then 1 else if !s.host.intxDis then 2 else 0

/-- Is the host function kept from the fabric and from signalling (R573)? -/
def State.hostBlocked (s : State) : Bool := !s.flag F.GLB_HFN_STATUS.BME || s.flag F.GLB_HFN_STATUS.D3

/-- A vector's MSI-X table entry (R651). -/
def State.msix (s : State) (v : Nat) : MsixEntry := storeGet (fun _ => MsixEntry.reset) s.host.table v
/-- A vector's PBA bit. -/
def State.pbaBit (s : State) (v : Nat) : Bool := storeGet (fun _ => false) s.host.pba v
/-- Sets a vector's PBA bit. -/
def State.setPba (s : State) (v : Nat) (b : Bool) : State :=
  { s with host := { s.host with pba := storePut (fun _ => false) s.host.pba v b } }

/-- Delivers a released host vector: the message, the PBA bit of a masked or blocked vector, or the INTx bit. A sent message
and a set INTx bit stand for the acknowledge of R525 (R531, R532). -/
def State.hostSignal (s : State) (v : Nat) : State :=
  if s.hostMode = 1 then
    if s.hostBlocked || s.host.fnMask || (s.msix v).mask then s.setPba v true
    else (s.emit (.msix v (s.msix v).addr (s.msix v).data)).setHostMod v Moderation.zero
  else if s.hostMode = 2 then (s.setF (hintxF v) 1).setHostMod v Moderation.zero
  else s.setHostMod v Moderation.zero

/-- One completion on a host vector (R531). -/
def State.hostRaise (s : State) (v : Nat) : State :=
  let m := (s.hostMod v).raised s.tickno (s.getF F.EVC_HOST_MOD.COUNT_M1) (s.getF F.EVC_HOST_MOD.HOLDOFF) false
  let s := s.setHostMod v m
  if m.released then s.hostSignal v else s

/-! ## The event log (R625 to R628) -/

/-- The log entry at a ring position. -/
def State.logAt (s : State) (pos : Nat) : LogEntry := storeGet (fun _ => LogEntry.blank) s.log pos

/-- Writes one entry: LSEQ from HEAD, position `(LSEQ - 1) mod CAP`, WRITTEN counted, and an unacknowledged entry overwritten
counted and raised (R625, R627). Nothing is written from the acceptance of a power fail (R628), nor while the ring has no
capacity (before census stage 4) (DESIGN CHOICE, log entry 22). -/
def State.logWrite (s : State) (type cls : Nat) (payload : List Byte) : State :=
  let cap := s.getF F.GLB_LOG_CFG.CAP
  if s.pfail || cap == 0 then s
  else
    let n := s.getF F.GLB_LOG_HEAD.NEXT
    let pos := (n - 1) % cap
    let lost := decide (s.logAck < (s.logAt pos).lseq)
    let e := LogEntry.mk n s.mtime s.tickno type cls payload
    let s := { s with log := storePut (fun _ => LogEntry.blank) s.log pos e }
    let s := (s.setF F.GLB_LOG_HEAD.NEXT (n + 1)).countWrap F.GLB_LOG_STAT.WRITTEN 1
    if lost then (s.countSat F.GLB_LOG_STAT.OVERWRITTEN 1).raise Ev.logOverrun else s

/-! ## The cuff (R583, R584) -/

/-- Is the mirror valid (R586)? -/
def State.mirror (s : State) : Bool := s.build.pair && s.flag F.PAIR_STAT.MIRROR_VALID

/-- Sends a cuff message, kept until an ACK covers it; a payload is padded to whole beats. Nothing is sent while the cuff is
down. -/
def State.cuffSend (s : State) (type : Nat) (head payload : List Byte) : State :=
  if !s.build.pair || !s.flag F.PAIR_STAT.CUFF_UP then s
  else
    let m := (s.pair.tx + 1) % 2 ^ 32
    let p := payload ++ List.replicate ((16 - payload.length % 16) % 16) 0#8
    let msg := CuffMsg.mk m type head p s.mtime 0
    ({ s with pair := { s.pair with tx := m, sent := s.pair.sent ++ [msg] } }).emit (.cuff type m head p)

/-- Is an effect that waits for message `m` released: no mirror, or the partner's ACK covers it (R587)? -/
def State.acked (s : State) (m : Option Nat) : Bool :=
  !s.mirror || (match m with
    | some k => !s.pair.sent.any (fun x => x.mseq == k)
    | none => true)

/-! ## Fabric requests (R629 to R632) -/

/-- The epoch of a tag. -/
def State.epoch (s : State) (port tag : Nat) : Nat := storeGet (fun _ => 0) s.epochs (256 * port + tag)

/-- Advances a tag's epoch by 1 modulo 16 (R629) (DEDUCED, log entry 25). -/
def State.bumpEpoch (s : State) (port tag : Nat) : State :=
  { s with epochs := storePut (fun _ => 0) s.epochs (256 * port + tag) ((s.epoch port tag + 1) % 16) }

/-- Does this request hold the tag? -/
def FabReq.holds (r : FabReq) (port tag : Nat) : Bool :=
  match r.issued with
  | some t => t.port == port && t.tag == tag
  | none => false

/-- The first free tag from number `n` on, as 256 * port + tag; the ports are tried in order (DESIGN CHOICE, log entry 24). -/
def freeTag (fab : List FabReq) : Nat → Nat → Option Nat
  | 0, _ => none
  | fuel + 1, n =>
    if fab.any (fun r => r.holds (n / 256) (n % 256)) then freeTag fab fuel (n + 1) else some n

/-- A command context. -/
def State.ctx (s : State) (c : Nat) : Ctx := storeGet (fun _ => Ctx.zero) s.ctxs c
/-- Sets a command context. -/
def State.setCtx (s : State) (c : Nat) (x : Ctx) : State :=
  { s with ctxs := storePut (fun _ => Ctx.zero) s.ctxs c x }
/-- A queue's state beside its registers. -/
def State.queue (s : State) (q : Nat) : Queue := storeGet (fun _ => Queue.zero) s.queues q
/-- Sets a queue's state beside its registers. -/
def State.setQueue (s : State) (q : Nat) (x : Queue) : State :=
  { s with queues := storePut (fun _ => Queue.zero) s.queues q x }

/-- The queue a fabric request is made for, if any. -/
def State.whoQueue (s : State) : FabWho → Option Nat
  | .poll q => some q
  | .fetch q _ => some q
  | .table c _ => some (s.ctx c).queue
  | .tileIn c _ => some (s.ctx c).queue
  | .tileOut c _ => some (s.ctx c).queue
  | .statusArray c => some (s.ctx c).queue
  | .result c => some (s.ctx c).queue
  | .post q => some q
  | .fill _ => none
  | .writeback _ => none
  | .pass _ => none
  | .merge _ => none
  | .pin _ => none
  | .mover _ => none
  | .moverRecord _ => none
  | .cfsBuffer => none
  | .pinRead _ => none
  | .members c => some (s.ctx c).queue

/-- Is a queue owned by the host (R256)? -/
def State.hostOwned (s : State) (q : Nat) : Bool := s.getF (F.GNT_QATTR.OWNER q) == 2

/-- Must this request wait (R573)? -/
def State.fabHeld (s : State) (w : FabWho) : Bool :=
  match s.whoQueue w with
  | some q => s.hostOwned q && s.hostBlocked
  | none => false

/-- Does a request write part of a line that the Liner gives back to memory? -/
def FabReq.givesBack (r : FabReq) : Bool :=
  match r.who with
  | .writeback _ => true
  | .merge _ => true
  | _ => false
/-- Must a request wait for a line that the Liner is still writing, among those asked before it (R473, R476, R478)? -/
def FabReq.behind (r : FabReq) (before : List FabReq) : Bool :=
  before.any (fun w => w.givesBack && decide (w.addr < r.addr + r.len) && decide (r.addr < w.addr + w.len))

/-- The timeout that a request issued now takes (GLB_FAB_CFG): values below 4 act as 4. -/
def State.fabLimit (s : State) : Nat := max 4 (s.getF F.GLB_FAB_CFG.TIMEOUT)

/-- Issues the waiting requests of the list in order, each on the first free tag; `before` holds those already passed. -/
def State.fabIssue (s : State) (before : List FabReq) : List FabReq → State
  | [] => { s with fab := before }
  | r :: rest =>
    if r.issued.isSome || r.cached || s.fabHeld r.who || r.behind before then s.fabIssue (before ++ [r]) rest
    else
      match freeTag (before ++ rest) (256 * s.build.ports) 0 with
      | none => s.fabIssue (before ++ [r]) rest
      | some n =>
        let t := FabTag.mk (n / 256) (n % 256) s.tickno s.fabLimit
        (s.emit (.fabric t.port t.tag (s.epoch t.port t.tag) r.write r.addr r.len)).fabIssue
          (before ++ [{ r with issued := some t }]) rest

/-- Issues whatever can be issued. -/
def State.fabPump (s : State) : State := s.fabIssue [] s.fab

/-- Makes a request of the fabric itself, past the lines of the Liner. -/
def State.fabAsk (s : State) (who : FabWho) (write : Bool) (addr len : Nat) : State :=
  { s with fab := s.fab ++ [FabReq.mk who write addr len none false [] [] []] }.fabPump

/-- Has a request been issued, or served by the Liner whole? -/
def FabReq.under (r : FabReq) : Bool := r.issued.isSome || (r.cached && r.lines.isEmpty)
/-- Is a request of this kind issued and unanswered, or served by the Liner? -/
def State.fabOpen (s : State) (who : FabWho) : Bool := s.fab.any (fun r => r.who == who && r.under)

/-- Removes the first request with this purpose from a list. -/
def fabErase (who : FabWho) : List FabReq → List FabReq
  | [] => []
  | r :: rest => if r.who == who then rest else r :: fabErase who rest

/-- A request was answered: its tag is free again. -/
def State.fabAnswered (s : State) (who : FabWho) : State := { s with fab := fabErase who s.fab }.fabPump

/-- Drops every request that `drop` selects; the epochs of issued tags advance as at a timeout, uncounted (R632). -/
def State.fabAbandon (s : State) (drop : FabWho → Bool) : State :=
  let s' := s.fab.foldl (fun s r =>
    if drop r.who then (match r.issued with | some t => s.bumpEpoch t.port t.tag | none => s) else s) s
  { s' with fab := s.fab.filter (fun r => !drop r.who) }.fabPump

end Sys2Proof.Machine
end

