-- ==== Sys2Proof/Machine/Operands.lean ====
section
/-! DEFINITION. The operand forms: fields of a submission entry (Tables 7-3 and 7-4), image parameters (R539), and the
geometry objects that addresses name. -/

namespace Sys2Proof.Machine

/-! ## Submission entries -/

/-- The bytes `[o, o + n)` of a submission entry as a number. -/
def ent (e : BitVec 512) (o n : Nat) : Nat := (e.toNat >>> (8 * o)) % 2 ^ (8 * n)
def entOp (e : BitVec 512) : Nat := ent e 0 1
def entCtl (e : BitVec 512) : Nat := ent e 1 1
def entPhase (e : BitVec 512) : Bool := entCtl e / 128 % 2 == 1
def entPrio (e : BitVec 512) : Nat := entCtl e / 16 % 8
def entCid (e : BitVec 512) : Nat := ent e 2 2
def entMaddr (e : BitVec 512) : Nat := ent e 8 8
def entDptr (e : BitVec 512) : Nat := ent e 16 8
def entDlen (e : BitVec 512) : Nat := ent e 24 4
def entCount (e : BitVec 512) : Nat := ent e 28 2
def entFrag (e : BitVec 512) : Bool := ent e 30 2 % 2 == 1
/-- READ: SPTR. COPY: DADDR (both in bytes 40 to 47). -/
def entSptr (e : BitVec 512) : Nat := ent e 40 8

/-- The opcodes of Table 7-4. -/
def opREAD : Nat := 0x01
def opWRITE : Nat := 0x02
def opERASE : Nat := 0x03
def opCOPY : Nat := 0x04
def opREADRAW : Nat := 0x05
def opSCRUB : Nat := 0x06
def opCALIBRATE : Nat := 0x07
def opSELFTEST : Nat := 0x08
def opOPEN : Nat := 0x09
def opCLOSE : Nat := 0x0A
def opFENCE : Nat := 0x0B
def opQUERY : Nat := 0x0C
def opSETTIME : Nat := 0x0D
def opVDIE : Nat := 0x0E
def opPOWER : Nat := 0x0F

/-- Does a COPY take its source from memory (SRCMEM)? -/
def entSrcMem (e : BitVec 512) : Bool := ent e 32 1 % 2 == 1

/-- The band address an entry places at: MADDR of a WRITE, DADDR of a COPY. -/
def entDest (e : BitVec 512) : Nat := if entOp e = opCOPY then ent e 40 8 else entMaddr e

/-! ## Image parameters (R539) -/

/-- The identifier of a parameter: CRC-32C of its name in ASCII (DESIGN CHOICE, log entry 18). -/
def paramId (name : String) : Nat := (crc32c (name.toList.map (fun c => BitVec.ofNat 8 c.toNat))).toNat

/-- Element `i` of the named parameter of a family (0xFF: a global, supply or policy section). -/
def State.param (s : State) (family : Nat) (name : String) (i : Nat) : Option Nat :=
  match s.params.find? (fun p => p.family == family && p.id == paramId name) with
  | some p => p.elems[i]?
  | none => none

/-- A family parameter with its default. -/
def State.fp (s : State) (family : Nat) (name : String) (i d : Nat) : Nat := (s.param family name i).getD d
/-- A global, supply or policy parameter with its default. -/
def State.gp (s : State) (name : String) (i d : Nat) : Nat := (s.param 0xFF name i).getD d

/-- An element read as two's complement of `size` bytes. -/
def signedElem (size v : Nat) : Int := if 2 ^ (8 * size - 1) ≤ v then (v : Int) - 2 ^ (8 * size) else v

/-! ## Geometry objects -/

def State.vdie (s : State) (v : Nat) : Vdie := storeGet (fun _ => Vdie.unmapped) s.vdies v
def State.setVdie (s : State) (v : Nat) (x : Vdie) : State :=
  { s with vdies := storePut (fun _ => Vdie.unmapped) s.vdies v x }
def State.pdie (s : State) (p : Nat) : Pdie := storeGet (fun _ => Pdie.absent) s.pdies p
def State.setPdie (s : State) (p : Nat) (x : Pdie) : State :=
  { s with pdies := storePut (fun _ => Pdie.absent) s.pdies p x }
def State.sset (s : State) (g : Nat) : SetDesc := storeGet (fun _ => SetDesc.undef) s.sets g
def State.setSset (s : State) (g : Nat) (x : SetDesc) : State :=
  { s with sets := storePut (fun _ => SetDesc.undef) s.sets g x }
/-- The key of a band. -/
def bandKey (set band : Nat) : Nat := set * 16384 + band
def State.band (s : State) (g b : Nat) : Band := storeGet (fun _ => Band.unerased) s.bands (bandKey g b)
def State.setBand (s : State) (g b : Nat) (x : Band) : State :=
  { s with bands := storePut (fun _ => Band.unerased) s.bands (bandKey g b) x }

/-- Is a stripe set defined? -/
def SetDesc.defined (g : SetDesc) : Bool := g.w != 0
/-- D: data positions of a row. -/
def SetDesc.dpos (g : SetDesc) : Nat := g.w - g.level
/-- Tiles per row. -/
def SetDesc.rowTiles (g : SetDesc) : Nat := g.dpos * g.planes * g.slots
/-- Tiles per band (R79). -/
def SetDesc.tiles (g : SetDesc) : Nat := g.rows * g.rowTiles
/-- The row position of a BOI. -/
def SetDesc.pos (g : SetDesc) (boi : Nat) : RowPos := rowPos g.dpos g.planes g.slots boi
/-- The vdie at a member position. -/
def SetDesc.memberAt (g : SetDesc) (pos : Nat) : Nat := g.members.getD pos 0xFFFF

/-- The first home channel of the unit (R48). -/
def State.c0 (s : State) : Nat := if s.build = .dz96P ∧ s.right then 96 else 0

/-- FAILED members of a set. -/
def State.setFailed (s : State) (g : SetDesc) : Nat := (g.members.filter (fun v => (s.vdie v).state == 2)).length
/-- REBUILDING members of a set. -/
def State.setRebuilding (s : State) (g : SetDesc) : Nat := (g.members.filter (fun v => (s.vdie v).state == 1)).length
/-- m of R60. -/
def State.setMissing (s : State) (g : SetDesc) : Nat := s.setFailed g + s.setRebuilding g
/-- The state code of Table 2-3. -/
def State.setStateCode (s : State) (g : SetDesc) : Nat :=
  let m := s.setMissing g
  if !g.defined then 0 else if g.level < m then 4 else m + 1
/-- Does a set accept writes (Table 2-3)? -/
def State.setWritable (s : State) (g : SetDesc) : Bool :=
  let m := s.setMissing g
  let f := s.setFailed g
  if g.level < m then false else if m = 0 then true else decide (f ≤ g.level - 1)

/-- The key of set `g` of namespace `ns`: 0 the instance's own, 1 the fostered partner's (R597) (DESIGN CHOICE, log entry 250). -/
def nsSet (ns g : Nat) : Nat := 256 * ns + g
/-- The key of vdie `v` of namespace `ns`. -/
def nsVdie (ns v : Nat) : Nat := 4096 * ns + v

/-- Is a band address valid (R82)? `boi0` asks for BOI 0. -/
def State.bandAddrOk (s : State) (ns a : Nat) (boi0 : Bool) : Bool :=
  let g := s.sset (nsSet ns (addrSet a))
  g.defined && addrFormat a == 2 && decide (addrBand a < g.bands) && decide (addrBoi a < g.tiles) &&
    (!boi0 || addrBoi a == 0)

/-- Is a block index one of the journal set's on a vdie (R371)? -/
def State.journalIndex (s : State) (ns v block : Nat) : Bool :=
  let g := s.sset (nsSet ns 255)
  (List.range g.w).any (fun pos => g.members.getD pos 0xFFFF == v % 4096 &&
    (List.range 64).any (fun b => (s.band (nsSet ns 255) b).blocks.getD pos 0xFFFF == block))

/-- A family's geometry, from section 0x0010: planes, blocks per plane, pages per block native and SLC, page and spare bytes. -/
def State.famPlanes (s : State) (f : Nat) : Nat := s.fp f "PLANES" 0 1
def State.famBlocks (s : State) (f : Nat) : Nat := s.fp f "BLOCKS" 0 0
def State.famPages (s : State) (f mode : Nat) : Nat := s.fp f "PAGES" mode 0
def State.famSlots (s : State) (f : Nat) : Nat := pageSlots (s.fp f "PAGE_SIZE" 0 0)

/-- Is a physical vdie address valid (R82)? -/
def State.vdieAddrOk (s : State) (ns a : Nat) : Bool :=
  let v := s.vdie (nsVdie ns (addrVdie a))
  addrFormat a == 1 && v.mapped && v.state != 2 && decide (addrPlane a < s.famPlanes v.family) &&
    decide (addrBlock a < s.famBlocks v.family) && decide (addrPage a < s.famPages v.family 0) &&
    decide (addrSlot a < s.famSlots v.family) && a % 2 ^ 14 == 0

end Sys2Proof.Machine
end

