-- ==== Sys2Proof/Machine/Lines.lean ====
section
/-! DEFINITION. The Liner's lines (chapter 13): attributes and write policies (R470 to R473), replacement (R474), misses, write-backs and
the merge buffer (R475 to R479), prefetch (R480, R481), maintenance (R482 to R488) and the error codes (R490 to R493). -/

namespace Sys2Proof.Machine

/-! ## Attributes (Tables 13-3 and 13-4) -/

inductive Attr where
  | nonAlloc
  | uc
  | wt
  | wb
  | pin
deriving DecidableEq, Repr

/-- Is the cache ENABLED? -/
def State.linerOn (s : State) : Bool := s.getF F.LNR_CTRL.STATE == 1
/-- Row 1 of Table 13-3, with the Mover's record (R508). -/
def FabWho.plain : FabWho → Bool
  | .poll _ => true
  | .fetch _ _ => true
  | .table _ _ => true
  | .post _ => true
  | .statusArray _ => true
  | .moverRecord _ => true
  | _ => false
/-- Is data delivered to a queue owner (R270)? -/
def FabWho.delivery : FabWho → Bool
  | .tileOut _ _ => true
  | .result _ => true
  | _ => false
/-- The requester of an access (Table 20-4). -/
def FabWho.unit : FabWho → Nat
  | .poll _ => 1
  | .fetch _ _ => 1
  | .table _ _ => 1
  | .post _ => 1
  | .members _ => 1
  | .statusArray _ => 2
  | .tileIn _ _ => 2
  | .tileOut _ _ => 2
  | .result _ => 2
  | .pin _ => 2
  | .fill _ => 2
  | .pass _ => 2
  | .writeback _ => 3
  | .merge _ => 3
  | .mover _ => 4
  | .moverRecord _ => 4
  | .cfsBuffer => 5
  | .pinRead _ => 6
/-- Does an address lie in the pin region? -/
def State.inPin (s : State) (a : Nat) : Bool :=
  let base := s.getF F.PTY_PIN_BASE.BASE
  decide (base ≤ a / 4096) && decide (a / 4096 < base + s.getF F.PTY_PIN_SIZE.PAGES)
/-- The attribute that the regions give an address. -/
def State.regionAttr (s : State) (a : Nat) : Attr :=
  match (List.range 16).find? (fun k => s.flag (F.LNR_REGION_BASE.VALID k) && decide (s.getF (F.LNR_REGION_BASE.BASE k) ≤ a / 4096) &&
      decide (a / 4096 ≤ s.getF (F.LNR_REGION_LIMIT.LIMIT k))) with
  | some k => if s.getF (F.LNR_REGION_BASE.ATTR k) = 1 then .wt else if s.getF (F.LNR_REGION_BASE.ATTR k) = 2 then .wb else .uc
  | none => .uc
/-- The attribute of an access; every access takes UC from the disable of the cache on (R487) (DEDUCED, log entry 150). -/
def State.attrOf (s : State) (who : FabWho) (a : Nat) : Attr :=
  if who.plain then .nonAlloc
  else if !s.linerOn || (match s.whoQueue who with | some q => s.hostOwned q | none => false) then .uc
  else if s.inPin a then .pin
  else s.regionAttr a

/-! ## Organisation (R464, R466) -/

/-- Bank and set of a line. -/
def State.lnBank (s : State) (l : Nat) : Nat := l % s.build.banks
def State.lnSet (s : State) (l : Nat) : Nat := 384 * s.lnBank l + l / s.build.banks % 384
/-- The ways of the cache. -/
def State.cacheWays (s : State) : Nat := 32 - s.getF F.LNR_SP_WAYS.WAYS
/-- The lines that `len` bytes at `a` touch. -/
def linesOf (a len : Nat) : List Nat := if len = 0 then [] else (List.range ((a + len - 1) / 256 - a / 256 + 1)).map (· + a / 256)
def State.updLiner (s : State) (f : Liner → Liner) : State := { s with liner := f s.liner }
/-- The line under a key, if it is valid. -/
def State.lineAt (s : State) (key : Nat) : Option LLine := storeGet (fun _ => none) s.liner.lines key
/-- The way that holds a line. -/
def State.wayOf (s : State) (l : Nat) : Option Nat :=
  (List.range s.cacheWays).find? (fun w => match s.lineAt (32 * s.lnSet l + w) with | some x => x.tag == l | none => false)
/-- The key of a line that is present. -/
def State.keyOf (s : State) (l : Nat) : Option Nat := (s.wayOf l).map (fun w => 32 * s.lnSet l + w)
/-- All 32 words. -/
def allWords : Nat := 2 ^ 32 - 1
/-- Is word `k` valid? -/
def LLine.has (x : LLine) (k : Nat) : Bool := x.wv.testBit k

/-! ## Error codes (R490 to R493, R495) -/

def State.flipsAt (s : State) (k : Nat) : Nat × Nat := storeGet (fun _ => (0, 0)) s.liner.flips k
def State.setFlips (s : State) (k : Nat) (v : Nat × Nat) : State :=
  s.updLiner (fun n => { n with flips := storePut (fun _ => (0, 0)) n.flips k v })
/-- The ones of a mask. -/
def ones (n bits : Nat) : Nat := ((List.range bits).filter (fun i => n.testBit i)).length
/-- The bucket of a bank. -/
def bucketF (b : Nat) : Field := Field.mk (0x80420 + 8 * (b / 4)) (16 * (b % 4) + 15) (16 * (b % 4))
/-- A triggered scrub pass of a bank starts; one under way goes on. -/
def State.trigScrub (s : State) (b : Nat) : State :=
  if storeGet (fun _ => 0) s.liner.trig b = 0 then s.updLiner (fun n => { n with trig := storePut (fun _ => 0) n.trig b 1 }) else s
/-- A corrected error in a bank. -/
def State.corrected (s : State) (b : Nat) : State :=
  let s := s.countSat F.LNR_ECC_CNT.CORRECTED 1
  let v := satAdd 16 (s.getF (bucketF b)) 1
  let s := s.setF (bucketF b) v
  if max 1 (s.getF F.LNR_ECC_CFG.THRESH) ≤ v ∧ !s.liner.rated.contains b then
    ((s.updLiner (fun n => { n with rated := n.rated ++ [b] })).raise Ev.linerEccRate).trigScrub b
  else s
/-- An uncorrectable error: kind, line key, word, whether the line was or may have been dirty, the scratchpad area (0xFF: a cache way). -/
def State.uncorrected (s : State) (kind key word : Nat) (dirty : Bool) (area : Nat) : State :=
  let s := (s.setF F.LNR_ECC_LAST.VALID 1).setF F.LNR_ECC_LAST.KIND kind
  let s := (s.setFlag F.LNR_ECC_LAST.DIRTY dirty).setF F.LNR_ECC_LAST.WAY (key % 32)
  let s := (s.setF F.LNR_ECC_LAST.BANK (key / 32 / 384)).setF F.LNR_ECC_LAST.INDEX (key / 32 % 384)
  let s := s.setF F.LNR_ECC_LAST.WORD word
  if kind = 3 then s
  else (s.raise Ev.linerUncorrectable).logWrite 0x20 4 (leBytes 8 (s.reg 0x80418).toNat ++ leBytes 1 area)
/-- Reads a stored word's code: 0 good, 1 corrected (and written back corrected), 2 uncorrectable. What the code makes of three flipped bits or
more is left open (DESIGN CHOICE, log entry 154). -/
def State.eccRead (s : State) (key word : Nat) : Nat × State :=
  let k := 33 * key + word
  let f := s.flipsAt k
  let n := ones f.1 64 + ones f.2 8
  let r := if n ≤ 2 then n else s.drawn % 3
  let s := if n ≤ 2 then s else s.draw
  (r, if r = 1 then (s.setFlips k (0, 0)).corrected (key / 32 / 384) else s)

/-- A tag entry is written: what was flipped in it is gone, and an armed test of its bank takes its masks (R495). -/
def State.tagWritten (s : State) (key : Nat) : State :=
  let s := s.setFlips (33 * key + 32) (0, 0)
  if s.flag F.LNR_FLIP_CTRL.ARMED ∧ s.flag F.LNR_FLIP_CTRL.TARGET ∧ s.getF F.LNR_FLIP_CTRL.BANK = key / 32 / 384 then
    (s.setFlips (33 * key + 32) (s.getF F.LNR_FLIP_DATA.MASK, s.getF F.LNR_FLIP_CTRL.CHECK)).setF F.LNR_FLIP_CTRL.ARMED 0
  else s
/-- What the tag entry of a line covers (R490). -/
def tagPart (x : Option LLine) : Option (Nat × Bool × Bool × Nat) := x.map (fun y => (y.tag, y.dirty, y.locked, y.wv))
/-- Makes a key hold a line, or none. -/
def State.putLine (s : State) (key : Nat) (x : Option LLine) : State :=
  let old := s.lineAt key
  let s := s.updLiner (fun n => { n with lines := storePut (fun _ => none) n.lines key x })
  if tagPart old = tagPart x then s else s.tagWritten key

/-- A tile whose bytes were lost in the Liner: its check word no longer holds. -/
def spoilTile (t : List Byte) : List Byte := t.modify 4124 (fun b => ~~~ b)
/-- The tiles in the buffers `ks` of a pool fail their next CRC check (Table 3-2). -/
def State.spoilBuffers (s : State) (pool : Nat) (ks : List Nat) : State :=
  { s with
    ctxs := s.ctxs.map (fun (e : Nat × Ctx) => if e.2.bufs ≠ pool then e else
      (e.1, { e.2 with tiles := e.2.tiles.mapIdx (fun i t =>
        if e.2.placed ≤ i ∧ ks.contains t.place then { t with data := spoilTile t.data } else t) }))
    wbands := s.wbands.map (fun (e : Nat × WBand) => (e.1, { e.2 with rows := e.2.rows.map (fun r => { r with
      slots := r.slots.map (fun (x : Nat × Slot) =>
        if (x.2.fab == decide (pool = 1)) && ks.contains x.2.place then (x.1, { x.2 with buf := x.2.buf.map spoilTile }) else x) }) })) }
/-- The numbers from `a` to `b`. -/
def fromTo (a b : Nat) : List Nat := (List.range (b + 1 - a)).map (· + a)
/-- The tiles of the fabric pool that lie in a line of the pin region. -/
def State.spoilPin (s : State) (l : Nat) : State :=
  if !s.inPin (256 * l) then s
  else
    let o := 256 * l - 4096 * s.getF F.PTY_PIN_BASE.BASE
    s.spoilBuffers 1 (fromTo (o / tileBytes) ((o + 255) / tileBytes))

/-- A tag entry is read with an uncorrectable error: its line is invalidated without write-back (Table 13-6). -/
def State.tagLost (s : State) (key : Nat) : State :=
  let s := (s.uncorrected 1 key 0 true 0xFF).countSat F.LNR_ECC_CNT2.UNCORR_LOST 1
  let s := match s.lineAt key with
    | some x => if x.dirty then s.spoilPin x.tag else s
    | none => s
  (s.putLine key none).tagWritten key
/-- The tag entries of a set are read. -/
def State.tagCheck (s : State) (set : Nat) : State :=
  ((storeKeys s.liner.flips).filter (fun k => k % 33 == 32 && k / 33 / 32 == set && decide (k / 33 % 32 < s.cacheWays))).foldl (fun s k =>
    let r := s.eccRead (k / 33) 32
    if r.1 = 2 then r.2.tagLost (k / 33) else r.2) s

/-! ## Replacement (R474) -/

/-- plru_touch. -/
def plruTouch (w : Nat) : Nat → Nat → Nat → Nat
  | 0, t, _ => t
  | k + 1, t, n =>
    let b := (w >>> k) % 2
    let t := if b = 0 then t ||| 2 ^ n else if t.testBit n then t - 2 ^ n else t
    plruTouch w k t (2 * n + b)
/-- Is any way of `[lo, lo + n)` allowed? -/
def anyAllowed (allowed : Nat → Bool) (lo n : Nat) : Bool := (List.range n).any (fun i => allowed (lo + i))
/-- plru_victim. -/
def plruDown (t : Nat) (allowed : Nat → Bool) : Nat → Nat → Nat → Nat → Nat
  | 0, _, lo, _ => lo
  | k + 1, n, lo, size =>
    let half := size / 2
    let go := t.testBit n
    let go := if !go && !anyAllowed allowed lo half then true else go
    let go := if go && !anyAllowed allowed (lo + half) half then false else go
    plruDown t allowed k (2 * n + (if go then 1 else 0)) (if go then lo + half else lo) half
def plruVictim (t : Nat) (allowed : Nat → Bool) : Option Nat :=
  if !anyAllowed allowed 0 32 then none else some (plruDown t allowed 5 1 0 32)

/-- A demand access to a way. -/
def State.touch (s : State) (set way : Nat) : State :=
  s.updLiner (fun n => { n with plru := storePut (fun _ => 0) n.plru set (plruTouch way 5 (storeGet (fun _ => 0) n.plru set) 1) })
/-- The miss outstanding in a bank. -/
def State.missAt (s : State) (b : Nat) : Option Miss := storeGet (fun _ => none) s.liner.miss b
def State.setMiss (s : State) (b : Nat) (m : Option Miss) : State :=
  s.updLiner (fun n => { n with miss := storePut (fun _ => none) n.miss b m })
/-- The miss outstanding for a line. -/
def State.missOf (s : State) (l : Nat) : Option Miss := match s.missAt (s.lnBank l) with | some m => if m.line = l then some m else none | none => none
/-- The way a miss takes: the lowest invalid one, else the victim; a prefetch takes no dirty one. -/
def State.chooseWay (s : State) (l : Nat) (prefetch : Bool) : Option Nat :=
  let set := s.lnSet l
  let busy (w : Nat) : Bool := match s.missAt (s.lnBank l) with | some m => s.lnSet m.line == set && m.way == w | none => false
  let ways := (List.range s.cacheWays).filter (fun w => !busy w)
  match ways.find? (fun w => (s.lineAt (32 * set + w)).isNone) with
  | some w => some w
  | none => plruVictim (storeGet (fun _ => 0) s.liner.plru set) (fun w => ways.contains w &&
      (match s.lineAt (32 * set + w) with | some x => !x.locked && !(prefetch && x.dirty) | none => false))

/-! ## Writes to memory -/

/-- The runs of bytes present, as (address, bytes). -/
def byteRuns : Nat → List (Option Byte) → List (Nat × List Byte)
  | _, [] => []
  | a, none :: rest => byteRuns (a + 1) rest
  | a, some x :: rest =>
    match byteRuns (a + 1) rest with
    | (b, m) :: more => if b = a + 1 then (a, x :: m) :: more else (a, [x]) :: (b, m) :: more
    | [] => [(a, [x])]
def State.emitRuns (s : State) (a : Nat) (m : List (Option Byte)) : State := (byteRuns a m).foldl (fun s r => s.emit (.data r.1 r.2)) s
/-- The valid bytes of a line. -/
def LLine.bytes (x : LLine) : List (Option Byte) := x.data.mapIdx (fun i b => if x.has (i / 8) then some b else none)

/-- Is the write-back buffer of a line's bank full (R476)? -/
def State.wbFull (s : State) (l : Nat) : Bool := decide (4 ≤ (s.liner.wbuf.filter (fun w => s.lnBank w.line == s.lnBank l)).length)
/-- Is a line in a write-back buffer? -/
def State.inWbuf (s : State) (l : Nat) : Bool := s.liner.wbuf.any (fun w => w.line == l)
/-- A line's valid words go to the write-back buffer and to the fabric. -/
def State.writeBack (s : State) (key : Nat) (x : LLine) (owner : Option Nat) : State :=
  let s := s.updLiner (fun n => { n with wbuf := n.wbuf ++ [WbLine.mk x.tag key owner] })
  (s.fabAsk (.writeback x.tag) true (256 * x.tag) 256).emitRuns (256 * x.tag) x.bytes

/-- Writes the merge entry of a line to the fabric (R478). -/
def State.flushMerge (s : State) (l : Nat) : State :=
  match s.liner.merge.find? (fun m => m.line == l) with
  | none => s
  | some m =>
    let s := s.updLiner (fun n => { n with merge := n.merge.filter (fun x => x.line != l), merging := n.merging ++ [m] })
    (s.fabAsk (.merge l) true (256 * l) 256).emitRuns (256 * l) m.bytes
/-- Writes all of them. -/
def State.flushAll (s : State) : State := (s.liner.merge.map (·.line)).foldl (fun s l => s.flushMerge l) s
/-- A write joins the merge buffer: `m` lies over the line's bytes. -/
def State.mergeWrite (s : State) (l : Nat) (m : List (Option Byte)) (who : FabWho) : State :=
  let has := s.liner.merge.any (fun x => x.line == l)
  let s := if !has && decide (16 ≤ s.liner.merge.length) then
      ((s.liner.merge.head?).elim s (fun x => s.flushMerge x.line)) else s
  let join (x : MergeEntry) : MergeEntry :=
    { x with bytes := List.zipWith (fun a b => b.or a) x.bytes m, whos := x.whos ++ [who] }
  let all := if has then s.liner.merge.map (fun x => if x.line = l then join x else x) else s.liner.merge ++ [MergeEntry.mk l m [who]]
  let s := s.updLiner (fun n => { n with merge := all })
  if s.liner.merge.any (fun x => x.line == l && x.bytes.all (·.isSome)) then s.flushMerge l else s

/-- `m` at address `a` laid over line `l`. -/
def onLine (l a : Nat) (m : List Byte) : List (Option Byte) :=
  (List.range 256).map (fun i => if a ≤ 256 * l + i then m[256 * l + i - a]? else none)
/-- Word `k` of what is laid over a line: whole, in part, or not touched. -/
def wordPart (m : List (Option Byte)) (k : Nat) : Bool × Bool :=
  let w := (m.drop (8 * k)).take 8
  (w.all (·.isSome), w.any (·.isSome))
/-- A line with bytes written: whole words become valid, parts of words change valid words only. -/
def LLine.over (x : LLine) (m : List (Option Byte)) : LLine :=
  let whole := (List.range 32).filter (fun k => (wordPart m k).1)
  { x with
    wv := whole.foldl (fun v k => v ||| 2 ^ k) x.wv
    data := x.data.mapIdx (fun i b => if whole.contains (i / 8) || x.has (i / 8) then (m.getD i none).getD b else b) }
/-- A line that holds nothing yet. -/
def LLine.blank (l : Nat) : LLine := LLine.mk l false false 0 (List.replicate 256 0#8)
/-- Does it write parts of words? -/
def partWords (m : List (Option Byte)) : Bool := (List.range 32).any (fun k => (wordPart m k).2 && !(wordPart m k).1)

/-! ## Requests (R471, R473, R475) -/

def State.updReq (s : State) (i : Nat) (f : FabReq → FabReq) : State := { s with fab := s.fab.modify i f }
/-- Line `l` of request `i` is served. -/
def State.served1 (s : State) (i l : Nat) : State := s.updReq i (fun r => { r with lines := r.lines.filter (· != l) })
/-- Line `l` of a read is served with its bytes. -/
def State.giveLine (s : State) (i l : Nat) (m : List Byte) : State :=
  (s.updReq i (fun r => { r with got := r.got ++ [(l, m)] })).served1 i l
/-- A line is read past the cache. -/
def State.passAsk (s : State) (l : Nat) : State :=
  if s.fab.any (fun r => r.who == .pass l) then s else s.fabAsk (.pass l) false (256 * l) 256
/-- R473: the line is written back if dirty and stays clean; a clean one is invalidated (DESIGN CHOICE, log entry 161). -/
def State.ucRead (s : State) (l : Nat) : State :=
  let s := (s.tagCheck (s.lnSet l)).flushMerge l
  match s.keyOf l with
  | none => s
  | some k =>
    match s.lineAt k with
    | some x => if x.dirty then (s.writeBack k x none).putLine k (some { x with dirty := false }) else s.putLine k none
    | none => s
/-- A UC or non-allocating write updates a line that it hits. -/
def State.ucWrite (s : State) (l a : Nat) (m : List Byte) : State :=
  let s := (s.tagCheck (s.lnSet l)).flushMerge l
  match s.keyOf l with
  | none => s
  | some k =>
    match s.lineAt k with
    | some x => (s.putLine k (some (x.over (onLine l a m)))).touch (k / 32) (k % 32)
    | none => s

/-- A fill is asked for into a way; a dirty victim goes to the write-back buffer. None while the bank cannot take it (R475, R476). -/
def State.startFill (s : State) (l way : Nat) (prefetch lock : Bool) : Option State :=
  let b := s.lnBank l
  let key := 32 * s.lnSet l + way
  let same := match s.lineAt key with | some x => x.tag == l | none => false
  if (s.missAt b).isSome then none
  else
    let go (s : State) : State := (s.setMiss b (some (Miss.mk l way prefetch false lock))).fabAsk (.fill l) false (256 * l) 256
    match s.lineAt key with
    | some x =>
      if same then some (go s)
      else if x.dirty then (if s.wbFull x.tag then none else some (go ((s.writeBack key x none).putLine key none)))
      else some (go (s.putLine key none))
    | none => some (go s)
/-- Makes room in a way for a write that allocates without fill. -/
def State.clearWay (s : State) (key : Nat) : Option State :=
  match s.lineAt key with
  | none => some s
  | some x => if !x.dirty then some (s.putLine key none) else if s.wbFull x.tag then none else some ((s.writeBack key x none).putLine key none)

/-! ### Stream trackers (R480, R481) -/

/-- Training by a demand read miss in a WT or WB region (DESIGN CHOICE, log entry 162). -/
def State.trainStream (s : State) (unit l : Nat) : State :=
  if !s.flag F.LNR_CTRL.PF_EN then s
  else
    let mine (t : Stream) : Bool := t.req == unit && t.page == l / 16
    match s.liner.streams.find? mine with
    | none => s.updLiner (fun n => { n with streams := Stream.mk unit (l / 16) l 0 1 :: n.streams.take 15 })
    | some t =>
      let d : Int := (l : Int) - t.last
      let ok := d ≠ 0 ∧ -8 ≤ d ∧ d ≤ 8
      let t' := if t.count = 3 then { t with last := if d = t.stride then l else t.last }
        else if t.count = 2 ∧ d = t.stride then { t with last := l, count := 3 }
        else if ok then { t with last := l, stride := d, count := 2 }
        else { t with last := l, count := 1 }
      s.updLiner (fun n => { n with streams := t' :: n.streams.filter (fun x => !mine x) })
/-- A demand hit moves a confirmed stream on. -/
def State.followStream (s : State) (unit l : Nat) : State :=
  let mine (t : Stream) : Bool := t.req == unit && t.page == l / 16 && t.count == 3 && decide ((l : Int) - t.last = t.stride)
  match s.liner.streams.find? mine with
  | none => s
  | some t => s.updLiner (fun n => { n with streams := { t with last := l } :: n.streams.filter (fun x => x != t) })
/-- The lines a confirmed stream wants ahead. -/
def State.wanted (s : State) (t : Stream) : List Nat :=
  let depth := min 8 (max 1 (s.getF F.LNR_CTRL.PF_DEPTH))
  ((List.range depth).map (fun (k : Nat) => (t.last : Int) + t.stride * (Int.ofNat k + 1))).filterMap (fun x =>
    if 0 ≤ x ∧ x.toNat / 16 = t.page then some x.toNat else none)
/-- Starts the prefetches that a free miss slot and a clean victim allow; a tracker whose page ends is freed. -/
def State.prefetchRun (s : State) : State :=
  if !s.linerOn then s
  else
    let s := s.updLiner (fun n => { n with streams := n.streams.filter (fun (t : Stream) => t.count != 3 ||
      (decide (0 ≤ (t.last : Int) + t.stride) && ((t.last : Int) + t.stride).toNat / 16 == t.page)) })
    (s.liner.streams.filter (fun t => t.count == 3)).foldl (fun s t => (s.wanted t).foldl (fun s l =>
      let waits := s.fab.any (fun r => r.cached && !r.write && r.lines.any (fun x => s.lnBank x == s.lnBank l))
      if waits || (s.wayOf l).isSome || s.inWbuf l || (s.missOf l).isSome then s
      else
        match s.chooseWay l true with
        | none => s
        | some w => (s.startFill l w true false).getD s) s) s

/-! ### Serving -/

/-- Serves line `l` of read `i` if it can be. -/
def State.serveRead (s : State) (i l : Nat) (r : FabReq) : State :=
  let a := s.attrOf r.who (max r.addr (256 * l))
  let s := (s.tagCheck (s.lnSet l)).flushMerge l
  let need := (List.range 32).filter (fun k => decide (r.addr < 256 * l + 8 * k + 8) && decide (256 * l + 8 * k < r.addr + r.len))
  let fill (w : Nat) : State :=
    if (s.missOf l).isSome then s
    else (match s.startFill l w false false with | some s' => s'.trainStream r.who.unit l | none => s)
  if a = .nonAlloc ∨ a = .uc then (s.ucRead l).passAsk l
  else
    match s.wayOf l with
    | some w =>
      let x := (s.lineAt (32 * s.lnSet l + w)).getD (LLine.blank l)
      if need.all (fun k => x.has k) then ((s.touch (s.lnSet l) w).followStream r.who.unit l).giveLine i l x.data
      else fill w
    | none =>
      if s.inWbuf l then s
      else if a = .pin then s.passAsk l
      else if (s.missOf l).isSome then s
      else (match s.chooseWay l false with | some w => fill w | none => s.passAsk l)

/-- Serves line `l` of write `i` if it can be (Table 13-4) (DEDUCED, log entry 151). -/
def State.serveWrite (s : State) (i l : Nat) (r : FabReq) : State :=
  let a := s.attrOf r.who (max r.addr (256 * l))
  let s := s.tagCheck (s.lnSet l)
  let m := onLine l r.addr r.data
  let keep := decide (a = .wb ∨ a = .pin)
  let through := !keep || r.who.delivery || partWords m
  let done (s : State) : State := (if through then s.mergeWrite l m r.who else s).served1 i l
  if (s.missOf l).isSome then s
  else
    match s.keyOf l with
    | some k =>
      (match s.lineAt k with
       | some x => done ((s.putLine k (some { x.over m with dirty := x.dirty || keep })).touch (k / 32) (k % 32))
       | none => s)
    | none =>
      if !keep then done s
      else if s.inWbuf l then s
      else
        match s.chooseWay l false with
        | none => (s.mergeWrite l m r.who).served1 i l
        | some w =>
          match s.clearWay (32 * s.lnSet l + w) with
          | none => s
          | some s => done ((s.putLine (32 * s.lnSet l + w) (some { (LLine.blank l).over m with dirty := true })).touch (s.lnSet l) w)

/-- Serves what can be served of request `i`; a line waits for earlier requests to it. -/
def State.serveReq (s : State) (i : Nat) : State :=
  match s.fab[i]? with
  | none => s
  | some r =>
    if !r.cached then s
    else r.lines.foldl (fun s l =>
      if (s.fab.take i).any (fun e => e.cached && e.lines.contains l && (e.write || r.write)) then s
      else if r.write then s.serveWrite i l r else s.serveRead i l r) s
/-- Serves the waiting requests in order; a tile that is in the lines of the pin region needs no more. -/
def State.lnServe (s : State) : State :=
  let s := (List.range s.fab.length).foldl (fun s i => s.serveReq i) s
  { s with fab := s.fab.filter (fun r => match r.who with | .pin _ => !(r.cached && r.lines.isEmpty) | _ => true) }

/-! ## Maintenance (R482 to R487) -/

/-- Zeros over a line. -/
def zeroLine (l : Nat) (dirty locked : Bool) : LLine := LLine.mk l dirty locked allWords (List.replicate 256 0#8)
/-- Locked lines of a set, those on their way included. -/
def State.lockedIn (s : State) (set : Nat) : Nat :=
  ((List.range s.cacheWays).filter (fun w => match s.lineAt (32 * set + w) with | some x => x.locked | none => false)).length +
    (match s.missAt (set / 384) with | some m => if m.lock ∧ s.lnSet m.line = set then 1 else 0 | none => 0)
def State.countOp (s : State) (owner : Nat) (f : Field) : State := if owner = 0 then s.setF f (satAdd (spanBits f.hi f.lo) (s.getF f) 1) else s
/-- Drops a line unless it is locked (R484); a disable ignores locks. -/
def State.dropUnlocked (s : State) (owner k : Nat) (x : LLine) : State :=
  if x.locked ∧ owner ≠ 1 then s.countOp owner F.LNR_MAINT_STAT.SKIPPED_LOCKED else s.putLine k none
/-- Processes one line of an operation; none while it must wait (DEDUCED, log entry 153). -/
def State.maintLine (s : State) (owner code l : Nat) : Option State :=
  let s := s.tagCheck (s.lnSet l)
  let inv := code = 2 ∨ code = 3 ∨ code = 8
  let clean := code = 1 ∨ code = 3 ∨ code = 7 ∨ code = 8
  let waits := match s.missOf l with | some m => !m.prefetch | none => false
  if waits then none
  else
    let s := match s.missOf l with | some m => if inv then s.setMiss (s.lnBank l) (some { m with drop := true }) else s | none => s
    match s.keyOf l with
    | some k =>
      let x := (s.lineAt k).getD (LLine.blank l)
      if code = 4 then
        let wb := decide (s.regionAttr (256 * l) = .wb)
        let s := s.putLine k (some (zeroLine l (x.dirty || wb) x.locked))
        some (if wb then s else s.mergeWrite l (List.replicate 256 (some 0#8)) (.writeback l))
      else if code = 5 then
        some (if x.locked then s
          else if 28 - s.getF F.LNR_SP_WAYS.WAYS ≤ s.lockedIn (k / 32) then s.countOp owner F.LNR_MAINT_STAT.LOCK_FAILS
          else s.putLine k (some { x with locked := true }))
      else if code = 6 ∨ code = 9 then some (s.putLine k (some { x with locked := false }))
      else if clean ∧ x.dirty then
        (if s.wbFull l then none
         else
           let s := (s.writeBack k x (some owner)).putLine k (some { x with dirty := false })
           some (if inv then s.dropUnlocked owner k { x with dirty := false } else s))
      else some (if inv then s.dropUnlocked owner k x else s)
    | none =>
      if code = 4 ∧ s.regionAttr (256 * l) = .wb then
        (if s.inWbuf l then none
         else match s.chooseWay l false with
           | none => some (s.mergeWrite l (List.replicate 256 (some 0#8)) (.writeback l))
           | some w => (s.clearWay (32 * s.lnSet l + w)).map (fun s => s.putLine (32 * s.lnSet l + w) (some (zeroLine l true false))))
      else if code = 4 then some (s.mergeWrite l (List.replicate 256 (some 0#8)) (.writeback l))
      else if code = 5 then
        (if 28 - s.getF F.LNR_SP_WAYS.WAYS ≤ s.lockedIn (s.lnSet l) then some (s.countOp owner F.LNR_MAINT_STAT.LOCK_FAILS)
         else if s.inWbuf l then none
         else match s.chooseWay l false with
           | none => some (s.countOp owner F.LNR_MAINT_STAT.LOCK_FAILS)
           | some w => s.startFill l w false true)
      else some s

/-- Processes an operation's lines in order until one must wait: what is left, and the state. -/
def State.maintRun (s : State) (owner code : Nat) : List Nat → State × List Nat
  | [] => (s, [])
  | l :: rest =>
    match s.maintLine owner code l with
    | none => (s, l :: rest)
    | some s => (s.countOp owner F.LNR_MAINT_STAT.LINES_DONE).maintRun owner code rest
/-- Carries every operation on. -/
def State.maintStep (s : State) : State :=
  s.liner.ops.foldl (fun s (m : Maint) =>
    let r := s.maintRun m.owner m.code m.todo
    r.1.updLiner (fun n => { n with ops := n.ops.map (fun (x : Maint) => if x.owner = m.owner then { x with todo := r.2 } else x) })) s
/-- Serves what waits, carries maintenance on and prefetches. -/
def State.lnRun (s : State) : State := (s.lnServe.maintStep).prefetchRun

/-- The lines present or on their way. -/
def State.heldLines (s : State) : List Nat :=
  (s.liner.lines.filterMap (fun e => e.2.map (·.tag))) ++ (s.liner.miss.filterMap (fun e => e.2.map (·.line)))
/-- In the order of processing: by ascending index (R485). -/
def State.bySet (s : State) (l : List Nat) : List Nat :=
  l.eraseDups.mergeSort (fun a b => decide (a / s.build.banks % 384 ≤ b / s.build.banks % 384))
/-- Starts an operation over the given lines. -/
def State.startMaint (s : State) (owner code : Nat) (lines : List Nat) : State :=
  (s.flushAll.updLiner (fun n => { n with ops := n.ops ++ [Maint.mk owner code (s.bySet lines)] })).lnRun
/-- Has an operation processed its lines, and every write-back it caused been acknowledged? -/
def State.maintOver (s : State) (owner : Nat) : Bool :=
  s.liner.ops.any (fun m => m.owner == owner && m.todo.isEmpty && (m.code != 10 || s.liner.trig.isEmpty)) &&
    !s.liner.wbuf.any (fun w => w.owner == some owner) &&
    !(s.liner.miss.any (fun e => match e.2 with | some m => m.lock | none => false))
/-- An operation leaves the list. -/
def State.endMaint (s : State) (owner : Nat) : State := s.updLiner (fun n => { n with ops := n.ops.filter (fun m => m.owner != owner) })

/-! ## Accesses -/

/-- A read of `len` bytes at `addr`. -/
def State.fabRead (s : State) (who : FabWho) (addr len : Nat) : State :=
  let ls := linesOf addr len
  if ls.all (fun l => s.attrOf who (max addr (256 * l)) = .nonAlloc ∨ s.attrOf who (max addr (256 * l)) = .uc) then
    (ls.foldl (fun s l => s.ucRead l) s).fabAsk who false addr len
  else
    State.lnRun { s with fab := s.fab ++ [FabReq.mk who false addr len none true ls [] []] }
/-- A write of bytes to `addr`. -/
def State.fabWrite (s : State) (who : FabWho) (addr : Nat) (m : List Byte) : State :=
  let ls := linesOf addr m.length
  if ls.all (fun l => s.attrOf who (max addr (256 * l)) = .nonAlloc ∨ s.attrOf who (max addr (256 * l)) = .uc) then
    ((ls.foldl (fun s l => s.ucWrite l addr m) s).fabAsk who true addr m.length).emit (.data addr m)
  else
    State.lnRun { s with fab := s.fab ++ [FabReq.mk who true addr m.length none true ls [] m] }
/-- The bytes of a page given by its fields. -/
def pageBytes (len : Nat) (fields : List (Nat × Nat × Nat)) : List Byte :=
  fields.foldl (fun m e => m.take e.1 ++ leBytes e.2.1 e.2.2 ++ m.drop (e.1 + e.2.1)) (List.replicate len 0#8)
/-- A write of a page of `len` bytes with the given fields. -/
def State.fabPage (s : State) (who : FabWho) (addr len : Nat) (fields : List (Nat × Nat × Nat)) : State :=
  let ls := linesOf addr len
  if ls.all (fun l => s.attrOf who (max addr (256 * l)) = .uc) then
    ((ls.foldl (fun s l => s.ucWrite l addr (pageBytes len fields)) s).fabAsk who true addr len).emit (.page addr len fields)
  else s.fabWrite who addr (pageBytes len fields)
/-- The bytes a cached read gathered. -/
def FabReq.bytes (r : FabReq) : List Byte :=
  let base := r.addr / 256
  slice (((linesOf r.addr r.len).map (fun l => (r.got.find? (fun g => g.1 == l)).elim (List.replicate 256 0#8) (·.2))).flatten)
    (r.addr - 256 * base) r.len
/-- What the reads of `who` brought: the Liner's bytes where it served a read, else the bytes that came from the fabric. -/
def State.readBytes (s : State) (who : FabWho) (m : List Byte) : List Byte :=
  ((s.fab.filter (fun r => r.who == who)).foldl (fun (a : List Byte × Nat) r =>
    (a.1 ++ (if r.cached then r.bytes else slice m a.2 r.len), a.2 + r.len)) ([], 0)).1

end Sys2Proof.Machine
end

