-- ==== Sys2Proof/Machine/Queue.lean ====
section
/-! DEFINITION. Work queues (chapter 7): enabling, polling, arbitration, fetch with the checks of Table 7-6, fragment chains,
admission, completions and the ERROR state. -/

namespace Sys2Proof.Machine

/-! ## The Gauntlet's windows (R256) -/

/-- Does window `w` serve queue `q` for this access and hold the whole range? -/
def State.winHas (s : State) (q w addr len : Nat) (write : Bool) : Bool :=
  (s.getF (F.GNT_QWIN.WINDOWS q)).testBit w && s.flag (F.GNT_WIN_BASE.VALID w) &&
    (if write then s.flag (F.GNT_WIN_LIMIT.WRITE w) else s.flag (F.GNT_WIN_LIMIT.READ w)) &&
    decide (s.getF (F.GNT_WIN_BASE.BASE w) * 4096 ≤ addr) &&
    decide (addr + len ≤ (s.getF (F.GNT_WIN_LIMIT.LIMIT w) + 1) * 4096)

/-- Does the range lie entirely within one window of the queue (R256)? -/
def State.inWindows (s : State) (q addr len : Nat) (write : Bool) : Bool :=
  (List.range 64).any (fun w => s.winHas q w addr len write)

/-! ## Queue registers -/

/-- The ring depth: DEPTH_M1 0 acts as 1. -/
def State.depth (s : State) (q : Nat) : Nat := max 1 (s.getF (F.WQ_CFG.DEPTH_M1 q)) + 1
def State.sqBase (s : State) (q : Nat) : Nat := s.getF (F.WQ_SQ_BASE.ADDR q) * 64
def State.cqBase (s : State) (q : Nat) : Nat := s.getF (F.WQ_CQ_BASE.ADDR q) * 64
def State.idxAddr (s : State) (q : Nat) : Nat := s.getF (F.WQ_IDX_ADDR.ADDR q) * 8
/-- WQ_STATUS.STATE: 0 DISABLED, 1 ENABLED, 2 SHUTTING_DOWN, 3 ERROR. -/
def State.qState (s : State) (q : Nat) : Nat := s.getF (F.WQ_STATUS.STATE q)
/-- The most entries outstanding at once: LIMIT 0 means depth - 1. -/
def State.maxOut (s : State) (q : Nat) : Nat :=
  if s.getF (F.WQ_MAXOUT.LIMIT q) = 0 then s.depth q - 1 else s.getF (F.WQ_MAXOUT.LIMIT q)
/-- Is the queue a foster queue (R597)? -/
def State.fosterQ (s : State) (q : Nat) : Bool :=
  s.build.pair && (s.getF (F.PAIR_FOSTERQ.FOSTER (q / 64))).testBit (q % 64)
/-- The namespace a queue's addresses name (R597). -/
def State.qNs (s : State) (q : Nat) : Nat := if s.fosterQ q then 1 else 0
/-- The weight in force: 0 acts as 1. -/
def Queue.weight (x : Queue) : Nat := max 1 (getBits x.arb 15 8)
/-- The burst in force. -/
def Queue.burst (x : Queue) : Nat := getBits x.arb 21 16 + 1
/-- URGENT acts as 0 unless the Gauntlet's CEILING is 0 (R253). -/
def State.urgent (s : State) (q : Nat) : Bool :=
  getBits (s.queue q).arb 31 31 == 1 && s.getF (F.GNT_QATTR.CEILING q) == 0

/-- May a write reach a queue's register: through BAR0 only host-owned queues of a ready function; through the register window
not those of the host, but for SHUTDOWN and DISCARD (R243, R571, R577). Not from a power fail (R441), nor in the fatal state
(R634). -/
def State.qWriteOk (s : State) (bar stop : Bool) (q : Nat) : Bool :=
  q < 1024 && s.served && !s.pfail && !s.fatal &&
    (if bar then s.hostOwned q && s.flag F.GLB_HFN_STATUS.READY else !s.hostOwned q || stop)

/-! ## Enabling (R245, Table 7-1) -/

/-- The code of the first failed check; 0 when all pass. -/
def State.enableCause (s : State) (q : Nat) : Nat :=
  let d := s.depth q
  let o := s.getF (F.GNT_QATTR.OWNER q)
  if !s.locked || !(o == 1 || o == 2) then 1
  else if !s.inWindows q (s.sqBase q) (d * 64) false then 2
  else if !s.inWindows q (s.cqBase q) (d * 32) true then 3
  else if !s.inWindows q (s.idxAddr q) 8 false then 4
  else if s.fosterQ q && s.getF F.PAIR_STAT.STATE != 5 then 5
  else 0

/-- Sends QCFG: the queue's 64 bytes of registers, and OWNER and VECTOR (Table 18-1). -/
def State.sendQcfg (s : State) (q : Nat) : State :=
  s.cuffSend 0x20 (leBytes 2 q ++ leBytes 1 (s.getF (F.GNT_QATTR.OWNER q)) ++ leBytes 1 0 ++ leBytes 2 (s.getF (F.WQ_CFG.VECTOR q)) ++ leBytes 2 0)
    (([0, 8, 0x10].map (fun o => leBytes 8 (s.reg (0x40000 + 64 * q + o)).toNat)).flatten ++
      ([0x18, 0x1C, 0x20, 0x24, 0x28, 0x2C, 0x30, 0x34, 0x38, 0x3C].map (fun o => leBytes 4 (s.reg (0x40000 + 64 * q + o)).toNat)).flatten)

/-- The write of 1 to ENABLE of a queue (DEDUCED, log entry 79). -/
def State.enableQueue (s : State) (q : Nat) : State :=
  if s.qState q ≠ 0 then s
  else
    let c := s.enableCause q
    if c ≠ 0 then s.setF (F.WQ_STATUS.CAUSE q) c
    else
      let arb := s.reg (F.WQ_ARB.WEIGHT q).reg
      let x := { Queue.zero with poll := s.reg (F.WQ_POLL.INTERVAL q).reg, arb := arb }
      let s := s.setQueue q { x with credit := x.weight }
      let s := (s.setF (F.WQ_STATUS.SQ_CI q) 0).setF (F.WQ_OUT.CQ_PI q) 0
      ((s.setF (F.WQ_STATUS.CAUSE q) 0).setF (F.WQ_STATUS.STATE q) 1).sendQcfg q

/-- QUEUE_ENABLE, through the register window or BAR0. -/
def execQueueEnable (bar : Bool) (q : Nat) (s : State) : Host.Outcome State Fault Refusal :=
  .next (if s.qWriteOk bar false q then
      (if s.asleep then
        s.holdWrite (HeldWrite.mk (if bar then 1 else 0) 0 (0x40028 + 0x40 * q) 4 1#64)
       else s.enableQueue q)
    else s)

/-! ## Contexts -/

/-- The least number from `n` on that is no key of the rising list. -/
def leastFree {α : Type} (n : Nat) : Store α → Nat
  | [] => n
  | (k, _) :: t => if k = n then leastFree (n + 1) t else n

/-- Contexts in use (R254). -/
def State.ctxUsed (s : State) : Nat := s.ctxs.length
/-- The contexts of a queue. -/
def State.ctxsOf (s : State) (q : Nat) : List (Nat × Ctx) :=
  s.ctxs.filter (fun e => e.2.queue == q && e.2.state != .free)

/-- An entry's completion becomes ready with its status and results (R270); the status array and data writes come before. -/
def State.finish (s : State) (c status detail r0 r1 r2 : Nat) : State :=
  let s' := s.setCtx c { s.ctx c with
    state := .ready, status := status, detail := detail, r0 := r0, r1 := r1, r2 := r2, readySeq := s.readySeq }
  { s' with readySeq := s.readySeq + 1 }

/-- Takes a context that ended out of the fences that wait for it; a fence left with nothing to wait for is ready (R277), with
the abort status when its queue is shut down meanwhile (Table 7-10). -/
def State.releaseFences (s : State) (c : Nat) : State :=
  s.ctxs.foldl (fun s e =>
    if e.2.state = .running ∧ entOp e.2.entry = opFENCE ∧ c ∈ e.2.waitsFor then
      (let x := s.ctx e.1
       let s := s.setCtx e.1 { x with waitsFor := x.waitsFor.filter (· != c) }
       if (s.ctx e.1).waitsFor = [] then s.finish e.1 (s.queue x.queue).abort 0 0 0 0 else s)
    else s) s

/-- Frees a context whose completion was written or discarded; the last one of a queue that shuts down makes it DISABLED
(R282). -/
def State.freeCtx (s : State) (c : Nat) : State :=
  let q := (s.ctx c).queue
  let s := s.setCtx c Ctx.zero
  let s := s.setF (F.WQ_OUT.OUTSTANDING q) (s.getF (F.WQ_OUT.OUTSTANDING q) - 1)
  let s := s.releaseFences c
  if s.qState q = 2 ∧ s.ctxsOf q = [] then s.setF (F.WQ_STATUS.STATE q) 0 else s

/-! ## The ERROR state (R284) -/

/-- A queue enters ERROR on a cause of 16 to 18. -/
def State.queueError (s : State) (q cause addr : Nat) : State :=
  if s.qState q = 1 then
    let s := (s.setF (F.WQ_STATUS.STATE q) 3).setF (F.WQ_STATUS.CAUSE q) cause
    let s := s.logWrite 0x0032 3 (leBytes 2 q ++ leBytes 1 cause ++ leBytes 1 0 ++ leBytes 8 addr)
    s.raise Ev.queueError
  else s

/-! ## The partner's queues after a hand-over (R590, R592) -/

/-- A partner queue as a fabric request names it. -/
def farQ (q : Nat) : Nat := 2 ^ 32 + q
/-- What QCFG told of a partner queue: OWNER, VECTOR, ring depth, completion ring, index word. -/
def ShadowQueue.owner (x : ShadowQueue) : Nat := field x.cfg 2 1
def ShadowQueue.vector (x : ShadowQueue) : Nat := field x.cfg 4 2 % 1024
def ShadowQueue.depth (x : ShadowQueue) : Nat := max 1 (field x.cfg 0x22 2) + 1
def ShadowQueue.cqBase (x : ShadowQueue) : Nat := field x.cfg 0x10 8 / 64 * 64
def ShadowQueue.idxAddr (x : ShadowQueue) : Nat := field x.cfg 0x18 8 / 8 * 8
/-- A queue of which the shadow holds nothing. -/
def ShadowQueue.none : ShadowQueue := ShadowQueue.mk [] 0 0 true true 0
/-- A partner queue in the shadow. -/
def State.shadowQ (s : State) (q : Nat) : ShadowQueue := storeGet (fun _ => ShadowQueue.none) s.pair.shadowQ q
def State.setShadowQ (s : State) (q : Nat) (x : ShadowQueue) : State :=
  { s with pair := { s.pair with shadowQ := storePut (fun _ => ShadowQueue.none) s.pair.shadowQ q x } }
/-- The contexts of a partner queue whose 0x0012 completion waits to be written, in order (DEDUCED, log entry 245). -/
def State.farReady (s : State) (q : Nat) : List (Nat × ShadowCtx) := s.pair.shadowC.filter (fun e => e.2.queue == q && e.2.ready)
/-- Takes a partner context out of the shadow. -/
def State.dropShadowC (s : State) (c : Nat) : State := { s with pair := { s.pair with shadowC := storeDel c s.pair.shadowC } }

/-- Writes the 0x0012 completions of a partner queue as far as its ring has room (R271). A host vector is signalled through the partner's
function (R593). -/
def State.farPost (s : State) (q : Nat) : List (Nat × ShadowCtx) → State
  | [] => s
  | e :: rest =>
    let x := s.shadowQ q
    if x.cfg = [] ∨ (x.cqPi + 1) % x.depth = x.ciSeen then s
    else
      let addr := x.cqBase + 32 * x.cqPi
      let m := leBytes 2 e.2.cid ++ leBytes 2 x.sqCi ++ leBytes 2 0x12 ++ leBytes 1 (if x.cqPhase then 128 else 0) ++ leBytes 1 e.2.detail ++
        leBytes 20 0 ++ leBytes 2 q ++ leBytes 2 0
      let s := (linesOf addr 32).foldl (fun s l => s.ucWrite l addr m) s
      let s := (s.emit (.completion (farQ q) addr (BitVec.ofNat 256 (leNat m)))).fabAsk (.post (farQ q)) true addr 32
      let s := s.setShadowQ q { x with
        cqPi := (x.cqPi + 1) % x.depth, cqPhase := if x.cqPi + 1 = x.depth then !x.cqPhase else x.cqPhase }
      let s := if x.owner = 2 then s.emit (.partnerVectors [x.vector]) else s
      (s.dropShadowC e.1).farPost q rest

/-- The answer to a poll of a partner queue's index word (R592). -/
def State.farPoll (s : State) (q : Nat) (word : Word) : State :=
  let ci := getBits word 31 16
  let x := s.shadowQ q
  let s := if ci < x.depth then s.setShadowQ q { x with ciSeen := ci } else s
  s.farPost q (s.farReady q)

/-- Asks for the index word of every partner queue with a completion that waits (R592). -/
def State.farPolls (s : State) : State :=
  (storeKeys s.pair.shadowQ).foldl (fun s q =>
    if s.farReady q = [] ∨ s.fab.any (fun r => r.who == .poll (farQ q)) then s else s.fabRead (.poll (farQ q)) (s.shadowQ q).idxAddr 8) s

/-! ## Polling (R247, R248, R271) -/

/-- Completions of the queue wait on a full ring (R271). -/
def State.ringFull (s : State) (q : Nat) : Bool :=
  (s.getF (F.WQ_OUT.CQ_PI q) + 1) % s.depth q == (s.queue q).ciSeen
/-- Does a completion of the queue wait for room? -/
def State.waitsRoom (s : State) (q : Nat) : Bool :=
  s.ringFull q && (s.ctxsOf q).any (fun e => e.2.state == .ready)

/-- Is the queue's index word read in tick `n`? -/
def State.pollDue (s : State) (q n : Nat) : Bool :=
  let x := s.queue q
  let i := getBits x.poll 7 0
  (s.qState q == 1 && i != 0 && (n + q) % i == 0) ||
    (s.qState q != 0 && !x.discard && s.waitsRoom q)

/-- The poll requests of one tick, with the settings of WQ_POLL and WQ_ARB taken at its boundary (R244), and the ticks with a
completion waiting on a full ring counted. Only queues that have left reset are listed. -/
def State.pollTick (s : State) : State :=
  (storeKeys s.queues).foldl (fun s q =>
    let x := s.queue q
    let full := if s.waitsRoom q then satAdd 32 x.fullTicks 1 else x.fullTicks
    let s := s.noteSat x.fullTicks full (2 ^ 32 - 1)
    let s := s.setQueue q { x with
      poll := s.reg (F.WQ_POLL.INTERVAL q).reg, arb := s.reg (F.WQ_ARB.WEIGHT q).reg, fullTicks := full }
    if s.pollDue q s.tickno && !s.fab.any (fun r => r.who == .poll q) then s.fabRead (.poll q) (s.idxAddr q) 8
    else s) s

/-- Entries from `a` up to but not including `b` on a ring of depth `d`. -/
def ringDist (d a b : Nat) : Nat := (b + d - a) % d

/-- A poll's indices take effect (R248, R271): in ERROR and SHUTTING_DOWN only CQ_CI. -/
def State.pollTake (s : State) (q : Nat) (word : Word) : State :=
  let pi := getBits word 15 0
  let ci := getBits word 31 16
  let d := s.depth q
  let x := s.queue q
  if s.qState q = 1 then
    if d ≤ pi ∨ d ≤ ci then s.queueError q 16 (s.idxAddr q)
    else if ringDist d x.fetchPos pi < ringDist d x.fetchPos x.piSeen ∨
        d - 1 - s.getF (F.WQ_OUT.OUTSTANDING q) < ringDist d x.fetchPos pi + ringDist d (s.getF (F.WQ_STATUS.SQ_CI q)) x.fetchPos then
      s.queueError q 17 (s.idxAddr q)
    else s.setQueue q { x with piSeen := pi, ciSeen := ci }
  else if ci < d then s.setQueue q { x with ciSeen := ci } else s

/-- POLL_RESULT: the answer to an open poll; that of a partner queue after a hand-over is numbered from 2^32 on. A poll of a Mitten window that shows an unfetched entry wakes the unit (R618). -/
def execPollResult (q : Nat) (word : Word) (s : State) : Host.Outcome State Fault Refusal :=
  .next (if s.working && s.fabOpen (.poll q) then
      if 2 ^ 32 ≤ q then (s.fabAnswered (.poll q)).farPoll (q - 2 ^ 32) word
      else
      (let s := (s.fabAnswered (.poll q)).pollTake q word
       let x := s.queue q
       if s.getF F.PWR_STAT.STATE = 4 ∧ s.qState q = 1 ∧ x.piSeen ≠ x.fetchPos then s.startWake 5 else s.windowEnd)
    else s)

/-! ## Arbitration (R252 to R254) -/

/-- Entries of a queue that a grant may fetch: available, within its limit of outstanding entries, within the free contexts (DEDUCED, log entry 80). -/
def State.avail (s : State) (q : Nat) : Nat :=
  if s.qState q ≠ 1 then 0
  else
    let d := s.depth q
    let x := s.queue q
    let flight := ringDist d (s.getF (F.WQ_STATUS.SQ_CI q)) x.fetchPos
    min (ringDist d x.fetchPos x.piSeen)
      (min (s.maxOut q - (s.getF (F.WQ_OUT.OUTSTANDING q) + flight)) (16384 - (s.ctxUsed + flight)))

/-- The queues in round-robin order after `last`, among those that have left reset. -/
def State.rrOrder (s : State) (last : Nat) : List Nat :=
  (storeKeys s.queues).filter (fun q => last < q) ++ (storeKeys s.queues).filter (fun q => q ≤ last)

/-- The urgent class. -/
def State.grantU (s : State) : Option (Nat × Nat) :=
  match (s.rrOrder s.lastU).find? (fun q => s.urgent q && decide (0 < s.avail q)) with
  | some q => some (q, min (s.avail q) (s.queue q).burst)
  | none => none

/-- One pass over the weighted class. -/
def State.grantW (s : State) : Option (Nat × Nat) :=
  match (s.rrOrder s.lastW).find? (fun q => !s.urgent q && decide (0 < s.avail q) && decide (0 < (s.queue q).credit)) with
  | some q => some (q, min (s.avail q) (min (s.queue q).burst (s.queue q).credit))
  | none => none

/-- Reloads every queue's credit: a round is over. -/
def State.reloadCredits (s : State) : State :=
  (storeKeys s.queues).foldl (fun s q => s.setQueue q { s.queue q with credit := (s.queue q).weight }) s

/-- grant(): the queue and entries of one grant, and the state with credits, last_u and last_w updated (DESIGN CHOICE, log entry 86). -/
def State.grant (s : State) : Option (Nat × Nat) × State :=
  match s.grantU with
  | some (q, n) => (some (q, n), { s with lastU := q })
  | none =>
    match s.grantW with
    | some (q, n) => (some (q, n), { s.setQueue q { s.queue q with credit := (s.queue q).credit - n } with lastW := q })
    | none =>
      let s := s.reloadCredits
      match s.grantW with
      | some (q, n) => (some (q, n), { s.setQueue q { s.queue q with credit := (s.queue q).credit - n } with lastW := q })
      | none => (none, s.reloadCredits)

/-- The phase expected of a ring position counted from the block's place (R250). -/
def State.phaseAt (s : State) (q pos : Nat) : Bool :=
  let x := s.queue q
  if s.getF (F.WQ_STATUS.SQ_CI q) ≤ pos then x.sqPhase else !x.sqPhase

/-! ## Entry checks (Table 7-6) -/

/-- The length a data buffer must have (Table 7-4); none: the opcode moves no data through a buffer. -/
def State.dataLen (s : State) (ns : Nat) (e : BitVec 512) : Option Nat :=
  let op := entOp e
  if op = opREAD ∨ op = opWRITE then some (entCount e * 4128)
  else if op = opCOPY then (if entSrcMem e then some (entCount e * 4128) else none)
  else if op = opREADRAW then
    let fam := (s.vdie (nsVdie ns (addrVdie (entMaddr e)))).family
    let n := codewordBytes (pageProfile (s.fp fam "PAGE_SIZE" 0 0) (s.fp fam "SPARE_SIZE" 0 0))
    some (entCount e * (if ent e 32 1 = 0 then n else if ent e 32 1 = 1 then 4128 else 3 * n))
  else if op = opSCRUB ∨ op = opQUERY then some 4096
  else if op = opCALIBRATE then (if entDptr e = 0 then none else some 512)
  else if op = opVDIE ∧ ent e 32 1 = 3 then some (ent e 36 1 * 2)
  else none

/-- Is the buffer a source (read over the fabric)? -/
def entReads (e : BitVec 512) : Bool :=
  entOp e == opWRITE || entOp e == opCOPY || entOp e == opVDIE

/-- The pages a QUERY may name. -/
def queryPages : List Nat :=
  [0x0100, 0x0101, 0x0102, 0x0103, 0x0200, 0x0700, 0x0900, 0x0901, 0x0A00, 0x0A01, 0x0B00, 0x1200, 0x1400]

/-- Is PARAM in range for PAGE (R262 and the chapters of the pages)? -/
def queryParamOk (page param : Nat) : Bool :=
  if page = 0x0100 then decide (param < 4096) && param % 512 == 0
  else if page = 0x0101 then decide (param < 256)
  else if page = 0x0102 then param % 2 ^ 16 / 2 ^ 8 == 0 && decide (param < 2 ^ 30)
  else if page = 0x0700 then decide (param < 1024)
  else if page = 0x0901 then decide (param < 128)
  else if page = 0x0A00 then decide (param < 4096)
  else if page = 0x0A01 then decide (param < 16)
  else param == 0

/-- Step 3 for bytes 32 to 63: the fields of the opcode in ascending order, each with whether it holds. A run of bytes the
opcode does not name is one reserved field (DEDUCED, log entry 83). -/
def opFields (e : BitVec 512) : List (Nat × Bool) :=
  let z (o n : Nat) : Nat × Bool := (o, ent e o n == 0)
  let op := entOp e
  if op = opREAD then
    [(32, decide (ent e 32 1 < 16)), z 33 3, z 38 2, z 48 16]
  else if op = opWRITE ∨ op = opERASE ∨ op = opOPEN ∨ op = opCLOSE then [z 32 32]
  else if op = opCOPY then
    [(32, decide (ent e 32 1 < 2)), (33, decide (ent e 33 1 < 16)), z 34 6, (40, addrFormat (ent e 40 8) == 2), z 48 16]
  else if op = opREADRAW then
    [(32, decide (ent e 32 1 < 3)), z 33 3, (36, decide (ent e 36 1 < 2)), z 37 3, z 55 9]
  else if op = opSCRUB then
    [(32, ent e 32 4 != 0), (36, ent e 36 4 % 4 + ent e 36 4 / 256 % 16 * 256 == ent e 36 4), z 40 24]
  else if op = opCALIBRATE then
    [(32, decide (ent e 32 1 < 3)), (33, decide (ent e 33 1 < 16) || ent e 33 1 == 255), z 34 30]
  else if op = opSELFTEST then
    [(32, ent e 32 1 == 1 || ent e 32 1 == 2), z 34 30]
  else if op = opFENCE then [(32, decide (ent e 32 1 < 2)), z 33 31]
  else if op = opQUERY then
    [(32, queryPages.contains (ent e 32 2)), z 34 6, (40, queryParamOk (ent e 32 2) (ent e 40 8)), z 48 16]
  else if op = opSETTIME then [z 40 24]
  else if op = opVDIE then
    [(32, decide (ent e 32 1 < 5)), (34, decide (ent e 34 2 < 4096)),
     (36, ent e 32 1 != 3 || (decide (4 ≤ ent e 36 1) && decide (ent e 36 1 ≤ 64))),
     (37, ent e 32 1 != 3 || ent e 37 1 == 1 || ent e 37 1 == 2),
     (38, ent e 32 1 != 3 || decide (ent e 38 1 < 2)), z 39 1,
     (40, ent e 32 1 != 3 || (decide (1 ≤ ent e 40 2) && decide (ent e 40 2 ≤ 16384))), z 42 22]
  else
    [(32, decide (ent e 32 1 < 3)), z 33 3,
     (36, if ent e 32 1 = 2 then decide (ent e 36 4 ≤ 86400) else ent e 36 4 == 0), z 40 24]

/-- Does MADDR have the format Table 7-4 gives the opcode (R81)? -/
def maddrOk (e : BitVec 512) : Bool :=
  let op := entOp e
  if op = opREADRAW ∨ op = opCALIBRATE then addrFormat (entMaddr e) == 1
  else if op = opCOPY ∧ entSrcMem e then entMaddr e == 0
  else if op = opREAD ∨ op = opWRITE ∨ op = opERASE ∨ op = opCOPY ∨ op = opSCRUB ∨ op = opOPEN ∨ op = opCLOSE then
    addrFormat (entMaddr e) == 2
  else entMaddr e == 0

/-- Is COUNT in range (Table 7-4)? -/
def countOk (e : BitVec 512) : Bool :=
  let op := entOp e
  if op = opREAD ∨ op = opWRITE ∨ op = opCOPY then decide (1 ≤ entCount e) && decide (entCount e ≤ 1024)
  else if op = opREADRAW then decide (1 ≤ entCount e) && decide (entCount e ≤ 8)
  else entCount e == 0

/-- Step 3: every field in ascending byte order, with whether it holds. -/
def State.entryFields (s : State) (ns : Nat) (e : BitVec 512) : List (Nat × Bool) :=
  [(1, entCtl e % 16 == 0), (4, ent e 4 4 == 0), (8, maddrOk e),
   (16, (s.dataLen ns e).isSome || entDptr e == 0),
   (24, match s.dataLen ns e with
     | some n => if entFrag e then entDlen e != 0 else entDlen e == n
     | none => entDlen e == 0),
   (28, countOk e), (30, decide (ent e 30 2 < 2) && (!entFrag e || (s.dataLen ns e).isSome))] ++ opFields e

/-- The stripe sets an entry names; of a physical address, the set of its vdie or the journal set (R371, R403). -/
def State.entSets (s : State) (ns : Nat) (e : BitVec 512) : List Nat :=
  let op := entOp e
  let v := nsVdie ns (addrVdie (entMaddr e))
  if op = opREADRAW ∨ op = opCALIBRATE then
    (if s.journalIndex ns v (addrBlock (entMaddr e)) then [255]
     else if (s.vdie v).member then [(s.vdie v).set] else [])
  else
  if op = opCOPY then (if entSrcMem e then [] else [addrSet (entMaddr e)]) ++ [addrSet (ent e 40 8)]
  else if op = opREAD ∨ op = opWRITE ∨ op = opERASE ∨ op = opSCRUB ∨ op = opOPEN ∨ op = opCLOSE then [addrSet (entMaddr e)]
  else if op = opVDIE ∧ 3 ≤ ent e 32 1 then [ent e 33 1]
  else []

/-- Is a stripe set in the queue's mask? -/
def State.setInMask (s : State) (q g : Nat) : Bool :=
  (getBits (s.reg (0x10400 + 32 * s.getF (F.GNT_QATTR.SETMASK q) + 8 * (g / 64))) 63 0).testBit (g % 64)

/-- Steps 1 to 5: the status and DETAIL of the first check that fails. -/
def State.check15 (s : State) (q : Nat) (e : BitVec 512) : Option (Nat × Nat) :=
  let ns := s.qNs q
  if entOp e = 0 ∨ 0x0F < entOp e then some (0x41, 0)
  else if !(s.getF (F.GNT_QATTR.OPCODES q)).testBit (entOp e) then some (0x30, 1)
  else
    match (s.entryFields ns e).find? (fun f => !f.2) with
    | some f => some (0x40, f.1)
    | none =>
      if (s.entSets ns e).contains 255 then some (0x30, 3)
      else if !(s.entSets ns e).all (fun g => s.setInMask q g) then some (0x30, 2)
      else if entOp e = opQUERY ∧ ent e 32 2 = 0x0700 ∧
          s.getF (F.GNT_QATTR.OWNER (ent e 40 8)) ≠ s.getF (F.GNT_QATTR.OWNER q) then some (0x30, 7)
      else none

/-- Step 8 for what is known at fetch: the contiguous buffer or the first table, and the status array (DEDUCED, log entry 82). -/
def State.check8 (s : State) (q : Nat) (e : BitVec 512) : Option (Nat × Nat) :=
  let ns := s.qNs q
  match s.dataLen ns e with
  | none => none
  | some n =>
    if !entFrag e && !s.inWindows q (entDptr e) n (!entReads e) then some (0x30, 4)
    else if entFrag e && !s.inWindows q (entDptr e) (entDlen e * 16) false then some (0x30, 5)
    else if entOp e = opREAD ∧ entSptr e ≠ 0 ∧ !s.inWindows q (entSptr e) (entCount e * 2) true then some (0x30, 6)
    else none

/-- Step 9 for a contiguous buffer or the address of the first table (R263). -/
def State.check9 (s : State) (ns : Nat) (e : BitVec 512) : Option (Nat × Nat) :=
  match s.dataLen ns e with
  | none => none
  | some _ => if entDptr e % 16 ≠ 0 then some (0x42, 1) else none

/-- The checks of an entry just accepted in context `c` (R266); a fragment chain is asked for table by table (R265). -/
def State.checkEntry (s : State) (c : Nat) : State :=
  let x := s.ctx c
  let e := x.entry
  match s.check15 x.queue e with
  | some (st, d) => s.finish c st d 0 0 0
  | none =>
    match s.check8 x.queue e with
    | some (st, d) => s.finish c st d 0 0 0
    | none =>
      match s.check9 (s.qNs x.queue) e with
      | some (st, d) => s.finish c st d 0 0 0
      | none =>
        if (s.dataLen (s.qNs x.queue) e).isSome && entFrag e then
          (s.setCtx c { x with state := .tables, nTables := 1, nextTable := some (entDptr e, entDlen e) }).fabRead
            (.table c 0) (entDptr e) (entDlen e * 16)
        else
          s.setCtx c { x with
            state := .waiting
            frags := (match s.dataLen (s.qNs x.queue) e with | some n => [Frag.mk (entDptr e) n] | none => []) }

/-! ## Fetch -/

/-- Sends QIDX with the indices about to be applied (R583, R587). -/
def State.sendIdx (s : State) (q ci pi : Nat) : State :=
  let x := s.queue q
  s.cuffSend 0x21 (leBytes 2 q ++ leBytes 2 ci ++ leBytes 2 pi ++ leBytes 1 (if x.sqPhase then 1 else 0) ++
    leBytes 1 (if x.cqPhase then 1 else 0)) []

/-- Accepts one fetched entry: it takes a context and leaves the ring (R249, R254), then its checks run (DESIGN CHOICE, log entry 247). -/
def State.acceptEntry (s : State) (q : Nat) (e : BitVec 512) : State :=
  let d := s.depth q
  let x := s.queue q
  let ci := s.getF (F.WQ_STATUS.SQ_CI q)
  let s := s.setQueue q { x with
    fetched := (x.fetched + 1) % 2 ^ 32
    sqPhase := if ci + 1 = d then !x.sqPhase else x.sqPhase
    copies := x.copies.filter (fun k => k.1 != ci) }
  let s := s.setF (F.WQ_STATUS.SQ_CI q) ((ci + 1) % d)
  let s := s.setF (F.WQ_OUT.OUTSTANDING q) (s.getF (F.WQ_OUT.OUTSTANDING q) + 1)
  let c := leastFree 0 s.ctxs
  let m := s.mirror
  let s := s.cuffSend 0x22 (leBytes 8 (c + q * 2 ^ 14 + ci * 2 ^ 24 + entCid e * 2 ^ 40 + entOp e * 2 ^ 56)) []
  let s := s.setCtx c { Ctx.zero with
    state := .waiting, queue := q, seq := s.fetchSeq, entry := e, openMsg := if m then some s.pair.tx else none }
  { s with fetchSeq := s.fetchSeq + 1 }.checkEntry c

/-- Accepts, in ring order, the copies that have arrived up to the fetch position. -/
def State.drainCopies (s : State) (q : Nat) : Nat → State
  | 0 => s
  | n + 1 =>
    let x := s.queue q
    let ci := s.getF (F.WQ_STATUS.SQ_CI q)
    if s.qState q ≠ 1 ∨ ci = x.fetchPos then s
    else
      match x.copies.find? (fun k => k.1 == ci) with
      | some k =>
        if s.mirror && x.idxMsg.isNone then
          (let s := s.sendIdx q ((ci + 1) % s.depth q) (s.getF (F.WQ_OUT.CQ_PI q))
           s.setQueue q { s.queue q with idxMsg := some s.pair.tx })
        else if s.acked x.idxMsg then ((s.setQueue q { x with idxMsg := none }).acceptEntry q k.2).drainCopies q n
        else s
      | none => s

/-- Takes `n` granted positions: a prefetched copy of the expected phase is used, any other is discarded and the position is
fetched (R250). -/
def State.takePositions (s : State) (q : Nat) : Nat → State
  | 0 => s
  | n + 1 =>
    let x := s.queue q
    let pos := x.fetchPos
    let next := (pos + 1) % s.depth q
    match x.copies.find? (fun k => k.1 == pos) with
    | some k =>
      if entPhase k.2 = s.phaseAt q pos then (s.setQueue q { x with fetchPos := next }).takePositions q n
      else
        ((s.setQueue q { x with
          fetchPos := next, copies := x.copies.filter (fun k => k.1 != pos), refetches := (x.refetches + 1) % 2 ^ 32 }).fabRead
          (.fetch q pos) (s.sqBase q + 64 * pos) 64).takePositions q n
    | none =>
      if s.fab.any (fun r => r.who == .fetch q pos) then (s.setQueue q { x with fetchPos := next }).takePositions q n
      else ((s.setQueue q { x with fetchPos := next }).fabRead (.fetch q pos) (s.sqBase q + 64 * pos) 64).takePositions q n

/-- Speculative prefetch of up to `n` positions beyond the last polled SQ_PI, only where they are free (R250) (DESIGN CHOICE, log entry 81). -/
def State.prefetch (s : State) (q pos : Nat) : Nat → State
  | 0 => s
  | n + 1 =>
    let d := s.depth q
    let x := s.queue q
    if ringDist d x.fetchPos pos < d - 1 - s.getF (F.WQ_OUT.OUTSTANDING q) ∧ !x.copies.any (fun k => k.1 == pos) ∧
        !s.fab.any (fun r => r.who == .fetch q pos) then
      (s.fabRead (.fetch q pos) (s.sqBase q + 64 * pos) 64).prefetch q ((pos + 1) % d) n
    else s

/-- ARB_GRANT (R252). No grant before the Gauntlet is locked (R23), nor once sleep entry has been taken (R614). -/
def execArbGrant (s : State) : Host.Outcome State Fault Refusal :=
  .next (if s.awake && s.locked && !s.pfail then
      (match s.grant with
       | (some (q, n), s) =>
         let s := s.takePositions q n
         let s := s.drainCopies q n
         s.prefetch q (s.queue q).piSeen (min 8 (getBits (s.queue q).poll 11 8))
       | (none, s) => s)
    else s)

/-- ENTRY_FETCH_DONE: the entry at ring position `pos` has arrived. -/
def execEntryFetchDone (q pos : Nat) (entry : BitVec 512) (s : State) : Host.Outcome State Fault Refusal :=
  .next (if s.working && !s.pfail && s.fabOpen (.fetch q pos) then
      (let s := s.fabAnswered (.fetch q pos)
       if s.qState q = 1 then
         (let x := s.queue q
          (s.setQueue q { x with copies := x.copies ++ [(pos, entry)] }).drainCopies q (s.depth q))
       else s)
    else s)

/-! ## Fragment chains (R263 to R265) -/

def fragAddr (f : BitVec 128) : Nat := f.toNat % 2 ^ 64
def fragLen (f : BitVec 128) : Nat := f.toNat / 2 ^ 64 % 2 ^ 32
def fragChain (f : BitVec 128) : Bool := f.toNat / 2 ^ 96 % 2 == 1
def fragRes (f : BitVec 128) : Nat := f.toNat / 2 ^ 97

/-- The first DETAIL of step 9 that an entry of a table breaks; 0 when none. -/
def fragErr (last : Bool) (f : BitVec 128) : Nat :=
  if fragAddr f % 16 ≠ 0 ∨ fragRes f ≠ 0 then 1
  else if fragChain f then (if last then (if fragLen f = 0 then 5 else 0) else 6)
  else if fragLen f = 0 then 5
  else if fragLen f % 16 ≠ 0 then 1
  else 0

/-- The first error of a table. -/
def tableErr : List (BitVec 128) → Nat
  | [] => 0
  | f :: rest => if fragErr rest.isEmpty f ≠ 0 then fragErr rest.isEmpty f else tableErr rest

/-- The chain is whole: the entry waits for admission, or fails step 9 with what was found first. -/
def State.chainEnd (s : State) (c : Nat) : State :=
  let x := s.ctx c
  let sum := x.frags.foldl (fun a f => a + f.len) 0
  if x.detail ≠ 0 then s.finish c 0x42 x.detail 0 0 0
  else if 4096 < x.nEntries then s.finish c 0x42 4 0 0 0
  else if some sum ≠ s.dataLen (s.qNs x.queue) x.entry then s.finish c 0x42 2 0 0 0
  else s.setCtx c { x with state := .waiting, nextTable := none }

/-- One fetched table takes effect: its fragments are checked against the windows (step 8), its form noted (step 9), and its
chained table asked for when that table's own range lies within the READ windows and no more than 64 tables result. -/
def State.tableTake (s : State) (c : Nat) (entries : List (BitVec 128)) : State :=
  let x := s.ctx c
  let data := entries.filter (fun f => !fragChain f)
  if !data.all (fun f => s.inWindows x.queue (fragAddr f) (fragLen f) (!entReads x.entry)) then s.finish c 0x30 4 0 0 0
  else
    let err := if x.detail ≠ 0 then x.detail else tableErr entries
    let x := { x with
      detail := err
      nEntries := x.nEntries + entries.length
      frags := x.frags ++ data.map (fun f => Frag.mk (fragAddr f) (fragLen f)) }
    let s := s.setCtx c x
    match entries.getLast? with
    | some f =>
      if fragChain f ∧ err ≠ 6 then
        if 64 ≤ x.nTables then (s.setCtx c { x with detail := if err ≠ 0 then err else 3 }).chainEnd c
        else if !s.inWindows x.queue (fragAddr f) (fragLen f * 16) false then s.finish c 0x30 5 0 0 0
        else
          (s.setCtx c { x with nTables := x.nTables + 1, nextTable := some (fragAddr f, fragLen f) }).fabRead
            (.table c x.nTables) (fragAddr f) (fragLen f * 16)
      else s.chainEnd c
    | none => s.chainEnd c

/-- FRAGMENT_TABLE_FETCH: a table of the chain has arrived, with the number of entries asked for. -/
def execFragmentTableFetch (ctx : Nat) (entries : List (BitVec 128)) (s : State) : Host.Outcome State Fault Refusal :=
  .next (let x := s.ctx ctx
    if s.working && !s.pfail && x.state == .tables && s.fabOpen (.table ctx (x.nTables - 1)) &&
        some entries.length == x.nextTable.map (·.2) then
      (s.fabAnswered (.table ctx (x.nTables - 1))).tableTake ctx entries
    else s)

/-! ## Admission (R237, R258, R259, R267) -/

/-- The readiness an opcode needs: 0 none, 1 READ_READY, 2 WRITE_READY (Table 6-4). -/
def needsReady (op : Nat) : Nat :=
  if op = opQUERY ∨ op = opSETTIME then 0
  else if op = opWRITE ∨ op = opERASE ∨ op = opCOPY ∨ op = opOPEN ∨ op = opCLOSE ∨ op = opVDIE then 2
  else 1

/-- Has the readiness been reached for an entry of this queue (R237, R597)? -/
def State.readyFor (s : State) (q op : Nat) : Bool :=
  if s.fosterQ q then
    (needsReady op == 0 || (5 ≤ s.getF F.PAIR_STAT.STATE && s.getF F.PAIR_STAT.STATE != 6)) &&
      (needsReady op != 2 || s.pair.fosterWrites)
  else if needsReady op = 0 then true
  else if needsReady op = 1 then s.flag F.PWR_CENSUS.READ_READY
  else s.flag F.PWR_CENSUS.WRITE_READY

/-- Is this the next entry of its queue to be admitted: no earlier one waits, and no admitted FENCE holds it (R267, R277)? -/
def State.nextToAdmit (s : State) (c : Nat) : Bool :=
  let x := s.ctx c
  x.state == .waiting && (s.ctxsOf x.queue).all (fun e =>
    e.1 == c || !((e.2.state == .waiting || e.2.state == .tables) && decide (e.2.seq < x.seq)) &&
      !(entOp e.2.entry == opFENCE && (e.2.state == .admitted || e.2.state == .running)))

/-- Does a READ, COPY or SCRUB_RANGE range stay within its band (step 7)? -/
def State.rangeOk (s : State) (ns : Nat) (e : BitVec 512) : Bool :=
  let n := if entOp e = opSCRUB then ent e 32 4 else entCount e
  decide (addrBoi (entMaddr e) + n ≤ (s.sset (nsSet ns (addrSet (entMaddr e)))).tiles)

/-- Steps 6 and 7. -/
def State.check67 (s : State) (ns : Nat) (e : BitVec 512) : Option (Nat × Nat) :=
  let op := entOp e
  let sets := if op = opVDIE ∧ ent e 32 1 = 3 then [] else s.entSets ns e
  if !sets.all (fun g => (s.sset (nsSet ns g)).defined) then some (0x31, 0)
  else if op = opREADRAW ∨ op = opCALIBRATE then (if s.vdieAddrOk ns (entMaddr e) then none else some (0x40, 8))
  else if op = opREAD ∨ op = opSCRUB ∨ (op = opCOPY ∧ !entSrcMem e) then
    if !s.bandAddrOk ns (entMaddr e) false || !s.rangeOk ns e then some (0x40, 8)
    else if op = opCOPY ∧ !s.bandAddrOk ns (ent e 40 8) true then some (0x40, 40)
    else none
  else if op = opCOPY then (if s.bandAddrOk ns (ent e 40 8) true then none else some (0x40, 40))
  else if op = opWRITE ∨ op = opERASE ∨ op = opOPEN ∨ op = opCLOSE then
    (if s.bandAddrOk ns (entMaddr e) true then none else some (0x40, 8))
  else none

/-- The class F level of an entry (R253, R258). -/
def State.entLevel (s : State) (q : Nat) (e : BitVec 512) : Nat :=
  if s.urgent q then 0 else max (entPrio e) (s.getF (F.GNT_QATTR.CEILING q))

/-- The ladder ceiling of an entry (R259); 7 acts as 6. -/
def State.entCeil (s : State) (q : Nat) (e : BitVec 512) : Nat :=
  let qc := min 6 (s.getF (F.WQ_READPOL.CEIL q))
  let b := if entOp e = opCOPY then ent e 33 1 else ent e 32 1
  if (entOp e = opREAD ∨ entOp e = opCOPY) ∧ b / 8 % 2 = 1 then min qc (b % 8) else qc

/-- The read deadline of an entry in ticks; 0: none (R259) (DEDUCED, log entry 110). -/
def State.entDeadline (s : State) (q : Nat) (e : BitVec 512) : Nat :=
  let qd := s.getF (F.WQ_READPOL.DEADLINE q)
  let d := if entOp e = opREAD then ent e 36 2 else 0
  if entOp e = opCOPY then 0 else if d = 0 then qd else if qd = 0 then d else min d qd

/-- The entry takes its place in the order of admissions (R267); the member list of a set definition is asked for (R261). -/
def State.admitEntry (s : State) (c : Nat) : State :=
  let x := s.ctx c
  let s' := s.setCtx c { x with
    state := .admitted
    level := s.entLevel x.queue x.entry
    ceil := s.entCeil x.queue x.entry
    deadline := s.entDeadline x.queue x.entry
    admTick := s.tickno
    admSeq := s.admSeq + 1 }
  let s := { s' with admSeq := s.admSeq + 1 }
  if entOp x.entry = opVDIE ∧ ent x.entry 32 1 = 3 then
    x.frags.foldl (fun s f => s.fabRead (.members c) f.addr f.len) s
  else s

/-- ENTRY_ADMIT. In census stage 15 an entry that needs readiness, and every later entry of its queue, completes with 0x0020
(R237). -/
def execEntryAdmit (ctx : Nat) (s : State) : Host.Outcome State Fault Refusal :=
  .next (let x := s.ctx ctx
    if !s.awake || s.pfail || s.sleep.closing || !s.nextToAdmit ctx then s
    else if s.stage = 15 ∧ (needsReady (entOp x.entry) ≠ 0 ∨ (s.queue x.queue).halted) then
      ((s.setQueue x.queue { s.queue x.queue with halted := true }).finish ctx 0x20 0 0 0 0)
    else if !s.readyFor x.queue (entOp x.entry) || !s.acked x.openMsg then s
    else
      match s.check67 (s.qNs x.queue) x.entry with
      | some (st, d) => s.finish ctx st d 0 0 0
      | none => s.admitEntry ctx)

/-! ## Completions (R268 to R272) -/

/-- The 32 bytes of a completion entry (Table 7-7). -/
def State.completionEntry (s : State) (c : Nat) : BitVec 256 :=
  let x := s.ctx c
  let flags := (if (s.queue x.queue).cqPhase then 128 else 0) + (if x.late then 64 else 0)
  BitVec.ofNat 256 (leNat (leBytes 2 (entCid x.entry) ++ leBytes 2 (s.getF (F.WQ_STATUS.SQ_CI x.queue)) ++ leBytes 2 x.status ++
    leBytes 1 flags ++ leBytes 1 x.detail ++ leBytes 8 x.r0 ++ leBytes 8 x.r1 ++ leBytes 4 x.r2 ++ leBytes 2 x.queue ++
    leBytes 2 0))

/-- Is this the queue's completion that became ready first (R271)? -/
def State.firstReady (s : State) (c : Nat) : Bool :=
  let x := s.ctx c
  x.state == .ready && (s.ctxsOf x.queue).all (fun e => !(e.2.state == .ready && decide (e.2.readySeq < x.readySeq)))

/-- Signals a queue's completion: its source for firmware, its vector for the host (R515, R531). -/
def State.signalQueue (s : State) (q : Nat) : State :=
  let v := s.getF (F.WQ_CFG.VECTOR q)
  if s.hostOwned q then s.hostRaise v else if v < 256 then s.raise v else s

/-- The counters of Table 7-13 for one completion written. -/
def State.countCompletion (s : State) (q status : Nat) (late : Bool) : State :=
  let x := s.queue q
  let r := if 0x30 ≤ status ∧ status ≤ 0x42 then satAdd 32 x.refused 1 else x.refused
  let f := if status = 0x50 ∨ status = 0x51 then satAdd 32 x.fabricFails 1 else x.fabricFails
  let l := if late then satAdd 32 x.late 1 else x.late
  let s := ((s.noteSat x.refused r (2 ^ 32 - 1)).noteSat x.fabricFails f (2 ^ 32 - 1)).noteSat x.late l (2 ^ 32 - 1)
  s.setQueue q { s.queue q with completed := (x.completed + 1) % 2 ^ 32, refused := r, fabricFails := f, late := l }

/-- Does the Liner still hold up a write of a context (R479)? -/
def State.writesHeld (s : State) (c : Nat) : Bool :=
  s.fab.any (fun r => r.cached && !r.lines.isEmpty && (match r.who with
    | .tileOut k _ => k == c
    | .result k => k == c
    | _ => false))
/-- Drops the fabric writes of a context: they are visible (R270), with every merge buffer entry (R479) (DEDUCED, log entry 152). -/
def State.writesVisible (s : State) (c : Nat) : State :=
  { s with fab := s.fab.filter (fun r => match r.who with
    | .tileOut k _ => k != c
    | .statusArray k => k != c
    | .result k => k != c
    | .merge _ => false
    | _ => true), liner := { s.liner with merging := [] } }.lnRun.fabPump

/-- Writes a ready completion to its ring and frees the context (R270). -/
def State.postCompletion (s : State) (c : Nat) : State :=
  let x := s.ctx c
  let q := x.queue
  let d := s.depth q
  let pi := s.getF (F.WQ_OUT.CQ_PI q)
  let addr := s.cqBase q + 32 * pi
  let s := s.flushAll.writesVisible c
  let e := s.completionEntry c
  let s := (linesOf addr 32).foldl (fun s l => s.ucWrite l addr (leBytes 32 e.toNat)) s
  let s := (s.emit (.completion q addr e)).fabAsk (.post q) true addr 32
  let s := s.setF (F.WQ_OUT.CQ_PI q) ((pi + 1) % d)
  let s := if pi + 1 = d then s.setQueue q { s.queue q with cqPhase := !(s.queue q).cqPhase } else s
  let s := s.countCompletion q x.status x.late
  (s.signalQueue q).freeCtx c

/-- While the mirror is valid, CTX_DONE and the changed indices go to the partner before a completion is written or discarded; the
completion waits for the ACK (R587). -/
def State.sendDone (s : State) (c : Nat) (written : Bool) : State :=
  let q := (s.ctx c).queue
  let s := s.cuffSend 0x23 (leBytes 4 c ++ leBytes 4 (if written then 1 else 2)) []
  let s := if written then s.sendIdx q (s.getF (F.WQ_STATUS.SQ_CI q)) ((s.getF (F.WQ_OUT.CQ_PI q) + 1) % s.depth q) else s
  s.setCtx c { s.ctx c with doneMsg := some s.pair.tx }

/-- At a function reset, an entry that had placed a tile leaves its completion in the event log (R578) (DEDUCED, log entry 182). -/
def State.noteHostAbort (s : State) (c : Nat) : State :=
  let x := s.ctx c
  if s.host.resets = [] ∨ !s.hostOwned x.queue ∨ x.placed = 0 then s
  else s.logWrite 0x0040 8 (leBytes 2 x.queue ++ leBytes 2 (entCid x.entry) ++ leBytes 2 x.status ++ leBytes 1 x.detail ++ leBytes 1 0 ++
    leBytes 8 x.r0 ++ leBytes 8 x.r1 ++ leBytes 4 x.r2)

/-- COMPLETION_POST: in a shutdown with DISCARD the completion is discarded (R283); otherwise it is written when the ring has room
(R271). From the acceptance of a power fail none is written (R441). -/
def execCompletionPost (ctx : Nat) (s : State) : Host.Outcome State Fault Refusal :=
  .next (let x := s.ctx ctx
    if !s.working || s.pfail || !s.firstReady ctx || s.writesHeld ctx then s
    else
      let discard := (s.queue x.queue).discard
      if !discard && (s.ringFull x.queue || (s.hostOwned x.queue && s.hostBlocked)) then s
      else if s.mirror && x.doneMsg.isNone then s.sendDone ctx (!discard)
      else if !s.acked x.doneMsg then s
      else if discard then ((s.writesVisible ctx).noteHostAbort ctx).freeCtx ctx
      else s.postCompletion ctx)

/-! ## Result pages -/

/-- Writes a result page into an entry's fragments in order: of each fragment the fields that lie in it. -/
def State.pageParts (s : State) (c : Nat) (fields : List (Nat × Nat × Nat)) : List Frag → Nat → State
  | [], _ => s
  | f :: rest, off =>
    let mine := (fields.filter (fun e => decide (off ≤ e.1 ∧ e.1 < off + f.len))).map (fun e => (e.1 - off, e.2.1, e.2.2))
    (s.fabPage (.result c) f.addr f.len mine).pageParts c fields rest (off + f.len)
/-- Writes a result page to an entry's data buffer. -/
def State.pageOut (s : State) (c : Nat) (fields : List (Nat × Nat × Nat)) : State := s.pageParts c fields (s.ctx c).frags 0

end Sys2Proof.Machine
end

