-- ==== Sys2Proof/Machine/Engine.lean ====
section
/-! DEFINITION. The objects of the media engine and where things lie: dies, codeword reads, programs and erases by number, family
times, free block indices (R66 to R68, R415), missing members (R60) and the location of a row's page (R79, R352). -/

namespace Sys2Proof.Machine

/-! ## Numbered objects -/

def State.die (s : State) (p : Nat) : Die := storeGet (fun _ => Die.idle) s.dies p
def State.setDie (s : State) (p : Nat) (x : Die) : State := { s with dies := storePut (fun _ => Die.idle) s.dies p x }
def State.cw (s : State) (i : Nat) : Cw := storeGet (fun _ => Cw.zero) s.cws i
def State.setCw (s : State) (i : Nat) (x : Cw) : State := { s with cws := storeIns i x s.cws }
/-- A codeword read is over. -/
def State.dropCw (s : State) (i : Nat) : State := { s with cws := storeDel i s.cws }
def State.prog (s : State) (i : Nat) : Prog := storeGet (fun _ => Prog.zero) s.progs i
def State.setProg (s : State) (i : Nat) (x : Prog) : State := { s with progs := storeIns i x s.progs }
def State.dropProg (s : State) (i : Nat) : State := { s with progs := storeDel i s.progs }
def State.eraseJob (s : State) (i : Nat) : EraseJob := storeGet (fun _ => EraseJob.zero) s.erases i
def State.setErase (s : State) (i : Nat) (x : EraseJob) : State := { s with erases := storeIns i x s.erases }
def State.dropErase (s : State) (i : Nat) : State := { s with erases := storeDel i s.erases }
def State.task (s : State) (i : Nat) : Task := storeGet (fun _ => Task.zero) s.tasks i
def State.setTask (s : State) (i : Nat) (x : Task) : State := { s with tasks := storeIns i x s.tasks }
def State.dropTask (s : State) (i : Nat) : State := { s with tasks := storeDel i s.tasks }
def State.burst (s : State) (i : Nat) : Burst := storeGet (fun _ => Burst.zero) s.bursts i
def State.setBurst (s : State) (i : Nat) (x : Burst) : State := { s with bursts := storeIns i x s.bursts }
def State.dropBurst (s : State) (i : Nat) : State := { s with bursts := storeDel i s.bursts }
def State.wband (s : State) (g b : Nat) : WBand := storeGet (fun _ => WBand.none) s.wbands (bandKey g b)
def State.setWband (s : State) (g b : Nat) (x : WBand) : State :=
  { s with wbands := storePut (fun _ => WBand.none) s.wbands (bandKey g b) x }
def State.journal (s : State) (ns : Nat) : Journal := storeGet (fun _ => Journal.zero) s.journals ns
def State.setJournal (s : State) (ns : Nat) (x : Journal) : State :=
  { s with journals := storePut (fun _ => Journal.zero) s.journals ns x }
def State.chan (s : State) (c : Nat) : Chan := storeGet (fun _ => Chan.zero) s.chans c
def State.setChan (s : State) (c : Nat) (x : Chan) : State := { s with chans := storePut (fun _ => Chan.zero) s.chans c x }
def State.quad (s : State) (q : Nat) : Quad := storeGet (fun _ => Quad.zero) s.quads q
def State.setQuad (s : State) (q : Nat) (x : Quad) : State := { s with quads := storePut (fun _ => Quad.zero) s.quads q x }
/-- Gates a quad's channel clocks, or ungates them (R612). -/
def State.gateQuad (s : State) (q : Nat) (b : Bool) : State :=
  let s := s.setQuad q { s.quad q with gated := b }
  s.setF F.PWR_STAT.GATED ((List.range s.build.quads).foldl (fun n k => if (s.quad k).gated then n + 2 ^ k else n) 0)
/-- The tables of a vdie, or of its spare (R380). -/
def State.lev (s : State) (v : Nat) (spare : Bool) : Levels :=
  storeGet (fun _ => Levels.zero) s.levels (2 * v + (if spare then 1 else 0))
/-- Sends LEVELS for one table: vdie, 0 applied or 1 target, whether of its spare (Table 18-1). -/
def State.sendLevels (s : State) (v : Nat) (spare : Bool) (table : Nat) (t : List Int) : State :=
  s.cuffSend 0x11 (leBytes 2 v ++ leBytes 1 table ++ leBytes 1 (if spare then 1 else 0) ++ leBytes 4 0) (t.map (fun i => BitVec.ofInt 8 i))
/-- Sets the tables of a vdie, or of its spare; a table that changes goes to the partner (R583). -/
def State.setLev (s : State) (v : Nat) (spare : Bool) (x : Levels) : State :=
  let y := s.lev v spare
  let s : State := { s with levels := storePut (fun _ => Levels.zero) s.levels (2 * v + (if spare then 1 else 0)) x }
  let s := if v < 4096 ∧ x.applied ≠ y.applied then s.sendLevels v spare 0 x.applied else s
  if v < 4096 ∧ x.target ≠ y.target then s.sendLevels v spare 1 x.target else s
/-- Takes the next job number. -/
def State.bumpJob (s : State) : State := { s with nextJob := s.nextJob + 1 }

/-- Adds a codeword read; its number is the job number before. Work of an entry keeps the entry's order of admission (R140) (DESIGN CHOICE, log entry 20). -/
def State.addCw (s : State) (x : Cw) : State :=
  (s.setCw s.nextJob { x with order := if x.order = 0 then s.nextJob else x.order }).bumpJob
def State.addProg (s : State) (x : Prog) : State := (s.setProg s.nextJob { x with order := s.nextJob }).bumpJob
def State.addErase (s : State) (x : EraseJob) : State := (s.setErase s.nextJob { x with order := s.nextJob }).bumpJob

/-- Adds to a counter held in a store. -/
def bump (m : Store Nat) (k n : Nat) : Store Nat := storePut (fun _ => 0) m k (storeGet (fun _ => 0) m k + n)
/-- Reads a counter held in a store. -/
def cnt (m : Store Nat) (k : Nat) : Nat := storeGet (fun _ => 0) m k
/-- A 32-bit counter that saturates, with its event (R640). -/
def State.sat32 (s : State) (v n : Nat) : State := s.noteSat v (satAdd 32 v n) (2 ^ 32 - 1)

/-! ## Families and times -/

/-- The family of a pdie. -/
def State.famOf (s : State) (p : Nat) : Nat := (s.pdie p).family
/-- A time in ns in ticks, rounded down (R134) (DESIGN CHOICE, log entry 113). -/
def State.inTicks (s : State) (ns : Nat) : Nat := ns / (1000 * s.periodUs)
/-- The element of a parameter given for native and SLC mode. -/
def modeIx (slc : Bool) : Nat := if slc then 1 else 0
/-- The typical time in ns of an operation of a family (R134). -/
def State.typTime (s : State) (fam : Nat) (k : OpKind) (slc : Bool) : Nat :=
  match k with
  | .read => s.fp fam "t_R" (modeIx slc) 0
  | .prog => s.fp fam "t_PROG" (modeIx slc) 0
  | .erase => s.fp fam "t_BERS" (modeIx slc) 0
  | .reset => s.fp fam "t_RST" 0 0
/-- The place of an operation class among read, program, erase, transfer. -/
def OpKind.ix : OpKind → Nat
  | .read => 0
  | .prog => 1
  | .erase => 2
  | .reset => 2
/-- The maximum time t_MAX (R361). -/
def State.maxTime (s : State) (fam : Nat) (k : OpKind) (slc : Bool) : Nat :=
  s.fp fam "t_MAX" (2 * k.ix + modeIx slc) (s.typTime fam k slc)
/-- I_FIRST and I_RUN in mA of an operation class; class 3 is a transfer (R146). -/
def State.iFirst (s : State) (fam cls : Nat) (slc : Bool) : Nat := s.fp fam "I_FIRST" (2 * cls + modeIx slc) 0
def State.iRun (s : State) (fam cls : Nat) (slc : Bool) : Nat := s.fp fam "I_RUN" (2 * cls + modeIx slc) 0
/-- Pages per wordline (R292). -/
def State.puOf (s : State) (fam mode : Nat) : Nat := if mode = 1 then 1 else max 1 (s.fp fam "PU" 0 1)
/-- ORD of a family: the pages of a block in program order; ascending in SLC mode (R292). -/
def State.ordOf (s : State) (fam mode : Nat) : List Nat :=
  let n := s.famPages fam mode
  if mode = 1 then List.range n
  else (List.range n).map (fun i => s.fp fam "ORD" i i)
/-- The lookahead LA (R292). -/
def lookahead : List Nat → Nat
  | [] => 0
  | p :: rest => if rest.any (fun q => q + 1 == p) then 1 else lookahead rest
def State.laOf (s : State) (fam mode : Nat) : Nat := if mode = 1 then 0 else lookahead (s.ordOf fam mode)
/-- The pages that precede page `p` in ORD. -/
def precede (p : Nat) : List Nat → List Nat
  | [] => []
  | q :: rest => if q = p then [] else q :: precede p rest
/-- The number of levels L of a family in a mode (R377, R379). -/
def State.levelsOf (s : State) (fam mode : Nat) : Nat := if mode = 1 then 1 else 2 ^ s.puOf fam 0 - 1
/-- WL: wordlines of a block (R378). -/
def State.wordlines (s : State) (fam mode : Nat) : Nat := max 1 (s.famPages fam mode / s.puOf fam mode)
/-- The zone of a page (R378). -/
def State.zoneOf (s : State) (fam mode page : Nat) : Nat := (page / s.puOf fam mode) * 16 / s.wordlines fam mode
/-- The block rows of a family's profile (R111, R113). -/
def State.profile (s : State) (fam : Nat) : Nat :=
  match cnt s.census.profiles fam with
  | 0 => pageProfile (s.fp fam "PAGE_SIZE" 0 0) (s.fp fam "SPARE_SIZE" 0 0)
  | k + 1 => profileRows.getD k 0
/-- The codeword bytes of a family. -/
def State.cwBytes (s : State) (fam : Nat) : Nat := codewordBytes (s.profile fam)
/-- The index of a pdie's channel: the home channel index, from 96 on the home channels of the partner (R599). -/
def State.homeIx (s : State) (p : Nat) : Nat := (pdieChannel p + 192 - s.c0) % 192
/-- The home quad of a home channel. -/
def quadOf (c : Nat) : Nat := c / 4

/-! ## Stripe sets and rows -/

/-- The mode of a set as an element index: 0 native, 1 SLC. -/
def SetDesc.slc (g : SetDesc) : Bool := g.mode == 1
/-- The first BOI of a row. -/
def SetDesc.rowBoi (g : SetDesc) (row : Nat) : Nat := row * g.rowTiles
/-- The row of a BOI. -/
def SetDesc.rowOf (g : SetDesc) (boi : Nat) : Nat := if g.rowTiles = 0 then 0 else boi / g.rowTiles
/-- The member position that holds a BOI. -/
def SetDesc.boiPos (g : SetDesc) (boi : Nat) : Nat :=
  (memberOf (g.pos boi).d (g.pos boi).row g.w g.level).getD 0
/-- The data position of a member position in a row, if it holds one. -/
def SetDesc.dataPos (g : SetDesc) (row pos : Nat) : Option Nat :=
  (List.range g.dpos).find? (fun d => memberOf d row g.w g.level == some pos)
/-- Does a position hold P, or Q, in a row? -/
def SetDesc.isP (g : SetDesc) (row pos : Nat) : Bool := pPos g.w row == pos
def SetDesc.isQ (g : SetDesc) (row pos : Nat) : Bool := g.level == 2 && qPos g.w row == pos
/-- The BOIs that a member position's page of a row holds, in (plane, slot) order. -/
def SetDesc.pageBois (g : SetDesc) (row d : Nat) : List Nat :=
  (List.range (g.planes * g.slots)).map (fun k => boiOf g.dpos g.planes g.slots (RowPos.mk row d (k / g.slots) (k % g.slots)))
/-- The stripe quota and the row quota (R295). -/
def State.stripeQuota (s : State) (g : SetDesc) : Nat := s.laOf g.family g.mode + 2
def State.rowQuota (s : State) (g : SetDesc) : Nat := s.puOf g.family g.mode + s.laOf g.family g.mode + 1

/-- The rebuild task of a vdie. -/
def State.rebuildOf (s : State) (v : Nat) : Option (Nat × Task) :=
  s.tasks.find? (fun e => e.2.kind == .rebuild && e.2.vdie == v)
/-- RB of a band under a rebuild, and the spare's index for it (R426). -/
def Task.rbOf (t : Task) (g b : Nat) : Nat := cnt t.rb (bandKey g b)
def Task.bindOf (t : Task) (g b : Nat) : Nat := cnt t.bind (bandKey g b)

/-- Where a page lies: its pdie, its block, and whether the spare's level tables serve it. -/
structure Loc where
  pdie : Nat
  block : Nat
  spare : Bool
deriving DecidableEq, Repr

/-- The page of a row on a member position for reading; none where the member is missing for the row (R60, R123, R352, R362). -/
def State.readLoc (s : State) (g b row pos : Nat) : Option Loc :=
  let d := s.sset g
  let vn := d.memberAt pos + (if 256 ≤ g then 4096 else 0)
  let v := s.vdie vn
  let blk := (s.band g b).blocks.getD pos 0
  let ok (p : Nat) (x : Loc) : Option Loc := if p = noPdie ∨ (s.die p).unresp then none else some x
  if v.state = 2 ∨ !v.mapped then none
  else if v.state = 1 then
    match s.rebuildOf vn with
    | some (_, t) =>
      if row < t.rbOf g b then ok v.pdie (Loc.mk v.pdie (t.bindOf g b) true)
      else ok v.oldPdie (Loc.mk v.oldPdie blk false)
    | none => ok v.oldPdie (Loc.mk v.oldPdie blk false)
  else ok v.pdie (Loc.mk v.pdie blk false)

/-- The page of a row on a member position for programming: the spare of a REBUILDING member (R61, R428). -/
def State.progLoc (s : State) (g b pos : Nat) : Option Loc :=
  let d := s.sset g
  let vn := d.memberAt pos + (if 256 ≤ g then 4096 else 0)
  let v := s.vdie vn
  let blk := (s.band g b).blocks.getD pos 0
  if v.state = 2 ∨ !v.mapped ∨ v.pdie = noPdie then none
  else if v.state = 1 then
    match s.rebuildOf vn with
    | some (_, t) => some (Loc.mk v.pdie (t.bindOf g b) true)
    | none => some (Loc.mk v.pdie blk true)
  else some (Loc.mk v.pdie blk false)

/-- Is a member FAILED? -/
def State.memberFailed (s : State) (g pos : Nat) : Bool :=
  (s.vdie ((s.sset g).memberAt pos + (if 256 ≤ g then 4096 else 0))).state == 2

/-- Headroom of a set (R60), as an integer. -/
def State.headroom (s : State) (g : Nat) : Int := ((s.sset g).level : Int) - (s.setMissing (s.sset g) : Int)

/-- Missing members of a row, beside those `known` to be lost for it. -/
def State.rowMissing (s : State) (g b row : Nat) : Nat :=
  ((List.range (s.sset g).w).filter (fun pos => (s.readLoc g b row pos).isNone)).length

/-! ## Free block indices (R66 to R68, R415) -/

/-- The blocks of a pdie that are good in every plane. -/
def State.goodIndices (s : State) (p : Nat) : List Nat :=
  (List.range (s.famBlocks (s.famOf p))).filter (fun i => !(s.pdie p).bad.contains i)
/-- The indices bound to bands of any set on a pdie. -/
def State.boundIndices (s : State) (p : Nat) : List Nat :=
  (s.bands.map (fun e =>
    let g := s.sset (e.1 / 16384)
    let off := if 256 ≤ e.1 / 16384 then 4096 else 0
    ((List.range g.w).filter (fun pos =>
      let v := s.vdie (g.memberAt pos + off)
      v.pdie == p || v.oldPdie == p)).map (fun pos => e.2.blocks.getD pos 0xFFFF))).flatten
/-- The indices that copy tasks hold on a pdie beside the bindings. -/
def State.taskIndices (s : State) (p : Nat) : List Nat :=
  (s.tasks.map (fun e =>
    let t := e.2
    let g := s.sset t.set
    let off := if 256 ≤ t.set then 4096 else 0
    match t.kind with
    | .rebuild => if (s.vdie t.vdie).pdie = p then t.bind.map (·.2) else []
    | .subst => if (s.vdie (g.memberAt t.pos + off)).pdie = p then t.blocks else []
    | .rehome _ =>
      ((List.range g.w).filter (fun pos => (s.vdie (g.memberAt pos + off)).pdie == p)).map
        (fun pos => t.blocks.getD pos 0xFFFF) ++
      ((List.range g.w).filter (fun pos => (s.vdie (g.memberAt pos + off)).pdie == p)).map
        (fun pos => t.old.getD pos 0xFFFF))).flatten
/-- The indices on a pdie that journal records under way bind. -/
def State.bindingIndices (s : State) (p : Nat) : List Nat :=
  (s.journals.map (fun e =>
    let items := e.2.flight ++ e.2.pend
    items.filterMap (fun j =>
      match j.eff with
      | .bindNow g _ pos i =>
        let member := items.findSome? (fun k => match k.eff with
          | .setDef g' d => if g' = g then some (d.memberAt pos) else none
          | _ => none)
        let v := (member.getD ((s.sset g).memberAt pos)) + (if 256 ≤ g then 4096 else 0)
        if (s.vdie v).pdie = p then some i else none
      | _ => none))).flatten
/-- The free usable indices of a pdie (R68). -/
def State.freeIndices (s : State) (p : Nat) : List Nat :=
  let held := s.boundIndices p ++ s.taskIndices p ++ s.bindingIndices p
  (s.goodIndices p).filter (fun i => !held.contains i && (s.pdie p).shelter != some i &&
    !s.erases.any (fun e => e.2.pdie == p && e.2.block == i))
/-- The erase count of a block index. -/
def State.wearOf (s : State) (p i : Nat) : Nat := cnt (s.pdie p).wear i
/-- The index with the lowest erase count, ties to the lowest index (R415). -/
def State.leastWorn (s : State) (p : Nat) : List Nat → Option Nat
  | [] => none
  | i :: rest =>
    match s.leastWorn p rest with
    | none => some i
    | some j => if s.wearOf p i ≤ s.wearOf p j then some i else some j
/-- The index with the highest erase count at most `m`, ties to the lowest index. -/
def State.mostWorn (s : State) (p m : Nat) : List Nat → Option Nat
  | [] => none
  | i :: rest =>
    match s.mostWorn p m rest with
    | none => if s.wearOf p i ≤ m then some i else none
    | some j => if s.wearOf p i ≤ m ∧ s.wearOf p j ≤ s.wearOf p i then some i else some j
/-- The mean erase count of a pdie's good indices. -/
def State.meanWear (s : State) (p : Nat) : Nat :=
  let l := s.goodIndices p
  if l.length = 0 then 0 else (l.foldl (fun a i => a + s.wearOf p i) 0) / l.length
/-- The wear rule: the lowest count, or for a re-home of reason 6 the highest within WEAR_SPAN of the mean (R415). -/
def State.chooseIndex (s : State) (p : Nat) (cold : Bool) : Option Nat :=
  if cold then s.mostWorn p (s.meanWear p + s.gp "WEAR_SPAN" 0 500) (s.freeIndices p)
  else s.leastWorn p (s.freeIndices p)
/-- Is a pdie a member of the journal set? -/
def State.journalPdie (s : State) (ns p : Nat) : Bool :=
  (s.sset (nsSet ns 255)).members.any (fun v => (s.vdie (nsVdie ns v)).pdie == p)
/-- Good indices of a pdie without the journal indices of R63. -/
def State.dataIndices (s : State) (ns p : Nat) : Nat := (s.goodIndices p).length - (if s.journalPdie ns p then 64 else 0)
/-- The reserve of a pdie (R67): the greater of 8 and the block reserve share of those indices. -/
def State.reserveOf (s : State) (ns p : Nat) : Nat := max 8 (s.dataIndices ns p * s.gp "block reserve" 0 2 / 100)
/-- The band limit of R67 on a pdie. -/
def State.bandLimit (s : State) (ns p : Nat) : Nat := s.dataIndices ns p - s.reserveOf ns p
/-- Marks an index grown bad. -/
def State.markBad (s : State) (p i : Nat) : State :=
  let x := s.pdie p
  if x.bad.contains i then s else s.setPdie p { x with bad := x.bad ++ [i] }

/-! ## Tile slots (Table 2-8, R84) -/

/-- The resident row of a band, if any. -/
def WBand.rowAt (w : WBand) (row : Nat) : Option ORow := w.rows.find? (fun r => r.row == row)
/-- Replaces a resident row. -/
def WBand.setRow (w : WBand) (r : ORow) : WBand := { w with rows := w.rows.map (fun x => if x.row == r.row then r else x) }
/-- Has page `row` of member `pos` programmed in this band? -/
def WBand.pageDone (w : WBand) (pos row : Nat) : Bool := (cnt w.done pos).testBit row
/-- Marks it programmed. -/
def WBand.markDone (w : WBand) (pos row : Nat) : WBand :=
  if w.pageDone pos row then w else { w with done := bump w.done pos (2 ^ row) }
/-- Has the wordline of page `row` on a member finished (R294)? -/
def State.wordlineDone (s : State) (g b pos row : Nat) : Bool :=
  let d := s.sset g
  let pu := s.puOf d.family d.mode
  let w := s.wband g b
  (List.range pu).all (fun i => w.pageDone pos (row / pu * pu + i))

/-- How a BOI resolves: 0 on the media, 1 placed, 2 void, 3 unwritten, 4 lost (R84, R417). -/
def State.resolveBoi (s : State) (g b boi : Nat) : Nat :=
  let d := s.sset g
  let x := s.band g b
  if x.state < 3 ∨ x.fill ≤ boi then 3
  else if x.voids.contains boi then 2
  else if x.lost.contains boi then 4
  else
    let row := d.rowOf boi
    match (s.wband g b).rowAt row with
    | none => 0
    | some r =>
      let sl := storeGet (fun _ => Slot.empty) r.slots (boi - d.rowBoi row)
      if sl.st = 2 then 2
      else if sl.st = 1 ∧ sl.buf.isSome ∧ !s.wordlineDone g b (d.boiPos boi) row then 1
      else 0

end Sys2Proof.Machine
end

