-- ==== Sys2Proof/Machine/Journal.lean ====
section
/-! DEFINITION. The journal set (chapter 12): records and their layouts (Table 12-4), rows (Table 12-5), the writing of one row at a
time (R449, R450). -/

namespace Sys2Proof.Machine

/-! ## Layouts of geometry objects -/

/-- A vdie map entry (Table 2-1). -/
def Vdie.word (v : Vdie) : Nat :=
  if !v.mapped then 0
  else 2 ^ 63 + v.state * 2 ^ 60 + v.family * 2 ^ 56 + (if v.member then 2 ^ 55 else 0) + (if v.journal then 2 ^ 54 else 0) +
    v.pos * 2 ^ 48 + v.set * 2 ^ 40 + v.oldPdie * 2 ^ 16 + v.pdie
/-- The entry that a map word holds. -/
def Vdie.ofWord (w : Nat) : Vdie :=
  if w / 2 ^ 63 % 2 = 0 then Vdie.unmapped
  else Vdie.mk true (w / 2 ^ 60 % 8) (w / 2 ^ 56 % 16) (w / 2 ^ 55 % 2 == 1) (w / 2 ^ 54 % 2 == 1) (w / 2 ^ 48 % 64)
    (w / 2 ^ 40 % 256) (w / 2 ^ 16 % 4096) (w % 4096)

/-- A stripe set's descriptor, bytes 0 to 159 (Table 2-10). -/
def State.setBytes (s : State) (g : Nat) : List Byte :=
  let d := s.sset g
  if !d.defined then List.replicate 160 0#8
  else
    let isOpen := (s.bands.filter (fun e => e.1 / 16384 == g && e.2.state == 3)).length
    leBytes 1 (g % 256) ++ leBytes 1 (s.setStateCode d) ++ leBytes 1 d.w ++ leBytes 1 d.level ++ leBytes 1 d.family ++
      leBytes 1 d.mode ++ leBytes 1 d.planes ++ leBytes 1 d.slots ++ leBytes 2 d.bands ++ leBytes 2 d.rows ++ leBytes 4 d.tiles ++
      leBytes 1 (s.setFailed d) ++ leBytes 1 (s.setRebuilding d) ++ leBytes 1 (min 255 isOpen) ++ List.replicate 13 0#8 ++
      ((List.range 64).map (fun i => leBytes 2 (d.members.getD i 0xFFFF))).flatten

/-- The descriptor that 160 bytes hold. -/
def SetDesc.ofBytes (m : List Byte) : SetDesc :=
  if field m 1 1 = 0 then SetDesc.undef
  else SetDesc.mk (field m 2 1) (field m 3 1) (field m 4 1) (field m 5 1) (field m 6 1) (field m 7 1) (field m 8 2) (field m 10 2)
    ((List.range (field m 2 1)).map (fun i => field m (32 + 2 * i) 2))

/-- The void slots of a band: those recorded and those of resident rows. -/
def State.voidCount (s : State) (g b : Nat) : Nat :=
  (s.band g b).voids.length +
    ((s.wband g b).rows.map (fun r => (r.slots.filter (fun e => e.2.st == 2 &&
      !(s.band g b).voids.contains ((s.sset g).rowBoi r.row + e.1))).length)).sum

/-- A band entry, 192 bytes (Table 2-5). -/
def State.bandBytes (s : State) (g b : Nat) : List Byte :=
  let x := s.band g b
  let v := s.voidCount g b
  leBytes 1 (g % 256) ++ leBytes 1 0 ++ leBytes 2 b ++ leBytes 1 x.state ++
    leBytes 1 ((if x.rehoming then 128 else 0) + (if v ≠ 0 then 64 else 0)) ++ leBytes 2 0 ++ leBytes 4 x.fill ++ leBytes 4 v ++
    leBytes 8 x.opened ++ leBytes 8 x.closedAt ++ leBytes 4 x.reads ++ List.replicate 28 0#8 ++
    ((List.range 64).map (fun i => leBytes 2 (if s.memberFailed g i then 0xFFFF else x.blocks.getD i 0xFFFF))).flatten

/-! ## Records (Table 12-4) -/

/-- A record with its effect. -/
def jrec (type : Nat) (bytes : List Byte) (eff : JEff) : JItem := JItem.mk type bytes eff

def jVdie (v : Nat) (x : Vdie) : JItem :=
  jrec 0x01 (leBytes 2 (v % 4096) ++ leBytes 6 0 ++ leBytes 8 x.word) (.vdie v x)
/-- The retirement of a pdie that no vdie names. No record type of Table 12-4 holds it: it is written as the number 0xFFF, which no vdie has,
being mapped to the pdie, becoming FAILED and being unmapped (DESIGN CHOICE, log entry 40). -/
def jRetired (ns p : Nat) : List JItem :=
  let v := nsVdie ns 0xFFF
  let x := Vdie.mk true 0 0 false false 0 0 noPdie p
  [{ jVdie v x with eff := .nothing }, { jVdie v { x with state := 2, pdie := noPdie } with eff := .nothing },
    { jVdie v Vdie.unmapped with eff := .retire p }]
def jBadBlock (p i kind : Nat) : JItem :=
  jrec 0x04 (leBytes 2 p ++ leBytes 2 i ++ leBytes 1 kind ++ leBytes 3 0) (.badBlock p i)
def jShelter (p i page : Nat) : JItem :=
  jrec 0x06 (leBytes 2 p ++ leBytes 2 i ++ leBytes 2 page ++ leBytes 2 0) (.shelter p i)
def jBand (g b state opened closedAt fill : Nat) (eff : JEff) : JItem :=
  jrec 0x10 (leBytes 1 (g % 256) ++ leBytes 1 0 ++ leBytes 2 b ++ leBytes 1 state ++ leBytes 3 0 ++ leBytes 8 opened ++
    leBytes 8 closedAt ++ leBytes 4 fill ++ leBytes 4 0) eff
def jBinding (g pos b i status : Nat) (eff : JEff) : JItem :=
  jrec 0x11 (leBytes 1 (g % 256) ++ leBytes 1 pos ++ leBytes 2 b ++ leBytes 2 i ++ leBytes 1 status ++ leBytes 1 0) eff
def jVoids (g b boi n : Nat) : JItem :=
  jrec 0x12 (leBytes 1 (g % 256) ++ leBytes 1 0 ++ leBytes 2 b ++ leBytes 4 boi ++ leBytes 4 n ++ leBytes 4 0) (.voids g b boi n)
def jCorrection (g d b row plane slot boi : Nat) (img : List Byte) : JItem :=
  jrec 0x13 (leBytes 1 (g % 256) ++ leBytes 1 d ++ leBytes 2 b ++ leBytes 2 row ++ leBytes 1 plane ++ leBytes 1 slot ++
    leBytes 8 0 ++ img) (.corr g b boi img)
def jLost (g b boi : Nat) : JItem :=
  jrec 0x14 (leBytes 1 (g % 256) ++ leBytes 1 0 ++ leBytes 2 b ++ leBytes 4 boi) (.lost g b boi)
def jIntent (p i reason job : Nat) : JItem :=
  jrec 0x20 (leBytes 2 p ++ leBytes 2 i ++ leBytes 1 reason ++ leBytes 3 0) (.intent job)
def jErased (p i : Nat) (ok : Bool) (job : Nat) : JItem :=
  jrec 0x21 (leBytes 2 p ++ leBytes 2 i ++ leBytes 1 (if ok then 0 else 1) ++ leBytes 3 0) (.erased job ok)
def jRebuildCkpt (v g b rb index : Nat) : JItem :=
  jrec 0x30 (leBytes 2 (v % 4096) ++ leBytes 1 (g % 256) ++ leBytes 1 0 ++ leBytes 2 b ++ leBytes 2 rb ++ leBytes 2 index ++
    leBytes 6 0) .nothing
def jHwm (ns v : Nat) : JItem := jrec 0x40 (leBytes 1 ns ++ leBytes 7 0 ++ leBytes 8 v) (.hwm ns v)
/-- A completion that waits for its row (DESIGN CHOICE, log entry 132). -/
def jFinish (c status detail r0 : Nat) : JItem := jrec 0 [] (.finish c status detail r0)

/-- A record as bytes (R450). An item of type 0 carries no record. -/
def JItem.record (j : JItem) : List Byte :=
  if j.type = 0 then [] else leBytes 1 j.type ++ leBytes 1 0 ++ leBytes 2 j.bytes.length ++ j.bytes

/-- The namespace of a set key. -/
def nsOf (g : Nat) : Nat := g / 256
/-- The journal set's key of a namespace. -/
def jset (ns : Nat) : Nat := nsSet ns 255

/-! ## Rows (R449, R450) -/

/-- The record bytes a row can take. -/
def SetDesc.rowRoom (d : SetDesc) : Nat := d.rowTiles * 4096 - 64

/-- Splits off the records that fit in `room` bytes. -/
def takeFit : Nat → List JItem → List JItem × List JItem
  | _, [] => ([], [])
  | room, j :: rest =>
    if j.record.length ≤ room then
      let r := takeFit (room - j.record.length) rest
      (j :: r.1, r.2)
    else ([], j :: rest)

/-- A row's header (Table 12-5). -/
def rowHeader (flags seq : Nat) (recs : List Byte) : List Byte :=
  leBytes 4 0x4A524E4C ++ leBytes 2 1 ++ leBytes 2 flags ++ leBytes 8 seq ++ leBytes 4 recs.length ++
    leBytes 4 (crc32c recs).toNat ++ List.replicate 40 0#8

/-- Pads bytes with zeros to length `n`. -/
def padTo (n : Nat) (m : List Byte) : List Byte := m ++ List.replicate (n - m.length) 0#8

/-- The tile of given DATA at a band address: TAG 0, STAMP 0, its address check and check word (DEDUCED, log entry 133). -/
def journalTile (addr : Nat) (dataBytes : List Byte) : List Byte :=
  let t := padTo 4096 dataBytes ++ List.replicate 16 0#8 ++ leBytes 8 0 ++ leBytes 4 addr
  t ++ leBytes 4 (crc32c t).toNat

/-- The DATA of tile `i` of a row's bytes. -/
def chunk (m : List Byte) (i : Nat) : List Byte := (m.drop (4096 * i)).take 4096

/-- The scrambled images of one member's data page of a row, in (plane, slot) order. -/
def dataImages (d : SetDesc) (block row : Nat) (tile : Nat → List Byte) (dp : Nat) : List (List Byte) :=
  (d.pageBois row dp).map (fun boi => scramble block row (boi % d.slots) (tile boi))

/-- P, or Q, of the images of a row: one image per (plane, slot). -/
def parityImages (d : SetDesc) (q : Bool) (img : Nat → Nat → List Byte) : List (List Byte) :=
  (List.range (d.planes * d.slots)).map (fun k =>
    (List.range d.dpos).foldl (fun a dp => if q then accQ a (img dp k) dp else accP a (img dp k)) zeroImage)

/-- The programs of one journal row holding `bytes`. -/
def State.journalProgs (s : State) (ns : Nat) (b row : Nat) (bytes : List Byte) : List Prog :=
  let g := jset ns
  let d := s.sset g
  let blk (pos : Nat) : Nat := (s.band g b).blocks.getD pos 0
  let tile (boi : Nat) : List Byte := journalTile (bandAddr 255 b boi) (chunk bytes (boi - d.rowBoi row))
  let posOf (dp : Nat) : Nat := (memberOf dp row d.w d.level).getD 0
  let img (dp k : Nat) : List Byte := (dataImages d (blk (posOf dp)) row tile dp).getD k []
  (List.range d.w).filterMap (fun pos =>
    match s.progLoc g b pos with
    | none => none
    | some l =>
      let images :=
        if d.isP row pos then parityImages d false img
        else if d.isQ row pos then parityImages d true img
        else match d.dataPos row pos with
          | some dp => dataImages d (blk pos) row tile dp
          | none => []
      some { Prog.zero with
        use := .journal ns, cls := if s.pfail || s.stage < 7 then 0 else 1, level := 0, set := g, band := b, row := row, pos := pos,
        pdie := l.pdie, block := l.block, page := row, slc := true, planes := d.planes, slots := d.slots, images := images })

/-- Starts the next journal row with the records that wait, unless one is in flight: rows are written one at a time (R449). The
first row of a band makes it OPEN (R65). -/
def State.journalPump (s : State) (ns : Nat) : State :=
  let j := s.journal ns
  let d := s.sset (jset ns)
  if !j.flight.isEmpty || j.pend.isEmpty || !d.defined then s
  else
    let cut := takeFit d.rowRoom j.pend
    let recs := (cut.1.map JItem.record).flatten
    let flags := if j.inCkpt && j.ckptFirst == j.seq + 1 then 1 else 0
    let progs := s.journalProgs ns j.band j.row (rowHeader flags (j.seq + 1) recs ++ recs)
    let first := s.nextJob
    let s := progs.foldl (fun s p => s.addProg p) s
    let x := s.band (jset ns) j.band
    let s := s.setBand (jset ns) j.band { x with state := 3, fill := d.rowBoi (j.row + 1) }
    s.setJournal ns { j with
      flight := cut.1, pend := cut.2, progs := (List.range progs.length).map (· + first), bad := false
      newBand := if flags = 1 then j.band else j.newBand
      newRow := if flags = 1 then j.row else j.newRow }

/-- Adds records that arise together; they are gathered into the next row. -/
def State.journalAdd (s : State) (ns : Nat) (items : List JItem) : State :=
  let j := s.journal ns
  (s.setJournal ns { j with pend := j.pend ++ items }).journalPump ns

/-- Moves the journal to its next row; a full band is CLOSED and the next band follows in rotation. -/
def State.journalStep (s : State) (ns : Nat) : State :=
  let j := s.journal ns
  let d := s.sset (jset ns)
  let x := s.band (jset ns) j.band
  if j.row + 1 < d.rows then s.setJournal ns { j with row := j.row + 1 }
  else
    (s.setBand (jset ns) j.band { x with state := 4, closedAt := s.nsTime ns }).setJournal ns
      { j with row := 0, band := (j.band + 1) % 64, bandsSince := j.bandsSince + 1 }

/-! ## Reading journal rows -/

/-- The records of a row's record bytes as (type, payload). -/
def parseRecords : Nat → List Byte → List (Nat × List Byte)
  | 0, _ => []
  | fuel + 1, m =>
    if m.length < 4 then []
    else (field m 0 1, slice m 4 (field m 2 2)) :: parseRecords fuel (m.drop (4 + field m 2 2))

/-- A row as its bytes hold it: SEQ, whether it begins a checkpoint, its records; none where it is not valid (R450). -/
def parseRow (m : List Byte) : Option (Nat × Bool × List (Nat × List Byte)) :=
  let n := field m 16 4
  let recs := slice m 64 n
  if field m 0 4 = 0x4A524E4C ∧ field m 4 2 = 1 ∧ recs.length = n ∧ (crc32c recs).toNat = field m 20 4 then
    some (field m 8 8, field m 6 2 % 2 == 1, parseRecords n recs)
  else none

end Sys2Proof.Machine
end

