-- ==== Sys2Proof/Machine/Write.lean ====
section
/-! DEFINITION. Writing (chapter 8): tile buffers, open rows and their parity, page programs, completion of writes, voiding, closing
and reservations; WRITE, TILE_INTAKE_DONE, PLACEMENT, BAND_OPEN, BAND_CLOSE. -/

namespace Sys2Proof.Machine

/-! ## Open stripes and reservations (R295 to R299) -/

/-- Rows of sets other than the journal's whose parity is pending: open stripes, of them those covered. -/
def State.openRows (s : State) : List ORow := (s.wbands.map (fun e => e.2.rows.filter (fun r => r.par == 0))).flatten
/-- Stripe quotas, accumulator bytes and tile buffers that a reservation takes (Table 8-2). -/
def State.resBuffers (s : State) (g : SetDesc) : Nat := s.rowQuota g * g.rowTiles
def State.resAcc (s : State) (g : SetDesc) : Nat := s.stripeQuota g * g.level * g.planes * g.slots * 4128
/-- The bands that hold a reservation, as (set key, band). -/
def State.reservedBands (s : State) : List (Nat × Nat) :=
  (s.wbands.filter (fun e => e.2.reserved)).map (fun e => (e.1 / 16384, e.1 % 16384))
def State.resStripes (s : State) : Nat := (s.reservedBands.map (fun e => s.stripeQuota (s.sset e.1))).sum
def State.resAccAll (s : State) : Nat := (s.reservedBands.map (fun e => s.resAcc (s.sset e.1))).sum
/-- LIMIT (R222). -/
def State.limit (s : State) : Nat := s.getF F.PWR_HOLDUP.LIMIT
/-- The stripe ceiling (R296). -/
def State.ceilingOf (s : State) : Nat := min 64 s.limit
/-- Is the fabric pool in use (R290)? -/
def State.fabPool (s : State) : Bool := s.getF F.PTY_PIN_STAT.FAB_TILES != 0
/-- Buffers of a pool (1 fabric, 2 scratchpad) neither in use nor reserved. -/
def State.poolFree (s : State) (pool : Nat) : Nat :=
  if pool = 1 then s.getF F.PTY_PIN_STAT.FAB_FREE else s.getF F.PTY_ROWSTORE.SP_FREE
def State.poolTiles (s : State) (pool : Nat) : Nat :=
  if pool = 1 then s.getF F.PTY_PIN_STAT.FAB_TILES else s.getF F.PTY_ROWSTORE.SP_TILES
def State.setPoolFree (s : State) (pool n : Nat) : State :=
  if pool = 1 then s.setF F.PTY_PIN_STAT.FAB_FREE n else s.setF F.PTY_ROWSTORE.SP_FREE n
/-- The pool that takes WRITE tiles (Table 8-1). -/
def State.writePool (s : State) : Nat := if s.fabPool then 1 else 2
/-- F of R296. -/
def poolKeep (tiles : Nat) : Nat := if tiles < 2048 then tiles / 2 else 1024

/-- PTY_OPEN and the free accumulator area follow the open rows and reservations. -/
def State.ptyRegs (s : State) : State :=
  let s := s.setF F.PTY_OPEN.CEILING s.ceilingOf
  let s := s.setF F.PTY_OPEN.RESERVED s.resStripes
  let s := s.setF F.PTY_OPEN.STRIPES s.openRows.length
  let s := s.setF F.PTY_OPEN.BANDS s.reservedBands.length
  s.setF F.PTY_ROWSTORE.ACC_FREE_KIB (s.getF F.PTY_ROWSTORE.ACC_KIB - ceilDiv s.resAccAll 1024)

/-- Does the reservation of a band of set `g` fit (R296)? -/
def State.resFits (s : State) (g : SetDesc) : Bool :=
  let pool := s.writePool
  (if s.limit = 0 then s.reservedBands.isEmpty
   else decide (s.resStripes + s.stripeQuota g ≤ s.ceilingOf)) &&
  decide (s.resAccAll + s.resAcc g ≤ s.getF F.PTY_ROWSTORE.ACC_KIB * 1024) &&
  decide (s.resBuffers g + poolKeep (s.poolTiles pool) ≤ s.poolFree pool)

/-- Takes the reservation (DEDUCED, log entry 127). -/
def State.takeRes (s : State) (g b : Nat) : State :=
  let d := s.sset g
  let s := s.setPoolFree s.writePool (s.poolFree s.writePool - s.resBuffers d)
  (s.setWband g b { s.wband g b with reserved := true }).ptyRegs

/-- Releases it once the band is CLOSED with no resident rows. -/
def State.dropRes (s : State) (g b : Nat) : State :=
  let w := s.wband g b
  if w.reserved ∧ w.rows = [] ∧ (s.band g b).state ≠ 3 then
    let s := s.setPoolFree s.writePool (s.poolFree s.writePool + s.resBuffers (s.sset g))
    (s.setWband g b { w with reserved := false }).ptyRegs
  else s

/-- Buffers of a band's reservation that no tile holds. -/
def State.resLeft (s : State) (g b : Nat) : Nat :=
  let w := s.wband g b
  let inRows := (w.rows.map (fun r => (r.slots.filter (fun e => e.2.buf.isSome && e.2.res)).length)).sum
  let inEntries := (w.entries.map (fun c => (s.ctx c).fromRes - min (s.ctx c).fromRes (s.ctx c).placed)).sum
  if w.reserved then s.resBuffers (s.sset g) - inRows - inEntries else 0

/-! ## Folding and voiding (R116, R117, R308, R316, R321) -/

/-- The accumulator key of a BOI. -/
def SetDesc.accKey (g : SetDesc) (boi : Nat) : Nat := 8 * (g.pos boi).plane + (g.pos boi).slot
/-- An accumulator; absent: zeros. -/
def accGet (m : Store (List Byte)) (k : Nat) : List Byte := storeGet (fun _ => zeroImage) m k
def accPut (m : Store (List Byte)) (k : Nat) (v : List Byte) : Store (List Byte) := storePut (fun _ => zeroImage) m k v
/-- Adds or removes one image in a row's accumulators. -/
def ORow.acc (r : ORow) (g : SetDesc) (boi : Nat) (img : List Byte) : ORow :=
  let k := g.accKey boi
  { r with
    accP := accPut r.accP k (Sys2Proof.Machine.accP (accGet r.accP k) img)
    accQ := if g.level = 2 then accPut r.accQ k (Sys2Proof.Machine.accQ (accGet r.accQ k) img (g.pos boi).d) else r.accQ }
/-- The block whose seed the image of a slot has: for a placed slot of a resident row the one it was added under, so that a fold takes the
same image (R117), else that of the member's block now. -/
def State.seedOf (s : State) (g b boi : Nat) : Nat :=
  let d := s.sset g
  let now := match s.progLoc g b (d.boiPos boi) with
    | some l => l.block
    | none => (s.band g b).blocks.getD (d.boiPos boi) 0
  match (s.wband g b).rowAt (d.rowOf boi) with
  | some r =>
    let sl := storeGet (fun _ => Slot.empty) r.slots (boi - d.rowBoi r.row)
    if sl.st = 1 then sl.seed else now
  | none => now
/-- The scrambled image of a tile at its own place. -/
def State.imageAt (s : State) (g b boi : Nat) (tile : List Byte) : List Byte :=
  let d := s.sset g
  scramble (s.seedOf g b boi) (d.rowOf boi) (boi % d.slots) tile

/-- A member's page of a resident row goes to another block: the accumulators take its images under that block's seed, as the channel unit
does that programs it (R24, R114), unless the row's parity is under way (DEDUCED, log entry 252). -/
def State.reseed (s : State) (g b row pos blk : Nat) : State :=
  let d := s.sset g
  match (s.wband g b).rowAt row, d.dataPos row pos with
  | some r, some dp =>
    if r.par ≠ 0 ∨ cnt r.pages (pPos d.w row) ≠ 0 ∨ (d.level = 2 ∧ cnt r.pages (qPos d.w row) ≠ 0) then s
    else
      s.setWband g b ((s.wband g b).setRow ((d.pageBois row dp).foldl (fun (r : ORow) boi =>
        let k := boi - d.rowBoi row
        let sl := storeGet (fun _ => Slot.empty) r.slots k
        match sl.st, sl.buf with
        | 1, some t =>
          if sl.seed = blk then r
          else
            let r := (r.acc d boi (scramble sl.seed row (boi % d.slots) t)).acc d boi (scramble blk row (boi % d.slots) t)
            { r with slots := storePut (fun _ => Slot.empty) r.slots k { sl with seed := blk } }
        | _, _ => r) r))
  | _, _ => s

/-- Makes one slot of a resident row VOID and folds its image out; `st` 0 and 2 have nothing to fold. -/
def State.voidSlot (s : State) (g b boi : Nat) : State :=
  let d := s.sset g
  let w := s.wband g b
  let row := d.rowOf boi
  match w.rowAt row with
  | none => s
  | some r =>
    let k := boi - d.rowBoi row
    let sl := storeGet (fun _ => Slot.empty) r.slots k
    if sl.st = 2 then s
    else
      let r := match sl.buf with
        | some t => if r.par = 0 then r.acc d boi (s.imageAt g b boi t) else r
        | none => r
      let r := { r with slots := storePut (fun _ => Slot.empty) r.slots k { sl with st := 2, folded := true } }
      let x := s.band g b
      let s := s.setWband g b (w.setRow r)
      s.setBand g b { x with voids := if x.voids.contains boi then x.voids else x.voids ++ [boi] }

/-- A WRITE or COPY entry's tile became void through its page's failure: nothing further is placed (R315). -/
def State.entryVoided (s : State) (g b c : Nat) : State :=
  let x := s.ctx c
  if x.state = .running ∧ !x.voided ∧ x.aborting = 0 then
    let s := s.setCtx c { x with voided := true, ended := true }
    let w := s.wband g b
    let s := s.setWband g b { w with entries := w.entries.filter (· != c) }
    s.journalAdd (nsOf g) [jFinish c 0x20 0 0]
  else s

/-- Every placed slot of a member's page of a resident row becomes VOID and is folded out; the voids are recorded, and entries
with such tiles complete once the record commits (R308, R315, R316). Returns the state with VOIDED counted. -/
def State.voidPage (s : State) (g b row pos : Nat) : State :=
  let d := s.sset g
  match (s.wband g b).rowAt row, d.dataPos row pos with
  | some r, some dp =>
    let bois := d.pageBois row dp
    let placed := bois.filter (fun boi => (storeGet (fun _ => Slot.empty) r.slots (boi - d.rowBoi row)).st == 1)
    let ctxs := (placed.filterMap (fun boi => (storeGet (fun _ => Slot.empty) r.slots (boi - d.rowBoi row)).ctx)).eraseDups
    let s := bois.foldl (fun s boi => s.voidSlot g b boi) s
    let s := s.countSat F.PTY_WFAIL.VOIDED placed.length
    let s := if bois = [] then s else s.journalAdd (nsOf g) [jVoids g b (bois.headD 0) bois.length]
    ctxs.foldl (fun s c => s.entryVoided g b c) s
  | _, _ => s

/-! ## Page programs (R293, R309 to R311) -/

/-- The class F level of work for a set: the lowest level number of entries with a tile in the row's page (R318). -/
def State.pageLevel (s : State) (r : ORow) (ks : List Nat) : Nat :=
  ks.foldl (fun a k => match (storeGet (fun _ => Slot.empty) r.slots k).ctx with
    | some c => min a (s.ctx c).level
    | none => a) 7

/-- May page `row` of member `pos` be programmed: every page before it in ORD has (R293), and no substitution or stop stands in
the way (R319, R320)? -/
def State.pageAllowed (s : State) (g b row pos : Nat) : Bool :=
  let d := s.sset g
  let w := s.wband g b
  (precede row (s.ordOf d.family d.mode)).all (fun p => w.pageDone pos p) && !w.stopped.contains pos &&
    !s.tasks.any (fun e => e.2.kind == .subst && e.2.set == g && e.2.band == b && e.2.pos == pos && decide (e.2.stop ≤ row))

/-- The class of work on a band: class U in recovery, at hand-over and for a rebuild without headroom, else class F. -/
def State.bandCls (s : State) (g : Nat) : Nat := if s.stage < 7 ∨ (256 ≤ g ∧ s.pair.step ≠ 0) then 0 else 1

/-- A page program for a member's page of a row with the images given. -/
def State.pageProg (s : State) (g b row pos : Nat) (l : Loc) (use : ProgFor) (level : Nat) (images : List (List Byte)) : Prog :=
  let d := s.sset g
  { Prog.zero with
    use := use, cls := s.bandCls g, level := level, set := g, band := b, row := row, pos := pos, pdie := l.pdie, block := l.block,
    page := row, pass := row % s.puOf d.family d.mode, slc := d.slc, planes := d.planes, slots := d.slots, images := images }

/-- The content of R310 for a page: zero tiles scrambled with the seeds of their places. -/
def fillImages (d : SetDesc) (block row : Nat) : List (List Byte) :=
  (List.range (d.planes * d.slots)).map (fun k => scramble block row (k % d.slots) (List.replicate tileBytes 0#8))

/-- Is every slot of the list placed or void? -/
def ORow.full (r : ORow) (ks : List Nat) : Bool := ks.all (fun k => (storeGet (fun _ => Slot.empty) r.slots k).st != 0)

/-- Has every data slot of the row programmed or become VOID with its fold applied (R118)? -/
def State.rowSettled (s : State) (g : Nat) (r : ORow) : Bool :=
  let d := s.sset g
  (List.range d.dpos).all (fun dp =>
    match memberOf dp r.row d.w d.level with
    | none => true
    | some pos => 2 ≤ cnt r.pages pos ||
      (d.pageBois r.row dp).all (fun boi => (storeGet (fun _ => Slot.empty) r.slots (boi - d.rowBoi r.row)).st == 2))

/-- Prepares the page of one member of a resident row when it is ready to program: a data page, or P or Q once R118 holds. A data
page whose tile fails the check before encode is voided first (R195, Table 3-2). A page on a member that cannot take it counts
as missing. -/
def State.readyPage (s : State) (g b row pos : Nat) : State :=
  let d := s.sset g
  match (s.wband g b).rowAt row with
  | none => s
  | some r =>
    if cnt r.pages pos ≠ 0 then s
    else
      let missing (s : State) : State :=
        match (s.wband g b).rowAt row with
        | some r => s.setWband g b ((s.wband g b).setRow { r with pages := storePut (fun _ => 0) r.pages pos 3 })
        | none => s
      let start (s : State) (p : Prog) : State :=
        match (s.wband g b).rowAt row with
        | some r => (s.setWband g b ((s.wband g b).setRow { r with pages := storePut (fun _ => 0) r.pages pos 1 })).addProg p
        | none => s
      match d.dataPos row pos with
      | some dp =>
        let bois := d.pageBois row dp
        let ks := bois.map (fun boi => boi - d.rowBoi row)
        if !r.full ks then s
        else
          match s.progLoc g b pos with
          | none => missing (s.voidPage g b row pos)
          | some l =>
            if (s.die l.pdie).unresp ∨ (s.wband g b).stopped.contains pos then missing (s.voidPage g b row pos)
            else if !s.pageAllowed g b row pos then s
            else
              let bad := ks.any (fun k => match (storeGet (fun _ => Slot.empty) r.slots k).buf with
                | some t => (storeGet (fun _ => Slot.empty) r.slots k).st == 1 && !tileCrcOk t
                | none => false)
              let s := (if bad then s.voidPage g b row pos else s).reseed g b row pos l.block
              let r := ((s.wband g b).rowAt row).getD r
              let img (boi : Nat) : List Byte :=
                let sl := storeGet (fun _ => Slot.empty) r.slots (boi - d.rowBoi row)
                match sl.st, sl.buf with
                | 1, some t => scramble l.block row (boi % d.slots) t
                | _, _ => scramble l.block row (boi % d.slots) (List.replicate tileBytes 0#8)
              start s (s.pageProg g b row pos l .data (s.pageLevel r ks) (bois.map img))
      | none =>
        if !s.rowSettled g r || !r.full (List.range d.rowTiles) then s
        else
          match s.progLoc g b pos with
          | none => missing s
          | some l =>
            if (s.die l.pdie).unresp ∨ (s.wband g b).stopped.contains pos then missing s
            else if !s.pageAllowed g b row pos then s
            else
              let acc := if d.isP row pos then r.accP else r.accQ
              let images := (List.range (d.planes * d.slots)).map (fun k => accGet acc (8 * (k / d.slots) + k % d.slots))
              start s (s.pageProg g b row pos l (.parity (d.isQ row pos)) 0 images)

/-- The pages of a closing band's last wordline beyond FILL are programmed with the content of R310 (R324). -/
def State.fillPages (s : State) (g b : Nat) : State :=
  let d := s.sset g
  let x := s.band g b
  let w := s.wband g b
  let pu := s.puOf d.family d.mode
  let top := d.rowOf (x.fill + d.rowTiles - 1)
  if !w.closing || x.state < 3 || x.fill = 0 || top % pu = 0 then s
  else
    (List.range (pu - top % pu)).foldl (fun s i => (List.range d.w).foldl (fun s pos =>
      let row := top + i
      let w := s.wband g b
      if d.rows ≤ row || w.pageDone pos row || s.progs.any (fun e => e.2.set == g && e.2.band == b && e.2.row == row &&
          e.2.pos == pos) || !s.pageAllowed g b row pos then s
      else
        match s.progLoc g b pos with
        | none => s.setWband g b (w.markDone pos row)
        | some l => if (s.die l.pdie).unresp then s.setWband g b (w.markDone pos row)
          else s.addProg (s.pageProg g b row pos l .fill 0 (fillImages d l.block row))) s) s

/-! ## Completion of writes (R314) -/

/-- Is a placed tile of an entry settled as R314 asks? -/
def State.tileSettled (s : State) (g b boi : Nat) : Bool :=
  let d := s.sset g
  let row := d.rowOf boi
  match (s.wband g b).rowAt row with
  | none => true
  | some r =>
    let pos := d.boiPos boi
    cnt r.pages pos == 2 && (r.covered || (r.par == 1 && s.wordlineDone g b pos row))

/-- The set key that an entry places into. -/
def State.destSet (s : State) (c : Nat) : Nat := nsSet (s.qNs (s.ctx c).queue) (addrSet (entDest (s.ctx c).entry))
def State.destBand (s : State) (c : Nat) : Nat := addrBand (entDest (s.ctx c).entry)
/-- The results that describe a placement (Table 7-8). -/
def State.finishPlaced (s : State) (c status detail : Nat) : State :=
  let x := s.ctx c
  let r0 := if x.placed = 0 then 0 else bandAddr (s.destSet c % 256) (s.destBand c) x.firstBoi
  s.finish c status detail r0 (if x.placed = 0 then 0 else x.firstStamp) x.placed

/-- Completes the entries of a band whose conditions hold (R314), and those that were aborted once their voids are settled. -/
def State.writesDone (s : State) (g b : Nat) : State :=
  s.ctxs.foldl (fun s e =>
    let x := s.ctx e.1
    let op := entOp x.entry
    if x.state = .running ∧ (op = opWRITE ∨ op = opCOPY) ∧ x.ended ∧ !x.voided ∧ x.aborting = 0 ∧ s.destSet e.1 = g ∧
        s.destBand e.1 = b ∧ (x.tiles.take x.placed).all (fun t => s.tileSettled g b t.boi) then
      s.finishPlaced e.1 x.status x.detail
    else s) s

/-! ## Rows that drain (R311, R312, R324) -/

/-- The parity of a row has programmed once its P and Q pages have, or are missing (R311). -/
def State.parityCheck (s : State) (g b row : Nat) : State :=
  let d := s.sset g
  let w := s.wband g b
  match w.rowAt row with
  | none => s
  | some r =>
    let pd := 2 ≤ cnt r.pages (pPos d.w row)
    let qd := d.level = 1 ∨ 2 ≤ cnt r.pages (qPos d.w row)
    if r.par = 0 ∧ pd ∧ qd then s.setWband g b (w.setRow { r with par := 1, accP := [], accQ := [] }) else s

/-- Releases the buffers that a row no longer needs, counting those outside the reservation free again, and drops the row once it
holds none (R312). -/
def State.drainRow (s : State) (g b row : Nat) : State :=
  let d := s.sset g
  match (s.wband g b).rowAt row with
  | none => s
  | some r =>
    if r.par = 0 then s
    else
      let free (e : Nat × Slot) : Bool :=
        let pos := d.boiPos (d.rowBoi row + e.1)
        e.2.buf.isSome && (s.wordlineDone g b pos row || cnt r.pages pos == 3)
      let f1 := (r.slots.filter (fun e => free e && !e.2.res && e.2.fab)).length
      let f2 := (r.slots.filter (fun e => free e && !e.2.res && !e.2.fab)).length
      let slots := r.slots.map (fun e => if free e then (e.1, { e.2 with buf := none }) else e)
      let s := (s.setPoolFree 1 (s.poolFree 1 + f1)).setPoolFree 2 (s.poolFree 2 + f2)
      let w := s.wband g b
      if slots.all (fun e => e.2.buf.isNone) &&
          (List.range d.w).all (fun pos => s.wordlineDone g b pos row || cnt r.pages pos == 3) then
        s.setWband g b { w with rows := w.rows.filter (fun x => x.row != row) }
      else s.setWband g b (w.setRow { r with slots := slots })

/-- Is the record that makes a band CLOSED on its way to the media? -/
def State.closeNoted (s : State) (g b : Nat) : Bool :=
  ((s.journal (nsOf g)).pend ++ (s.journal (nsOf g)).flight).any (fun j => match j.eff with
    | .band h c 4 _ _ => h == g && c == b
    | _ => false)

/-- Have the pages of a band's last wordline beyond FILL programmed on every member (R324)? -/
def State.wordlineFilled (s : State) (g b : Nat) : Bool :=
  let d := s.sset g
  let x := s.band g b
  let pu := s.puOf d.family d.mode
  let top := d.rowOf (x.fill + d.rowTiles - 1)
  x.fill == 0 || top % pu == 0 || (List.range (pu - top % pu)).all (fun i => decide (d.rows ≤ top + i) ||
    (List.range d.w).all (fun pos => (s.wband g b).pageDone pos (top + i)))

/-- A band under BAND_CLOSE becomes CLOSED once every row has its parity; the change is journaled, takes effect with the commit (R449), and
the entries that close it complete with it (R70, R324). The band is being closed until its last wordline is filled. -/
def State.closeCheck (s : State) (g b : Nat) : State :=
  let x := s.band g b
  let w := s.wband g b
  if w.closing ∧ x.state = 3 ∧ w.rows.all (fun r => r.par == 1) ∧ w.entries = [] ∧ s.closeNoted g b = false then
    (s.setWband g b { w with closers := [] }).journalAdd (nsOf g)
      (jBand g b 4 x.opened (s.nsTime (nsOf g)) x.fill (.band g b 4 x.fill (s.nsTime (nsOf g))) :: w.closers.map (fun c => jFinish c 0 0 0))
  else if w.closing ∧ x.state = 4 ∧ s.wordlineFilled g b = true then s.setWband g b { w with closing := false }
  else s

/-- Carries a band's writing as far as it goes: pages that are ready, parity, buffers, completions, close. -/
def State.writePump (s : State) (g b : Nat) : State :=
  let d := s.sset g
  let rows := (s.wband g b).rows.map (·.row)
  let s := rows.foldl (fun s row => (List.range d.w).foldl (fun s pos => s.readyPage g b row pos) s) s
  let s := s.fillPages g b
  let s := rows.foldl (fun s row => s.parityCheck g b row) s
  let s := s.writesDone g b
  let s := rows.foldl (fun s row => s.drainRow g b row) s
  ((s.closeCheck g b).dropRes g b).ptyRegs

/-! ## Intake (R300 to R303) -/

/-- The parts of a transfer of `len` bytes from byte `off` of a fragment list, as (address, bytes). -/
def fragParts : List Frag → Nat → Nat → List (Nat × Nat)
  | [], _, _ => []
  | f :: rest, off, len =>
    if len = 0 then []
    else if f.len ≤ off then fragParts rest (off - f.len) len
    else (f.addr + off, min len (f.len - off)) :: fragParts rest 0 (len - min len (f.len - off))

/-- Does an entry take its tiles from memory? -/
def entIntake (e : BitVec 512) : Bool := entOp e == opWRITE || (entOp e == opCOPY && entSrcMem e)

/-- Asks for the tiles of an entry from memory. -/
def State.askTiles (s : State) (c : Nat) : State :=
  let x := s.ctx c
  (List.range (entCount x.entry)).foldl (fun s i =>
    (fragParts x.frags (i * tileBytes) tileBytes).foldl (fun s p => s.fabRead (.tileIn c i) p.1 p.2) s) s

/-- Assigns buffers to one entry if it can have them all: first of its band's reservation, then free ones (R300). -/
def State.takeBufs (s : State) (c : Nat) : Option State :=
  let x := s.ctx c
  let n := entCount x.entry
  let pool := if entIntake x.entry then s.writePool else 2
  let r := if entIntake x.entry then min n (s.resLeft (s.destSet c) (s.destBand c)) else 0
  if n - r ≤ s.poolFree pool then
    let s := s.setPoolFree pool (s.poolFree pool - (n - r))
    some (s.setCtx c { x with bufs := pool, fromRes := r })
  else none

/-- The pool an entry draws on. -/
def State.poolOf (s : State) (e : BitVec 512) : Nat := if entIntake e then s.writePool else 2

/-- Entries that wait for buffers of a pool, in admission order. -/
def State.intakeWait (s : State) (pool : Nat) : List Nat :=
  let l := s.ctxs.filter (fun e => e.2.state == .running && (entOp e.2.entry == opWRITE || entOp e.2.entry == opCOPY) &&
    e.2.bufs == 0 && !e.2.ended && e.2.aborting == 0 && s.poolOf e.2.entry == pool)
  (l.mergeSort (fun a b => decide (a.2.admSeq ≤ b.2.admSeq))).map (·.1)

/-- Serves the entries of a pool one at a time, in admission order (R300). -/
def State.intakeServe (s : State) : List Nat → State
  | [] => s
  | c :: rest =>
    match s.takeBufs c with
    | some s => (if entIntake (s.ctx c).entry then s.askTiles c else s).intakeServe rest
    | none => s

/-- Serves both pools. -/
def State.intakePump (s : State) : State :=
  let s := s.intakeServe (s.intakeWait 1)
  s.intakeServe (s.intakeWait 2)

/-- Gives back the buffers of an entry's tiles that are not placed. -/
def State.freeBufs (s : State) (c : Nat) : State :=
  let x := s.ctx c
  if x.bufs = 0 then s
  else
    let n := x.tiles.length.max (entCount x.entry)
    let held := n - x.placed - (x.fromRes - min x.fromRes x.placed)
    let s := s.setPoolFree x.bufs (s.poolFree x.bufs + held)
    s.setCtx c { x with bufs := 0, fromRes := 0 }
/-- Releases the buffers of an entry's tiles that are not placed, to entries that wait for some. -/
def State.releaseBufs (s : State) (c : Nat) : State := if (s.ctx c).bufs = 0 then s else (s.freeBufs c).intakePump

/-- The set key that MADDR names. -/
def State.srcSet (s : State) (c : Nat) : Nat := nsSet (s.qNs (s.ctx c).queue) (addrSet (entMaddr (s.ctx c).entry))
/-- The band that MADDR names. -/
def State.srcBand (s : State) (c : Nat) : Nat := addrBand (entMaddr (s.ctx c).entry)
/-- Was a BAND_CLOSE of a band that has not ended admitted before an entry (R279)? -/
def State.closeBefore (s : State) (g b adm : Nat) : Bool :=
  s.ctxs.any (fun e => entOp e.2.entry == opCLOSE && (e.2.state == .admitted || e.2.state == .running) && s.srcSet e.1 == g &&
    s.srcBand e.1 == b && decide (e.2.admSeq < adm))
/-- Was a WRITE or COPY into a band that has not started admitted before an entry (R279)? -/
def State.writeBefore (s : State) (g b adm : Nat) : Bool :=
  s.ctxs.any (fun e => (entOp e.2.entry == opWRITE || entOp e.2.entry == opCOPY) && e.2.state == .admitted && s.destSet e.1 == g &&
    s.destBand e.1 == b && decide (e.2.admSeq < adm))
/-- The refusal of a WRITE or COPY destination: band not OPEN, or being closed or to be closed by an entry admitted before, or the set refuses
writes (R60, R70, R279). -/
def State.destRefusal (s : State) (c : Nat) : Option (Nat × Nat) :=
  let g := s.destSet c
  let b := s.destBand c
  if (s.band g b).state ≠ 3 then some (0x31, (s.band g b).state)
  else if (s.sset g).tiles ≤ (s.band g b).fill then some (0x31, 4)
  else if (s.wband g b).closing || s.closeBefore g b (s.ctx c).admSeq then some (0x31, 3)
  else if !s.setWritable (s.sset g) then some (0x31, 0xFF)
  else none

/-- Is a context admitted with this opcode, and the unit able to start it? -/
def State.starts (s : State) (c op : Nat) : Bool :=
  s.awake && !s.pfail && (s.ctx c).state == .admitted && entOp (s.ctx c).entry == op

/-- A WRITE or COPY joins its band's order of placement and asks for buffers. -/
def State.startWrite (s : State) (c : Nat) : State :=
  let g := s.destSet c
  let b := s.destBand c
  match s.destRefusal c with
  | some (st, d) => s.finish c st d 0 0 0
  | none =>
    let x := s.ctx c
    let s := s.setCtx c { x with state := .running, openMsg := none }
    let w := s.wband g b
    let s := s.setWband g b { w with entries := w.entries ++ [c] }
    let s := s.intakePump
    if (s.ctx c).bufs = 0 then s.countWrap F.PTY_WFAIL.INTAKE_WAITS 1 else s

/-- WRITE. -/
def execWrite (ctx : Nat) (s : State) : Host.Outcome State Fault Refusal :=
  .next (if s.starts ctx opWRITE then s.startWrite ctx else s)

/-- COPY with SRCMEM 1 (R326). -/
def execCopyMemory (ctx : Nat) (s : State) : Host.Outcome State Fault Refusal :=
  .next (if s.starts ctx opCOPY && entSrcMem (s.ctx ctx).entry then s.startWrite ctx else s)

/-- An entry leaves its band's order of placement. -/
def State.leaveBand (s : State) (c : Nat) : State :=
  let g := s.destSet c
  let b := s.destBand c
  let w := s.wband g b
  s.setWband g b { w with entries := w.entries.filter (· != c) }

/-- The numbers of buffers of a pool that hold no tile, lowest first. -/
def State.freePlaces (s : State) (pool : Nat) : List Nat :=
  let taken := (s.ctxs.map (fun e => if e.2.bufs = pool then (e.2.tiles.drop e.2.placed).map (fun (t : TileJob) => t.place) else [])).flatten ++
    (s.wbands.map (fun e => (e.2.rows.map (fun r => (r.slots.filter (fun x => x.2.buf.isSome && x.2.fab == decide (pool = 1))).map
      (fun x => x.2.place))).flatten)).flatten
  (List.range (s.poolTiles pool)).filter (fun k => !taken.contains k)

/-- TILE_INTAKE_DONE: all tiles of an entry have arrived; in the fabric pool they pass through lines of the pin region. A tile whose CRC fails ends the entry with 0x0021 (R301). -/
def execTileIntakeDone (ctx : Nat) (tiles : List (List Byte)) (s : State) : Host.Outcome State Fault Refusal :=
  .next (let x := s.ctx ctx
    if !s.awake || s.pfail || x.state != .running || x.bufs == 0 || x.taken || !entIntake x.entry || x.ended ||
        tiles.length != entCount x.entry || !s.fab.any (fun r => match r.who with | .tileIn c _ => c == ctx | _ => false) ||
        s.fab.any (fun r => (match r.who with | .tileIn c _ => c == ctx | _ => false) && !r.under) then s
    else
      let tiles := tiles.mapIdx (fun i t => s.readBytes (.tileIn ctx i) t)
      let s := { s with fab := s.fab.filter (fun r => match r.who with | .tileIn c _ => c != ctx | _ => true) }.fabPump
      match tiles.findIdx? (fun t => !tileCrcOk t) with
      | some i => ((s.releaseBufs ctx).leaveBand ctx).finish ctx 0x21 (min i 255) 0 0 0
      | none =>
        let ps := (s.freePlaces x.bufs).take tiles.length
        let s := s.setCtx ctx { s.ctx ctx with
          taken := true, tiles := tiles.mapIdx (fun i t => TileJob.mk 0 0 none 0 0 t (ps.getD i 0)) }
        if x.bufs = 1 then
          (List.range tiles.length).foldl (fun s i =>
            s.fabWrite (.pin (ps.getD i 0)) (4096 * s.getF F.PTY_PIN_BASE.BASE + tileBytes * ps.getD i 0) (tiles.getD i [])) s
        else s)

/-! ## Placement (R304 to R307) -/

/-- The next stamp of a namespace. -/
def State.stamp (s : State) (ns : Nat) : Nat := if ns = 0 then s.getF F.PTY_STAMP.NEXT else (s.journal ns).next
def State.setStamp (s : State) (ns n : Nat) : State :=
  if ns = 0 then s.setF F.PTY_STAMP.NEXT n else s.setJournal ns { s.journal ns with next := n }

/-- A band whose last row is placed becomes CLOSED, recorded in the journal (R70, R305). -/
def State.filledClose (s : State) (g b : Nat) : State :=
  let x := s.band g b
  if x.state = 3 ∧ (s.sset g).tiles ≤ x.fill ∧ s.closeNoted g b = false then
    s.journalAdd (nsOf g) [jBand g b 4 x.opened (s.nsTime (nsOf g)) x.fill (.band g b 4 x.fill (s.nsTime (nsOf g)))]
  else s

/-- Placement of an entry ends: with the state refusal of R307, or by R304 and R305. -/
def State.endPlacement (s : State) (c status detail : Nat) : State :=
  let x := s.ctx c
  let s := s.setCtx c { x with
    ended := true, status := max x.status status, detail := if status = 0 then x.detail else detail }
  ((s.releaseBufs c).leaveBand c).filledClose (s.destSet c) (s.destBand c)

/-- What stands in the way of placing at FILL: 0 nothing, 1 wait, 2 the set refuses writes, 3 the band is full; a new row is
opened where R295 admits it. -/
def State.openRowAt (s : State) (g b : Nat) : Nat × State :=
  let d := s.sset g
  let x := s.band g b
  let w := s.wband g b
  if d.tiles ≤ x.fill then (3, s)
  else
    let row := d.rowOf x.fill
    if (w.rowAt row).isSome then (0, s)
    else if !s.setWritable d then (2, s)
    else if s.stripeQuota d ≤ (w.rows.filter (fun r => r.par == 0)).length ∨ s.rowQuota d ≤ w.rows.length then (1, s)
    else
      let covered := decide ((s.openRows.filter (·.covered)).length < s.limit)
      let r := ORow.mk row s.tickno covered [] [] [] [] 0 none
      (0, (s.setWband g b { w with rows := w.rows ++ [r] }).ptyRegs)

/-- Places one tile, or passes a BOI on a FAILED member's data position (R61). -/
def State.placeOne (s : State) (c : Nat) : State :=
  let x := s.ctx c
  let g := s.destSet c
  let b := s.destBand c
  let d := s.sset g
  let band := s.band g b
  let boi := band.fill
  let row := d.rowOf boi
  let w := s.wband g b
  match w.rowAt row with
  | none => s
  | some r =>
    let k := boi - d.rowBoi row
    if s.memberFailed g (d.boiPos boi) then
      let r := { r with slots := storePut (fun _ => Slot.empty) r.slots k { Slot.empty with st := 2, folded := true } }
      (s.setWband g b (w.setRow r)).setBand g b { band with fill := boi + 1, voids := band.voids ++ [boi] }
    else
      let ns := nsOf g
      let st := s.stamp ns
      let addr := bandAddr (g % 256) b boi
      let job := x.tiles.getD x.placed TileJob.blank
      let tile := patchTile job.data st addr
      let blk := s.seedOf g b boi
      let sl := Slot.mk 1 (some c) (some tile) (x.bufs == 1) (decide (x.placed < x.fromRes)) false job.place blk
      let r := ({ r with slots := storePut (fun _ => Slot.empty) r.slots k sl }).acc d boi (scramble blk (d.rowOf boi) (boi % d.slots) tile)
      let s := (s.setWband g b (w.setRow r)).setBand g b { band with fill := boi + 1 }
      let s := s.setStamp ns (st + 1)
      s.setCtx c { x with
        tiles := x.tiles.set x.placed { job with boi := boi, data := tile }
        placed := x.placed + 1
        firstBoi := if x.placed = 0 then boi else x.firstBoi
        firstStamp := if x.placed = 0 then st else x.firstStamp }

/-- Places the tiles of an entry as far as R295 and R452 allow. -/
def State.placeRun (s : State) (c : Nat) : Nat → State
  | 0 => s
  | n + 1 =>
    let x := s.ctx c
    let g := s.destSet c
    let b := s.destBand c
    if x.tiles.length ≤ x.placed then s.endPlacement c 0 0
    else
      match s.openRowAt g b with
      | (3, s) => s.endPlacement c 0 0
      | (2, s) => s.endPlacement c 0x31 0xFF
      | (1, s) => s
      | (_, s) =>
        let ns := nsOf g
        if (s.journal ns).hwm ≤ s.stamp ns then
          (if (s.journal ns).pend.any (fun j => j.type == 0x40) || (s.journal ns).flight.any (fun j => j.type == 0x40) then s
           else s.journalAdd ns [jHwm ns (s.stamp ns + 2 ^ 20)])
        else (s.placeOne c).placeRun c n

/-- PLACEMENT: the entry at the head of its band's order places what it can. While the mirror is valid a PLACE message goes first
and is waited for (R587). -/
def execPlacement (ctx : Nat) (s : State) : Host.Outcome State Fault Refusal :=
  .next (let x := s.ctx ctx
    let g := s.destSet ctx
    let b := s.destBand ctx
    if !s.awake || s.pfail || x.state != .running || !x.taken || x.ended || (s.wband g b).entries.head? != some ctx then s
    else if s.mirror && x.openMsg.isNone then
      (let fill := (s.band g b).fill
       let s := s.cuffSend 0x30 (leBytes 4 ctx ++ leBytes 4 (x.tiles.length - x.placed))
         (leBytes 1 (g % 256) ++ leBytes 1 0 ++ leBytes 2 b ++ leBytes 4 fill ++ leBytes 4 (fill + x.tiles.length - x.placed))
       s.setCtx ctx { s.ctx ctx with openMsg := some s.pair.tx })
    else if !s.acked x.openMsg then s
    else
      let s := s.setCtx ctx { x with openMsg := none }
      (s.placeRun ctx ((s.sset g).tiles + x.tiles.length + 2)).writePump g b)

/-! ## BAND_OPEN and BAND_CLOSE (R323, R324) -/


/-- BAND_OPEN: the checks of R323 in order; the reservation is made and the change journaled, and the entry completes with the
commit (R449). -/
def execBandOpen (ctx : Nat) (s : State) : Host.Outcome State Fault Refusal :=
  .next (if !s.starts ctx opOPEN then s
    else
      let g := s.srcSet ctx
      let b := s.srcBand ctx
      let st := (s.band g b).state
      if st ≠ 2 ∨ (s.wband g b).reserved then s.finish ctx 0x31 (if st = 2 then 3 else st) 0 0 0
      else if !s.setWritable (s.sset g) then s.finish ctx 0x31 0xFF 0 0 0
      else if !s.resFits (s.sset g) then s.finish ctx 0x32 0 0 0 0
      else
        let s := s.setCtx ctx { s.ctx ctx with state := .running }
        let s := (s.setWband g b WBand.none).takeRes g b
        s.journalAdd (nsOf g) [jBand g b 3 0 0 0 (.band g b 3 0 0), jFinish ctx 0 0 0])

/-- Pads the open row: its unplaced data slots become void, and FILL moves to the next row (R74). -/
def State.padRow (s : State) (g b : Nat) : State :=
  let d := s.sset g
  let x := s.band g b
  let row := d.rowOf x.fill
  match (s.wband g b).rowAt row with
  | none => s
  | some r =>
    if x.fill = d.rowBoi row then s
    else
      let bois := (List.range d.rowTiles).filterMap (fun k =>
        if (storeGet (fun _ => Slot.empty) r.slots k).st = 0 then some (d.rowBoi row + k) else none)
      let slots := bois.foldl (fun m boi => storePut (fun _ => Slot.empty) m (boi - d.rowBoi row)
        { Slot.empty with st := 2, folded := true }) r.slots
      let s := s.setWband g b ((s.wband g b).setRow { r with slots := slots })
      let s := s.setBand g b { x with fill := d.rowBoi (row + 1), voids := x.voids ++ bois }
      if bois = [] then s else s.journalAdd (nsOf g) [jVoids g b (bois.headD 0) bois.length]

/-- Starts the close of an OPEN band (R324). -/
def State.startClose (s : State) (g b : Nat) (closers : List Nat) : State :=
  let w := s.wband g b
  let s := s.setWband g b { w with closing := true, closers := w.closers ++ closers }
  (s.padRow g b).writePump g b

/-- BAND_CLOSE: it waits for earlier WRITEs and COPYs into the band (R279); a close under way takes further entries along; a CLOSED
band succeeds at once (Table 2-4). -/
def execBandClose (ctx : Nat) (s : State) : Host.Outcome State Fault Refusal :=
  .next (if !s.starts ctx opCLOSE then s
    else
      let g := s.srcSet ctx
      let b := s.srcBand ctx
      let st := (s.band g b).state
      let w := s.wband g b
      if st = 4 then s.finish ctx 0 0 0 0 0
      else if st ≠ 3 then s.finish ctx 0x31 st 0 0 0
      else if w.closing then
        (s.setCtx ctx { s.ctx ctx with state := .running }).setWband g b { w with closers := w.closers ++ [ctx] }
      else if w.entries.any (fun c => decide ((s.ctx c).admSeq < (s.ctx ctx).admSeq)) || s.writeBefore g b (s.ctx ctx).admSeq then s
      else (s.setCtx ctx { s.ctx ctx with state := .running }).startClose g b [ctx])

end Sys2Proof.Machine
end

