-- ==== Sys2Proof/Machine/Levels.lean ====
section
/-! DEFINITION. Read-level tracking (chapter 10): level tables and their check words, the levels of a sense, measurements and their
plausibility, the valley estimate, retention slopes and LLR tables. The listings of the chapter are functions of their names. -/

namespace Sys2Proof.Machine

/-! ## Arithmetic of the chapter -/

/-- round_div (R391): the nearest integer, halves away from 0. -/
def roundDiv (num : Int) (den : Nat) : Int :=
  if 0 ≤ num then (2 * num + den) / (2 * den) else 0 - ((2 * (0 - num) + den) / (2 * den))

/-- level_delta (R391). -/
def levelDelta (up dn cum n i st gain dens minErr : Nat) : Int :=
  if minErr ≤ up + dn then roundDiv (gain * ((up : Int) - dn)) (up + dn)
  else roundDiv ((0 - ((cum : Int) - (((i + 1) * n) / st : Nat))) * 65536) (n * dens)

/-- valley (R395): the midpoint of the emptiest bin, among equal ones the nearest to the centre; none when no bin counts. -/
def valley (h : List Nat) (ok : List Bool) (c : Int) (step : Nat) : Option Int :=
  let dist (k : Nat) : Nat := (((k : Int) - 8) * step + (step / 2 : Nat)).natAbs
  let best := (List.range 16).foldl (fun b k =>
    if !ok.getD k false then b
    else match b with
      | none => some k
      | some j =>
        if h.getD k 0 < h.getD j 0 then some k
        else if h.getD k 0 = h.getD j 0 ∧ dist k < dist j then some k else some j) none
  best.map (fun (k : Nat) => c + ((k : Int) - 8) * step + (step / 2 : Nat))

/-- floor(log2 n) for n of at least 1. -/
def log2Floor : Nat → Nat → Nat
  | 0, _ => 0
  | fuel + 1, n => if n < 2 then 0 else 1 + log2Floor fuel (n / 2)

/-- lage (R400). -/
def lage (ageUs : Nat) : Nat :=
  let t := ageUs / 1000000 + 1
  let e := log2Floor 64 t
  let f := if 2 ≤ e then (t >>> (e - 2)) % 4 else if e = 1 then (t <<< 1) % 4 else 0
  4 * e + f

/-- llr_adapt (R402). -/
def llrAdapt (cur : Int) (n0 n1 : Nat) (expq : List Nat) : Int :=
  let hi := max n0 n1 + 1
  let lo := min n0 n1 + 1
  let q := hi * 65536 / lo
  let m := (List.range 63).foldl (fun m k => if m = k ∧ expq.getD (k + 1) 0 ≤ q then k + 1 else m) 0
  let t : Int := if n0 < n1 then 0 - m else m
  if cur < t then cur + 1 else if t < cur then cur - 1 else cur

/-- An offset kept within s8. -/
def clampS8 (v : Int) : Int := max (-128) (min 127 v)
/-- A signed byte as a byte, and back. -/
def s8Byte (v : Int) : Byte := BitVec.ofInt 8 v
def byteS8 (b : Byte) : Int := b.toInt

/-- The number of ones of a byte string. -/
def popBits (m : List Byte) : Nat := (m.map (fun b => ((List.range 8).filter (fun i => b.getLsbD i)).length)).sum

/-- valley_shift (R339). -/
def valleyShift (a b c : List Byte) (delta : Nat) : Int :=
  let n1 := popBits (xorBytes a b)
  let n2 := popBits (xorBytes b c)
  if n1 + n2 = 0 then 0 else roundDiv ((delta : Int) * ((n1 : Int) - n2)) (n1 + n2)

/-! ## Tables (R379 to R383) -/

/-- A signed parameter of one byte, or of two. -/
def State.sp8 (s : State) (fam : Nat) (name : String) (i : Nat) (d : Int) : Int :=
  match s.param fam name i with
  | some v => signedElem 1 v
  | none => d
def State.sp16 (s : State) (fam : Nat) (name : String) (i : Nat) (d : Int) : Int :=
  match s.param fam name i with
  | some v => signedElem 2 v
  | none => d

/-- INIT as a 240-byte table of a family. -/
def State.initTable (s : State) (fam mode : Nat) : List Int :=
  (List.range 240).map (fun j =>
    if j % 15 < s.levelsOf fam mode then s.sp8 fam "INIT" (j / 15 * s.levelsOf fam 0 + j % 15) 0 else 0)
/-- The check word of a table (R381). -/
def tableCrc (t : List Int) : Nat := (crc32c (t.map s8Byte)).toNat
/-- Fresh tables: INIT in both, K_INIT as slopes, LA_REF 0 (R382). -/
def State.freshLevels (s : State) (fam mode : Nat) : Levels :=
  let t := s.initTable fam mode
  { Levels.zero with
    applied := t, target := t, crcA := tableCrc t, crcT := tableCrc t
    k := (List.range 15).map (fun i => if i < s.levelsOf fam mode then s.sp16 fam "K_INIT" i 0 else 0)
    zones := (List.range 16).map (fun z => (z, { Zone.zero with search := true })) }

/-- A zone's tracking state. -/
def Levels.zone (x : Levels) (z : Nat) : Zone := storeGet (fun _ => Zone.zero) x.zones z
def Levels.setZone (x : Levels) (z : Nat) (y : Zone) : Levels := { x with zones := storePut (fun _ => Zone.zero) x.zones z y }
/-- Offset of level `i` in zone `z`. -/
def offAt (t : List Int) (z i : Nat) : Int := t.getD (15 * z + i) 0

/-- The mode of a vdie's own stripe set: 0 native, 1 SLC. -/
def State.vdieMode (s : State) (v : Nat) : Nat :=
  let x := s.vdie v
  if x.member then (s.sset (nsSet (v / 4096) x.set)).mode else 0

/-- Zones now SUSPECT in the instance (CAL_STAT). -/
def State.suspects (s : State) : Nat :=
  (s.levels.map (fun e => (e.2.zones.filter (fun z => z.2.suspect)).length)).sum
def State.suspectReg (s : State) : State := s.setF F.CAL_STAT.SUSPECT s.suspects

/-- Verifies both check words of a vdie's tables; a mismatch is repaired at once by Table 10-2 and reported. The copy of the
journal checkpoint is not held, so tables that both fail take INIT, as where that copy fails too (DESIGN CHOICE, log entry 134). -/
def State.verifyTables (s : State) (v : Nat) (spare : Bool) : State :=
  let x := s.lev v spare
  if x.applied = [] then s
  else
    let a := tableCrc x.applied == x.crcA
    let t := tableCrc x.target == x.crcT
    if a && t then s
    else
      let y := if !a && t then { x with applied := x.target, crcA := x.crcT }
        else if a && !t then { x with target := x.applied, crcT := x.crcA }
        else
          let n := s.initTable (s.vdie v).family (s.vdieMode v)
          { x with
            applied := n, target := n, crcA := tableCrc n, crcT := tableCrc n
            zones := (List.range 16).map (fun z => (z, { x.zone z with suspect := true })) }
      let s := (s.setLev v spare y).suspectReg
      (s.countSat F.CAL_STAT.TABLE_FAULTS 1).raise Ev.levelTableFault

/-- TABLE_SCAN: every 65,536 ticks all level tables are verified (R381). -/
def execTableScan (s : State) : Host.Outcome State Fault Refusal :=
  .next (if s.awake && s.tickno % 65536 == 0 then
      (storeKeys s.levels).foldl (fun s k => s.verifyTables (k / 2) (k % 2 == 1)) s
    else s)

/-- A table that moves one DAC step toward its target. -/
def stepTable (a t : List Int) : List Int :=
  List.zipWith (fun x y => if x < y then x + 1 else if y < x then x - 1 else x) a t

/-- LEVEL_APPLY: the application boundary of R385 for the tick that starts. -/
def State.levelApply (s : State) : State :=
  (storeKeys s.levels).foldl (fun s k =>
    if (s.tickno + k / 2 % 4096) % 64 = 0 then
      let s := s.verifyTables (k / 2) (k % 2 == 1)
      let x := s.lev (k / 2) (k % 2 == 1)
      if x.applied = x.target then s
      else
        let a := stepTable x.applied x.target
        s.setLev (k / 2) (k % 2 == 1) { x with applied := a, crcA := tableCrc a }
    else s) s

/-! ## Which levels a sense uses (R383, R384) -/

/-- The levels a page's sense uses. -/
def State.usedLevels (s : State) (fam mode page : Nat) (slc : Bool) : List Nat :=
  if slc ∨ mode = 1 then [0]
  else
    let p := page % s.puOf fam 0
    (List.range (s.levelsOf fam 0)).filter (fun i =>
      (s.fp fam "BITMAP" i 0).testBit p != (s.fp fam "BITMAP" (i + 1) 0).testBit p)

/-- The tracked levels of a page: the 15 applied offsets of its zone; for an SLC sense of a native vdie the offset of R379. -/
def State.trackedOf (s : State) (v : Nat) (spare : Bool) (page : Nat) (slc : Bool) : List Int :=
  let fam := (s.vdie v).family
  let mode := s.vdieMode v
  let t := (s.lev v spare).applied
  let z := s.zoneOf fam (if slc then 1 else mode) page
  if slc ∧ mode = 0 then
    let o := if s.levelsOf fam 0 < 15 then offAt t z 14 else s.sp8 fam "SLC_OFF" 0 0
    (List.range 15).map (fun i => if i = 0 then o else 0)
  else (List.range 15).map (fun i => offAt t z i)

/-- A shift of every used level by the same step. -/
def shiftOf (used : List Nat) (d : Int) : List Int := (List.range 15).map (fun i => if used.contains i then d else 0)
/-- The sum of two lists of 15 offsets. -/
def addLevels (a b : List Int) : List Int := (List.range 15).map (fun i => a.getD i 0 + b.getD i 0)
/-- No shift at all. -/
def zeroLevels : List Int := List.replicate 15 0
/-- The offsets a sense loads. -/
def loadLevels (tracked delta : List Int) : List Int := (addLevels tracked delta).map clampS8

/-- The age of a band (R400). -/
def State.bandAge (s : State) (g b : Nat) : Nat :=
  let x := s.band g b
  if x.closedAt ≠ 0 then s.nsTime (nsOf g) - x.closedAt else if x.opened ≠ 0 then s.nsTime (nsOf g) - x.opened else 0

/-- The predicted retention shift of ladder step 2 on the used levels (R401). -/
def State.predicted (s : State) (v : Nat) (spare : Bool) (page : Nat) (slc : Bool) (age : Nat) : List Int :=
  let fam := (s.vdie v).family
  let mode := s.vdieMode v
  let x := s.lev v spare
  let z := s.zoneOf fam (if slc then 1 else mode) page
  let used := s.usedLevels fam mode page slc
  (List.range 15).map (fun i =>
    if used.contains i then roundDiv (x.k.getD i 0 * ((lage age : Int) - (x.zone z).laRef)) 64 else 0)

/-! ## Update and plausibility (R391 to R394, R401) -/

/-- The rejection cause of a proposal, 1 when accepted (Table 10-5). `deltas` holds the measured levels with their changes. -/
def State.judge (s : State) (fam mode : Nat) (t t' : List Int) (deltas : List (Nat × Int)) (limit : Nat) : Nat :=
  let p (i : Nat) : Int := t.getD i 0 + ((deltas.find? (fun e => e.1 == i)).map (·.2)).getD 0
  let ok (f : Nat → Int) : Bool := (List.range (s.levelsOf fam mode - 1)).all (fun i =>
    decide ((s.fp fam "MIN_GAP" 0 8 : Int) ≤ ((s.fp fam "DEF" (i + 1) 0 : Int) + f (i + 1)) - ((s.fp fam "DEF" i 0 : Int) + f i)))
  if deltas.any (fun e => decide (limit < e.2.natAbs)) then 3
  else if deltas.any (fun e => decide (p e.1 < s.sp8 fam "LO" e.1 (-128)) || decide (s.sp8 fam "HI" e.1 127 < p e.1)) then 4
  else if !(ok p && ok (fun i => t'.getD i 0)) then 5
  else 1

/-- Replaces one zone's offsets of a table. -/
def setOffs (t : List Int) (z : Nat) (v : List Int) : List Int :=
  (List.range 240).map (fun j => if j / 15 = z then v.getD (j % 15) 0 else t.getD j 0)

/-- The slopes after an accepted sample (R401). -/
def State.adaptK (s : State) (fam : Nat) (k : List Int) (d : Int) (deltas : List (Nat × Int)) : List Int :=
  (List.range 15).map (fun i =>
    let ki := k.getD i 0
    match deltas.find? (fun e => e.1 == i) with
    | some e =>
      let est := roundDiv (64 * e.2 * (if d < 0 then -1 else 1)) d.natAbs
      let m := max (-8) (min 8 (roundDiv (est - ki) 8))
      max (s.sp16 fam "K_MIN" 0 (-32768)) (min (s.sp16 fam "K_MAX" 0 32767) (ki + m))
    | none => ki)

/-- The outcome of a measurement of a zone: an update, accepted or rejected (R392 to R394, R396, R401). `age` is the log age of the
wordline read; a search takes the estimates whole. A measurement that covers no level changes nothing. -/
def State.zoneUpdate (s : State) (v : Nat) (spare : Bool) (z : Nat) (deltas : List (Nat × Int)) (search feed : Bool) (age : Nat) :
    State :=
  if deltas = [] then s
  else
    let fam := (s.vdie v).family
    let mode := s.vdieMode v
    let x := s.lev v spare
    let y := x.zone z
    let t := (List.range 15).map (fun i => offAt x.target z i)
    let dOf (i : Nat) : Int := ((deltas.find? (fun e => e.1 == i)).map (·.2)).getD 0
    let t' := (List.range 15).map (fun i => t.getD i 0 + (if search then dOf i else roundDiv (dOf i) 2))
    let limit := if search then max 1 (s.getL F.CAL_CTRL.FULL_MAX) else max 1 (s.getL F.CAL_CTRL.MAX_STEP)
    let c := s.judge fam mode t t' deltas limit
    if c = 1 then
      let d : Int := (age : Int) - y.laRef
      let la := if feed then y.laRef else if search then age else (y.laRef + age + 1) / 2
      let tt := setOffs x.target z t'
      let k := if !search && !feed && decide (4 ≤ d.natAbs) then s.adaptK fam x.k d deltas else x.k
      let y := { y with
        laRef := la, run := 0, outcome := 1, samples := (y.samples + 1) % 2 ^ 32, lastTick := s.tickno,
        suspect := if search then false else y.suspect, search := if search then false else y.search }
      (s.setLev v spare ({ x with target := tt, crcT := tableCrc tt, k := k }.setZone z y)).suspectReg
    else
      let run := min 3 (y.run + 1)
      let sus := !search && decide (run = 3) && !y.suspect
      let y := { y with
        run := if run = 3 then 2 else run, outcome := c, rejects := satAdd 32 y.rejects 1,
        suspect := y.suspect || sus, search := y.search || sus,
        retry := if search then s.tickno + 1048576 else y.retry }
      let s := s.sat32 y.rejects 0
      let s := (s.setLev v spare (x.setZone z y)).suspectReg
      let s := s.countSat F.CAL_STAT.REJECTS 1
      if sus then s.raise Ev.calibrationSuspect else s

/-! ## Counts of a sample (R388) -/

/-- The state code of a cell from its bits on the PU pages: the state whose BITMAP entry holds them; of an SLC cell, 1 less its
bit. -/
def State.stateOf (s : State) (fam pu : Nat) (slc : Bool) (bits : Nat) : Nat :=
  if slc then 1 - bits else ((List.range (2 ^ pu)).find? (fun st => s.fp fam "BITMAP" st 0 % 2 ^ pu == bits)).getD 0

/-- Bit `j` of a byte string, bit 0 of byte 0 first. -/
def bitAt (m : List Byte) (j : Nat) : Nat := if (m.getD (j / 8) 0#8).getLsbD (j % 8) then 1 else 0

/-- The state code of cell `j` from its page images. -/
def State.cellState (s : State) (fam : Nat) (slc : Bool) (pages : List (List Byte)) (j : Nat) : Nat :=
  s.stateOf fam pages.length slc ((List.range pages.length).foldl (fun a p => a + 2 ^ p * bitAt (pages.getD p []) j) 0)

/-- UP, DN and CUM of level `i` over the cells of one slot: raw pages, and corrected pages where all of them are known. -/
def State.levelCounts (s : State) (fam : Nat) (slc : Bool) (i n : Nat) (raw : List (List Byte)) (good : Option (List (List Byte))) : Nat × Nat × Nat :=
  (List.range n).foldl (fun a j =>
    let r := s.cellState fam slc raw j
    let cum := if r ≤ i then 1 else 0
    match good with
    | none => (a.1, a.2.1, a.2.2 + cum)
    | some g =>
      let t := s.cellState fam slc g j
      (a.1 + (if t ≤ i ∧ i < r then 1 else 0), a.2.1 + (if r ≤ i ∧ i < t then 1 else 0), a.2.2 + cum)) (0, 0, 0)

/-! ## Foreground feed and LLR tables (R390, R402) -/

/-- A step-0 decode of a class F or class B read feeds its zone. `up` and `dn` are its corrections on an SLC page. -/
def State.feed (s : State) (v : Nat) (spare : Bool) (page : Nat) (slc failed : Bool) (up dn : Nat) : State :=
  let fam := (s.vdie v).family
  let mode := s.vdieMode v
  let z := s.zoneOf fam (if slc then 1 else mode) page
  let x := s.lev v spare
  if x.applied = [] then s
  else
    let y := x.zone z
    let fails := y.feedFails + (if failed then 1 else 0)
    let trig := s.getL F.CAL_CTRL.TRIG
    let whole := decide (1024 ≤ y.feed + 1)
    let due := whole && trig != 0 && decide (trig ≤ fails) && decide (y.lastSample + 4096 ≤ s.tickno)
    let y := { y with
      feed := if whole then 0 else y.feed + 1, feedFails := if whole then 0 else fails, due := y.due || due,
      up0 := y.up0 + up, dn0 := y.dn0 + dn }
    let s := s.setLev v spare (x.setZone z y)
    let minErr := s.fp fam "MIN_ERR" 0 64
    if (slc ∨ mode = 1) ∧ minErr ≤ y.up0 + y.dn0 ∧ !y.suspect then
      let d := roundDiv ((s.fp fam "ERR_GAIN" 0 4 : Int) * ((y.up0 : Int) - y.dn0)) (y.up0 + y.dn0)
      let s := s.setLev v spare ((s.lev v spare).setZone z { y with up0 := 0, dn0 := 0 })
      s.zoneUpdate v spare z [(if mode = 1 then 0 else 14, d)] false true 0
    else s

/-- The LLR state of a family; tables start from the image. -/
def State.llr (s : State) (fam : Nat) : Llr :=
  let x := storeGet (fun _ => Llr.zero) s.llrs fam
  if x.t4 = [] then
    { x with
      t4 := (List.range 4).map (fun i => s.sp8 fam "LLR4" i 0)
      t5 := (List.range 6).map (fun i => s.sp8 fam "LLR5" i 0) }
  else x

/-- The region of bit `j` in the held soft senses (R340). -/
def region (senses : List (List Byte)) (j : Nat) : Nat := (senses.map (fun m => bitAt m j)).sum

/-- A soft decode that converged and passed its CRC counts its bits by region; after 4,096 of them the table moves. -/
def State.llrCount (s : State) (fam : Nat) (five : Bool) (senses : List (List Byte)) (out : List Byte) : State :=
  let x := s.llr fam
  let n := (List.range (8 * out.length)).foldl (fun m j =>
    bump m (2 * region senses j + bitAt out j) 1) (if five then x.n5 else x.n4)
  let words := (if five then x.words5 else x.words4) + 1
  let expq := (List.range 64).map (fun i => s.fp fam "EXPQ" i 0)
  let adapt (t : List Int) : List Int :=
    (List.range t.length).map (fun r => llrAdapt (t.getD r 0) (cnt n (2 * r)) (cnt n (2 * r + 1)) expq)
  let x := if five then
      (if words = 4096 then { x with t5 := adapt x.t5, n5 := [], words5 := 0, windows5 := (x.windows5 + 1) % 2 ^ 32 }
       else { x with n5 := n, words5 := words })
    else
      (if words = 4096 then { x with t4 := adapt x.t4, n4 := [], words4 := 0, windows4 := (x.windows4 + 1) % 2 ^ 32 }
       else { x with n4 := n, words4 := words })
  { s with llrs := storePut (fun _ => Llr.zero) s.llrs fam x }

end Sys2Proof.Machine
end

