-- ==== Sys2Proof/Machine/Policy.lean ====
section
/-! DEFINITION. The policy engine (chapter 11 and the map changes of chapter 2): the re-home queue, erases, failure criteria, retirement,
the start of rebuilds, VDIE_CTL. -/

namespace Sys2Proof.Machine

/-! ## The re-home queue (R411) -/

/-- The priority of a reason (Table 11-2). -/
def rehomePrio (reason : Nat) : Nat := if reason ≤ 3 then 0 else reason - 3
/-- PTL_STAT follows the queue. -/
def State.requeueRegs (s : State) : State :=
  (s.setF F.PTL_STAT.QUEUED s.requeue.length).setF F.PTL_STAT.REHOMING (s.requeue.filter (·.active)).length
/-- Drops the last entry of priority `p` that is not in progress. -/
def dropLast (p : Nat) (l : List Requeue) : List Requeue :=
  let r := l.reverse
  match r.findIdx? (fun e => rehomePrio e.reason == p && !e.active) with
  | some i => (r.eraseIdx i).reverse
  | none => l
/-- Queues a band of a data set for re-home: listed once, under its most urgent reason; a full queue lets a more urgent band
displace the last one of the least urgent priority (DEDUCED, log entry 136). -/
def State.queueBand (s : State) (g b reason : Nat) : State :=
  if g % 256 = 255 then s
  else
    match s.requeue.find? (fun e => e.set == g && e.band == b) with
    | some e =>
      { s with requeue := s.requeue.map (fun (x : Requeue) =>
          if x.set == g && x.band == b then { x with reason := min e.reason reason } else x) }.requeueRegs
    | none =>
      let worst := s.requeue.foldl (fun a e => if e.active then a else max a (rehomePrio e.reason)) 0
      let s := { s with patCounts := { s.patCounts with queued := (s.patCounts.queued + 1) % 2 ^ 32 } }
      if s.requeue.length < 1024 then { s with requeue := s.requeue ++ [Requeue.mk g b reason false] }.requeueRegs
      else if rehomePrio reason < worst then
        { s with requeue := dropLast worst s.requeue ++ [Requeue.mk g b reason false] }.requeueRegs
      else s
/-- A band leaves the queue. -/
def State.unqueue (s : State) (g b : Nat) : State :=
  { s with requeue := s.requeue.filter (fun e => !(e.set == g && e.band == b)) }.requeueRegs
/-- The queue in start order: by priority, then in queue order (R412). -/
def State.requeueOrder (s : State) : List Requeue :=
  s.requeue.mergeSort (fun a b => decide (rehomePrio a.reason ≤ rehomePrio b.reason))

/-! ## Class of background work (R412, R425) -/

/-- The class of rebuild or re-home work on a set: U where its headroom is 0 or less, or for the journal set; else B. -/
def State.bgCls (s : State) (g : Nat) : Nat := if s.headroom g ≤ 0 ∨ g % 256 = 255 then 0 else 2

/-! ## Erases (R453) -/

/-- Asks for the erase of a block: the intent is journaled first (R453). Reasons as in ERASE_INTENT. -/
def State.askErase (s : State) (use : EraseFor) (ns p i planes cls level reason : Nat) (slc : Bool) : State :=
  let job := s.nextJob
  let s := s.addErase { EraseJob.zero with
    use := use, cls := cls, level := level, pdie := p, block := i, planes := planes, slc := slc }
  s.journalAdd ns [jIntent p i reason job]

/-- An index goes back to its die's free list as unerased: it is erased as a free-list index before it is used again (R413, R453) (DEDUCED, log entry 138). -/
def State.releaseIndex (s : State) (ns p i : Nat) : State :=
  if p = noPdie ∨ i = 0xFFFF ∨ (s.die p).unresp ∨ !((s.pdie p).cond == .mapped || (s.pdie p).cond == .spareClaimed) ∨
      (s.pdie p).bad.contains i then s
  else
    let x := s.pdie p
    (s.setPdie p { x with checked := x.checked.filter (· != i) }).askErase .freeIndex ns p i
      (s.famPlanes x.family) 2 7 4 false

/-- The namespace of a pdie: 0 on the instance's own channels. -/
def State.pdieNs (s : State) (p : Nat) : Nat := if s.c0 ≤ pdieChannel p ∧ pdieChannel p < s.c0 + s.build.channels then 0 else 1
/-- A die that holds a member of a data set keeps one shelter block, taken from its free indices and erased (R448). -/
def State.bindShelter (s : State) (ns p : Nat) : State :=
  if (s.pdie p).shelter.isSome || s.erases.any (fun e => e.2.pdie == p && e.2.use == .shelter) then s
  else match s.chooseIndex p false with
    | some i => s.askErase .shelter ns p i (s.famPlanes (s.famOf p)) 2 7 2 true
    | none => s

/-! ## Sets of a vdie and set states -/

/-- The namespace of a vdie key. -/
def vdieNs (v : Nat) : Nat := v / 4096
/-- The sets a vdie is a member of. -/
def State.setsOf (s : State) (v : Nat) : List Nat :=
  let x := s.vdie v
  (if x.member then [nsSet (vdieNs v) x.set] else []) ++ (if x.journal then [jset (vdieNs v)] else [])
/-- The member position of a vdie in a set. -/
def State.posIn (s : State) (g v : Nat) : Nat := ((s.sset g).members.findIdx? (· == v % 4096)).getD 0
/-- The SET record of a set with a given effect. -/
def State.jSetRec (s : State) (g : Nat) (eff : JEff) : JItem := jrec 0x02 (s.setBytes g) eff

/-- PTL_REBUILD0 to 7 follow the rebuilds (R424). -/
def State.rebuildRegs (s : State) : State :=
  (List.range 8).foldl (fun s r =>
    match s.tasks.find? (fun e => e.2.kind == .rebuild && e.2.slot == r) with
    | none => s.setReg (0xe0140 + 8 * r) 0#64
    | some (n, t) =>
      let g := t.set
      let bands := (s.sset g).bands
      let fin := ((List.range bands).filter (fun b => decide ((s.sset g).rows ≤ t.rbOf g b))).length
      let paired := s.tasks.any (fun e => e.2.kind == .rebuild && e.1 != n && e.2.set == g)
      let s := (s.setF (F.PTL_REBUILD.ACTIVE r) 1).setFlag (F.PTL_REBUILD.URGENT r) (s.bgCls g == 0)
      let s := (s.setFlag (F.PTL_REBUILD.PAIRED r) paired).setF (F.PTL_REBUILD.VDIE r) (t.vdie % 4096)
      let s := (s.setF (F.PTL_REBUILD.SET r) (g % 256)).setF (F.PTL_REBUILD.BAND r) t.band
      (s.setF (F.PTL_REBUILD.ROW r) (t.rbOf g t.band)).setF (F.PTL_REBUILD.PERMILLE r)
        (if bands = 0 then 0 else fin * 1000 / bands)) s

/-! ## Abandoning copy tasks -/

/-- Ends the codeword reads and programs of a copy task that have not begun on a die; those on a die end without effect. -/
def State.stopTask (s : State) (n : Nat) : State :=
  let s := { s with cws := s.cws.filter (fun e => match e.2.use with | .page t _ => t != n | _ => true) }
  { s with progs := s.progs.filter (fun e => match e.2.use with | .copy t => t != n || e.2.running | _ => true) }

/-- Abandons a re-home: the new indices are released and the band is queued again with its reason; `keep` false: it leaves the queue
(Table 11-3). -/
def State.abandonRehome (s : State) (n : Nat) (keep : Bool) : State :=
  let t := s.task n
  let g := t.set
  let d := s.sset g
  let s := (s.stopTask n).dropTask n
  let x := s.band g t.band
  let s := s.setBand g t.band { x with rehoming := false }
  let s := { s with requeue := s.requeue.map (fun (e : Requeue) =>
    if e.set == g && e.band == t.band then { e with active := false } else e) }.requeueRegs
  let s := if keep then s else s.unqueue g t.band
  let s := (List.range d.w).foldl (fun s pos =>
    match t.blocks[pos]? with
    | some i => if i = 0xFFFF then s
      else s.releaseIndex (nsOf g) (s.vdie (d.memberAt pos + 4096 * nsOf g)).pdie i
    | none => s) s
  let c := satAdd 32 s.patCounts.abandoned 1
  let s := s.noteSat s.patCounts.abandoned c (2 ^ 32 - 1)
  { s with patCounts := { s.patCounts with abandoned := c } }.raise Ev.rehomeAbandoned

/-- Abandons the re-homes of the bands of a set. -/
def State.abandonRehomes (s : State) (g : Nat) : State :=
  s.tasks.foldl (fun s e =>
    match e.2.kind with
    | .rehome _ => if e.2.set = g ∧ e.2.stage < 3 then s.abandonRehome e.1 true else s
    | _ => s) s

/-! ## Map changes (Table 2-2, R50) -/

/-- Pages placed on a member that has become FAILED and are not programmed count as failed programs (R308); its substitutions end
and its erases are skipped. -/
def State.memberLost (s : State) (g pos : Nat) : State :=
  let s := s.tasks.foldl (fun s e =>
    if e.2.kind = .subst ∧ e.2.set = g ∧ e.2.pos = pos then (s.stopTask e.1).dropTask e.1 else s) s
  let s := s.abandonRehomes g
  let s := s.wbands.foldl (fun s e =>
    if e.1 / 16384 = g then
      let b := e.1 % 16384
      let s := e.2.rows.foldl (fun s r => if cnt r.pages pos < 2 then
        (let s := if (s.sset g).dataPos r.row pos = none then s else s.voidPage g b r.row pos
         match (s.wband g b).rowAt r.row with
         | some r => s.setWband g b ((s.wband g b).setRow { r with pages := storePut (fun _ => 0) r.pages pos 3 })
         | none => s) else s) s
      let s := { s with progs := s.progs.filter (fun k => !(k.2.set == g && k.2.band == b && k.2.pos == pos &&
        (match k.2.use with | .copy _ => false | _ => true))) }
      s.writePump g b
    else s) s
  s

/-- The conditions of pdies follow a map entry: those it names are mapped or claimed, those it left are retired, or spare again when
the number is unmapped (R52, R54). -/
def State.mapCond (s : State) (old new : Vdie) : State :=
  let left := ([old.pdie, old.oldPdie].filter (fun p => p != noPdie && p != new.pdie && p != new.oldPdie && old.mapped))
  let s := left.foldl (fun s p => s.setPdie p { s.pdie p with cond := if new.mapped then .retired else .spareFree }) s
  let s := if new.mapped ∧ new.oldPdie ≠ noPdie then s.setPdie new.oldPdie { s.pdie new.oldPdie with cond := .mapped } else s
  if new.mapped ∧ new.pdie ≠ noPdie then
    s.setPdie new.pdie { s.pdie new.pdie with cond := if new.state = 1 then .spareClaimed else .mapped }
  else s

/-- A journaled map change takes effect, with the events it brings (R49, R50, R380, R436). -/
def State.applyVdie (s : State) (v : Nat) (x : Vdie) : State :=
  let old := s.vdie v
  let sets := s.setsOf v
  let codes := sets.map (fun g => (g, s.setStateCode (s.sset g)))
  let s := (s.setVdie v x).mapCond old x
  let changed := (codes.filter (fun e => decide (s.setStateCode (s.sset e.1) ≠ e.2))).map (·.1)
  let s := if changed = [] then s
    else (s.raise Ev.setState).journalAdd (vdieNs v) (changed.map (fun g => s.jSetRec g .nothing))
  let s := if x.mapped ∧ x.state = 1 ∧ (old.state ≠ 1 ∨ old.pdie ≠ x.pdie) then
      (let s := if old.state = 1 then s.raise Ev.rebuildDone else s
       (s.setLev v true (s.freshLevels x.family (s.vdieMode v))).raise Ev.rebuildStarted)
    else s
  let s := if old.mapped ∧ old.state = 1 ∧ x.state ≠ 1 then s.raise Ev.rebuildDone else s
  let s := if x.mapped ∧ x.state = 0 ∧ old.state = 1 then (s.setLev v false (s.lev v true)).setLev v true Levels.zero else s
  let s := if x.mapped ∧ x.state = 2 ∧ old.state ≠ 2 then
      (let s := match s.rebuildOf v with
        | some (n, _) => (s.stopTask n).dropTask n
        | none => s
       sets.foldl (fun s g => s.memberLost g (s.posIn g v)) s)
    else s
  let s := if x.mapped then s else (s.setLev v false Levels.zero).setLev v true Levels.zero
  s.rebuildRegs

/-! ## Spares and rebuilds (R53, R421 to R426) -/

/-- Can a die be read at all: not unresponsive, and not on a failed channel (Table 11-4, R419)? -/
def State.dieReadable (s : State) (p : Nat) : Bool :=
  p != noPdie && !(s.die p).unresp && !(s.chan (pdieChannel p)).failed

/-- Channels that hold other members of a vdie's sets. -/
def State.otherChannels (s : State) (v : Nat) : List Nat :=
  ((s.setsOf v).map (fun g => ((s.sset g).members.filter (· != v % 4096)).map (fun m =>
    let x := s.vdie (nsVdie (vdieNs v) m)
    ([x.pdie, x.oldPdie].filter (· != noPdie)).map pdieChannel))).flatten.flatten

/-- The eligible spares of a vdie in ascending order; a vdie of no set may take any. -/
def State.eligible (s : State) (v : Nat) : List Nat :=
  let others := s.otherChannels v
  let own : Nat → Bool := fun p => decide ((pdieChannel p < s.c0 + s.build.channels ∧ s.c0 ≤ pdieChannel p) ↔ vdieNs v = 0)
  (storeKeys s.pdies).filter (fun p => (s.pdie p).cond == .spareFree && s.dieReadable p && own p &&
    (s.setsOf v == [] || ((s.pdie p).family == (s.vdie v).family && !others.contains (pdieChannel p))))

/-- The spare that R53 chooses: on the channel of the pdie being replaced, else the lowest. -/
def State.chooseSpare (s : State) (v : Nat) : Option Nat :=
  let l := s.eligible v
  match l.find? (fun p => pdieChannel p == pdieChannel (s.vdie v).pdie && (s.vdie v).pdie != noPdie) with
  | some p => some p
  | none => l.head?

/-- Rebuilds that hold a slot of PTL_REBUILD, and the limit REB_MAX. -/
def State.rebuilds (s : State) : List (Nat × Task) := s.tasks.filter (fun e => e.2.kind == .rebuild)
def State.rebMax (s : State) : Nat := min 8 (max 1 (s.getL F.PTL_CTRL.REB_MAX))
def State.slotFree (s : State) : Bool := decide (s.rebuilds.length < s.rebMax)
/-- The least slot that no rebuild holds. -/
def State.freeSlot (s : State) : Nat :=
  ((List.range 8).find? (fun r => !s.rebuilds.any (fun e => e.2.slot == r))).getD 0
/-- Would one more REBUILDING member take a set of this vdie over its level? A FAILED one counts already. -/
def State.wouldBreak (s : State) (v : Nat) : Bool :=
  (s.vdie v).state == 0 && (s.setsOf v).any (fun g => decide ((s.sset g).level < s.setMissing (s.sset g) + 1))
/-- May the rebuild of a vdie start now (Table 11-5, R424)? -/
def State.canRebuild (s : State) (v : Nat) : Bool :=
  let x := s.vdie v
  x.mapped && x.state != 1 && s.slotFree && (s.chooseSpare v).isSome && (s.rebuildOf v).isNone &&
    !(s.dieReadable x.pdie && s.wouldBreak v)

/-- The rows of a band whose pages on a member are to be copied, as bits: those programmed, with the rest of the last wordline. -/
def State.rebuildMask (s : State) (g b pos : Nat) : Nat :=
  let d := s.sset g
  let x := s.band g b
  let pu := s.puOf d.family d.mode
  if x.state = 3 ∧ g % 256 ≠ 255 then cnt (s.wband g b).done pos
  else if x.state = 3 ∨ x.state = 4 then
    let top := d.rowOf (x.fill + d.rowTiles - 1)
    2 ^ (min d.rows ((top + pu - 1) / pu * pu)) - 1
  else 0

/-- Chooses `n` free indices of a die by the wear rule, one after another. -/
def State.chooseMany (s : State) (p : Nat) : Nat → List Nat → List Nat
  | 0, _ => []
  | n + 1, free =>
    match s.leastWorn p free with
    | some i => i :: s.chooseMany p n (free.filter (· != i))
    | none => []

/-- The 64 highest good indices of a die, ascending. -/
def State.journalIndices (s : State) (p : Nat) : List Nat :=
  let l := s.goodIndices p
  l.drop (l.length - 64)

/-- The bindings of a rebuild of `v` onto spare `sp`: set, band, position and index (R426). -/
def State.rebuildBinds (s : State) (v sp : Nat) : List (Nat × Nat × Nat × Nat) :=
  ((s.setsOf v).map (fun g =>
    let n := (s.sset g).bands
    let pos := s.posIn g v
    let idx := if g % 256 = 255 then s.journalIndices sp
      else
        let j := if (s.vdie v).journal then s.journalIndices sp else []
        s.chooseMany sp n ((s.freeIndices sp).filter (fun i => !j.contains i))
    (List.range n).map (fun b => (g, b, pos, idx.getD b 0xFFFF)))).flatten

/-- Starts a rebuild (R426): the spare is claimed, the bindings and the REBUILDING entry are journaled. `extra` commits with them. -/
def State.startRebuild (s : State) (v sp : Nat) (extra : List JItem) : State :=
  let x := s.vdie v
  let readable := x.state = 0 ∧ s.dieReadable x.pdie
  let x' := { x with state := 1, pdie := sp, oldPdie := if readable then x.pdie else noPdie }
  let binds := s.rebuildBinds v sp
  let g := (s.setsOf v).headD 0
  let t : Task := { Task.zero with
    kind := .rebuild, cls := s.bgCls g, set := g, vdie := v, pos := s.posIn g v, slot := s.freeSlot
    bind := binds.foldl (fun m e => storeIns (bandKey e.1 e.2.1) e.2.2.2 m) []
    mask := binds.foldl (fun m e => storeIns (bandKey e.1 e.2.1) (s.rebuildMask e.1 e.2.1 e.2.2.1) m) [] }
  let s := (s.setTask s.nextJob t).bumpJob
  let s := s.setPdie sp { s.pdie sp with cond := .spareClaimed }
  let s := { s with rebuildPend := s.rebuildPend.filter (· != v) }
  (s.journalAdd (vdieNs v) (binds.map (fun e => jBinding e.1 e.2.2.1 e.2.1 e.2.2.2 0 .nothing) ++ [jVdie v x'] ++ extra)).rebuildRegs

/-- A vdie waits for its rebuild. -/
def State.pendRebuild (s : State) (v : Nat) : State :=
  if s.rebuildPend.contains v then s else { s with rebuildPend := s.rebuildPend ++ [v] }

/-- The order in which pending rebuilds start (R424): journal members, headroom 0, headroom 1, then set and vdie. -/
def State.rebuildRank (s : State) (v : Nat) : Nat × Nat × Nat :=
  let x := s.vdie v
  let g := (s.setsOf v).headD 255
  (if x.journal then 0 else if s.headroom g ≤ 0 then 1 else 2, g, v)
def rankLe (a b : Nat × Nat × Nat) : Bool :=
  decide (a.1 < b.1) || (a.1 == b.1 && (decide (a.2.1 < b.2.1) || (a.2.1 == b.2.1 && decide (a.2.2 ≤ b.2.2))))
def State.rebuildOrder (s : State) : List Nat :=
  s.rebuildPend.mergeSort (fun a b => rankLe (s.rebuildRank a) (s.rebuildRank b))

/-- What retiring the pdie of a NORMAL vdie comes to (Table 11-5): 0 REBUILDING, 1 deferred, 2 FAILED. -/
def State.retireOutcome (s : State) (v : Nat) (readable : Bool) : Nat :=
  if s.setsOf v = [] then 2
  else if readable then (if s.canRebuild v then 0 else 1)
  else if s.slotFree ∧ (s.chooseSpare v).isSome ∧ (s.rebuildOf v).isNone then 0 else 2

/-- Acts as Table 11-5 states on a NORMAL vdie whose pdie was declared failed. -/
def State.retireVdie (s : State) (v : Nat) (readable : Bool) (extra : List JItem) : State :=
  let x := s.vdie v
  match s.retireOutcome v readable with
  | 0 => s.startRebuild v ((s.chooseSpare v).getD noPdie) extra
  | 1 =>
    let c := satAdd 32 s.patCounts.deferred 1
    let s := s.noteSat s.patCounts.deferred c (2 ^ 32 - 1)
    ({ s with patCounts := { s.patCounts with deferred := c } }.pendRebuild v).raise Ev.retireDeferred
  | _ =>
    let s := if s.setsOf v = [] then s else s.pendRebuild v
    s.journalAdd (vdieNs v) (jVdie v { x with state := 2, pdie := noPdie, oldPdie := noPdie } :: extra)

/-- The rebuild target of a REBUILDING vdie fails: a further spare, or FAILED (Table 2-2). -/
def State.targetFailed (s : State) (v : Nat) : State :=
  let x := s.vdie v
  let s := match s.rebuildOf v with
    | some (n, _) => (s.stopTask n).dropTask n
    | none => s
  let s := s.pendRebuild v
  match s.chooseSpare v with
  | some sp =>
    let old := x.oldPdie
    let s := s.setPdie x.pdie { s.pdie x.pdie with cond := .retired }
    let binds := s.rebuildBinds v sp
    let g := (s.setsOf v).headD 0
    let t : Task := { Task.zero with
      kind := .rebuild, cls := s.bgCls g, set := g, vdie := v, pos := s.posIn g v, slot := s.freeSlot
      bind := binds.foldl (fun m e => storeIns (bandKey e.1 e.2.1) e.2.2.2 m) []
      mask := binds.foldl (fun m e => storeIns (bandKey e.1 e.2.1) (s.rebuildMask e.1 e.2.1 e.2.2.1) m) [] }
    let s := (s.setTask s.nextJob t).bumpJob
    let s := s.setPdie sp { s.pdie sp with cond := .spareClaimed }
    let s := { s with rebuildPend := s.rebuildPend.filter (· != v) }
    s.journalAdd (vdieNs v) (binds.map (fun e => jBinding e.1 e.2.2.1 e.2.1 e.2.2.2 0 .nothing) ++
      [jVdie v { x with pdie := sp, oldPdie := old }])
  | none => s.journalAdd (vdieNs v) [jVdie v { x with state := 2, pdie := noPdie, oldPdie := noPdie }]

/-- Retires a pdie that was declared failed (R421, R422). -/
def State.retirePdie (s : State) (p : Nat) (readable : Bool) : State :=
  match s.vdies.find? (fun e => e.2.mapped && (e.2.pdie == p || e.2.oldPdie == p)) with
  | some (v, x) =>
    if x.pdie = p ∧ x.state = 1 then s.targetFailed v
    else if x.pdie = p then s.retireVdie v readable []
    else if readable then s
    else s.journalAdd (vdieNs v) [jVdie v { x with oldPdie := noPdie }]
  | none =>
    if (s.pdie p).cond = .spareClaimed then s
    else s.journalAdd (s.pdieNs p) (jRetired (s.pdieNs p) p)

/-! ## Failure criteria (R418 to R420) -/

/-- The ticks of the last 1,048,576. -/
def State.inWindow (s : State) (l : List Nat) : List Nat := l.filter (fun t => decide (s.tickno < t + 1048576))

/-- A DIE entry of the event log (Table 20-4). -/
def State.dieLog (s : State) (p kind crit : Nat) : State :=
  s.logWrite 0x0060 1 (leBytes 2 p ++ leBytes 1 kind ++ leBytes 1 crit)

/-- A pdie is declared failed by the criterion of row `crit` of Table 11-4: the event and the count always, retirement unless NO_AUTO_RETIRE holds it back and firmware did
not ask for it. -/
def State.declareDie (s : State) (p : Nat) (readable fw : Bool) (crit : Nat) : State :=
  if s.peHalted && !fw then s
  else
  let s := s.peStep 3
  let c := satAdd 32 s.patCounts.dies 1
  let s := s.noteSat s.patCounts.dies c (2 ^ 32 - 1)
  let s := ({ s with patCounts := { s.patCounts with dies := c } }.raise Ev.dieFailed).dieLog p 3 crit
  let s := s.setDie p { s.die p with toRetire := true, critTick := s.tickno + 1 }
  if s.flagL F.PTL_CTRL.NO_AUTO_RETIRE && !fw then s else s.retirePdie p readable

/-- A channel is declared failed: every pdie of it is, and is not readable; it is held with cause 4 (R419). -/
def State.channelFailed (s : State) (c : Nat) : State :=
  if (s.chan c).failed then s
  else
    let n := satAdd 32 s.patCounts.channels 1
    let s := s.noteSat s.patCounts.channels n (2 ^ 32 - 1)
    let s := { s with patCounts := { s.patCounts with channels := n } }.raise Ev.channelFailed
    let s := s.dieLog (pdieOf c 0) 4 0
    let s := s.setChan c { s.chan c with failed := true }
    (List.range 16).foldl (fun s slot =>
      let p := pdieOf c slot
      if (s.pdie p).cond = .absent ∨ (s.pdie p).cond = .retired then s else s.declareDie p false false 0) s

/-- A pdie meets a criterion of Table 11-4. One that is declared already is treated again only when it can no longer be read. Three
pdies of a channel within one window fail the channel. -/
def State.dieFails (s : State) (p : Nat) (readable : Bool) (crit : Nat) : State :=
  if (s.pdie p).cond = .absent ∨ (s.pdie p).cond = .retired ∨ ((s.die p).toRetire ∧ readable) ∨ s.peHalted then s
  else
    let s := s.declareDie p readable false crit
    let c := pdieChannel p
    let n := ((List.range 16).filter (fun slot =>
      let t := (s.die (pdieOf c slot)).critTick
      decide (t ≠ 0 ∧ s.tickno < t - 1 + 1048576))).length
    if 3 ≤ n then s.channelFailed c else s

/-- A timeout of a die (R361), counted towards its criterion. -/
def State.noteTimeout (s : State) (p : Nat) : State :=
  let l := s.inWindow (s.die p).toTicks ++ [s.tickno]
  let s := s.setDie p { s.die p with toTicks := l }
  if 3 ≤ l.length then s.dieFails p true 2 else s
/-- A rejected valley search on a die (R394). -/
def State.noteSearch (s : State) (p : Nat) : State :=
  let l := s.inWindow (s.die p).vsTicks ++ [s.tickno]
  let s := s.setDie p { s.die p with vsTicks := l }
  if 3 ≤ l.length then s.dieFails p true 5 else s
/-- An unrecoverable codeword of a band on a die. -/
def State.noteUnrec (s : State) (p key : Nat) : State :=
  let l := (s.die p).unTicks.filter (fun e => decide (s.tickno < e.1 + 1048576)) ++ [(s.tickno, key)]
  let s := s.setDie p { s.die p with unTicks := l }
  if 16 ≤ l.length ∧ 2 ≤ (l.map (·.2)).eraseDups.length then s.dieFails p true 6 else s
/-- The count of free usable indices, the shelter block among the reserve, against R67. -/
def State.noteReserve (s : State) (p : Nat) : State :=
  let ns := match s.vdies.find? (fun e => e.2.mapped && e.2.pdie == p) with
    | some e => vdieNs e.1
    | none => 0
  if (s.freeIndices p).length + (if (s.pdie p).shelter.isSome then 1 else 0) < s.reserveOf ns p then s.dieFails p true 3 else s

/-! ## REBUILD_START (R424) -/

/-- Starts the pending rebuild that comes first among those that may start, and the other member of its set with it. -/
def State.rebuildNext (s : State) : State :=
  match s.rebuildOrder.find? (fun v => s.canRebuild v) with
  | none => s
  | some v =>
    let s := (s.peStep 4).startRebuild v ((s.chooseSpare v).getD noPdie) []
    match s.rebuildOrder.find? (fun u => s.canRebuild u && decide ((s.setsOf u).headD 0 = (s.setsOf v).headD 0)) with
    | some u => s.startRebuild u ((s.chooseSpare u).getD noPdie) []
    | none => s

/-- Does the policy engine work: not from a power fail, not halted (R441, R637), and only in service? -/
def State.peRuns (s : State) : Bool := s.awake && !s.pfail && !s.flag F.GLB_WDOG_STAT.PE_HALTED && decide (7 ≤ s.stage) && decide (s.stage < 15)

/-- REBUILD_START. -/
def execRebuildStart (s : State) : Host.Outcome State Fault Refusal :=
  .next (if s.peRuns then s.rebuildNext else s)

/-! ## VDIE_CTL (R54 to R59, R423) -/

/-- The vdie an entry names. -/
def State.ctlVdie (s : State) (c : Nat) : Nat := nsVdie (s.qNs (s.ctx c).queue) (ent (s.ctx c).entry 34 2)
/-- Is this a VDIE_CTL entry of an action that may start? -/
def State.startsCtl (s : State) (c action : Nat) : Bool := s.starts c opVDIE && ent (s.ctx c).entry 32 1 == action
/-- The entry runs until its journal change commits. -/
def State.runCtx (s : State) (c : Nat) : State := s.setCtx c { s.ctx c with state := .running }

/-- VDIE_RETIRE: ACTION 0. -/
def execVdieRetire (ctx : Nat) (s : State) : Host.Outcome State Fault Refusal :=
  .next (if !s.startsCtl ctx 0 then s
    else
      let v := s.ctlVdie ctx
      let x := s.vdie v
      let r := ent (s.ctx ctx).entry 34 2
      if !x.mapped then s.finish ctx 0x40 34 0 0 0
      else if x.state = 2 then s.finish ctx 0 0 r 0 0
      else if x.state = 1 then
        (if x.oldPdie = noPdie then s.finish ctx 0 0 r 0 0
         else (s.runCtx ctx).journalAdd (vdieNs v) [jVdie v { x with oldPdie := noPdie }, jFinish ctx 0 0 r])
      else
        let readable := s.dieReadable x.pdie
        if s.retireOutcome v readable = 1 then s.finish ctx 0x31 0xFF 0 0 0
        else
          let c := satAdd 32 s.patCounts.dies 1
          let s := s.noteSat s.patCounts.dies c (2 ^ 32 - 1)
          let s := ({ s with patCounts := { s.patCounts with dies := c } }.raise Ev.dieFailed).dieLog x.pdie 3 8
          let s := s.setDie x.pdie { s.die x.pdie with toRetire := true, critTick := s.tickno + 1 }
          (s.runCtx ctx).retireVdie v readable [jFinish ctx 0 0 r])

/-- VDIE_REBUILD: ACTION 1. -/
def execVdieRebuild (ctx : Nat) (s : State) : Host.Outcome State Fault Refusal :=
  .next (if !s.startsCtl ctx 1 then s
    else
      let v := s.ctlVdie ctx
      let x := s.vdie v
      if !x.mapped then s.finish ctx 0x40 34 0 0 0
      else if x.state = 1 ∨ !s.canRebuild v then s.finish ctx 0x31 0xFF 0 0 0
      else (s.runCtx ctx).startRebuild v ((s.chooseSpare v).getD noPdie) [jFinish ctx 0 0 (ent (s.ctx ctx).entry 34 2)])

/-- VDIE_ADD_SPARE: ACTION 2 (R54). -/
def execVdieAddSpare (ctx : Nat) (s : State) : Host.Outcome State Fault Refusal :=
  .next (if !s.startsCtl ctx 2 then s
    else
      let v := s.ctlVdie ctx
      let x := s.vdie v
      if !x.mapped ∨ x.state ≠ 0 then s.finish ctx 0x40 34 0 0 0
      else if x.member ∨ x.journal then s.finish ctx 0x31 0xFF 0 0 0
      else (s.runCtx ctx).journalAdd (vdieNs v) [jVdie v Vdie.unmapped, jFinish ctx 0 0 (ent (s.ctx ctx).entry 34 2)])

/-- Is every page that precedes page `s` below `s + 2` in the order (R292)? -/
def ordOk (ord : List Nat) : Bool := ord.all (fun p => (precede p ord).all (fun q => decide (q < p + 2)))
/-- Does a family support a mode (R55, R110, R292)? -/
def State.modeOk (s : State) (fam mode : Nat) : Bool :=
  s.profile fam != 0 && s.famPages fam mode != 0 &&
    (mode == 1 || (s.famPages fam 0 % s.puOf fam 0 == 0 && ordOk (s.ordOf fam 0)))

/-- The member conditions of R55. -/
def State.membersOk (s : State) (ns : Nat) (l : List Nat) : Bool :=
  let x (v : Nat) := s.vdie (nsVdie ns v)
  l.all (fun v => v < 4096 && (x v).mapped && (x v).state == 0 && !(x v).member) &&
    l.eraseDups.length == l.length && (l.map (fun v => (x v).family)).eraseDups.length ≤ 1 &&
    (l.map (fun v => pdieChannel (x v).pdie)).eraseDups.length == l.length

/-- SET_DEFINE: ACTION 3, with the member list that DPTR addresses; checks 2 to 5 of R55 in order, then the descriptor, the initial
bindings of R68 and the members' entries in the journal. -/
def execSetDefine (ctx : Nat) (members : List Nat) (s : State) : Host.Outcome State Fault Refusal :=
  .next (if !s.startsCtl ctx 3 || members.length != ent (s.ctx ctx).entry 36 1 || !s.fabOpen (.members ctx) then s
    else
      let got := s.readBytes (.members ctx) ((members.map (leBytes 2)).flatten)
      let members := (List.range members.length).map (fun i => field got (2 * i) 2)
      let s := { s with fab := s.fab.filter (fun r => r.who != FabWho.members ctx) }.fabPump
      let e := (s.ctx ctx).entry
      let ns := s.qNs (s.ctx ctx).queue
      let g := nsSet ns (ent e 33 1)
      let mode := ent e 38 1
      let bands := ent e 40 2
      let fam := (s.vdie (nsVdie ns (members.headD 0))).family
      if (s.sset g).defined then s.finish ctx 0x31 0xFF 0 0 0
      else if !s.membersOk ns members then s.finish ctx 0x40 16 0 0 0
      else if !s.modeOk fam mode then s.finish ctx 0x40 38 0 0 0
      else if members.any (fun v => decide (s.bandLimit ns (s.vdie (nsVdie ns v)).pdie < bands)) then s.finish ctx 0x40 40 0 0 0
      else
        let d := SetDesc.mk (ent e 36 1) (ent e 37 1) fam mode (s.famPlanes fam) (s.famSlots fam) bands (s.famPages fam mode) members
        let binds := ((List.range members.length).map (fun pos =>
          let free := s.freeIndices (s.vdie (nsVdie ns (members.getD pos 0))).pdie
          (List.range bands).map (fun b => jBinding g pos b (free.getD b 0xFFFF) 1 (.bindNow g b pos (free.getD b 0xFFFF))))).flatten
        let vs := (List.range members.length).map (fun pos =>
          let v := nsVdie ns (members.getD pos 0)
          jVdie v { s.vdie v with member := true, set := g % 256, pos := pos })
        let bytes := { s with sets := storePut (fun _ => SetDesc.undef) s.sets g d }.setBytes g
        (s.runCtx ctx).journalAdd ns ([jrec 0x02 bytes (.setDef g d)] ++ binds ++ vs ++ [jFinish ctx 0 0 (ent e 34 2)]))

/-- SET_DELETE: ACTION 4 (R59). -/
def execSetDelete (ctx : Nat) (s : State) : Host.Outcome State Fault Refusal :=
  .next (if !s.startsCtl ctx 4 then s
    else
      let e := (s.ctx ctx).entry
      let ns := s.qNs (s.ctx ctx).queue
      let g := nsSet ns (ent e 33 1)
      let busy := s.bands.any (fun k => k.1 / 16384 == g && (k.2.state == 3 || k.2.state == 1 || k.2.rehoming)) ||
        decide (0 < s.setRebuilding (s.sset g))
      if busy then s.finish ctx 0x31 0xFF 0 0 0
      else
        let vs := (s.sset g).members.map (fun m =>
          let v := nsVdie ns m
          jVdie v { s.vdie v with member := false, set := 0, pos := 0 })
        let bytes := { s with sets := storePut (fun _ => SetDesc.undef) s.sets g SetDesc.undef }.setBytes g
        (s.runCtx ctx).journalAdd ns ([jrec 0x02 (leBytes 1 (g % 256) ++ bytes.drop 1) (.setDel g)] ++ vs ++
          [jFinish ctx 0 0 (ent e 34 2)]))

/-- A set's definition takes effect: its bands are UNERASED. -/
def State.applySetDef (s : State) (g : Nat) (d : SetDesc) : State := s.setSset g d
/-- An initial binding takes effect. -/
def State.applyBind (s : State) (g b pos i : Nat) : State :=
  let x := s.band g b
  let l := x.blocks ++ List.replicate (pos + 1 - x.blocks.length) 0xFFFF
  s.setBand g b { x with blocks := l.set pos i }

/-- A set's deletion takes effect: its bands go, and their indices return to the free lists of their members unerased. -/
def State.applySetDel (s : State) (g : Nat) : State :=
  let d := s.sset g
  let gone := s.bands.filter (fun e => e.1 / 16384 == g)
  let s := { s with
    bands := s.bands.filter (fun e => e.1 / 16384 != g)
    wbands := s.wbands.filter (fun e => e.1 / 16384 != g)
    requeue := s.requeue.filter (fun e => e.set != g) }.requeueRegs
  let s := s.setSset g SetDesc.undef
  gone.foldl (fun s e =>
    if e.2.state = 2 then s
    else (List.range d.w).foldl (fun s pos =>
      s.releaseIndex (nsOf g) (s.vdie (nsVdie (nsOf g) (d.memberAt pos))).pdie (e.2.blocks.getD pos 0xFFFF)) s) s

end Sys2Proof.Machine
end

