-- ==== Sys2Proof/Machine/Copy.lean ====
section
/-! DEFINITION. Erases (R71, R325, R453) and copy tasks: substitution (R318 to R320), re-home (R413 to R417) and rebuild (R426 to R431). A
copy task makes its pages one at a time, in program order. -/

namespace Sys2Proof.Machine

/-! ## Codeword reads of a row's pages -/

/-- A codeword read of codeword `k` (plane, then slot) of a member's page of a row. A page that cannot be read starts at step 6. -/
def State.rowCw (s : State) (use : CwFor) (cls level ceil g b row pos k : Nat) : Cw :=
  let d := s.sset g
  let v := d.memberAt pos + 4096 * nsOf g
  let boi := match d.dataPos row pos with
    | some dp => boiOf d.dpos d.planes d.slots (RowPos.mk row dp (k / d.slots) (k % d.slots))
    | none => 0
  let base := { Cw.zero with
    use := use, cls := cls, level := level, ceil := ceil, admTick := s.tickno, set := some g, band := b, boi := boi, row := row,
    pos := pos, vdie := v, page := row, plane := k / d.slots, slot := k % d.slots, slc := d.slc }
  match s.readLoc g b row pos with
  | some l => { base with pdie := l.pdie, block := l.block, spare := l.spare }
  | none => { base with pdie := noPdie, step := 6 }

/-! ## Lost slots (R416) -/

/-- A slot becomes lost: journaled, counted, raised. -/
def State.slotLost (s : State) (g b boi : Nat) : State :=
  let c := satAdd 32 s.patCounts.lost 1
  let s := s.noteSat s.patCounts.lost c (2 ^ 32 - 1)
  (({ s with patCounts := { s.patCounts with lost := c } }.raise Ev.slotLost).logWrite 0x0014 1 (leBytes 8 (bandAddr (g % 256) b boi))).journalAdd (nsOf g) [jLost g b boi]

/-! ## Work items of a copy task -/

/-- A page still to make: its row, member position, and the block it is copied from where that is a failed copy target (0: none,
else the index + 1). -/
def workItem (src row pos : Nat) : Nat := (src * 16384 + row) * 64 + pos
def workPos (w : Nat) : Nat := w % 64
def workRow (w : Nat) : Nat := w / 64 % 16384
def workSrc (w : Nat) : Nat := w / 64 / 16384

/-- Where a task programs the page of member position `pos`. -/
def State.taskDest (s : State) (n pos : Nat) : Option Loc :=
  let t := s.task n
  let v := s.vdie ((s.sset t.set).memberAt pos + 4096 * nsOf t.set)
  match t.kind with
  | .rebuild => some (Loc.mk (s.vdie t.vdie).pdie (t.bindOf t.set t.band) true)
  | .subst => if v.state = 2 ∨ v.pdie = noPdie then none else some (Loc.mk v.pdie (t.blocks.getD 0 0) (v.state == 1))
  | .rehome _ => if v.state = 2 ∨ v.pdie = noPdie then none else some (Loc.mk v.pdie (t.blocks.getD pos 0) (v.state == 1))

/-- The rows of a band that hold data: those before the row FILL points into. -/
def State.dataRows (s : State) (g b : Nat) : Nat :=
  let d := s.sset g
  d.rowOf ((s.band g b).fill + d.rowTiles - 1)

/-- Replaces a task. -/
def State.updTask (s : State) (n : Nat) (f : Task → Task) : State :=
  if s.tasks.any (fun e => e.1 == n) then s.setTask n (f (s.task n)) else s

/-! ## Making a page -/

/-- The image of codeword `k` of a data page that needs no read, if so: a held buffer, a void, a lost or an unwritten slot; with
whether it counts in fresh parity. None: it must be read. -/
def State.readyImage (s : State) (n row pos dp k : Nat) (l : Loc) : Option (List Byte × Bool) :=
  let t := s.task n
  let g := t.set
  let b := t.band
  let d := s.sset g
  let boi := boiOf d.dpos d.planes d.slots (RowPos.mk row dp (k / d.slots) (k % d.slots))
  let x := s.band g b
  let zero := scramble l.block row (k % d.slots) (List.replicate tileBytes 0#8)
  let sl := match (s.wband g b).rowAt row with
    | some r => storeGet (fun _ => Slot.empty) r.slots (boi - d.rowBoi row)
    | none => Slot.empty
  if x.fill ≤ boi then some (zero, false)
  else if x.lost.contains boi then some (zeroImage, false)
  else if x.voids.contains boi ∨ sl.st = 2 then
    match x.corr.find? (fun e => e.1 == boi), t.kind with
    | some e, .rebuild => some (e.2, false)
    | some e, .subst => some (e.2, false)
    | _, _ => some (zero, false)
  else if workSrc (t.work.headD 0) ≠ 0 then none
  else match sl.buf with
    | some tile => if t.kind = .subst ∧ t.stop = row ∧ t.pos = pos then some (zero, false)
        else some (scramble l.block row (k % d.slots) tile, true)
    | none => none

/-- Adds an image to a re-home's fresh parity. -/
def Task.fold (t : Task) (d : SetDesc) (dp k : Nat) (img : List Byte) : Task :=
  let key := 8 * (k / d.slots) + k % d.slots
  match t.kind with
  | .rehome _ => { t with
      accP := accPut t.accP key (Sys2Proof.Machine.accP (accGet t.accP key) img)
      accQ := if d.level = 2 then accPut t.accQ key (Sys2Proof.Machine.accQ (accGet t.accQ key) img dp) else t.accQ }
  | _ => t

/-- The same, where the page is not a copy of a failed copy target. -/
def Task.foldIf (t : Task) (now : Bool) (d : SetDesc) (dp k : Nat) (img : List Byte) : Task := if now then t.fold d dp k img else t

/-- Programs the gathered page on its new block; a FAILED member's page of a re-home is only folded into the parity. -/
def State.programPage (s : State) (n : Nat) : State :=
  let t := s.task n
  let w := t.work.headD 0
  let g := t.set
  let d := s.sset g
  match s.taskDest n (workPos w) with
  | none => s
  | some l =>
    let images := (List.range (d.planes * d.slots)).map (fun k => storeGet (fun _ => zeroImage) t.page k)
    let p := { Prog.zero with
      use := .copy n, cls := if t.kind = .subst then s.bandCls g else s.bgCls g, level := t.level, set := g, band := t.band,
      row := workRow w, pos := workPos w, pdie := l.pdie, block := l.block, page := workRow w,
      pass := workRow w % s.puOf d.family d.mode, slc := d.slc, planes := d.planes, slots := d.slots, images := images }
    let job := s.nextJob
    (s.addProg p).setTask n { t with progs := [job], start := if t.start = 0 then max 1 (s.nsTime (nsOf t.set)) else t.start }

/-- The class of a task's reads: U or B for background work (R412, R425), F for a substitution (R318). -/
def State.taskCls (s : State) (t : Task) : Nat := if t.kind = .subst then s.bandCls t.set else s.bgCls t.set

/-- Begins the page at the head of a task's work: what needs no read is taken at once, every other codeword is read. -/
def State.startPage (s : State) (n : Nat) : State :=
  let t := s.task n
  match t.work with
  | [] => s
  | w :: rest =>
    let g := t.set
    let b := t.band
    let d := s.sset g
    let row := workRow w
    let pos := workPos w
    let nk := d.planes * d.slots
    let dest := s.taskDest n pos
    let l := dest.getD (Loc.mk noPdie 0 false)
    let finish (s : State) : State :=
      if (s.task n).left ≠ 0 then s
      else if dest.isSome then s.programPage n
      else s.setTask n { s.task n with work := rest, page := [] }
    let read (s : State) (k : Nat) : State :=
      let c := s.rowCw (.page n k) (s.taskCls t) t.level 6 g b row pos k
      let c := if workSrc w = 0 then c
        else { c with pdie := l.pdie, block := workSrc w - 1, step := 0, jumped := false, spare := l.spare }
      (s.addCw c).updTask n (fun t => { t with left := t.left + 1 })
    let take (s : State) (k : Nat) (img : List Byte) : State :=
      s.updTask n (fun t => { t with page := storePut (fun _ => zeroImage) t.page k img })
    let s := s.setTask n { t with page := [], left := 0, progs := [] }
    match d.dataPos row pos with
    | some dp =>
      let s := (List.range nk).foldl (fun s k =>
        match s.readyImage n row pos dp k l with
        | some (img, real) =>
          let s := take s k img
          if real then s.updTask n (fun t => t.fold d dp k img) else s
        | none => read s k) s
      finish s
    | none =>
      let q := d.isQ row pos
      if s.dataRows g b ≤ row then
        finish ((List.range nk).foldl (fun s k =>
          take s k (scramble l.block row (k % d.slots) (List.replicate tileBytes 0#8))) s)
      else
        match t.kind with
        | .rehome _ =>
          if workSrc w = 0 then
            finish ((List.range nk).foldl (fun s k =>
              take s k (accGet (if q then t.accQ else t.accP) (8 * (k / d.slots) + k % d.slots))) s)
          else finish ((List.range nk).foldl read s)
        | .subst =>
          match (s.wband g b).rowAt row with
          | some r =>
            if r.par = 0 then
              finish ((List.range nk).foldl (fun s k =>
                take s k (accGet (if q then r.accQ else r.accP) (8 * (k / d.slots) + k % d.slots))) s)
            else finish ((List.range nk).foldl read s)
          | none => finish ((List.range nk).foldl read s)
        | .rebuild => finish ((List.range nk).foldl read s)

/-- A codeword of a task's page was read: its tile, or the image of a parity page; none where it is lost (R416, R429). -/
def State.pageGot (s : State) (n k : Nat) (res : Option (List Byte)) : State :=
  let t := s.task n
  match t.work with
  | [] => s
  | w :: rest =>
    let g := t.set
    let d := s.sset g
    let row := workRow w
    let pos := workPos w
    let dest := s.taskDest n pos
    let l := dest.getD (Loc.mk noPdie ((s.band g t.band).blocks.getD pos 0) false)
    let s : State := match d.dataPos row pos with
      | some dp =>
        let boi := boiOf d.dpos d.planes d.slots (RowPos.mk row dp (k / d.slots) (k % d.slots))
        (match res with
        | some tile =>
          let img := scramble l.block row (k % d.slots) tile
          s.updTask n (fun t => ({ t with page := storePut (fun _ => zeroImage) t.page k img, left := t.left - 1 }).foldIf (workSrc w == 0) d dp k img)
        | none => (s.slotLost g t.band boi).updTask n (fun t => { t with left := t.left - 1 }))
      | none =>
        s.updTask n (fun t => { t with
          page := storePut (fun _ => zeroImage) t.page k (res.getD zeroImage), left := t.left - 1 })
    if (s.task n).left ≠ 0 then s
    else if dest.isSome then s.programPage n
    else s.setTask n { s.task n with work := rest, page := [] }

/-! ## Re-home: what follows (R413) -/

/-- The pages of a re-home in the order they are made: row by row, data first, then P and Q; the rest of the last wordline. -/
def State.rehomeWork (s : State) (g b : Nat) : List Nat :=
  let d := s.sset g
  let pu := s.puOf d.family d.mode
  let top := s.dataRows g b
  let all := (top + pu - 1) / pu * pu
  (((s.ordOf d.family d.mode).filter (fun r => decide (r < all))).map (fun row =>
    let datas := (List.range d.dpos).filterMap (fun dp => memberOf dp row d.w d.level)
    let pars := [pPos d.w row] ++ (if d.level = 2 then [qPos d.w row] else [])
    ((datas.filter (fun pos => decide (row < top) || !s.memberFailed g pos)) ++
      pars.filter (fun pos => !s.memberFailed g pos)).map (workItem 0 row))).flatten

/-- Commits the new binding of a re-home: from the commit on, the band lies on its new blocks. -/
def State.switchRehome (s : State) (n : Nat) : State :=
  let t := s.task n
  let d := s.sset t.set
  let s := s.setTask n { t with stage := 2 }
  s.journalAdd (nsOf t.set) ((List.range d.w).filterMap (fun pos =>
    match t.blocks[pos]? with
    | some i => if i = 0xFFFF then none else some (jBinding t.set pos t.band i 1 .nothing)
    | none => none) ++
    [jBand t.set t.band 4 t.start (s.nsTime (nsOf t.set)) (s.band t.set t.band).fill (.bindCommit n)])

/-! ## Rebuild: what follows (R427, R430, R431) -/

/-- RB of the band under way, from the pages still to make. -/
def State.rebuildRb (s : State) (n : Nat) : State :=
  let t := s.task n
  let d := s.sset t.set
  let pu := s.puOf d.family d.mode
  let rb := match t.work with
    | [] => d.rows
    | w :: rest => (rest.foldl (fun a x => min a (workRow x)) (workRow w)) / pu * pu
  let s := s.setTask n { t with rb := storeIns (bandKey t.set t.band) rb t.rb }
  (((s.wband t.set t.band).rows.map (·.row)).filter (fun row => decide (row < rb))).foldl (fun s row =>
    s.reseed t.set t.band row t.pos (t.bindOf t.set t.band)) s

/-- The order of R427 of a band state: OPEN, CLOSED, ERASED, UNERASED; an ERASING band waits for its erase. -/
def rebuildGroup (state : Nat) : Nat := if state = 3 then 0 else if state = 4 then 1 else if state = 2 then 2 else 3

/-- The bands that a rebuild has still to do, in order; the journal set's before those of the data set. -/
def State.rebuildBands (s : State) (n : Nat) : List (Nat × Nat) :=
  let t := s.task n
  let sets := (s.setsOf t.vdie).reverse
  (sets.map (fun g =>
    let d := s.sset g
    let l := (List.range d.bands).filter (fun b => decide (t.rbOf g b < d.rows) && (s.band g b).state != 1)
    ((List.range 4).map (fun k => (l.filter (fun b => rebuildGroup (s.band g b).state == k)).map (fun b => (g, b)))).flatten)).flatten

/-- Takes the next band of a rebuild; with none left and none ERASING the vdie is journaled NORMAL (R431). -/
def State.rebuildPump (s : State) (n : Nat) : Nat → State
  | 0 => s
  | fuel + 1 =>
    let t := s.task n
    if t.stage ≠ 1 ∨ t.work ≠ [] then s
    else
      match s.rebuildBands n with
      | [] =>
        let sets := s.setsOf t.vdie
        if sets.any (fun g => (List.range (s.sset g).bands).any (fun b => decide (t.rbOf g b < (s.sset g).rows))) then s
        else
          let x := s.vdie t.vdie
          let binds := (sets.map (fun g => (List.range (s.sset g).bands).map (fun b =>
            jBinding g (s.posIn g t.vdie) b (t.bindOf g b) 1 .nothing))).flatten
          (s.setTask n { t with stage := 2 }).journalAdd (vdieNs t.vdie)
            (binds ++ [jVdie t.vdie { x with state := 0, oldPdie := noPdie }, jrec 0 [] (.rebuilt n)])
      | (g, b) :: _ =>
        let d := s.sset g
        let full (s : State) : State := s.setTask n { s.task n with
          set := g, band := b, pos := s.posIn g t.vdie, rb := storeIns (bandKey g b) d.rows (s.task n).rb }
        let st := (s.band g b).state
        if st = 0 then (full s).rebuildPump n fuel
        else if st = 2 then
          (if (s.pdie (s.vdie t.vdie).pdie).checked.contains (t.bindOf g b) then (full s).rebuildPump n fuel
           else if s.erases.any (fun e => e.2.use == .spareBlock n && e.2.block == t.bindOf g b) then s
           else s.askErase (.spareBlock n) (nsOf g) (s.vdie t.vdie).pdie (t.bindOf g b) d.planes (s.bgCls g) 7 1 d.slc)
        else
          let pos := s.posIn g t.vdie
          let pages := (s.ordOf d.family d.mode).filter (fun r => (cnt t.mask (bandKey g b)).testBit r && decide (t.rbOf g b ≤ r) &&
            !(cnt t.found (bandKey g b)).testBit r)
          if pages = [] then (full s).rebuildPump n fuel
          else
            let w := s.wband g b
            let s := if st = 3 ∧ g % 256 ≠ 255 then s.setWband g b { w with done := storePut (fun _ => 0) w.done pos (cnt t.found (bandKey g b)) } else s
            (s.setTask n { t with set := g, band := b, pos := pos, since := 0, work := pages.map (fun r => workItem 0 r pos) }).startPage n

/-- Journals a rebuild checkpoint (R430). -/
def State.rebuildCkpt (s : State) (n : Nat) : State :=
  let t := s.task n
  (s.setTask n { t with since := 0 }).journalAdd (nsOf t.set)
    [jRebuildCkpt t.vdie t.set t.band (t.rbOf t.set t.band) (t.bindOf t.set t.band)]

/-! ## Substitution (R318 to R320) -/

/-- A page's program on member `pos` of a band failed for good: a substitution is due, or the member is handed to retirement at the
third need (R320). The slots of a data page are void already. -/
def State.needSubst (s : State) (g b row pos level : Nat) : State :=
  let w := s.wband g b
  if 2 ≤ cnt w.substs pos then
    let s := s.setWband g b { w with stopped := if w.stopped.contains pos then w.stopped else w.stopped ++ [pos] }
    match s.progLoc g b pos with
    | some l => (s.dieFails l.pdie true 4).writePump g b
    | none => s
  else
    (s.setTask s.nextJob { Task.zero with
      kind := .subst, cls := s.bandCls g, level := level, set := g, band := b, pos := pos, stop := row }).bumpJob

/-- Steps 1 and 2 of R318: the index is chosen, the failed one marked grown bad, the binding journaled as pending. -/
def State.substChoose (s : State) (n : Nat) : State :=
  let t := s.task n
  match s.progLoc t.set t.band t.pos with
  | none => s.dropTask n
  | some l =>
    let failed := t.blocks.headD l.block
    let s := s.markBad l.pdie failed
    match s.chooseIndex l.pdie false with
    | none =>
      let w := s.wband t.set t.band
      let s := (s.dropTask n).setWband t.set t.band { w with stopped := w.stopped ++ [t.pos] }
      (s.dieFails l.pdie true 4).writePump t.set t.band
    | some i =>
      let w := s.wband t.set t.band
      let s := s.setWband t.set t.band { w with substs := bump w.substs t.pos 1 }
      let s := (s.countSat F.PTY_WFAIL.SUBSTS 1).setTask n { t with blocks := [i], old := [l.block], work := [], page := [], left := 0 }
      (s.journalAdd (nsOf t.set) [jBadBlock l.pdie failed 1, jBinding t.set t.pos t.band i 0 (.bindPending n)]).noteReserve l.pdie

/-- SUBSTITUTION: the substitution that waits first begins. -/
def execSubstitution (s : State) : Host.Outcome State Fault Refusal :=
  .next (if !s.awake || s.pfail then s
    else match s.tasks.find? (fun e => e.2.kind == .subst && e.2.blocks == []) with
      | some (n, _) => s.substChoose n
      | none => s)

/-- Step 3 of R318: the pages that preceded the failed page in program order, then that page. -/
def State.substWork (s : State) (n : Nat) : List Nat :=
  let t := s.task n
  let d := s.sset t.set
  let w := s.wband t.set t.band
  ((precede t.stop (s.ordOf d.family d.mode)).filter (fun r => w.pageDone t.pos r)).map (fun r => workItem 0 r t.pos) ++
    [workItem 0 t.stop t.pos]

/-- Step 5: the binding is committed, and with it the switch. -/
def State.switchSubst (s : State) (n : Nat) : State :=
  let t := s.task n
  (s.setTask n { t with stage := 2 }).journalAdd (nsOf t.set)
    [jBinding t.set t.pos t.band (t.blocks.headD 0) 1 (.bindCommit n)]

/-! ## A page of a task has programmed, or failed -/

/-- What a task does next when the page at the head of its work is finished (DEDUCED, log entry 137). -/
def State.taskNext (s : State) (n : Nat) : Nat → State
  | 0 => s
  | fuel + 1 =>
    let t := s.task n
    match t.work with
    | [] =>
      (match t.kind with
       | .rehome _ => if t.stage = 1 then s.switchRehome n else s
       | .subst => if t.stage = 1 then s.switchSubst n else s
       | .rebuild => (s.rebuildPump n ((s.sset t.set).bands + 66)).rebuildRegs)
    | w :: _ =>
      let d := s.sset t.set
      let s := if workSrc w = 0 ∧ some (workPos w) = memberOf 0 (workRow w) d.w d.level then
        s.setTask n { t with accP := [], accQ := [] } else s
      let s := s.startPage n
      if (s.task n).work.length < t.work.length then s.taskNext n fuel else s

/-- Begins or goes on with a task. -/
def State.taskPump (s : State) (n : Nat) : State :=
  if !s.tasks.any (fun e => e.1 == n) then s
  else
    match (s.task n).kind with
    | .subst => s.taskNext n ((s.task n).work.length + 2)
    | .rehome _ => if s.peHalted then s else (s.peStep 2).taskNext n ((s.task n).work.length + 2)
    | .rebuild => if s.peHalted then s else (s.peStep 4).taskNext n ((s.task n).work.length + 2)

/-- The page of a task programmed successfully. -/
def State.copyDone (s : State) (n : Nat) : State :=
  if !s.tasks.any (fun e => e.1 == n) then s
  else
    let t := s.task n
    let w := t.work.headD 0
    let s := s.setTask n { t with work := t.work.drop 1, page := [], progs := [], since := t.since + 1 }
    let s := match t.kind with
      | .rebuild =>
        let wb := s.wband t.set t.band
        let s := if (s.band t.set t.band).state = 3 ∧ t.set % 256 ≠ 255 then
          s.setWband t.set t.band (wb.markDone t.pos (workRow w)) else s
        let s := s.rebuildRb n
        let s := if 64 ≤ (s.task n).since ∨ (s.task n).work = [] then s.rebuildCkpt n else s
        (s.rebuildRegs).writePump t.set t.band
      | _ => s
    s.taskPump n

/-- The program of a task's page failed: the new block is bad and another takes its place; the pages already made on it are copied
from it (Table 11-3, R320). A member without a free index is handed to retirement. -/
def State.copyFailed (s : State) (n : Nat) : State :=
  if !s.tasks.any (fun e => e.1 == n) then s
  else
    let t := s.task n
    let w := t.work.headD 0
    let pos := workPos w
    match s.taskDest n pos with
    | none => s
    | some l =>
      match t.kind with
      | .subst =>
        let wb := s.wband t.set t.band
        if 2 ≤ cnt wb.substs t.pos then
          let s := (s.dropTask n).setWband t.set t.band { wb with stopped := wb.stopped ++ [t.pos] }
          ((s.markBad l.pdie l.block).dieFails l.pdie true 4).writePump t.set t.band
        else s.substChoose n
      | _ =>
        let s := s.markBad l.pdie l.block
        match s.chooseIndex l.pdie false with
        | none => (s.journalAdd (nsOf t.set) [jBadBlock l.pdie l.block 1]).dieFails l.pdie true 4
        | some i =>
          let d := s.sset t.set
          let src := l.block + 1
          let before := (precede (workRow w) (s.ordOf d.family d.mode)).filter (fun r => match t.kind with
            | .rebuild => (cnt t.mask (bandKey t.set t.band)).testBit r
            | _ => true)
          let again := before.map (fun r => workItem src r pos)
          let t := { t with
            work := again ++ t.work, page := [], progs := []
            blocks := match t.kind with | .rehome _ => t.blocks.set pos i | _ => t.blocks
            bind := match t.kind with | .rebuild => storeIns (bandKey t.set t.band) i t.bind | _ => t.bind }
          let s := s.setTask n t
          let s := s.journalAdd (nsOf t.set) [jBadBlock l.pdie l.block 1, jBinding t.set pos t.band i 0 .nothing]
          (s.noteReserve l.pdie).taskPump n

/-! ## REHOME_START and REHOME_RELEASE -/

/-- May this queued band start its re-home now (R412, R75)? -/
def State.rehomeOk (s : State) (e : Requeue) : Bool :=
  let d := s.sset e.set
  !e.active && (s.band e.set e.band).state == 4 && decide (s.setMissing d ≤ d.level) && (s.wband e.set e.band).rows == [] &&
    (!s.flagL F.PTL_CTRL.HOLD_REHOME || rehomePrio e.reason == 0) &&
    !s.tasks.any (fun t => t.2.set == e.set && t.2.band == e.band && t.2.kind != .rebuild)

/-- The new indices of a re-home by member position; 0xFFFF on a FAILED member; none when a member has no free index (R415). -/
def State.rehomeBlocks (s : State) (g reason : Nat) : Option (List Nat) :=
  let d := s.sset g
  let l := (List.range d.w).map (fun pos =>
    let v := s.vdie (d.memberAt pos + 4096 * nsOf g)
    if v.state = 2 ∨ v.pdie = noPdie then some 0xFFFF else s.chooseIndex v.pdie (reason == 6))
  if l.all (·.isSome) then some (l.map (fun o => o.getD 0xFFFF)) else none

/-- REHOME_START: the first band of the queue that may start binds new blocks, pending in the journal. -/
def execRehomeStart (s : State) : Host.Outcome State Fault Refusal :=
  .next (if !s.peRuns || decide (max 1 (s.getL F.PTL_CTRL.REHOME_MAX) ≤ (s.requeue.filter (·.active)).length) then s
    else
      match s.requeueOrder.find? s.rehomeOk with
      | none => s
      | some e =>
        match s.rehomeBlocks e.set e.reason with
        | none => s
        | some blocks =>
          let s := s.peStep 2
          let n := s.nextJob
          let t := { Task.zero with
            kind := .rehome e.reason, cls := s.bgCls e.set, set := e.set, band := e.band, blocks := blocks }
          let s := (s.setTask n t).bumpJob
          let s := s.setBand e.set e.band { s.band e.set e.band with rehoming := true }
          let s := { s with requeue := s.requeue.map (fun (x : Requeue) =>
            if x.set == e.set && x.band == e.band then { x with active := true } else x) }.requeueRegs
          s.journalAdd (nsOf e.set) ((List.range blocks.length).filterMap (fun pos =>
            if blocks.getD pos 0xFFFF = 0xFFFF then none
            else some (jBinding e.set pos e.band (blocks.getD pos 0) 0 .nothing)) ++ [jrec 0 [] (.bindPending n)]))

/-- Does a reader admitted before sequence `adm` still use a band (R76, R278)? -/
def State.readersBefore (s : State) (g b adm : Nat) : Bool :=
  s.ctxs.any (fun e =>
    let op := entOp e.2.entry
    (op == opREAD || op == opSCRUB || (op == opCOPY && !entSrcMem e.2.entry)) && s.srcSet e.1 == g && s.srcBand e.1 == b &&
      (e.2.state == .admitted || e.2.state == .running) && decide (e.2.admSeq < adm))

/-- REHOME_RELEASE: the old indices of a switched re-home go back once the reads admitted before the switch have completed. -/
def execRehomeRelease (s : State) : Host.Outcome State Fault Refusal :=
  .next (if !s.peRuns then s
    else
      match s.tasks.find? (fun e => e.2.stage == 3 && !s.readersBefore e.2.set e.2.band e.2.adm) with
      | none => s
      | some (n, t) =>
        let d := s.sset t.set
        let s := (s.peStep 2).dropTask n
        (List.range d.w).foldl (fun s pos =>
          s.releaseIndex (nsOf t.set) (s.vdie (d.memberAt pos + 4096 * nsOf t.set)).pdie (t.old.getD pos 0xFFFF)) s)

/-! ## ERASE_BAND (R71, R77, R278, R325) -/

/-- Where a member's block of a band is erased, if it is. -/
def State.eraseLoc (s : State) (g b pos : Nat) : Option Loc := if s.memberFailed g pos then none else s.progLoc g b pos

/-- Do earlier readers of a band wait to be resolved? -/
def State.unresolvedBefore (s : State) (g b adm : Nat) : Bool :=
  s.ctxs.any (fun e =>
    let op := entOp e.2.entry
    (op == opREAD || op == opSCRUB || (op == opCOPY && !entSrcMem e.2.entry)) && s.srcSet e.1 == g && s.srcBand e.1 == b &&
      (e.2.state == .admitted || e.2.state == .running) && e.2.tiles == [] && decide (e.2.admSeq < adm))

/-- Abandons a re-home of a band under erase (R77); it leaves the queue. -/
def State.endRehome (s : State) (g b : Nat) : State :=
  match s.tasks.find? (fun e => e.2.set == g && e.2.band == b && decide (e.2.stage < 3) &&
      (match e.2.kind with | .rehome _ => true | _ => false)) with
  | some (n, _) => s.abandonRehome n false
  | none => s.unqueue g b

/-- Is an erase of a band's blocks to come or under way? -/
def State.erasesBand (s : State) (g b : Nat) : Bool :=
  s.erases.any (fun e => match e.2.use with
    | .band h k _ => h == g && k == b
    | _ => false)

/-- ERASE_BAND. It waits while erases of the band's blocks are still to come, so that the change to ERASING has come about (DEDUCED, log entry 253). -/
def execEraseBand (ctx : Nat) (s : State) : Host.Outcome State Fault Refusal :=
  .next (if !s.starts ctx opERASE then s
    else
      let g := s.srcSet ctx
      let b := s.srcBand ctx
      let x := s.band g b
      let d := s.sset g
      if x.state = 2 then s.finish ctx 0 0 0 0 0
      else if x.state = 1 ∨ x.state = 3 then s.finish ctx 0x31 x.state 0 0 0
      else if s.unresolvedBefore g b (s.ctx ctx).admSeq || s.erasesBand g b then s
      else
        let s := (s.endRehome g b).runCtx ctx
        let level := (s.ctx ctx).level
        let s := s.journalAdd (nsOf g) [jBand g b 1 x.opened x.closedAt 0 (.band g b 1 0 0)]
        (List.range d.w).foldl (fun s pos =>
          match s.eraseLoc g b pos with
          | some l => s.askErase (.band g b pos) (nsOf g) l.pdie l.block d.planes 1 level 1 d.slc
          | none => s) s)

/-- ERASE_START: the erase items of a band may be issued once it has no resident rows, earlier readers have completed and its
intents are committed. -/
def execEraseStart (s : State) : Host.Outcome State Fault Refusal :=
  .next (if !s.awake || s.pfail then s
    else
      let adm (g b : Nat) : Nat := match s.ctxs.find? (fun e => e.2.state == .running && entOp e.2.entry == opERASE &&
          s.srcSet e.1 == g && s.srcBand e.1 == b) with
        | some e => e.2.admSeq
        | none => s.admSeq + 1
      { s with erases := s.erases.map (fun e => match e.2.use with
        | .band g b _ =>
          if e.2.intent && !e.2.ready && (s.wband g b).rows == [] && !s.readersBefore g b (adm g b) then
            (e.1, { e.2 with ready := true })
          else e
        | _ => e) })

/-- The entry that erases a band. -/
def State.eraser (s : State) (g b : Nat) : Option Nat :=
  (s.ctxs.find? (fun e => e.2.state == .running && entOp e.2.entry == opERASE && s.srcSet e.1 == g && s.srcBand e.1 == b)).map (·.1)

/-- Every member block of a band is erased: ERASED, and the entry completes, with the commit. -/
def State.bandErased (s : State) (g b : Nat) : State :=
  if s.erases.any (fun e => match e.2.use with | .band g' b' _ => g' == g && b' == b | _ => false) then s
  else
    s.journalAdd (nsOf g) (jBand g b 2 0 0 0 (.band g b 2 0 0) :: match s.eraser g b with
      | some c => [jFinish c 0 0 0]
      | none => [])

/-- A member block cannot be erased and no index takes its place: the band is UNERASED again and the entry ends with 0x0020 (R71). -/
def State.bandUnerased (s : State) (g b : Nat) : State :=
  let s := { s with erases := s.erases.filter (fun e => match e.2.use with
    | .band g' b' _ => !(g' == g && b' == b) || e.2.running
    | _ => true) }
  s.journalAdd (nsOf g) (jBand g b 0 0 0 0 (.band g b 0 0 0) :: match s.eraser g b with
    | some c => [jFinish c 0x20 0 0]
    | none => [])

/-- An erase of the creation of the journal set has ended; no journal records it yet. A block that fails is grown bad, and the next lower
good index takes its place (R63, R71). -/
def State.createEnd (s : State) (job : Nat) (ok : Bool) : State :=
  let e := s.eraseJob job
  match e.use with
  | .create b pos =>
    let s := s.dropErase job
    let left (s : State) : Bool := s.erases.any (fun k => match k.2.use with | .create b' _ => b' == b | _ => false)
    let done (s : State) : State := if left s then s else s.setBand 255 b { s.band 255 b with state := 2 }
    if ok then done (s.setPdie e.pdie { s.pdie e.pdie with checked := (s.pdie e.pdie).checked ++ [e.block] })
    else
      let s := s.markBad e.pdie e.block
      (match (s.freeIndices e.pdie).reverse.head? with
       | none => done s
       | some i =>
         let x := s.band 255 b
         let y := s.pdie e.pdie
         let s := (s.setBand 255 b { x with blocks := x.blocks.set pos i }).setPdie e.pdie { y with wear := bump y.wear i 1 }
         s.addErase { EraseJob.zero with
           use := e.use, cls := 0, level := 0, pdie := e.pdie, block := i, planes := e.planes, slc := true, intent := true, ready := true })
  | _ => s
/-- The die reported the end of an erase: its ERASE_DONE is journaled (R453). -/
def State.eraseEnd (s : State) (job : Nat) (ok : Bool) : State :=
  let e := s.eraseJob job
  if (match e.use with | .create _ _ => true | _ => false) then s.createEnd job ok
  else
  let ns := match s.vdies.find? (fun v => v.2.mapped && (v.2.pdie == e.pdie || v.2.oldPdie == e.pdie)) with
    | some v => vdieNs v.1
    | none => 0
  (s.setErase job { e with running := false, ready := false, ended := true }).journalAdd ns [jErased e.pdie e.block ok job]

/-- Erases another free index in the place of a failed one (R71); `bind` journals it for a band. -/
def State.eraseAnother (s : State) (job : Nat) (bind : Nat → List JItem) : Option State :=
  let e := s.eraseJob job
  match s.chooseIndex e.pdie false with
  | none => none
  | some i =>
    let ns := match s.vdies.find? (fun v => v.2.mapped && (v.2.pdie == e.pdie || v.2.oldPdie == e.pdie)) with
      | some v => vdieNs v.1
      | none => 0
    let reason := match e.use with
      | .band _ _ _ => 1
      | .shelter => 2
      | .journalBand _ _ => 3
      | .freeIndex => 4
      | .recovery => 5
      | .spareBlock _ => 1
      | .create _ _ => 3
    some (((s.dropErase job).journalAdd ns (bind i)).askErase e.use ns e.pdie i e.planes e.cls e.level reason e.slc)

/-- The outcome of an erase takes effect with its commit (R71, R453, R455). -/
def State.applyErased (s : State) (job : Nat) (ok : Bool) : State :=
  if !s.erases.any (fun e => e.1 == job) then s
  else
    let e := s.eraseJob job
    if ok then
      let x := s.pdie e.pdie
      let s := s.setPdie e.pdie { x with
        checked := if x.checked.contains e.block then x.checked else x.checked ++ [e.block]
        sigFails := x.sigFails }
      let s := s.dropErase job
      match e.use with
      | .band g b _ => s.bandErased g b
      | .shelter =>
        (s.setPdie e.pdie { s.pdie e.pdie with shelter := some e.block, shelterPage := 0 }).journalAdd (s.pdieNs e.pdie) [jShelter e.pdie e.block 0]
      | .journalBand g b =>
        if s.erases.any (fun k => match k.2.use with | .journalBand g' b' => g' == g && b' == b | _ => false) then s
        else s.setBand g b { Band.unerased with state := 2, blocks := (s.band g b).blocks }
      | .freeIndex => s
      | .recovery => s
      | .create _ _ => s
      | .spareBlock n =>
        let s := s.updTask n (fun t => { t with rb := storeIns (bandKey t.set t.band) (s.sset t.set).rows t.rb })
        s.taskPump n
    else
      let s := (s.markBad e.pdie e.block).journalAdd (s.pdieNs e.pdie) [jBadBlock e.pdie e.block 1]
      let s := match e.use with
        | .band g b pos =>
          (match s.eraseAnother job (fun i => [jBinding g pos b i 1 (.bindNow g b pos i)]) with
          | some s => s
          | none => s.bandUnerased g b)
        | .journalBand g b =>
          let pos := ((List.range (s.sset g).w).find? (fun p => (s.band g b).blocks.getD p 0xFFFF == e.block)).getD 0
          (match s.eraseAnother job (fun i => [jBinding g pos b i 1 (.bindNow g b pos i)]) with
          | some s => s
          | none => s.dropErase job)
        | .spareBlock n =>
          let t := s.task n
          (match s.eraseAnother job (fun i => [jBinding t.set t.pos t.band i 0 .nothing]) with
          | some s' =>
            let i := (s.chooseIndex e.pdie false).getD 0
            s'.updTask n (fun t => { t with bind := storeIns (bandKey t.set t.band) i t.bind })
          | none => s.dropErase job)
        | .shelter => (match s.eraseAnother job (fun _ => []) with | some s => s | none => s.dropErase job)
        | .freeIndex => s.dropErase job
        | .recovery => s.dropErase job
        | .create _ _ => s.dropErase job
      s.noteReserve e.pdie

/-- The intent of an erase is committed: the erase count rises, and the erase may be planned; a band's erase waits for ERASE_START
as well (R325, R453). -/
def State.applyIntent (s : State) (job : Nat) : State :=
  if !s.erases.any (fun e => e.1 == job) then s
  else
    let e := s.eraseJob job
    let x := s.pdie e.pdie
    let s := s.setPdie e.pdie { x with wear := bump x.wear e.block 1, checked := x.checked.filter (· != e.block) }
    let now := match e.use with
      | .band _ _ _ => false
      | _ => true
    s.setErase job { e with intent := true, ready := now }

/-- ERASE_SIGNATURE_CHECK: before the first program after a census into the block of the waiting page program that comes first, the
counts of 0 bits of its pages are checked; a block that fails is erased again, and is grown bad at its second failure (R455). -/
def State.sigCheck (s : State) (p i : Nat) (zeros : List Nat) : State :=
  let x := s.pdie p
  if zeros.all (fun z => decide (z ≤ s.gp "ERASE_SIG_BITS" 0 64)) then s.setPdie p { x with checked := x.checked ++ [i] }
  else if x.sigFails.contains i then (s.markBad p i).journalAdd (s.pdieNs p) [jBadBlock p i 1]
  else
    let n := s.getF F.PWR_RECOVERY.REERASED
    let s := s.setF F.PWR_RECOVERY.REERASED (min 255 (n + 1))
    (s.setPdie p { x with sigFails := x.sigFails ++ [i] }).askErase .recovery (s.pdieNs p) p i (s.famPlanes x.family) 0 0 5 false

/-- A page program that may be planned only once its block's erase signature is checked: the block holds no programmed page. -/
def State.needsCheck (s : State) (p : Prog) : Bool :=
  !(s.pdie p.pdie).checked.contains p.block && p.page == (s.ordOf (s.famOf p.pdie) (modeIx p.slc)).headD 0 &&
    !(match p.use with | .shelter _ => true | _ => false)

/-- ERASE_SIGNATURE_CHECK (R455). -/
def execEraseSignatureCheck (zeros : List Nat) (s : State) : Host.Outcome State Fault Refusal :=
  .next (if !s.awake || s.pfail then s
    else match s.progs.find? (fun e => s.needsCheck e.2 && !s.erases.any (fun k => k.2.pdie == e.2.pdie && k.2.block == e.2.block)) with
      | some (_, p) => s.sigCheck p.pdie p.block zeros
      | none => s)

end Sys2Proof.Machine
end

