-- ==== Sys2Proof/Machine/Calib.lean ====
section
/-! DEFINITION. Calibration (chapter 10): samples and valley searches as bursts of senses, their outcomes, CALIBRATE, LEVEL_SAMPLE and
VALLEY_SEARCH; and the decoder self-test (chapter 9). -/

namespace Sys2Proof.Machine

/-! ## Wordlines -/

/-- Is wordline `wl` of a band finished on member `pos` (R294, R387)? -/
def State.wlFinished (s : State) (g b pos wl : Nat) : Bool :=
  let d := s.sset g
  let pu := s.puOf d.family d.mode
  if (s.band g b).state = 4 then decide (wl * pu < s.dataRows g b)
  else (s.band g b).state == 3 && s.wordlineDone g b pos (wl * pu)

/-- The first wordline of a zone (R378). -/
def State.firstWl (s : State) (fam mode z : Nat) : Nat :=
  ((List.range (s.wordlines fam mode)).find? (fun w => s.zoneOf fam mode (w * s.puOf fam mode) == z)).getD 0

/-- The first finished wordline of a zone in a band on a vdie. -/
def State.wlIn (s : State) (g b v z : Nat) : Option Nat :=
  let d := s.sset g
  let pos := s.posIn g v
  (List.range (s.wordlines d.family d.mode)).find? (fun w =>
    s.zoneOf d.family d.mode (w * s.puOf d.family d.mode) == z && s.wlFinished g b pos w)

/-- Where a measurement of a zone reads, as (set key, band, wordline): the wordline of the last good class F read, else one in the band
that patrol read last (R387). -/
def State.zonePlace (s : State) (v : Nat) (spare : Bool) (z : Nat) : Option (Nat × Nat × Nat) :=
  let x := s.lev v spare
  let fits (e : Nat × Nat × Nat) : Bool :=
    s.wlFinished e.1 e.2.1 (s.posIn e.1 v) e.2.2 &&
      (match s.readLoc e.1 e.2.1 (e.2.2 * s.puOf (s.sset e.1).family (s.sset e.1).mode) (s.posIn e.1 v) with
       | some l => l.spare == spare
       | none => false)
  let byPatrol := match x.patrolBand with
    | some (g, b) => (match s.wlIn g b v z with
      | some w => if fits (g, b, w) then some (g, b, w) else none
      | none => none)
    | none => none
  match (x.zone z).last with
  | some e => if fits e then some e else byPatrol
  | none => byPatrol

/-! ## Bursts -/

/-- The senses of a sample: each page of the wordline once at the applied levels. -/
def sampleSenses (pu : Nat) : List (Nat × List Int) := (List.range pu).map (fun p => (p, zeroLevels))

/-- The senses of a valley search, as (code, change of levels): for each page type and each of its levels, 17 offsets of that level around its
target; an offset outside s8 is not taken. The code is page + 16384 × (level + 16 × k) (R395). -/
def State.searchSenses (s : State) (fam mode : Nat) (t : List Int) : List (Nat × List Int) :=
  let step := s.fp fam "VS_STEP" 0 4
  ((List.range (s.puOf fam mode)).map (fun p => ((s.usedLevels fam mode p (mode == 1)).map (fun i =>
    (List.range 17).filterMap (fun (k : Nat) =>
      let o : Int := ((k : Int) - 8) * step
      let v := t.getD i 0 + o
      if v < -128 ∨ 127 < v then none
      else some (p + 16384 * (i + 16 * k), (List.range 15).map (fun j => if j = i then o else 0))))).flatten)).flatten

/-- Begins the next sense of a burst: one codeword read per slot of its plane. -/
def State.burstSense (s : State) (n : Nat) : State :=
  let t := s.burst n
  match t.senses with
  | [] => s
  | (code, delta) :: rest =>
    let x := s.pdie t.pdie
    let fam := x.family
    let mode := s.vdieMode t.vdie
    let slots := s.famSlots fam
    let page := t.wordline * s.puOf fam mode + code % 16384
    let base := if t.search then (List.range 15).map (fun i => offAt (s.lev t.vdie t.spare).target t.zone i)
      else s.trackedOf t.vdie t.spare page (mode == 1)
    let s := s.setBurst n { t with senses := rest, left := slots }
    (List.range slots).foldl (fun s k =>
      s.addCw { Cw.zero with
        use := .burst n (8 * code + k)
        cls := (match t.ctx with | some _ => 1 | none => 2)
        level := (match t.ctx with | some c => (s.ctx c).level | none => 7)
        admTick := s.tickno, vdie := t.vdie, spare := t.spare, pdie := t.pdie, plane := t.plane, block := t.block, page := page,
        slot := k, slc := mode == 1, tracked := base, need := [delta] }) s

/-- Starts a burst on a wordline of a band. -/
def State.startBurst (s : State) (v : Nat) (spare : Bool) (z : Nat) (search : Bool) (ctx : Option Nat) (g b wl plane : Nat) (l : Loc) :
    State :=
  let fam := (s.pdie l.pdie).family
  let mode := s.vdieMode v
  let t := (List.range 15).map (fun i => offAt (s.lev v spare).target z i)
  let n := s.nextJob
  let s := (s.setBurst n { Burst.zero with
    vdie := v, spare := spare, zone := z, search := search, ctx := ctx, set := g, band := b, pdie := l.pdie, plane := plane,
    block := l.block, wordline := wl, binding := (s.band g b).state
    senses := if search then s.searchSenses fam mode t else sampleSenses (s.puOf fam mode) }).bumpJob
  s.burstSense n

/-- Does a burst occupy its die (R397)? A sample of the policy engine does not (R387). -/
def Burst.exclusive (t : Burst) : Bool := t.search || t.ctx.isSome

/-! ## Outcomes -/

/-- The measured changes of a sample (R388, R391). -/
def State.sampleDeltas (s : State) (t : Burst) : List (Nat × Int) :=
  let fam := (s.pdie t.pdie).family
  let mode := s.vdieMode t.vdie
  let pu := s.puOf fam mode
  let slots := s.famSlots fam
  let st := s.levelsOf fam mode + 1
  let cells := 8 * s.cwBytes fam
  let raw (k : Nat) : List (List Byte) := (List.range pu).map (fun p => storeGet (fun _ => []) t.raws (8 * p + k))
  let good (k : Nat) : Option (List (List Byte)) :=
    let l := (List.range pu).map (fun p => storeGet (fun _ => []) t.goods (8 * p + k))
    if l.all (· != []) then some l else none
  (List.range (s.levelsOf fam mode)).map (fun i =>
    let c := (List.range slots).foldl (fun a k =>
      let x := s.levelCounts fam (mode == 1) i cells (raw k) (good k)
      (a.1 + x.1, a.2.1 + x.2.1, a.2.2 + x.2.2)) (0, 0, 0)
    (i, levelDelta c.1 c.2.1 c.2.2 (slots * cells) i st (s.fp fam "ERR_GAIN" 0 4) (s.fp fam "DENS" i 33) (s.fp fam "MIN_ERR" 0 64)))

/-- The estimates of a search as changes of the target (R395, R396); a level without a bin is not measured. -/
def State.searchDeltas (s : State) (t : Burst) : List (Nat × Int) :=
  let fam := (s.pdie t.pdie).family
  let mode := s.vdieMode t.vdie
  let step := s.fp fam "VS_STEP" 0 4
  let slots := s.famSlots fam
  let targ (i : Nat) : Int := offAt (s.lev t.vdie t.spare).target t.zone i
  ((List.range (s.puOf fam mode)).map (fun p => (s.usedLevels fam mode p (mode == 1)).filterMap (fun i =>
    let raw (k j : Nat) : List Byte := storeGet (fun _ => []) t.raws (8 * (p + 16384 * (i + 16 * k)) + j)
    let ok := (List.range 16).map (fun k => raw k 0 != [] && raw (k + 1) 0 != [])
    let h := (List.range 16).map (fun k => ((List.range slots).map (fun j => popBits (xorBytes (raw k j) (raw (k + 1) j)))).sum)
    (valley h ok (targ i) step).map (fun e => (i, e - targ i))))).flatten

/-- The bytes of one zone of the result page of CALIBRATE (R405). -/
def zoneFields (z : Nat) (p t : List Int) (outcome : Nat) : List (Nat × Nat × Nat) :=
  (List.range 15).map (fun i => (32 * z + i, 1, (s8Byte (p.getD i 0)).toNat)) ++
    (List.range 15).map (fun i => (32 * z + 16 + i, 1, (s8Byte (t.getD i 0)).toNat)) ++ [(32 * z + 31, 1, outcome)]

/-- What a zone's measurement adds to its CALIBRATE entry: the bytes of the page, and the masks of zones accepted and rejected. -/
def State.calZone (s : State) (c z : Nat) (p t : List Int) (outcome : Nat) (failed : Bool) : State :=
  let x := s.ctx c
  let bit := if outcome = 1 then 2 ^ z else if 3 ≤ outcome ∧ outcome ≤ 5 then 2 ^ (16 + z) else 0
  s.setCtx c { x with
    fields := x.fields ++ zoneFields z p t outcome, r1 := x.r1 + bit, status := if failed then 0x20 else x.status }

/-- Where the zones of a CALIBRATE entry are read: its vdie and the spare of a REBUILDING one (R404). -/
def State.calVdie (s : State) (c : Nat) : Nat := nsVdie (s.qNs (s.ctx c).queue) (addrVdie (entMaddr (s.ctx c).entry))
def State.calSpare (s : State) (v : Nat) : Bool := (s.vdie v).state == 1
/-- The band that a block of a vdie is bound to, as (set key, band). -/
def State.bandOfBlock (s : State) (v i : Nat) : Option (Nat × Nat) :=
  let spare := s.calSpare v
  ((s.setsOf v).map (fun g => (List.range (s.sset g).bands).map (fun b => (g, b)))).flatten.find? (fun e =>
    if spare then (match s.rebuildOf v with
      | some (_, t) => t.bindOf e.1 e.2 == i
      | none => false)
    else (s.band e.1 e.2).blocks.getD (s.posIn e.1 v) 0xFFFF == i)

/-- Ends a CALIBRATE entry: its page, if one is asked for, and its results (R405). -/
def State.calEnd (s : State) (c : Nat) : State :=
  let x := s.ctx c
  let v := s.calVdie c
  let sus := ((s.lev v (s.calSpare v)).zones.filter (fun z => z.2.suspect)).length
  let s := if entDptr x.entry = 0 then s
    else s.pageOut c x.fields
  s.finish c x.status 0 (entMaddr x.entry) x.r1 sus

/-- Goes on with the zones a CALIBRATE entry still has to do. -/
def State.calNext (s : State) (c : Nat) : State :=
  let x := s.ctx c
  match x.groups with
  | [] => s.calEnd c
  | z :: rest =>
    let v := s.calVdie c
    let spare := s.calSpare v
    let a := entMaddr x.entry
    let s := s.setCtx c { x with groups := rest }
    match s.bandOfBlock v (addrBlock a) with
    | none => s.calEnd c
    | some (g, b) =>
      let d := s.sset g
      let wl := if ent x.entry 33 1 = 255 then s.firstWl d.family d.mode z else addrPage a / s.puOf d.family d.mode
      s.startBurst v spare z (ent x.entry 32 1 == 1) (some c) g b wl (addrPlane a)
        (Loc.mk (s.vdie v).pdie (addrBlock a) spare)

/-- A burst has its last data, or a sense of it failed: the outcome of its zone (R389, R392 to R396, R404). -/
def State.endBurst (s : State) (n : Nat) : State :=
  let t := s.burst n
  let s := s.dropBurst n
  let s := if (s.die t.pdie).burst = some n then s.setDie t.pdie { s.die t.pdie with burst := none } else s
  let z := t.zone
  let old := (s.lev t.vdie t.spare).zone z
  let targ := (List.range 15).map (fun i => offAt (s.lev t.vdie t.spare).target z i)
  let pos := s.posIn t.set t.vdie
  let pu := s.puOf (s.sset t.set).family (s.sset t.set).mode
  let moved := !t.search && ((s.band t.set t.band).state != t.binding ||
    (match s.readLoc t.set t.band (t.wordline * pu) pos with
     | some l => l.block != t.block || l.pdie != t.pdie
     | none => true))
  let s := s.setLev t.vdie t.spare ((s.lev t.vdie t.spare).setZone z
    { old with lastSample := if t.search then old.lastSample else s.tickno, due := false, last := if t.search then old.last else none })
  let reset (s : State) (o : Nat) : State :=
    s.setLev t.vdie t.spare ((s.lev t.vdie t.spare).setZone z
      { (s.lev t.vdie t.spare).zone z with outcome := o, due := decide (o = 2) && !t.search })
  if t.failed ∨ moved then
    let s := reset s 2
    match t.ctx with
    | some c => (s.calZone c z [] targ 2 t.failed).calNext c
    | none => s
  else
    let deltas := if t.search then s.searchDeltas t else s.sampleDeltas t
    let p := (List.range 15).map (fun i => targ.getD i 0 + ((deltas.find? (fun e => e.1 == i)).map (·.2)).getD 0)
    let held := !t.search && old.suspect
    let s := if t.search then s.countWrap F.CAL_STAT.SEARCHES 1 else s
    let s := if held then (if t.ctx.isSome then reset s 6 else s)
      else s.zoneUpdate t.vdie t.spare z deltas t.search false (lage (s.bandAge t.set t.band))
    let o := ((s.lev t.vdie t.spare).zone z).outcome
    let s := if t.search && decide (3 ≤ o ∧ o ≤ 5) && deltas != [] then s.noteSearch t.pdie else s
    match t.ctx with
    | some c =>
      (s.calZone c z p ((List.range 15).map (fun i => offAt (s.lev t.vdie t.spare).target z i))
        (if deltas = [] then 0 else o) false).calNext c
    | none => s

/-- A codeword of a burst ended: the raw image of its sense, and its corrected codeword where it converged and passed its CRC; none when
its sense failed. -/
def State.burstGot (s : State) (n i : Nat) (raw : Option (List Byte)) (good : Option (List Byte)) : State :=
  if !s.bursts.any (fun e => e.1 == n) then s
  else
    let t := s.burst n
    let t := { t with
      left := t.left - 1
      raws := match raw with | some m => storeIns i m t.raws | none => t.raws
      goods := match good with | some m => storeIns i m t.goods | none => t.goods
      failed := t.failed || raw.isNone }
    let s := s.setBurst n t
    if t.left ≠ 0 then s
    else if t.failed ∨ t.senses = [] then s.endBurst n
    else s.burstSense n

/-! ## LEVEL_SAMPLE and VALLEY_SEARCH (R386, R394 to R398) -/

/-- The zones of all mapped vdies of sets 0 to 254, and of their spares, in vdie order, as (vdie, spare, zone). -/
def State.allZones (s : State) : List (Nat × Bool × Nat) :=
  (s.levels.filter (fun e => (s.vdie (e.1 / 2)).mapped && (s.vdie (e.1 / 2)).member)).map (fun e =>
    (List.range 16).map (fun z => (e.1 / 2, e.1 % 2 == 1, z))) |>.flatten

/-- The first location of a zone's measurement. -/
def State.zoneLoc (s : State) (v : Nat) (spare : Bool) (z : Nat) : Option (Nat × Nat × Nat × Loc) :=
  match s.zonePlace v spare z with
  | none => none
  | some (g, b, w) =>
    (s.readLoc g b (w * s.puOf (s.sset g).family (s.sset g).mode) (s.posIn g v)).map (fun l => (g, b, w, l))

/-- Is a zone's sample due? (DESIGN CHOICE, log entry 141). -/
def State.sampleDue (s : State) (v : Nat) (spare : Bool) (z : Nat) : Bool :=
  let y := (s.lev v spare).zone z
  !y.suspect && (y.due || decide (y.lastSample + 2 ^ (s.getL F.CAL_CTRL.SAMPLE_EXP + 12) ≤ s.tickno)) &&
    !s.bursts.any (fun e => e.2.vdie == v && e.2.spare == spare && e.2.zone == z) && (s.zoneLoc v spare z).isSome

/-- LEVEL_SAMPLE: the sample of the first zone that is due begins. -/
def execLevelSample (s : State) : Host.Outcome State Fault Refusal :=
  .next (if !s.peRuns || s.flagL F.CAL_CTRL.HOLD then s
    else match s.allZones.find? (fun e => s.sampleDue e.1 e.2.1 e.2.2) with
      | none => s
      | some (v, spare, z) =>
        match s.zoneLoc v spare z with
        | none => s
        | some (g, b, w, l) =>
          let y := (s.lev v spare).zone z
          let plane := y.plane % max 1 (s.sset g).planes
          let s := s.setLev v spare ((s.lev v spare).setZone z { y with plane := plane + 1 })
          (s.peStep 5).startBurst v spare z false none g b w plane l)

/-- May a search of a zone start: due, on an idle die, its set with headroom and no other member in a burst (R394, R398)? -/
def State.searchOk (s : State) (v : Nat) (spare : Bool) (z : Nat) : Bool :=
  let y := (s.lev v spare).zone z
  let g := nsSet (vdieNs v) (s.vdie v).set
  y.search && decide (y.retry ≤ s.tickno) && decide (1 ≤ s.headroom g) &&
    !s.bursts.any (fun e => e.2.exclusive && (e.2.vdie == v || e.2.set == g)) &&
    (match s.zoneLoc v spare z with
     | some (_, _, _, l) => (s.die l.pdie).op.isNone && (s.die l.pdie).read.isNone && (s.die l.pdie).burst.isNone &&
        !s.cws.any (fun e => e.2.pdie == l.pdie && e.2.stage == .want)
     | none => false)

/-- VALLEY_SEARCH: the search of the first zone that may be searched begins. -/
def execValleySearch (s : State) : Host.Outcome State Fault Refusal :=
  .next (if !s.peRuns || s.flagL F.CAL_CTRL.HOLD then s
    else match s.allZones.find? (fun e => s.searchOk e.1 e.2.1 e.2.2) with
      | none => s
      | some (v, spare, z) =>
        match s.zoneLoc v spare z with
        | none => s
        | some (g, b, w, l) => (s.peStep 5).startBurst v spare z true none g b w 0 l)

/-! ## CALIBRATE (R403 to R405) -/

/-- The refusal of a CALIBRATE entry (R404) (DEDUCED, log entry 84). -/
def State.calCheck (s : State) (c : Nat) : Option (Nat × Nat) :=
  let e := (s.ctx c).entry
  let v := s.calVdie c
  let a := entMaddr e
  let fam := (s.vdie v).family
  let mode := s.vdieMode v
  let z := ent e 33 1
  if z ≠ 255 ∧ (15 < z ∨ s.zoneOf fam mode (addrPage a) ≠ z) then some (0x40, 33)
  else if ent e 32 1 = 2 then none
  else
    match s.bandOfBlock v (addrBlock a) with
    | none => some (0x40, 8)
    | some (g, b) =>
      let st := (s.band g b).state
      let pos := s.posIn g v
      let pu := s.puOf (s.sset g).family (s.sset g).mode
      if st ≠ 3 ∧ st ≠ 4 then some (0x31, st)
      else if !(if z = 255 then (List.range 16).all (fun k => s.wlFinished g b pos (s.firstWl (s.sset g).family (s.sset g).mode k))
        else s.wlFinished g b pos (addrPage a / pu)) then some (0x31, 3)
      else none

/-- Starts a CALIBRATE entry of a measuring kind: pending searches of its zones are withdrawn (R399) (DEDUCED, log entry 140). -/
def State.startCal (s : State) (c kind : Nat) : State :=
  if !s.starts c opCALIBRATE || ent (s.ctx c).entry 32 1 != kind then s
  else
    match s.calCheck c with
    | some (st, d) => s.finish c st d 0 0 0
    | none =>
      let e := (s.ctx c).entry
      let v := s.calVdie c
      let spare := s.calSpare v
      let zones := if ent e 33 1 = 255 then List.range 16 else [ent e 33 1]
      let s := s.setCtx c { s.ctx c with state := .running, groups := zones, fields := [], r1 := 0, status := 0 }
      if kind = 2 then
        let x := s.lev v spare
        let n := s.initTable (s.vdie v).family (s.vdieMode v)
        let s := zones.foldl (fun s z =>
          let x := s.lev v spare
          let t := setOffs x.target z ((List.range 15).map (fun i => offAt n z i))
          s.setLev v spare ({ x with target := t, crcT := tableCrc t }.setZone z
            { x.zone z with suspect := false, run := 0, search := false, outcome := 1 })) (s.setLev v spare x)
        let s := s.suspectReg
        let s := zones.foldl (fun s z =>
          let t := (List.range 15).map (fun i => offAt n z i)
          s.calZone c z t t 1 false) s
        s.calEnd c
      else
        let s := zones.foldl (fun s z =>
          let x := s.lev v spare
          s.setLev v spare (x.setZone z { x.zone z with search := false })) s
        s.calNext c

/-- CALIBRATE KIND 0. -/
def execCalibrateSample (ctx : Nat) (s : State) : Host.Outcome State Fault Refusal := .next (s.startCal ctx 0)
/-- CALIBRATE KIND 1. -/
def execCalibrateSearch (ctx : Nat) (s : State) : Host.Outcome State Fault Refusal := .next (s.startCal ctx 1)
/-- CALIBRATE KIND 2. -/
def execCalibrateReset (ctx : Nat) (s : State) : Host.Outcome State Fault Refusal := .next (s.startCal ctx 2)

/-! ## Decoder self-test (R366 to R370) -/

/-- Decoders, spare included, are numbered from 0: the hard ones, their spare, the soft ones, their spare. -/
def State.hardNo (s : State) : Nat := s.build.hard + 1
def State.softNo (s : State) : Nat := s.build.soft + 1
/-- The retired bit of a decoder: the hard ones in bits 48 to 0, the soft ones in bits 61 to 49. -/
def State.decBit (s : State) (d : Nat) : Field :=
  if d < s.hardNo then Field.mk 0xD0410 d d else Field.mk 0xD0410 (49 + d - s.hardNo) (49 + d - s.hardNo)
def State.decRetired (s : State) (d : Nat) : Bool := s.flag (s.decBit d)
/-- Is it the spare of its kind? -/
def State.isSpareDec (s : State) (d : Nat) : Bool := d + 1 == s.hardNo || d + 1 == s.hardNo + s.softNo
/-- Its number within its kind. -/
def State.decIx (s : State) (d : Nat) : Nat := if d < s.hardNo then d else d - s.hardNo
/-- Does the spare of the kind of `d` stand in for a retired decoder? -/
def State.spareTaken (s : State) (d : Nat) : Bool :=
  if d < s.hardNo then s.flag F.DEC_POOL.HSPARE_RET else s.flag F.DEC_POOL.SSPARE_RET

/-- Begins the test of one decoder: the spare stands in for it where it can (R367). -/
def State.testDecoder (s : State) (d : Nat) (again : Bool) : State :=
  let s := { s with decs := { s.decs with cur := some d, again := again, tests := (s.decs.tests + 1) % 2 ^ 32 } }
  let s := s.setF F.DEC_TEST.BUSY 1
  if s.isSpareDec d then s
  else if s.spareTaken d then
    (if again then s
     else if d < s.hardNo then s.setF F.DEC_POOL.HARD_ACTIVE (s.getF F.DEC_POOL.HARD_ACTIVE - 1)
     else s.setF F.DEC_POOL.SOFT_ACTIVE (s.getF F.DEC_POOL.SOFT_ACTIVE - 1))
  else if s.decRetired (if d < s.hardNo then s.hardNo - 1 else s.hardNo + s.softNo - 1) then
    (if again then s
     else if d < s.hardNo then s.setF F.DEC_POOL.HARD_ACTIVE (s.getF F.DEC_POOL.HARD_ACTIVE - 1)
     else s.setF F.DEC_POOL.SOFT_ACTIVE (s.getF F.DEC_POOL.SOFT_ACTIVE - 1))
  else if d < s.hardNo then (s.setF F.DEC_POOL.HSPARE_TEST 1).setF F.DEC_POOL.HARD_FOR (s.decIx d)
  else (s.setF F.DEC_POOL.SSPARE_TEST 1).setF F.DEC_POOL.SOFT_FOR (s.decIx d)

/-- The stand-in of a test ends: the spare is free again, or the pool has its decoder back. -/
def State.testOver (s : State) (d : Nat) : State :=
  let s := s.setF F.DEC_TEST.BUSY 0
  if s.isSpareDec d then s
  else if d < s.hardNo then
    (if s.flag F.DEC_POOL.HSPARE_TEST then (s.setF F.DEC_POOL.HSPARE_TEST 0).setF F.DEC_POOL.HARD_FOR 0
     else s.setF F.DEC_POOL.HARD_ACTIVE (s.getF F.DEC_POOL.HARD_ACTIVE + 1))
  else
    (if s.flag F.DEC_POOL.SSPARE_TEST then (s.setF F.DEC_POOL.SSPARE_TEST 0).setF F.DEC_POOL.SOFT_FOR 0
     else s.setF F.DEC_POOL.SOFT_ACTIVE (s.getF F.DEC_POOL.SOFT_ACTIVE + 1))

/-- Retires a decoder that failed twice: the spare takes its place where it is free, else the active count falls (R368). -/
def State.retireDecoder (s : State) (d : Nat) : State :=
  let s := (s.setF (s.decBit d) 1).raise Ev.decoderRetired
  let spare := if d < s.hardNo then s.hardNo - 1 else s.hardNo + s.softNo - 1
  if s.isSpareDec d then s
  else if s.spareTaken d ∨ s.decRetired spare then
    (if d < s.hardNo then s.setF F.DEC_POOL.HARD_ACTIVE (s.getF F.DEC_POOL.HARD_ACTIVE - 1)
     else s.setF F.DEC_POOL.SOFT_ACTIVE (s.getF F.DEC_POOL.SOFT_ACTIVE - 1))
  else if d < s.hardNo then (s.setF F.DEC_POOL.HSPARE_RET 1).setF F.DEC_POOL.HARD_FOR (s.decIx d)
  else (s.setF F.DEC_POOL.SSPARE_RET 1).setF F.DEC_POOL.SOFT_FOR (s.decIx d)

/-- May a decoder be tested: not retired, and a spare only while it stands in for none? -/
def State.mayTest (s : State) (d : Nat) : Bool :=
  !s.decRetired d && !(s.isSpareDec d && s.spareTaken d)

/-- Order of the periodic test: hard decoders, soft decoders, then the spares (R369). -/
def State.testOrder (s : State) : List Nat :=
  List.range s.build.hard ++ (List.range s.build.soft).map (· + s.hardNo) ++ [s.hardNo - 1, s.hardNo + s.softNo - 1]

/-- DECODER_TEST: PERIOD ticks after the last one, the next decoder in turn is tested. -/
def execDecoderTest (s : State) : Host.Outcome State Fault Refusal :=
  .next (let p := s.getF F.DEC_TEST.PERIOD
    if !s.awake || s.pfail || s.peHalted || s.decs.cur.isSome || p == 0 || decide (s.tickno < s.decs.lastTick + p) then s
    else
      let l := s.testOrder
      let turn := (l.drop s.decs.nextUp) ++ l.take s.decs.nextUp
      match turn.find? s.mayTest with
      | none => s
      | some d =>
        let s := { s with decs := { s.decs with
          nextUp := (((l.findIdx? (· == d)).getD 0) + 1) % l.length, lastTick := s.tickno, ctx := none } }
        (s.peStep 8).testDecoder d false)

/-- Goes on with a SELF_TEST entry: its next decoder, or its results (R370). -/
def State.selfNext (s : State) (c : Nat) : State :=
  match s.decs.todo with
  | d :: rest => { s with decs := { s.decs with todo := rest, ctx := some c } }.testDecoder d false
  | [] =>
    let k := s.decs
    let s := { s with decs := { k with ctx := none, tested := 0, failed := 0, retired := 0 } }
    s.finish c (if k.failed = 0 then 0 else 0x20) 0 k.failed k.tested k.retired

/-- Starts the next waiting SELF_TEST entry, in admission order. -/
def State.selfPump (s : State) : State :=
  if s.decs.cur.isSome ∨ s.decs.ctx.isSome then s
  else
    let l := (s.ctxs.filter (fun e => e.2.state == .running && entOp e.2.entry == opSELFTEST)).mergeSort
      (fun a b => decide (a.2.admSeq ≤ b.2.admSeq))
    match l with
    | [] => s
    | (c, x) :: _ => { s with decs := { s.decs with todo := x.waitsFor, ctx := some c, tested := 0, failed := 0, retired := 0 } }.selfNext c

/-- DECODER_TEST_DONE: a first failure repeats the test at once; a second retires the decoder. -/
def execDecoderTestDone (pass : Bool) (s : State) : Host.Outcome State Fault Refusal :=
  .next (match s.decs.cur with
    | none => s
    | some d =>
      if !s.awake then s
      else if !pass && !s.decs.again then
        (let n := satAdd 32 s.decs.testFails 1
         let s := s.noteSat s.decs.testFails n (2 ^ 32 - 1)
         { s with decs := { s.decs with testFails := n } }.testDecoder d true)
      else
        let n := if pass then s.decs.testFails else satAdd 32 s.decs.testFails 1
        let s := s.noteSat s.decs.testFails n (2 ^ 32 - 1)
        let s := { s with decs := { s.decs with cur := none, again := false, testFails := n } }
        let s := s.testOver d
        let s := if pass then s else s.retireDecoder d
        match s.decs.ctx with
        | some c =>
          let s := { s with decs := { s.decs with
            tested := s.decs.tested + 2 ^ s.decIx d
            failed := s.decs.failed + (if pass then 0 else 2 ^ s.decIx d)
            retired := s.decs.retired + (if pass then 0 else 1) } }
          (s.selfNext c).selfPump
        | none => s.selfPump)

/-- Starts a SELF_TEST entry of a unit. -/
def State.startSelf (s : State) (c unit : Nat) : State :=
  if !s.starts c opSELFTEST || ent (s.ctx c).entry 32 1 != unit then s
  else
    let ix := ent (s.ctx c).entry 33 1
    let lo := if unit = 1 then 0 else s.hardNo
    let n := if unit = 1 then s.hardNo else s.softNo
    let all := (List.range n).map (· + lo)
    if ix ≠ 255 ∧ (n ≤ ix ∨ s.decRetired (lo + ix)) then s.finish c 0x40 33 0 0 0
    else
      let l := if ix = 255 then all.filter s.mayTest else [lo + ix].filter s.mayTest
      (s.setCtx c { s.ctx c with state := .running, waitsFor := l }).selfPump

/-- SELF_TEST UNIT 0x01. -/
def execSelfTestHard (ctx : Nat) (s : State) : Host.Outcome State Fault Refusal := .next (s.startSelf ctx 1)
/-- SELF_TEST UNIT 0x02. -/
def execSelfTestSoft (ctx : Nat) (s : State) : Host.Outcome State Fault Refusal := .next (s.startSelf ctx 2)

end Sys2Proof.Machine
end

