-- ==== Sys2Proof/Machine/Abort.lean ====
section
/-! DEFINITION. Fences (R277) and the end of entries that are stopped: queue shutdown by Table 7-10, the voiding of placed tiles by
Table 8-6. -/

namespace Sys2Proof.Machine

/-! ## FENCE (R277) -/

/-- Was this context admitted, and has its completion not yet been written or discarded? -/
def Ctx.admitted (x : Ctx) : Bool := x.state != .free && x.admSeq != 0

/-- The contexts a FENCE waits for: those admitted before it from its queue, or with `owner` from every queue of its owner. -/
def State.fenceWaits (s : State) (c : Nat) (owner : Bool) : List Nat :=
  let x := s.ctx c
  (s.ctxs.filter (fun e => e.1 != c && e.2.admitted && decide (e.2.admSeq < x.admSeq) &&
    (if owner then s.getF (F.GNT_QATTR.OWNER e.2.queue) == s.getF (F.GNT_QATTR.OWNER x.queue) else e.2.queue == x.queue))).map (·.1)

/-- Starts a FENCE; with nothing to wait for it is ready at once (DEDUCED, log entry 88). -/
def State.startFence (s : State) (c : Nat) (owner : Bool) : State :=
  let l := s.fenceWaits c owner
  if l = [] then s.finish c (s.queue (s.ctx c).queue).abort 0 0 0 0
  else s.setCtx c { s.ctx c with state := .running, waitsFor := l }

/-- FENCE SCOPE 0. -/
def execFenceQueue (ctx : Nat) (s : State) : Host.Outcome State Fault Refusal :=
  .next (if s.starts ctx opFENCE && ent (s.ctx ctx).entry 32 1 == 0 then s.startFence ctx false else s)
/-- FENCE SCOPE 1. -/
def execFenceOwner (ctx : Nat) (s : State) : Host.Outcome State Fault Refusal :=
  .next (if s.starts ctx opFENCE && ent (s.ctx ctx).entry 32 1 == 1 then s.startFence ctx true else s)

/-! ## Stopping media work of an entry -/

/-- The codeword reads of an entry: its tiles, raw slots, images and checks. -/
def CwFor.ofCtx (c : Nat) : CwFor → Bool
  | .tile k _ => k == c
  | .raw k _ => k == c
  | .image k _ => k == c
  | .check k _ _ => k == c
  | _ => false

/-- Drops an entry's codeword reads, with their helpers, and its bursts and decoder tests. -/
def State.stopReads (s : State) (c : Nat) : State :=
  let own := (s.cws.filter (fun e => e.2.use.ofCtx c)).map (·.1)
  let bs := (s.bursts.filter (fun e => e.2.ctx == some c)).map (·.1)
  let s : State := { s with
    cws := s.cws.filter (fun e => !own.contains e.1 && (match e.2.use with
      | .helper p _ => !own.contains p
      | .burst n _ => !bs.contains n
      | _ => true))
    bursts := s.bursts.filter (fun e => !bs.contains e.1)
    dies := s.dies.map (fun (e : Nat × Die) => match e.2.burst with
      | some n => if bs.contains n then (e.1, { e.2 with burst := none }) else e
      | none => e) }
  if s.decs.ctx = some c then { s with decs := { s.decs with ctx := none, todo := [], tested := 0, failed := 0, retired := 0 } } else s

/-- The data requests of an entry are abandoned (R282). -/
def State.stopData (s : State) (c : Nat) : State :=
  s.fabAbandon (fun w => match w with
    | .table k _ => k == c
    | .tileIn k _ => k == c
    | .tileOut k _ => k == c
    | .statusArray k => k == c
    | .result k => k == c
    | .members k => k == c
    | _ => false)

/-! ## Voiding placed tiles (Table 8-6) -/

/-- A slot becomes VOID after its row has left the resident rows, or within one. -/
def State.voidLate (s : State) (g b boi : Nat) : State :=
  let s := s.voidSlot g b boi
  let x := s.band g b
  s.setBand g b { x with voids := if x.voids.contains boi then x.voids else x.voids ++ [boi] }

/-- What voiding a placed tile needs now: 0 the page's program must end first, 1 it can be voided at once, 2 a correction record comes
first. -/
def State.voidWay (s : State) (g b boi : Nat) : Nat :=
  let d := s.sset g
  match (s.wband g b).rowAt (d.rowOf boi) with
  | none => 2
  | some r =>
    if r.par = 1 then 2
    else
      let begun (pos : Nat) : Bool := s.progs.any (fun e => e.2.set == g && e.2.band == b && e.2.row == r.row && e.2.pos == pos &&
        (e.2.running || decide (0 < e.2.input)))
      let parBegun := begun (pPos d.w r.row) || (d.level == 2 && begun (qPos d.w r.row)) ||
        cnt r.pages (pPos d.w r.row) == 2 || (d.level == 2 && cnt r.pages (qPos d.w r.row) == 2)
      if parBegun ∨ begun (d.boiPos boi) then 0 else 1

/-- Takes back a page program that has not begun, so that the page is prepared again (DEDUCED, log entry 145). -/
def State.unready (s : State) (g b row pos : Nat) : State :=
  let mine (p : Prog) : Bool := p.set == g && p.band == b && p.row == row && p.pos == pos && !p.running && p.input == 0 &&
    (match p.use with | .data => true | .parity _ => true | _ => false)
  if s.progs.any (fun e => mine e.2) then
    let s := { s with progs := s.progs.filter (fun e => !mine e.2) }
    match (s.wband g b).rowAt row with
    | some r => s.setWband g b ((s.wband g b).setRow { r with pages := storePut (fun _ => 0) r.pages pos 0 })
    | none => s
  else s

/-- Voids one placed tile whose row's parity has not begun: folded out, the waiting programs of its page and of the parity prepared
anew. -/
def State.voidNow (s : State) (g b boi : Nat) : State :=
  let d := s.sset g
  let row := d.rowOf boi
  let s := s.voidSlot g b boi
  let s := s.unready g b row (d.boiPos boi)
  let s := s.unready g b row (pPos d.w row)
  let s := if d.level = 2 then s.unready g b row (qPos d.w row) else s
  s.journalAdd (nsOf g) [jVoids g b boi 1]

/-- Sets the state of tile `i` of an aborted entry: 0 void, 1 kept, 2 its image is being read, 3 its record is under way. -/
def State.markTile (s : State) (c i v : Nat) : State :=
  let x := s.ctx c
  s.setCtx c { x with tiles := x.tiles.set i { x.tiles.getD i TileJob.blank with status := some v } }

/-- Writes the correction record of a placed tile (R120). -/
def State.correct (s : State) (g b boi : Nat) (img : List Byte) : State :=
  let d := s.sset g
  let r := d.pos boi
  s.journalAdd (nsOf g) [jCorrection g r.d b r.row r.plane r.slot boi img, jVoids g b boi 1]

/-- The class of voiding work: U within a hand-over or recovery (R120). -/
def State.abortCls (s : State) (g : Nat) : Nat := s.bandCls g

/-- Carries the voiding of tile `i` of an aborted entry as far as it goes. -/
def State.abortTile (s : State) (c i : Nat) : State :=
  let x := s.ctx c
  let t := x.tiles.getD i TileJob.blank
  let g := s.destSet c
  let b := s.destBand c
  if t.status.isSome then s
  else if (s.band g b).voids.contains t.boi then s.markTile c i 0
  else match s.voidWay g b t.boi with
    | 0 => s
    | 1 => (s.voidNow g b t.boi).markTile c i 0
    | _ =>
      let d := s.sset g
      let buf := match (s.wband g b).rowAt (d.rowOf t.boi) with
        | some r => (storeGet (fun _ => Slot.empty) r.slots (t.boi - d.rowBoi r.row)).buf
        | none => none
      match buf with
      | some tile => (s.correct g b t.boi (s.imageAt g b t.boi tile)).markTile c i 3
      | none =>
        let p := d.pos t.boi
        let k := p.plane * d.slots + p.slot
        (s.addCw (s.rowCw (.image c i) (s.abortCls g) 0 6 g b p.row (d.boiPos t.boi) k)).markTile c i 2

/-- An aborted entry whose every placed tile is void or kept has its completion journaled with them (R321, R322, R449). -/
def State.abortDone (s : State) (c : Nat) : State :=
  let x := s.ctx c
  let l := x.tiles.take x.placed
  if x.state = .running ∧ x.aborting ≠ 0 ∧ !x.voided ∧ l.all (fun t => t.status == some 0 || t.status == some 1) then
    let s := s.setCtx c { x with voided := true }
    s.journalAdd (nsOf (s.destSet c)) [jFinish c x.aborting (if l.any (fun t => t.status == some 1) then 1 else 0) 0]
  else s

/-- Carries every aborted entry of a band on: after pages and parity have programmed, and after records have committed. -/
def State.abortPump (s : State) (g b : Nat) : State :=
  s.ctxs.foldl (fun s e =>
    let x := s.ctx e.1
    if x.state = .running ∧ x.aborting ≠ 0 ∧ !x.voided ∧ x.placed ≠ 0 ∧ s.destSet e.1 = g ∧ s.destBand e.1 = b then
      ((List.range x.placed).foldl (fun s i => s.abortTile e.1 i) s).abortDone e.1
    else s) s

/-- The image of a placed tile could not be had at all: the slot is kept, and the log says so (Table 8-6). `reason` as in SLOT_KEPT. -/
def State.slotKept (s : State) (c i reason : Nat) : State :=
  let x := s.ctx c
  let t := x.tiles.getD i TileJob.blank
  let s := s.logWrite 0x0013 1 (leBytes 8 (bandAddr (s.destSet c % 256) (s.destBand c) t.boi) ++ leBytes 2 x.queue ++
    leBytes 2 (entCid x.entry) ++ leBytes 1 reason)
  (s.markTile c i 1).abortDone c

/-! ## Ending one entry (Table 7-10) -/

/-- Does an admitted entry of this opcode run to its end in a shutdown? -/
def runsOn (op : Nat) : Bool :=
  op == opERASE || op == opOPEN || op == opCLOSE || op == opVDIE || op == opSETTIME || op == opPOWER

/-- Ends one entry with an abort status: 0x0010, 0x0011, 0x0012, or the status of a failed fabric access (R285) (DEDUCED, log entry 87). -/
def State.abortEntry (s : State) (c status : Nat) : State :=
  let x := s.ctx c
  let op := entOp x.entry
  match x.state with
  | .free => s
  | .ready => s
  | .tables => (s.stopData c).finish c status 0 0 0 0
  | .waiting => s.finish c status 0 0 0 0
  | _ =>
    if runsOn op && status < 0x50 then s
    else if op = opFENCE then
      (if x.state = .admitted then s.startFence c (ent x.entry 32 1 == 1) else s)
    else
      let s := (s.stopReads c).stopData c
      if (op = opWRITE ∨ op = opCOPY) ∧ x.state = .running ∧ x.aborting = 0 ∧ !x.voided then
        let g := s.destSet c
        let b := s.destBand c
        if x.placed = 0 then ((s.releaseBufs c).leaveBand c).finish c status 0 0 0 0
        else
          let s := (s.setCtx c { x with
            ended := true, aborting := status
            tiles := x.tiles.map (fun (t : TileJob) => { t with status := none }) }).releaseBufs c
          (((s.leaveBand c).abortPump g b).writePump g b).abortPump g b
      else if op = opWRITE ∨ op = opCOPY then (if x.state = .running then s else s.finish c status 0 0 0 0)
      else s.finish c status 0 0 0 0

/-- Ends every entry of a queue, in the order of fetch. -/
def State.abortQueue (s : State) (q status : Nat) : State :=
  let l := (s.ctxsOf q).mergeSort (fun a b => decide (a.2.seq ≤ b.2.seq))
  let s := l.foldl (fun s e => s.abortEntry e.1 status) s
  if s.qState q = 2 ∧ s.ctxsOf q = [] then s.setF (F.WQ_STATUS.STATE q) 0 else s

/-- Stops an ENABLED or ERROR queue (R281): no more polling, fetch or arbitration; prefetched copies are discarded; its entries end with
`status`. -/
def State.stopQueue (s : State) (q status : Nat) (discard : Bool) : State :=
  if s.qState q = 1 ∨ s.qState q = 3 then
    let s := s.setF (F.WQ_STATUS.STATE q) 2
    let x := s.queue q
    let s := s.setQueue q { x with
      abort := status, discard := discard, shutTick := s.tickno, copies := [], fetchPos := s.getF (F.WQ_STATUS.SQ_CI q), idxMsg := none }
    let s := s.fabAbandon (fun w => match w with | .fetch k _ => k == q | .poll k => k == q | _ => false)
    s.abortQueue q status
  else s

/-- QUEUE_SHUTDOWN, through the register window or BAR0. -/
def execQueueShutdown (bar : Bool) (q : Nat) (s : State) : Host.Outcome State Fault Refusal :=
  .next (if s.qWriteOk bar true q then
      (if s.asleep then
        s.holdWrite (HeldWrite.mk (if bar then 1 else 0) 0 (0x40028 + 0x40 * q) 4 2#64)
       else s.stopQueue q 0x10 (s.flag (F.WQ_CTRL.DISCARD q)))
    else s)

end Sys2Proof.Machine
end

