-- ==== Sys2Proof/Machine/Bch.lean ====
section
/-! DEFINITION. The BCH code of the configuration store's records (R543): GF(2^16), the parity of a record, and the correction of up to
eight bit errors. -/

namespace Sys2Proof.Machine

/-- Multiplication in GF(2^16) with x^16 + x^12 + x^3 + x + 1. -/
def gf16Loop (b : Nat) : Nat → Nat → Nat → Nat → Nat
  | 0, _, _, r => r
  | n + 1, i, a, r =>
    gf16Loop b n (i + 1) (if 2 ^ 15 ≤ a then (2 * a) ^^^ 0x1100B else 2 * a) (if b.testBit i then r ^^^ a else r)
def gf16Mul (a b : Nat) : Nat := gf16Loop b 16 0 a 0
/-- a to the power of `e`, the low `n` bits of which count. -/
def gf16PowLoop (e : Nat) : Nat → Nat → Nat → Nat → Nat
  | 0, _, _, r => r
  | n + 1, i, a, r => gf16PowLoop e n (i + 1) (gf16Mul a a) (if e.testBit i then gf16Mul r a else r)
def gf16Pow (a e : Nat) : Nat := gf16PowLoop e 16 0 a 1
def gf16Inv (a : Nat) : Nat := gf16Pow a 65534

/-- The low 128 coefficients of g(x), the product of the minimal polynomials of α, α^3, …, α^15. -/
def bchG : Nat := 0x5237a63bb9b53d9fa0a5b3deedc49d85

/-- The bits of bytes in falling order of powers. -/
def polyBits (m : List Byte) : List Bool := (m.map (fun b => (List.range 8).map (fun i => b.toNat.testBit i))).flatten
/-- The remainder of m(x) × x^128 by g(x). -/
def bchRem (bits : List Bool) : Nat :=
  bits.foldl (fun r b =>
    let r' := (2 * r) % 2 ^ 128
    if r.testBit 127 != b then r' ^^^ bchG else r') 0
/-- The 16 parity bytes of 240 bytes. -/
def bchParity (m : List Byte) : List Byte :=
  let p := bchRem (polyBits m)
  (List.range 16).map (fun k => BitVec.ofNat 8 ((List.range 8).foldl (fun a b => a + (if p.testBit (127 - 8 * k - b) then 2 ^ b else 0)) 0))

/-- c(α^j) of a codeword by its bits. -/
def bchSyndrome (bits : List Bool) (j : Nat) : Nat :=
  let a := gf16Pow 2 j
  bits.foldl (fun s b => gf16Mul s a ^^^ (if b then 1 else 0)) 0

/-- A polynomial over GF(2^16) shifted by `m` and scaled, added to another. -/
def gfAddScaled (c b : List Nat) (f m : Nat) : List Nat :=
  (List.range (max c.length (b.length + m))).map (fun i =>
    c.getD i 0 ^^^ (if i < m then 0 else gf16Mul f (b.getD (i - m) 0)))

/-- The Berlekamp–Massey iteration over the syndromes: the error locator and its length. -/
def bchLocate (syn : List Nat) : Nat → Nat → List Nat → List Nat → Nat → Nat → Nat → List Nat × Nat
  | 0, _, c, _, l, _, _ => (c, l)
  | fuel + 1, n, c, b, l, m, q =>
    let d := (List.range l).foldl (fun a i => a ^^^ gf16Mul (c.getD (i + 1) 0) (syn.getD (n - (i + 1)) 0)) (syn.getD n 0)
    if d = 0 then bchLocate syn fuel (n + 1) c b l (m + 1) q
    else
      let c' := gfAddScaled c b (gf16Mul d (gf16Inv q)) m
      if 2 * l ≤ n then bchLocate syn fuel (n + 1) c' c (n + 1 - l) 1 d
      else bchLocate syn fuel (n + 1) c' b l (m + 1) q

/-- The powers at which a codeword is wrong: those i whose α^-i is a root of the locator. -/
def bchRoots (c : List Nat) : List Nat :=
  (List.range 2048).filter (fun i =>
    let x := gf16Pow 2 ((65535 - i) % 65535)
    c.foldr (fun a s => gf16Mul s x ^^^ a) 0 == 0)

/-- Decodes a record of 256 bytes: its bytes corrected and the number of bits corrected, or none beyond eight errors. -/
def bchDecode (m : List Byte) : Option (List Byte × Nat) :=
  if m.length ≠ 256 then none
  else
    let bits := polyBits m
    let syn := (List.range 16).map (fun j => bchSyndrome bits (j + 1))
    if syn.all (· == 0) then some (m, 0)
    else
      let r := bchLocate syn 16 0 [1] [1] 0 1 1
      let e := bchRoots r.1
      if 8 < r.2 ∨ e.length ≠ r.2 then none
      else
        let flip (k : Nat) (b : Byte) : Byte :=
          BitVec.ofNat 8 ((List.range 8).foldl (fun a i => if e.contains (2047 - 8 * k - i) then a ^^^ 2 ^ i else a) b.toNat)
        some ((List.range 256).map (fun k => flip k (m.getD k 0#8)), r.2)

/-- A record with its CRC and parity (Table 16-6); the payload is 236 bytes. -/
def recordBytes (payload : List Byte) : List Byte :=
  let b := payload ++ leBytes 4 (crc32c payload).toNat
  b ++ bchParity b
/-- The payload of a valid record and the number of bits corrected (R544). -/
def recordRead (m : List Byte) : Option (List Byte × Nat) :=
  match bchDecode m with
  | some (b, n) => if (crc32c (b.take 236)).toNat = leNat ((b.drop 236).take 4) then some (b.take 236, n) else none
  | none => none

end Sys2Proof.Machine
end

