-- ==== Sys2Proof/Machine/Image.lean ====
section
/-! DEFINITION. The bytes of the configuration store (R533, R536), and the Sweind image: header, directory, sections and parameters (R538 to
R541, R652). -/

namespace Sys2Proof.Machine

/-! ## NOR bytes -/

/-- An erased NOR byte (DESIGN CHOICE, log entry 10). -/
def norBlank : Nat → Byte := fun _ => 0xFF#8
/-- `n` bytes of the NOR from offset `o`. -/
def State.norRead (s : State) (o n : Nat) : List Byte := (List.range n).map (fun i => storeGet norBlank s.cfs.mem (o + i))
def State.setNor (s : State) (m : Store Byte) : State := { s with cfs := { s.cfs with mem := m } }
/-- Puts bytes, whatever was there. -/
def norPut (m : Store Byte) : Nat → List Byte → Store Byte
  | _, [] => m
  | o, b :: rest => norPut (storePut norBlank m o b) (o + 1) rest
/-- Programs bytes: programming only clears bits. -/
def norClear (m : Store Byte) : Nat → List Byte → Store Byte
  | _, [] => m
  | o, b :: rest => norClear (storePut norBlank m o (storeGet norBlank m o &&& b)) (o + 1) rest
/-- Erases the 4-KiB sector at `o`. -/
def norWipe (m : Store Byte) (o : Nat) : Store Byte := m.filter (fun e => decide (e.1 < o) || decide (o + 4096 ≤ e.1))
/-- `n` bytes that nothing determines. -/
def State.freeBytes (s : State) (n : Nat) : List Byte := (List.range n).map (fun i => (Config.freeValue (s.draws + i)).setWidth 8)
def State.drawMany (s : State) (n : Nat) : State := { s with draws := s.draws + n }

/-! ## The store map (Table 16-1) -/

/-- SLOT in bytes for a device of `mib` MiB. -/
def slotOf (mib : Nat) : Nat := min 0x800000 (mib * 0x100000 / 16)
def State.slotBytes (s : State) : Nat := slotOf (s.getF F.CFS_DEV.SIZE_MIB)
/-- The NOR offset of slot A or B. -/
def State.slotAt (s : State) (b : Bool) : Nat := 0x100000 + (if b then s.slotBytes else 0)
/-- Where the record area starts, and its sectors. -/
def State.recordBase (s : State) : Nat := 0x100000 + 2 * s.slotBytes
def State.ring (s : State) : Nat := (s.getF F.CFS_DEV.SIZE_MIB * 0x100000 - s.recordBase) / 4096
/-- The layout descriptor of a device (Table 16-2). -/
def layoutBytes (mib : Nat) : List Byte :=
  let b := leBytes 4 0x4C595A44 ++ leBytes 2 1 ++ leBytes 2 0 ++ leBytes 4 mib ++ leBytes 4 (slotOf mib / 1024) ++
    leBytes 4 ((mib * 0x100000 - (0x100000 + 2 * slotOf mib)) / 4096)
  b ++ leBytes 4 (crc32c b).toNat
/-- Is the store formatted (R537)? -/
def State.formattedNow (s : State) : Bool :=
  let b := s.norRead 0 24
  field b 0 4 == 0x4C595A44 && field b 4 2 == 1 && field b 20 4 == (crc32c (b.take 20)).toNat &&
    field b 8 4 == s.getF F.CFS_DEV.SIZE_MIB

/-! ## Sections and parameters -/

/-- A section of an image: type, family, bytes. -/
structure Section where
  type : Nat
  family : Nat
  bytes : List Byte
deriving DecidableEq, Repr

/-- The sections of an image whose header, directory and check words are correct, for a limit of its SIZE; none otherwise. -/
def imageSections (m : List Byte) (limit : Nat) : Option (List Section) :=
  let n := field m 6 2
  let size := field m 8 4
  let dir := slice m 64 (16 * n)
  if field m 0 4 ≠ 0x44575753 ∨ field m 4 2 ≠ 3 ∨ n = 0 ∨ 255 < n ∨ limit < size ∨ size < 64 + 16 * n ∨
      field m 60 4 ≠ (crc32c (m.take 60 ++ dir)).toNat then none
  else
    let ents := (List.range n).map (fun i => slice dir (16 * i) 16)
    let ok (e : List Byte) : Bool :=
      decide (field e 4 4 + field e 8 4 ≤ size) && (crc32c (slice m (field e 4 4) (field e 8 4))).toNat == field e 12 4
    if ents.all ok then some (ents.map (fun e => Section.mk (field e 0 2) (field e 2 1) (slice m (field e 4 4) (field e 8 4)))) else none

/-- The elements of a parameter entry. -/
def elemsOf (size : Nat) : Nat → List Byte → List Nat
  | 0, _ => []
  | n + 1, m => leNat (m.take size) :: elemsOf size n (m.drop size)
/-- The parameter entries of a section; reading ends at the first that does not fit. -/
def sectionParams (type family : Nat) : Nat → List Byte → List Param
  | 0, _ => []
  | fuel + 1, m =>
    let cnt := field m 4 2
    let size := field m 6 2
    let len := 8 + (cnt * size + 3) / 4 * 4
    if m.length < 8 ∨ m.length < 8 + cnt * size ∨ !(size == 1 || size == 2 || size == 4 || size == 8) then []
    else Param.mk type family (field m 0 4) size (elemsOf size cnt (m.drop 8)) :: sectionParams type family fuel (m.drop len)
/-- The routines of a microcode section (R540): the routine number as identifier, the 15 costs, then the words. -/
def sectionRoutines (family : Nat) : Nat → List Byte → List Param
  | 0, _ => []
  | fuel + 1, m =>
    let words := field m 2 2
    let len := 34 + 4 * words
    if m.length < len then []
    else Param.mk 0x11 family (field m 0 1) 4 (elemsOf 2 15 (m.drop 4) ++ elemsOf 4 words (m.drop 34)) ::
      sectionRoutines family fuel (m.drop len)
/-- Every parameter and routine of an image. -/
def imageParams (l : List Section) : List Param :=
  (l.map (fun e =>
    if e.type = 0x11 then sectionRoutines e.family e.bytes.length e.bytes
    else if e.type = 1 ∨ e.type = 2 ∨ e.type = 3 then sectionParams e.type 0xFF e.bytes.length e.bytes
    else if 0x10 ≤ e.type ∧ e.type ≤ 0x14 then sectionParams e.type e.family e.bytes.length e.bytes
    else [])).flatten

/-- A parameter of a list of entries. -/
def findParam (l : List Param) (sect family : Nat) (name : String) : Option Param :=
  l.find? (fun p => p.sect == sect && p.family == family && p.id == paramId name)
/-- Is a parameter there with at least `n` elements? -/
def hasParam (l : List Param) (sect family : Nat) (name : String) (n : Nat) : Bool :=
  match findParam l sect family name with
  | some p => decide (n ≤ p.elems.length)
  | none => false

/-- Is the supply section usable (R652)? The rail map gives the quads in use; each has its VCCQ, and its rail group its configuration. -/
def supplyUsable (l : List Param) : Bool :=
  let map := match findParam l 2 0xFF "rail map" with | some p => p.elems | none => []
  let quads := (List.range map.length).filter (fun q => (map.getD q 0).testBit 3)
  map != [] && quads.all (fun q => hasParam l 2 0xFF "VCCQ" (q + 1) &&
    ["NOMINAL_MV", "DROOP_MV", "ENV_MA", "RGSENSE scale"].all (fun n => hasParam l 2 0xFF n (map.getD q 0 % 8 + 1))) &&
    ["HUSENSE scale", "I_CHG", "V_MIN", "V_TOP_MAX", "C_MIN", "C_MAX", "E_BASE", "E_DIE", "E_PAGE"].all (fun n => hasParam l 2 0xFF n 1)

/-- Is a family usable: its sections 0x0010 to 0x0013 are there with what they require (R652)? -/
def familyUsable (l : List Param) (f : Nat) : Bool :=
  let n (kind : Nat) : Bool := l.any (fun p => p.sect == 0x11 && p.family == f && p.id == kind)
  ["READ_ID", "PAGE_SIZE", "SPARE_SIZE", "PLANES", "BLOCKS", "PAGES", "LUNS", "PU", "ORD"].all (fun k => hasParam l 0x10 f k 1) &&
    l.any (fun p => p.sect == 0x12 && p.family == f) && l.any (fun p => p.sect == 0x11 && p.family == f) &&
    hasParam l 0x13 f "t_R" 2 && hasParam l 0x13 f "t_PROG" 2 && hasParam l 0x13 f "t_BERS" 2 && hasParam l 0x13 f "t_MAX" 6 &&
    hasParam l 0x13 f "t_RST" 1 && (!(n 0x0B || n 0x0D) || hasParam l 0x13 f "t_SUSP" 1) &&
    hasParam l 0x13 f "I_FIRST" 8 && hasParam l 0x13 f "I_RUN" 6

/-- Is an image valid for a limit of its SIZE (R541)? -/
def imageOk (m : List Byte) (limit : Nat) : Bool :=
  match imageSections m limit with
  | some l => l.any (fun e => e.type == 1) && l.any (fun e => e.type == 2) && supplyUsable (imageParams l)
  | none => false
/-- The image bytes in a slot, as long as its header says. -/
def State.slotImage (s : State) (b : Bool) : List Byte :=
  let h := s.norRead (s.slotAt b) 64
  s.norRead (s.slotAt b) (max 64 (min s.slotBytes (field h 8 4)))
def State.slotOk (s : State) (b : Bool) : Bool := imageOk (s.slotImage b) s.slotBytes
/-- GENERATION and HCRC of an image. -/
def imageGen (m : List Byte) : Nat := field m 12 4
def imageHcrc (m : List Byte) : Nat := field m 60 4

/-- Puts an image into the staging area and its data tables into force (R211, R214) (DEDUCED, log entry 126). -/
def State.stageImage (s : State) (b : Bool) : State :=
  let m := s.slotImage b
  let s := s.setFlag F.PWR_BOOT_CTRL.STAGED_B b
  match imageSections m s.slotBytes with
  | some l => { s with staging := m, params := imageParams l }
  | none => { s with staging := m, params := [] }

end Sys2Proof.Machine
end

