-- ==== Sys2Proof/Machine/Cfs.lean ====
section
/-! DEFINITION. The configuration store (chapter 16): the erase ledger, the Brim and its records, firmware operations, and the order in which
the port serves them. -/

namespace Sys2Proof.Machine

def State.updCfs (s : State) (f : Cfs → Cfs) : State := { s with cfs := f s.cfs }

/-! ## The ledger (R549, R550) -/

/-- The NOR offset of a ledger entry; ledger sectors are sectors 2 to 255 of the system area. -/
def ledgerAt (sec entry : Nat) : Nat := (2 + sec) * 4096 + 16 * entry
/-- A ledger entry. -/
def ledgerBytes (lseq kind region sector : Nat) : List Byte :=
  let b := leBytes 8 lseq ++ leBytes 1 kind ++ leBytes 1 region ++ leBytes 2 sector
  b ++ leBytes 4 (crc32c b).toNat
/-- Reads an entry: (LSEQ, KIND, REGION, SECTOR); none where it is erased or fails its CRC. -/
def State.ledgerRead (s : State) (sec entry : Nat) : Option (Nat × Nat × Nat × Nat) :=
  let b := s.norRead (ledgerAt sec entry) 16
  if b.all (· == 0xFF#8) ∨ field b 12 4 ≠ (crc32c (b.take 12)).toNat then none
  else some (field b 0 8, field b 8 1, field b 9 1, field b 10 2)
/-- Programs one entry at the ledger's place. -/
def State.ledgerPut (s : State) (kind region sector : Nat) : State :=
  let l := s.cfs.ledger
  s.updCfs (fun c => { c with
    mem := norPut c.mem (ledgerAt l.1 l.2.1) (ledgerBytes l.2.2 kind region sector), ledger := (l.1, l.2.1 + 1, l.2.2 + 1) })
/-- Appends an entry; entries 254 and 255 of a ledger sector hold the erase of the next one, in which the ledger goes on (DESIGN CHOICE, log entry 210). -/
def State.ledgerAdd (s : State) (kind region sector : Nat) : State :=
  let s :=
    if 254 ≤ s.cfs.ledger.2.1 then
      let next := (s.cfs.ledger.1 + 1) % 254
      let s := s.ledgerPut 1 4 next
      let s := s.setNor (norWipe s.cfs.mem (ledgerAt next 0))
      let s := s.ledgerPut 2 4 next
      s.updCfs (fun c => { c with ledger := (next, 0, c.ledger.2.2) })
    else s
  s.ledgerPut kind region sector

/-- The current ledger sector: the one whose entry 0 has the greatest LSEQ. -/
def State.ledgerSector (s : State) : Option Nat :=
  ((List.range 254).foldl (fun (m : Option (Nat × Nat)) k =>
    match s.ledgerRead k 0, m with
    | some e, none => some (e.1, k)
    | some e, some b => if b.1 < e.1 then some (e.1, k) else m
    | none, _ => m) none).map (·.2)
/-- The valid entries of a ledger sector from its first on. -/
def State.ledgerList (s : State) (sec : Nat) : Nat → Nat → List (Nat × Nat × Nat × Nat)
  | 0, _ => []
  | fuel + 1, k =>
    match s.ledgerRead sec k with
    | some e => e :: s.ledgerList sec fuel (k + 1)
    | none => []
/-- The last entry of the record area, in the current ledger sector or one before it in ring order. -/
def State.ledgerRecord (s : State) : Nat → Nat → Option Nat
  | 0, _ => none
  | fuel + 1, sec =>
    match ((s.ledgerList sec 256 0).filter (fun e => e.2.2.1 == 1)).getLast? with
    | some e => some e.2.2.2
    | none => s.ledgerRecord fuel ((sec + 253) % 254)

/-! ## The Brim (R544 to R548) -/

def State.headSec (s : State) : Nat := s.getF F.CFS_BRIM.HEAD
def State.recordAt (s : State) (sec pos : Nat) : List Byte := s.norRead (s.recordBase + 4096 * sec + 256 * pos) 256
def State.ewBits (s : State) : Nat := max 1 (min 8 (s.getF F.CFS_CLK.EW_BITS))
/-- The kinds of Table 16-7. -/
def kindDefined (k : Nat) : Bool := k == 0 || k == 1 || (0x80 ≤ k && k ≤ 0x8F)
/-- The kind of a payload. -/
def payloadKind (p : List Byte) : Nat := field p 1 1

/-- An invalid record was met. -/
def State.badRecord (s : State) : State :=
  let n := s.getF F.CFS_STAT.INVALID
  let v := satAdd 8 n 1
  ((s.setF F.CFS_STAT.INVALID v).noteSat n v 255).raise Ev.recordInvalid
/-- A record with many corrected bits is written afresh (R544) (DEDUCED, log entry 215). -/
def State.earlyWarning (s : State) (payload : List Byte) : State :=
  let s := (s.countSat F.CFS_STAT.EW_REWRITES 1).raise Ev.recordEarlyWarning
  s.updCfs (fun c => { c with appends := c.appends ++ [Append.mk .copy payload] })
/-- What the registers show of the active-slot record. -/
def State.slotShown (s : State) (p : List Byte) : State :=
  if payloadKind p = 1 then (s.setF F.CFS_STAT.ACTIVE_VALID 1).setF F.CFS_STAT.ACTIVE_B (field p 2 1) else s

/-- The payload of the current record of a kind. -/
def State.record (s : State) (kind : Nat) : Option (List Byte × Nat) :=
  match s.cfs.recs.find? (fun e => e.1 == kind) with
  | some e => recordRead (s.recordAt (e.2 / 16) (e.2 % 16))
  | none => none

/-- Reads the sectors of the Brim from its oldest to the head (R547): places of the current records, invalid records noted. -/
def State.readBrim (s : State) : State :=
  let n := s.ring
  if n = 0 then s
  else
    let secs := (List.range 16).map (fun k => (s.headSec + n * 16 + k - 15) % n)
    let s := secs.foldl (fun s sec => (List.range 16).foldl (fun s pos =>
      let b := s.recordAt sec pos
      if b.all (· == 0xFF#8) then s
      else match recordRead b with
        | none => s.badRecord
        | some (p, _) => if kindDefined (payloadKind p) then
            s.updCfs (fun c => { c with recs := storeIns (payloadKind p) (16 * sec + pos) c.recs }) else s) s) s
    let last := (List.range 16).foldl (fun m pos => if (s.recordAt s.headSec pos).all (· == 0xFF#8) then m else pos + 1) 0
    let s := (s.updCfs (fun c => { c with pos := last })).setF F.CFS_BRIM.POS (last % 16)
    s.cfs.recs.foldl (fun s e =>
      match s.record e.1 with
      | some (p, k) => (if s.ewBits ≤ k then s.earlyWarning p else s).slotShown p
      | none => s) s

/-- The head advances: current records of the sector that leaves the Brim are copied forward, and the new ahead sector is to be erased
(R546). -/
def State.headOn (s : State) : State :=
  let n := s.ring
  let head := (s.headSec + 1) % n
  let gone := (head + n * 16 - 16) % n
  let s := (s.setF F.CFS_BRIM.HEAD head).countWrap F.CFS_BRIM.ROTATIONS 1
  let copies := s.cfs.recs.filterMap (fun e => if e.2 / 16 = gone then (s.record e.1).map (fun r => Append.mk .copy r.1) else none)
  (s.updCfs (fun c => { c with pos := 0, aheadDue := true, appends := copies ++ c.appends })).setF F.CFS_BRIM.POS 0

/-! ## The port (R558) -/

/-- May the port start a NOR operation (R562)? -/
def State.norMay (s : State) : Bool :=
  s.phase == .on && s.flag F.CFS_DEV.SFDP_OK && !s.pfail && !s.pf.settle && !s.pf.due

/-- Starts the next NOR operation: a record, else nothing while the ahead sector waits for its erase, else a step of the firmware operation. -/
def State.norPump (s : State) : State :=
  if !s.norMay ∨ s.cfs.cur.isSome then s
  else
    let s := if s.cfs.appends ≠ [] ∧ s.flag F.CFS_DEV.FORMATTED ∧ 16 ≤ s.cfs.pos ∧ !s.cfs.aheadDue then s.headOn else s
    if s.cfs.appends ≠ [] ∧ s.flag F.CFS_DEV.FORMATTED ∧ s.cfs.pos < 16 then s.updCfs (fun c => { c with cur := some .append, started := s.mtime, tries := 0 })
    else if s.cfs.aheadDue then s
    else match s.cfs.op with
      | some op =>
        (match op.todo with
         | .erase o r k true :: rest =>
           (s.ledgerAdd 1 r k).updCfs (fun c => { c with cur := some (.erase o r k true), started := s.mtime, tries := 0, op := some { op with todo := rest } })
         | st :: rest => s.updCfs (fun c => { c with cur := some st, started := s.mtime, tries := 0, op := some { op with todo := rest } })
         | [] => s)
      | none => s

/-- Appends a record of the block (R225, R548). -/
def State.commitRecord (s : State) (payload : List Byte) : State :=
  if s.flag F.CFS_DEV.FORMATTED then (s.updCfs (fun c => { c with appends := c.appends ++ [Append.mk .block payload] })).norPump else s

/-! ## Firmware operations (R557) -/

/-- Serves the slot reload that waited for an UPDATE (R556): its check sets HALT as R213 says. -/
def State.reloadSlot (s : State) (b : Bool) : State :=
  let s := s.stageImage b
  s.setF F.PWR_CENSUS.HALT (if s.slotOk b then 0 else 1)

/-- A firmware operation ends. -/
def State.cfsEnd (s : State) (result : Nat) : State :=
  let s := ((s.updCfs (fun c => { c with op := none })).setF F.CFS_CMD.RESULT result).setF F.CFS_CMD.BUSY 0
  let s := s.raise Ev.cfsOpDone
  let s := match s.cfs.reload with
    | some b => if s.locked then s else s.reloadSlot b
    | none => s
  (s.updCfs (fun c => { c with reload := none })).norPump

/-- The slot not loaded (DEDUCED, log entry 217). -/
def State.idleSlot (s : State) : Bool := !s.flag F.PWR_BOOT_CTRL.STAGED_B
/-- The active-slot record that names a slot (Table 16-7). -/
def State.slotRecord (s : State) (b : Bool) : List Byte :=
  let m := s.slotImage b
  let p := leBytes 2 0x0101 ++ leBytes 1 (if b then 1 else 0) ++ leBytes 1 0 ++ leBytes 4 (imageGen m) ++ leBytes 4 (imageHcrc m)
  p ++ List.replicate (236 - p.length) 0#8
/-- Commits the active-slot record of a slot for the operation in progress. -/
def State.appendSlot (s : State) (b : Bool) : State :=
  (s.updCfs (fun c => { c with appends := c.appends ++ [Append.mk .slot (s.slotRecord b)] })).norPump

/-- The 256-byte programs of bytes from an offset. -/
def progSteps (off : Nat) (m : List Byte) : List NorStep :=
  (List.range (ceilDiv m.length 256)).map (fun k => .prog (off + 256 * k) (slice m (256 * k) 256))

/-- Nothing is left of the operation's NOR work: its last step. -/
def State.opFinish (s : State) (op : CfsOp) : State :=
  if op.code = 3 then
    let b := s.idleSlot
    if !s.slotOk b then s.cfsEnd 3
    else if op.activate then s.appendSlot b
    else s.cfsEnd 1
  else if op.code = 6 then
    let s := s.setFlag F.CFS_DEV.FORMATTED s.formattedNow
    let s := (s.setF F.CFS_BRIM.HEAD 0).setF F.CFS_BRIM.POS 0
    (s.updCfs (fun c => { c with recs := [], appends := [], aheadDue := false, pos := 0, ledger := (0, 0, 1) })).setF F.CFS_STAT.ACTIVE_VALID 0 |>.cfsEnd 1
  else s.cfsEnd 1

/-- The operation goes on after one of its NOR operations, or after its buffer has arrived. -/
def State.opNext (s : State) : State :=
  match s.cfs.op with
  | none => s.norPump
  | some op =>
    if op.aborted then s.cfsEnd 7
    else if op.fetched ∧ op.todo = [] ∧ !s.cfs.appends.any (fun a => a.use == .firmware || a.use == .slot) then s.opFinish op
    else s.norPump

/-- The bytes of the operation's buffer have arrived (DEDUCED, log entry 213). -/
def State.opData (s : State) (op : CfsOp) (m : List Byte) : State :=
  let s := s.updCfs (fun c => { c with op := some { op with fetched := true } })
  match op.code with
  | 1 =>
    let k := payloadKind m
    if 0x80 ≤ k ∧ k ≤ 0x8F then (s.updCfs (fun c => { c with appends := c.appends ++ [Append.mk .firmware m] })).norPump else s.cfsEnd 8
  | 3 =>
    if s.slotBytes < op.len ∨ !imageOk m s.slotBytes ∨ field m 8 4 ≠ op.len then s.cfsEnd 3
    else
      let b := s.idleSlot
      let n := s.slotBytes / 4096
      let erases := (List.range n).map (fun k => NorStep.erase (s.slotAt b + 4096 * k) (if b then 3 else 2) k true)
      (s.updCfs (fun c => { c with op := some { op with fetched := true, todo := erases ++ progSteps (s.slotAt b) m } })).norPump
  | 8 => (s.updCfs (fun c => { c with op := some { op with fetched := true, todo := progSteps op.off m } })).opNext
  | _ => s.opNext

/-- Starts an operation: CFS_CMD was written with this OP. `len` bytes are asked of the buffer, or given to it. -/
def State.cfsStart (s : State) (code : Nat) (activate : Bool) (todo : List NorStep) (ask : Option Nat) : State :=
  let addr := 16 * s.getF F.CFS_ADDR.ADDR
  let op := CfsOp.mk code activate addr (s.getF F.CFS_ARG.OFFSET) (s.getF F.CFS_ARG.LEN) todo ask.isNone false
  let s := (s.updCfs (fun c => { c with op := some op })).setF F.CFS_CMD.BUSY 1
  match ask with
  | some n => s.fabRead .cfsBuffer addr n
  | none => s.opNext

/-- Gives bytes to the operation's buffer. -/
def State.cfsGive (s : State) (code : Nat) (activate : Bool) (m : List Byte) : State :=
  let addr := 16 * s.getF F.CFS_ADDR.ADDR
  let op := CfsOp.mk code activate addr (s.getF F.CFS_ARG.OFFSET) (s.getF F.CFS_ARG.LEN) [] false false
  let s := (s.updCfs (fun c => { c with op := some op })).setF F.CFS_CMD.BUSY 1
  s.fabWrite .cfsBuffer addr m

/-- An operation that ends with the write that starts it. -/
def State.cfsNow (s : State) (result : Nat) : State := (s.setF F.CFS_CMD.RESULT result).raise Ev.cfsOpDone
/-- An operation whose outcome the spec does not state: on a device that is not there, or not formatted (DESIGN CHOICE, log entry 212). -/
def State.cfsOpen (s : State) : State := (s.cfsNow s.drawn).draw

/-- The write that starts an operation: held asleep, ignored while an operation runs; at a level that does not allow it refused. `store` says
whether it needs a formatted store. -/
def State.cfsWrite (s : State) (op : Nat) (activate : Bool) (allowed store : Bool) (go : State → State) : State :=
  if !s.served then s
  else if s.asleep then
    s.holdWrite (HeldWrite.mk 0 0 0xA0020 4 (BitVec.ofNat 64 (op + (if activate then 256 else 0))))
  else
    let s := s.setFlag F.CFS_CMD.ACTIVATE activate
    if s.flag F.CFS_CMD.BUSY then s
    else if s.pfail || s.pf.settle then s
    else if !allowed then s.cfsNow 2
    else if !s.flag F.CFS_DEV.SFDP_OK || (store && !s.flag F.CFS_DEV.FORMATTED) then s.cfsOpen
    else go s

def State.cfsLevel (s : State) : Nat := s.getF F.CFS_PROT_LEVEL.LEVEL
/-- May UPDATE and ACTIVATE run? -/
def State.updAllowed (s : State) : Bool := s.cfsLevel != 2 || s.flag F.CFS_PROT_LEVEL.UPD_EN

/-- COMMIT (Table 16-8). -/
def State.cfsCommit (s : State) (activate : Bool) : State :=
  s.cfsWrite 1 activate true true (fun s => s.cfsStart 1 activate [] (some 236))
/-- COMMIT: firmware writes the operation to CFS_CMD. -/
def execCommit (activate : Bool) (s : State) : Host.Outcome State Fault Refusal := .next (s.cfsCommit activate)

/-- READREC: the record is read and checked (R544) and its payload written to the buffer. -/
def State.cfsReadrec (s : State) (activate : Bool) : State :=
  s.cfsWrite 2 activate true true (fun s =>
    match s.cfs.recs.find? (fun e => e.1 == s.getF F.CFS_ARG.OFFSET % 256) with
    | none => s.cfsNow 6
    | some e =>
      match recordRead (s.recordAt (e.2 / 16) (e.2 % 16)) with
      | none => s.badRecord.cfsNow 6
      | some (p, k) => (if s.ewBits ≤ k then s.earlyWarning p else s).norPump.cfsGive 2 activate p)
/-- READREC: firmware writes the operation to CFS_CMD. -/
def execReadrec (activate : Bool) (s : State) : Host.Outcome State Fault Refusal := .next (s.cfsReadrec activate)

/-- UPDATE (R553). -/
def State.cfsUpdate (s : State) (activate : Bool) : State :=
  s.cfsWrite 3 activate s.updAllowed true (fun s =>
    if s.slotBytes < s.getF F.CFS_ARG.LEN then s.cfsNow 3
    else s.cfsStart 3 activate [] (some (s.getF F.CFS_ARG.LEN)))
/-- UPDATE: firmware writes the operation to CFS_CMD. -/
def execUpdate (activate : Bool) (s : State) : Host.Outcome State Fault Refusal := .next (s.cfsUpdate activate)

/-- ACTIVATE (R554). -/
def State.cfsActivate (s : State) (activate : Bool) : State :=
  s.cfsWrite 4 activate s.updAllowed true (fun s =>
    if !s.slotOk s.idleSlot then s.cfsNow 3
    else
      let op := CfsOp.mk 4 activate 0 0 0 [] true false
      ((s.updCfs (fun c => { c with op := some op })).setF F.CFS_CMD.BUSY 1).appendSlot s.idleSlot)
/-- ACTIVATE: firmware writes the operation to CFS_CMD. -/
def execActivate (activate : Bool) (s : State) : Host.Outcome State Fault Refusal := .next (s.cfsActivate activate)

/-- ABORT: a running UPDATE ends after its NOR operation; otherwise it succeeds at once (DEDUCED, log entry 214). -/
def State.cfsAbort (s : State) (activate : Bool) : State :=
  if !s.served then s
    else if s.asleep then s.holdWrite (HeldWrite.mk 0 0 0xA0020 4 (BitVec.ofNat 64 (5 + (if activate then 256 else 0))))
    else
      let s := s.setFlag F.CFS_CMD.ACTIVATE activate
      match s.cfs.op with
      | some op =>
        if op.code ≠ 3 then s
        else
          let mine : Bool := match s.cfs.cur with
            | some .append => s.cfs.appends.head?.any (fun (a : Append) => a.use == AppendFor.slot)
            | some _ => true
            | none => false
          let s : State := s.updCfs (fun (c : Cfs) => { c with op := some { op with aborted := true } })
          if mine then s
          else
            let s : State := s.fabAbandon (fun w => w == FabWho.cfsBuffer)
            (s.updCfs (fun (c : Cfs) => { c with appends := c.appends.filter (fun (a : Append) => a.use != AppendFor.slot) })).cfsEnd 7
      | none => s.cfsNow 1
/-- ABORT: firmware writes the operation to CFS_CMD. -/
def execAbort (activate : Bool) (s : State) : Host.Outcome State Fault Refusal := .next (s.cfsAbort activate)

/-- FORMAT. -/
def State.cfsFormat (s : State) (activate : Bool) : State :=
  s.cfsWrite 6 activate (s.cfsLevel == 0) false (fun s =>
    let mib := s.getF F.CFS_DEV.SIZE_MIB
    let rest := (List.range (mib * 256 - 2)).map (fun k => NorStep.erase (4096 * (k + 2)) 0 0 false)
    s.cfsStart 6 activate (.erase 0 0 0 false :: rest ++ [.prog 0 (layoutBytes mib)]) none)
/-- FORMAT: firmware writes the operation to CFS_CMD. -/
def execFormat (activate : Bool) (s : State) : Host.Outcome State Fault Refusal := .next (s.cfsFormat activate)

/-- RAW_READ. -/
def State.cfsRawRead (s : State) (activate : Bool) : State :=
  s.cfsWrite 7 activate (s.cfsLevel == 0) false (fun s =>
    if s.getF F.CFS_DEV.SIZE_MIB * 0x100000 < s.getF F.CFS_ARG.OFFSET + s.getF F.CFS_ARG.LEN then s.cfsNow 8
    else s.cfsGive 7 activate (s.norRead (s.getF F.CFS_ARG.OFFSET) (s.getF F.CFS_ARG.LEN)))
/-- RAW_READ: firmware writes the operation to CFS_CMD. -/
def execRawRead (activate : Bool) (s : State) : Host.Outcome State Fault Refusal := .next (s.cfsRawRead activate)

/-- RAW_PROG. -/
def State.cfsRawProg (s : State) (activate : Bool) : State :=
  s.cfsWrite 8 activate (s.cfsLevel == 0) false (fun s =>
    let o := s.getF F.CFS_ARG.OFFSET
    let n := s.getF F.CFS_ARG.LEN
    if o % 256 ≠ 0 ∨ n % 256 ≠ 0 ∨ s.getF F.CFS_DEV.SIZE_MIB * 0x100000 < o + n then s.cfsNow 8
    else s.cfsStart 8 activate [] (some n))
/-- RAW_PROG: firmware writes the operation to CFS_CMD. -/
def execRawProg (activate : Bool) (s : State) : Host.Outcome State Fault Refusal := .next (s.cfsRawProg activate)

/-- RAW_ERASE. -/
def State.cfsRawErase (s : State) (activate : Bool) : State :=
  s.cfsWrite 9 activate (s.cfsLevel == 0) false (fun s =>
    let o := s.getF F.CFS_ARG.OFFSET
    if s.getF F.CFS_DEV.SIZE_MIB * 0x100000 ≤ o then s.cfsNow 8
    else s.cfsStart 9 activate [.erase (o / 4096 * 4096) 0 0 false] none)
/-- RAW_ERASE: firmware writes the operation to CFS_CMD. -/
def execRawErase (activate : Bool) (s : State) : Host.Outcome State Fault Refusal := .next (s.cfsRawErase activate)

/-! ## NOR_OP_DONE, AHEAD_ERASE, NOR_TIMEOUT -/

/-- The record at the front has been programmed and read back: valid where `ok`. One that is not is appended again (DEDUCED, log entry 216). -/
def State.appendDone (s : State) (ok : Bool) : State :=
  match s.cfs.appends with
  | [] => s.updCfs (fun c => { c with cur := none })
  | a :: rest =>
    let sec := s.headSec
    let pos := s.cfs.pos
    let bytes := if ok then recordBytes a.payload else s.freeBytes 256
    let s := if ok then s else s.drawMany 256
    let s := s.updCfs (fun c => { c with
      cur := none, pos := pos + 1, mem := norPut c.mem (s.recordBase + 4096 * sec + 256 * pos) bytes })
    let s := s.setF F.CFS_BRIM.POS ((pos + 1) % 16)
    if !ok then s.badRecord.norPump
    else
      let s := s.updCfs (fun c => { c with appends := rest, recs := storeIns (payloadKind a.payload) (16 * sec + pos) c.recs })
      let s := if a.use = .copy then s else s.countWrap F.CFS_STAT.COMMITS 1
      let s := s.slotShown a.payload
      if a.use = .firmware ∨ a.use = .slot then s.cfsEnd 1 else s.norPump

/-- Another answer of NOR_OP_DONE: the erase of a sector ended; its read-back finds it erased where `ok`. A second failure ends the
operation (R549). -/
def State.eraseDone (s : State) (o r k : Nat) (led ok : Bool) : State :=
  if ok then
    let s := s.setNor (norWipe s.cfs.mem o)
    let s := if led then s.ledgerAdd 2 r k else s
    let s := if o = 0 then s.setFlag F.CFS_DEV.FORMATTED false else s
    (s.updCfs (fun c => { c with cur := none })).opNext
  else
    let s := (s.setNor (norPut s.cfs.mem o (s.freeBytes 4096))).drawMany 4096
    if !led then (s.updCfs (fun c => { c with cur := none })).opNext
    else if s.cfs.tries = 0 then s.updCfs (fun c => { c with tries := 1 })
    else ((s.updCfs (fun c => { c with cur := none })).raise Ev.norEraseFault).cfsEnd 5

/-- NOR_OP_DONE: `data` set, the buffer access of the firmware operation was answered, a read with its bytes; else the NOR operation under
way ended, its read-back good where `ok` (DESIGN CHOICE, log entry 218). -/
def execNorOpDone (data : Option (List Byte)) (ok : Bool) (s : State) : Host.Outcome State Fault Refusal :=
  .next (if s.phase ≠ .on then s
    else match data with
      | some m =>
        (match s.cfs.op with
         | none => s
         | some op =>
           if !s.fabOpen .cfsBuffer then s
           else
             let reads := op.code = 1 ∨ op.code = 3 ∨ op.code = 8
             let want := if op.code = 1 then 236 else op.len
             if reads ∧ m.length ≠ want then s
             else
               let m := if reads then s.readBytes .cfsBuffer m else m
               let s := s.fabAnswered .cfsBuffer
               if reads then s.opData op m
               else (s.updCfs (fun c => { c with op := some { op with fetched := true } })).opNext)
      | none =>
        match s.cfs.cur with
        | none => s
        | some .append => s.appendDone ok
        | some (.erase o r k led) => s.eraseDone o r k led ok
        | some (.prog o m) => ((s.setNor (norClear s.cfs.mem o m)).updCfs (fun c => { c with cur := none })).opNext)

/-- AHEAD_ERASE: the new ahead sector is erased under the ledger; `fails` read-backs find it not erased (R549). -/
def execAheadErase (fails : Nat) (s : State) : Host.Outcome State Fault Refusal :=
  .next (if !s.norMay ∨ !s.cfs.aheadDue ∨ s.cfs.cur.isSome ∨ s.ring = 0 then s
    else
      let k := (s.headSec + 1) % s.ring
      let o := s.recordBase + 4096 * k
      let s := s.ledgerAdd 1 1 k
      if fails < 2 then
        (((s.setNor (norWipe s.cfs.mem o)).ledgerAdd 2 1 k).updCfs (fun c => { c with aheadDue := false })).opNext
      else
        let s := ((s.setNor (norPut s.cfs.mem o (s.freeBytes 4096))).drawMany 4096).raise Ev.norEraseFault
        let waits := 16 ≤ s.cfs.pos && s.cfs.appends.any (fun a => a.use == .firmware || a.use == .slot)
        if waits then (s.updCfs (fun c => { c with appends := c.appends.filter (fun a => a.use != .firmware && a.use != .slot) })).cfsEnd 5 else s)

/-- What a NOR operation that is cut off leaves: bytes that nothing determines (DESIGN CHOICE, log entry 39). -/
def State.norTorn (s : State) : State :=
  match s.cfs.cur with
  | none => s
  | some st =>
    let put (o n : Nat) : State := ((s.setNor (norPut s.cfs.mem o (s.freeBytes n))).drawMany n).updCfs (fun c => { c with cur := none })
    match st with
    | .erase o _ _ _ => put o 4096
    | .prog o m => put o m.length
    | .append =>
      let t := put (s.recordBase + 4096 * s.headSec + 256 * s.cfs.pos) 256
      (t.updCfs (fun c => { c with pos := c.pos + 1 })).setF F.CFS_BRIM.POS ((s.cfs.pos + 1) % 16)

/-- NOR_TIMEOUT: the operation under way passed its maximum time; the device is reset and the operation counts as interrupted. -/
def execNorTimeout (s : State) : Host.Outcome State Fault Refusal :=
  .next (match s.cfs.cur with
    | none => s
    | some st =>
      if s.phase ≠ .on then s
      else
        let s := s.norTorn.raise Ev.norTimeout
        match st with
        | .append =>
          let fw := s.cfs.appends.head?.any (fun a => a.use == .firmware || a.use == .slot)
          let s := s.updCfs (fun c => { c with appends := c.appends.drop 1 })
          if fw then s.cfsEnd 5 else s.norPump
        | _ => s.cfsEnd 5)

/-- A power fail stops the store (R562): a program ends, an erase is not waited for, a firmware operation ends without RESULT. -/
def State.cfsStop (s : State) : State :=
  let s := match s.cfs.cur with
    | some (.erase _ _ _ _) => s.norTorn
    | _ => s
  let s := s.fabAbandon (· == .cfsBuffer)
  let keep := match s.cfs.cur with
    | some .append => s.cfs.appends.take 1
    | _ => []
  (s.updCfs (fun c => { c with op := none, reload := none, appends := keep })).setF F.CFS_CMD.BUSY 0

/-! ## Discovery (R533, R534, R551, R559) -/

/-- The protection level that the four copies of sector 1 give (R559). -/
def State.protLevel (s : State) : Nat :=
  ((List.range 4).map (fun k =>
    let w := leNat (s.norRead (4096 + 256 * k) 4)
    if w = 0xFFFF then 1 else if w = 0 then 2 else 0)).foldl max 0

/-- Writes the word of a level into the four copies. -/
def State.setProt (s : State) (level : Nat) : State :=
  let w := if level = 1 then 0xFFFF else 0
  (((List.range 4).foldl (fun s k => s.setNor (norClear s.cfs.mem (4096 + 256 * k) (leBytes 4 w))) s)).setF F.CFS_PROT_LEVEL.LEVEL
    (s.protLevel.max level)

/-- Discovery of the device; `none`: no device that can be used answers. -/
def State.norDiscover (s : State) (d : Option NorSfdp) : State :=
  let bad := match d with
    | none => true
    | some d => !d.erase4k || d.page < 256 || !(d.mib == 16 || d.mib == 32 || d.mib == 64 || d.mib == 128 || d.mib == 256)
  match d, bad with
  | some d, false =>
    let fast := d.ddr && d.same
    let s := ((s.setF F.CFS_DEV.SFDP_OK 1).setF F.CFS_DEV.SIZE_MIB d.mib).setF F.CFS_DEV.IFACE (if fast then 2 else 1)
    let s := (s.setF F.CFS_DEV.SLOT_KIB (s.slotBytes / 1024)).setF F.CFS_DEV.RING s.ring
    let s := if fast then (s.setF F.CFS_CLK.DIV d.div).setF F.CFS_CLK.DUMMY d.dummy
      else if d.ddr then (s.setF F.CFS_CLK.DIV (max 24 d.div)).raise Ev.cfsIfaceFallback
      else s.setF F.CFS_CLK.DIV 48
    (s.setFlag F.CFS_DEV.FORMATTED s.formattedNow).setF F.CFS_PROT_LEVEL.LEVEL s.protLevel
  | _, _ => s

/-- Finds the ledger's place, and erases again a sector whose erase was cut off (R551). -/
def State.ledgerFind (s : State) : State :=
  match s.ledgerSector with
  | none => s.updCfs (fun c => { c with ledger := (0, 0, 1) })
  | some k =>
    let l := s.ledgerList k 256 0
    let lseq := (l.getLast?.map (·.1)).getD 0
    -- entries 254 and 255 of a full sector name the next one
    let s := s.updCfs (fun c => { c with ledger := (k, l.length, lseq + 1) })
    match l.getLast? with
    | some (_, 1, r, n) =>
      if r = 4 then
        (let s := (s.setNor (norWipe s.cfs.mem (ledgerAt n 0))).ledgerPut 2 4 n
         (s.updCfs (fun c => { c with ledger := (n, 0, c.ledger.2.2) })).raise Ev.cfsHalfwipe)
      else
        let o := if r = 1 then s.recordBase + 4096 * n else s.slotAt (r == 3) + 4096 * n
        let s := s.ledgerAdd 1 r n
        ((s.setNor (norWipe s.cfs.mem o)).ledgerAdd 2 r n).raise Ev.cfsHalfwipe
    | some (_, 2, 4, n) => if l.length = 256 then s.updCfs (fun c => { c with ledger := (n, 0, lseq + 1) }) else s
    | _ => s

/-- Finds the head and reads the Brim (R547) (DEDUCED, log entry 219). -/
def State.brimFind (s : State) : State :=
  let n := s.ring
  if n = 0 then s
  else
    let head := match s.ledgerSector with
      | none => 0
      | some k => (match s.ledgerRecord 254 k with
        | some a => (a + n - 1) % n
        | none => 0)
    (s.setF F.CFS_BRIM.HEAD head).readBrim

/-- What stage 1 does with the store before it loads an image. -/
def State.cfsBegin (s : State) (d : Option NorSfdp) : State :=
  let s := s.norDiscover d
  if s.flag F.CFS_DEV.FORMATTED then s.ledgerFind.brimFind else s

/-- The slot that census loads (R552), none where neither is valid. -/
def State.bootSlot (s : State) : Option Bool :=
  let a := s.slotOk false
  let b := s.slotOk true
  if !s.flag F.CFS_DEV.FORMATTED then none
  else
    let first := match s.record 1 with
      | some (p, _) => field p 2 1 == 1
      | none => b && (!a || decide (imageGen (s.slotImage false) < imageGen (s.slotImage true)))
    if (if first then b else a) then some first else if (if first then a else b) then some (!first) else none

end Sys2Proof.Machine
end

