-- ==== Sys2Proof/Machine/Micro.lean ====
section
/-! DEFINITION. The channel units (chapter 5): rates and cycle costs (Table 5-2, R192, R196), the microsequencer (R189 to R193), the
requests for retraining (Table 5-11) and the failure of a channel (R419). -/

namespace Sys2Proof.Machine

/-! ## Channels and quads by index -/

/-- A field of a channel unit's register: for an index from 96 on, the register of the partner's channel unit. -/
def chF (f : Nat → Field) (h : Nat) : Field :=
  if h < 96 then f h else { f (h - 96) with reg := (f (h - 96)).reg + 2 ^ 24 }
/-- A field of a quad's register, in the same way. -/
def qF (f : Nat → Field) (q : Nat) : Field :=
  if q < 24 then f q else { f (q - 24) with reg := (f (q - 24)).reg + 2 ^ 24 }
/-- A field of a rail group's register: groups from 8 on are the partner's (R596). -/
def rgF (f : Nat → Field) (g : Nat) : Field :=
  if g < 8 then f g else { f (g - 8) with reg := (f (g - 8)).reg + 2 ^ 24 }
/-- The quads of the partner as bits of PAIR_HOME (R580). -/
def State.farQuads (s : State) : Nat := if s.right then 0xFFFFFF else 0xFFFFFF000000
/-- Does the unit run its partner's channels as well, its tokens held (R590, R599)? -/
def State.fostering (s : State) : Bool := s.build.pair && s.getF F.PAIR_HOME.HOME &&& s.farQuads != 0
/-- The channels the planner plans. -/
def State.planChans (s : State) : List Nat :=
  List.range s.build.channels ++ (if s.fostering then (List.range s.build.channels).map (· + 96) else [])
/-- The channel of an index. -/
def State.chanOf (s : State) (h : Nat) : Nat := (h + s.c0) % 192
/-- The dies found on a channel, in slot order. -/
def State.chanDies (s : State) (h : Nat) : List Nat :=
  ((List.range 16).map (fun k => pdieOf (s.chanOf h) k)).filter (fun p => (s.pdie p).cond != .absent)
/-- The rail group of a quad, if it is valid (R144). -/
def State.railOf (s : State) (q : Nat) : Option Nat :=
  let k := q % 24
  let v := getBits (s.reg (0xD0200 + 4 * (k / 8) + (if 24 ≤ q then 2 ^ 24 else 0))) (4 * (k % 8) + 3) (4 * (k % 8))
  if 8 ≤ v then some (v % 8 + (if 24 ≤ q then 8 else 0)) else none

/-! ## Rates and costs -/

/-- The rate code of a channel's quad. -/
def State.rateOf (s : State) (h : Nat) : Nat := s.getF (qF F.CHU_QUAD_CFG.RATE (quadOf h))
/-- The PHY clock of a rate code in MHz (Table 5-2). -/
def phyMhz (code : Nat) : Nat := if code ≤ 4 then 400 else 600 + 200 * (code - 5)
/-- Channel cycles of a tick (Table 5-2). -/
def State.tickCycles (s : State) (h : Nat) : Nat := phyMhz (s.rateOf h) / 4 * s.periodUs
/-- The cycles of a tick that items may use: all but the guard band (R131). -/
def State.usable (s : State) (h : Nat) : Nat := s.tickCycles h - 32
/-- Channel cycles that carry `n` bytes at a rate code (Table 5-2). -/
def byteCycles (code n : Nat) : Nat :=
  match code with
  | 0 => 10 * n
  | 1 => 2 * n
  | 2 => ceilDiv n 2
  | 3 => ceilDiv n 4
  | _ => ceilDiv n 8
/-- The bytes that `c` channel cycles carry. -/
def cycleBytes (code c : Nat) : Nat :=
  match code with
  | 0 => c / 10
  | 1 => c / 2
  | 2 => 2 * c
  | 3 => 4 * c
  | _ => 8 * c

/-- to_cycles (R196). -/
def toCycles (t mhz : Nat) : Nat := if t = 0 then 0 else min ((t * mhz + 39999) / 40000) 0xFFFF
/-- The cycles of a timing index for a family on a channel (Table 5-8). -/
def State.timing (s : State) (fam h k : Nat) : Nat := toCycles (s.fp fam "TIMING" (16 * s.rateOf h + k) 0) (phyMhz (s.rateOf h))

/-- Numbers of routines (Table 5-6). -/
def rtReset : Nat := 0x00
def rtVol : Nat := 0x01
def rtStatus : Nat := 0x02
def rtRead (slc : Bool) : Nat := if slc then 0x04 else 0x03
def rtDout : Nat := 0x05
def rtDin : Nat := 0x06
def rtProg (slc : Bool) : Nat := if slc then 0x08 else 0x07
def rtErase (slc : Bool) : Nat := if slc then 0x0A else 0x09
def rtSuspend (k : OpKind) : Nat := if k = .prog then 0x0B else 0x0D
def rtResume (k : OpKind) : Nat := if k = .prog then 0x0C else 0x0E
def rtLevels : Nat := 0x0F

/-- A routine of a family in the image: its costs by rate code, then its words (R192). -/
def State.routine (s : State) (fam r : Nat) : Option Param :=
  s.params.find? (fun p => p.sect == 0x11 && p.family == fam && p.id == r)
/-- Does a family provide a routine? -/
def State.hasRoutine (s : State) (fam r : Nat) : Bool := (s.routine fam r).isSome
/-- A routine's declared cost on a channel. -/
def State.costOf (s : State) (fam r h : Nat) : Nat :=
  match s.routine fam r with
  | some p => p.elems.getD (s.rateOf h) 0
  | none => 0
/-- The cost of a transfer of `n` bytes with its column change. -/
def State.doutCost (s : State) (fam h n : Nat) : Nat :=
  s.costOf fam rtDout h + s.timing fam h 10 + byteCycles (s.rateOf h) n + s.timing fam h 11
def State.dinCost (s : State) (fam h n : Nat) : Nat :=
  s.costOf fam rtDin h + s.timing fam h 12 + byteCycles (s.rateOf h) n + s.timing fam h 13
/-- The next byte range of a transfer of `n` bytes of which `d` are done: all of it where it fits an empty tick, else as much as fits, at
least 16 bytes a range (R133). `c` is the cost of `n` bytes, `o` the cost without bytes. -/
def State.rangeLen (s : State) (h n d c o : Nat) : Nat :=
  if c ≤ s.usable h then n - d
  else
    let m := max 16 (cycleBytes (s.rateOf h) (s.usable h - o))
    if n - d ≤ m then n - d else if n - d < m + 16 then n - d - 16 else m

/-! ## The microsequencer (R190 to R193) -/

/-- The state of a running routine: the instruction index within it, X0 to X7, the cycles used, what it drives on the bus, and what the
die gives it: bytes for RDB, cycles that WAITRB waits. `fault` ends it with a code. -/
structure Mseq where
  pc : Nat
  x : List Nat
  cycles : Nat
  bus : List (Nat × Nat)
  rdb : List Byte
  waits : List Nat
  ended : Bool
  fault : Option Nat
deriving DecidableEq, Repr

/-- What a routine needs to know of its channel: words, limit of cycles, rate code and timing cycles by index. -/
structure MseqEnv where
  words : List Nat
  limit : Nat
  code : Nat
  t : List Nat
deriving DecidableEq, Repr

def Mseq.reg (m : Mseq) (i : Nat) : Nat := m.x.getD i 0
def Mseq.setReg (m : Mseq) (i v : Nat) : Mseq := { m with x := m.x.set i (v % 2 ^ 32) }
/-- Ends the routine with a fault. -/
def Mseq.fail (m : Mseq) (c : Nat) : Mseq := { m with ended := true, fault := some c }
/-- One instruction done: its cycles and bus activity; at the item's cost the routine is aborted instead (R192). -/
def Mseq.spend (m : Mseq) (e : MseqEnv) (n : Nat) (bus : List (Nat × Nat)) : Mseq :=
  if e.limit < m.cycles + n then m.fail 1
  else { m with cycles := m.cycles + n, bus := m.bus ++ bus, pc := m.pc + 1 }
/-- A jump from the next instruction by a signed immediate; outside the routine it is fault 3. -/
def Mseq.jump (m : Mseq) (e : MseqEnv) (imm : Nat) : Mseq :=
  if e.limit < m.cycles + 1 then m.fail 1
  else
    let d : Int := if imm < 2 ^ 15 then (imm : Int) else (imm : Int) - 2 ^ 16
    let t := (m.pc : Int) + 1 + d
    if t < 0 ∨ (e.words.length : Int) ≤ t then { m with cycles := m.cycles + 1 }.fail 3
    else { m with cycles := m.cycles + 1, pc := t.toNat }
/-- The ALU (R191); none for a reserved code. -/
def aluOp (op a b : Nat) : Option Nat :=
  match op with
  | 0 => some ((a + b) % 2 ^ 32)
  | 1 => some ((a + 2 ^ 32 - b % 2 ^ 32) % 2 ^ 32)
  | 2 => some (a &&& b)
  | 3 => some (a ||| b)
  | 4 => some (a ^^^ b)
  | 5 => some (a <<< (b % 32) % 2 ^ 32)
  | 6 => some (a >>> (b % 32))
  | _ => none

/-- One instruction (Table 5-7). -/
def Mseq.step (e : MseqEnv) (m : Mseq) : Mseq :=
  match e.words[m.pc]? with
  | none => m.fail 3
  | some w =>
    let op := w / 2 ^ 26 % 64
    let d := w / 2 ^ 23 % 8
    let a := w / 2 ^ 20 % 8
    let b := w / 2 ^ 17 % 8
    let imm := w % 2 ^ 16
    let t (i : Nat) : Nat := e.t.getD i 0
    match op with
    | 0x01 => m.spend e (if imm % 2 = 1 then t 0 else t 1) []
    | 0x02 => m.spend e (t 2) [(0, imm % 256)]
    | 0x03 => m.spend e (t 2 * (imm % 4 + 1)) ((List.range (imm % 4 + 1)).map (fun i => (1, m.reg a / 256 ^ i % 256)))
    | 0x04 => m.spend e (t 2) [(1, imm % 256)]
    | 0x05 => m.spend e (t 10 + byteCycles e.code (m.reg a) + t 11) [(3, m.reg a)]
    | 0x06 => m.spend e (t 12 + byteCycles e.code (m.reg a) + t 13) [(2, m.reg a)]
    | 0x07 =>
      let n := imm % 4 + 1
      let m := m.spend e (t 10 + byteCycles e.code n + t 11) [(3, n)]
      if m.ended then m else { m.setReg d (leNat (m.rdb.take n)) with rdb := m.rdb.drop n }
    | 0x08 =>
      let n := imm % 4 + 1
      m.spend e (t 12 + byteCycles e.code n + t 13) ((List.range n).map (fun i => (4, m.reg a / 256 ^ i % 256)))
    | 0x09 => m.spend e (t (imm % 16)) []
    | 0x0A => m.spend e imm []
    | 0x0B =>
      let w := m.waits.headD 0
      let m := { m with waits := m.waits.drop 1 }
      if imm * 64 < w then (m.spend e (imm * 64) []).setReg 7 (m.reg 7 ||| 2 ^ 31) else m.spend e w []
    | 0x10 => (m.spend e 1 []).setReg d imm
    | 0x11 => (m.spend e 1 []).setReg d (imm * 2 ^ 16 + m.reg d % 2 ^ 16)
    | 0x12 => (match aluOp (imm % 16) (m.reg a) (m.reg b) with
      | some v => (m.spend e 1 []).setReg d v
      | none => m.fail 2)
    | 0x13 => (match aluOp (imm / 256 % 16) (m.reg a) (imm % 256) with
      | some v => (m.spend e 1 []).setReg d v
      | none => m.fail 2)
    | 0x18 => if m.reg a = 0 then m.jump e imm else m.spend e 1 []
    | 0x19 => if m.reg a ≠ 0 then m.jump e imm else m.spend e 1 []
    | 0x1A => m.jump e imm
    | 0x1C => m.spend e 1 []
    | 0x1E => m.fail (imm % 256)
    | 0x1F => { m with ended := true }
    | _ => m.fail 2

/-- Runs a routine; one that spins without using cycles never ends, and counts as aborted. -/
def Mseq.run (e : MseqEnv) : Nat → Mseq → Mseq
  | 0, m => if m.ended then m else m.fail 1
  | n + 1, m => if m.ended then m else Mseq.run e n (m.step e)

/-- The place of a routine in a channel's store: its first word and its words (R189). -/
def Chan.place (c : Chan) (fam r : Nat) : Option (Nat × Nat) :=
  (c.places.find? (fun p => p.1 == fam && p.2.1 == r)).map (fun p => p.2.2)

/-- Runs a routine of a family on a channel with the argument registers given. -/
def State.runRoutine (s : State) (fam r h limit : Nat) (args : List Nat) (rdb : List Byte) (waits : List Nat) : Mseq :=
  let ch := s.chan (s.chanOf h)
  let p := (ch.place fam r).getD (0, 0)
  let e := MseqEnv.mk ((ch.ucode.drop p.1).take p.2) limit (s.rateOf h) ((List.range 16).map (fun k => s.timing fam h k))
  Mseq.run e (8 * limit + p.2 + 64) (Mseq.mk 0 ((args ++ List.replicate 8 0).take 8) 0 [] rdb waits false none)

/-! ## Addresses of a routine (Table 5-5) -/

/-- The row address by the family's layout: shifts of page, plane, block index and LUN. -/
def State.rowAddr (s : State) (p plane block page : Nat) : Nat :=
  let fam := s.famOf p
  page <<< s.fp fam "ROW_LAYOUT" 0 0 ||| plane <<< s.fp fam "ROW_LAYOUT" 1 0 ||| block <<< s.fp fam "ROW_LAYOUT" 2 0 |||
    (s.pdie p).lun <<< s.fp fam "ROW_LAYOUT" 3 0
/-- X0 to X5 of an item: row address, column, byte count, plane mask, volume, slot. -/
def State.itemArgs (s : State) (p row col n mask arg : Nat) : List Nat :=
  [row, col, n, mask, (s.pdie p).volume, pdieSlot p, arg, 0]
/-- The registers of SET_LEVELS. -/
def State.levelArgs (s : State) (p zone : Nat) (l : List Int) : List Nat :=
  let b (i : Nat) : Nat := (BitVec.ofInt 8 (l.getD i 0)).toNat
  let w (i : Nat) : Nat := b i + 256 * b (i + 1) + 65536 * b (i + 2) + 2 ^ 24 * b (i + 3)
  [0, w 0, w 4, w 8, b 12 + 256 * b 13 + 65536 * b 14, pdieSlot p + 256 * (s.pdie p).volume, zone, 0]

/-! ## Retraining requests (Table 5-11) and channel failure -/

/-- A bus check error, or a microcode fault, as a trigger: the ticks of those within 1,024. -/
def State.recent (s : State) (l : List Nat) : List Nat := l.filter (fun t => decide (s.tickno < t + 1024)) ++ [s.tickno]
/-- Requests a retraining for the error rate. -/
def State.errTrain (s : State) (h : Nat) : State :=
  if (s.chan (s.chanOf h)).failed then s else s.setF (chF F.CHU_TRAIN_STAT.PEND_ERROR h) 1
/-- A status byte failed the expected-value check (R181). -/
def State.busCheck (s : State) (h : Nat) : State :=
  let c := s.chan (s.chanOf h)
  let l := s.recent c.checkTicks
  let s := (s.countSat (chF F.CHU_ERR.BUS_CHECK h) 1).setChan (s.chanOf h) { c with checkTicks := l }
  if 4 ≤ l.length then s.errTrain h else s
/-- A microcode fault is recorded (R193). -/
def State.mseqFault (s : State) (h r code slot pc : Nat) : State :=
  let c := s.chan (s.chanOf h)
  let l := s.recent c.faultTicks
  let s := s.setChan (s.chanOf h) { c with faultTicks := l, vol := none }
  let s := (((s.setF (chF F.CHU_MSEQ_LAST.ROUTINE h) r).setF (chF F.CHU_MSEQ_LAST.CODE h) code).setF
    (chF F.CHU_MSEQ_LAST.SLOT h) slot).setF (chF F.CHU_MSEQ_LAST.PC h) pc
  let s := s.countSat (chF F.CHU_ERR.MSEQ_FAULTS h) 1
  if 3 ≤ l.length then s.errTrain h else s

/-- The number of 1 bits among the low `n`. -/
def onesOf : Nat → Nat → Nat
  | 0, _ => 0
  | n + 1, v => v % 2 + onesOf n (v / 2)
/-- Codewords of a channel's last 4,096 that did not converge at step 0. -/
def Chan.misses (c : Chan) : Nat := onesOf c.decs c.fails
/-- A codeword of a channel ended its decode at step 0; the error-rate trigger. -/
def State.noteDecode (s : State) (p : Nat) (good : Bool) : State :=
  let ch := pdieChannel p
  let h := s.homeIx p
  let c := s.chan ch
  let c := { c with decs := min 4096 (c.decs + 1), fails := (2 * c.fails + (if good then 0 else 1)) % 2 ^ 4096 }
  let s := s.setChan ch c
  let on := s.planChans.filter (fun k => s.flag (chF F.CHU_CFG.ENABLED k))
  let all := (on.map (fun k => (s.chan (s.chanOf k)).misses)).sum
  if 82 ≤ c.misses ∧ 4 * all ≤ c.misses * on.length then s.errTrain h else s

/-- The last junction temperature of a quad. -/
def State.quadTempOf (s : State) (q : Nat) : Int := storeGet (fun _ => 0) s.telem.quadTemp q
/-- The temperature and margin triggers of a channel. -/
def State.driftTrain (s : State) (h : Nat) : State :=
  if !s.flag (chF F.CHU_CFG.ENABLED h) ∨ (s.chan (s.chanOf h)).failed then s
  else
    let temp := s.quadTempOf (quadOf h)
    let used := (List.range 16).filter (fun k => s.flag (chF (fun c => F.CHU_DIE_TRIM.VALID c k) h))
    let delta : Int := max 1 (s.getF (chF F.CHU_TRAIN_CTRL.TEMP_DELTA h))
    let low := max 4 (s.getF (chF F.CHU_TRAIN_CTRL.MIN_MARGIN h))
    let hot := used.any (fun k =>
      let t := (BitVec.ofNat 8 (s.getF (chF (fun c => F.CHU_DIE_TRIM.TEMP c k) h))).toInt
      decide (delta ≤ temp - t) || decide (delta ≤ t - temp))
    let thin := used.any (fun k => decide (s.getF (chF (fun c => F.CHU_DIE_TRIM.RD_MARGIN c k) h) < low) ||
      decide (s.getF (chF (fun c => F.CHU_DIE_TRIM.WR_MARGIN c k) h) < low))
    let s := if hot then s.setF (chF F.CHU_TRAIN_STAT.PEND_TEMP h) 1 else s
    if thin then s.setF (chF F.CHU_TRAIN_STAT.PEND_MARGIN h) 1 else s

end Sys2Proof.Machine
end

