-- ==== Sys2Proof/Machine/Ladder.lean ====
section
/-! DEFINITION. Reading (chapter 9): resolution, the retry ladder with reconstruction, what each codeword's end means to what it serves,
READ, COPY from media, READ_RAW, SCRUB_RANGE, and patrol (chapter 11). -/

namespace Sys2Proof.Machine

/-- Do the clocks of the core run: awake, or in a sample window (R617)? -/
def State.clocked (s : State) : Bool := s.working && (!s.asleep || s.getF F.PWR_STAT.STATE == 4)

/-- How a codeword's ladder ended: its status, the step, the corrected bits, the tile, or for a P or Q page its image. -/
structure CwRes where
  status : Nat
  step : Nat
  bits : Nat
  tile : List Byte
deriving DecidableEq, Repr

/-! ## Senses of a step (Table 9-1, R337 to R341) -/

def State.cwFam (s : State) (c : Cw) : Nat := (s.vdie c.vdie).family
/-- The levels that the codeword's page uses. -/
def State.cwUsed (s : State) (c : Cw) : List Nat := s.usedLevels (s.cwFam c) (s.vdieMode c.vdie) c.page c.slc
/-- The offsets that a sense loads on those levels: senses that agree there are equal (R338). -/
def State.senseKey (s : State) (c : Cw) (delta : List Int) : List Int :=
  (s.cwUsed c).map (fun i => (loadLevels c.tracked delta).getD i 0)
/-- The data held of a sense, if any. -/
def State.heldAt (s : State) (c : Cw) (delta : List Int) : Option (List Byte) :=
  (c.held.find? (fun h => s.senseKey c h.1 == s.senseKey c delta)).map (·.2)
def State.valleyDelta (s : State) (c : Cw) : Int := s.fp (s.cwFam c) "VALLEY_DELTA" 0 3
def State.softDelta (s : State) (c : Cw) : Int := s.fp (s.cwFam c) "SOFT_DELTA" 0 4
/-- The valley estimate of step 3. -/
def State.estOf (s : State) (c : Cw) : List Int := addLevels c.shift (shiftOf (s.cwUsed c) c.est)
/-- A change of every used level by `d` beside `base`. -/
def State.beside (s : State) (c : Cw) (base : List Int) (d : Int) : List Int := addLevels base (shiftOf (s.cwUsed c) d)
/-- Is this a raw slot of mode 2? -/
def State.rawMode (s : State) (c : Cw) : Nat :=
  match c.use with
  | .raw k _ => ent (s.ctx k).entry 32 1
  | _ => 1

/-- The senses a step decodes from, in the order they are taken (DEDUCED, log entry 109). -/
def State.stepSenses (s : State) (c : Cw) : List (List Int) :=
  let sd := s.softDelta c
  match c.step with
  | 0 => if s.rawMode c = 2 then [s.beside c zeroLevels (0 - sd), zeroLevels, s.beside c zeroLevels sd] else [zeroLevels]
  | 2 => [c.shift]
  | 3 => if c.phase = 0 then [s.beside c c.shift (0 - s.valleyDelta c), s.beside c c.shift (s.valleyDelta c), c.shift]
    else [s.estOf c]
  | 4 => [s.estOf c, s.beside c (s.estOf c) (0 - sd), s.beside c (s.estOf c) sd]
  | 5 => [s.estOf c, s.beside c (s.estOf c) (0 - sd), s.beside c (s.estOf c) sd,
      s.beside c (s.estOf c) (0 - 2 * sd), s.beside c (s.estOf c) (2 * sd)]
  | _ => []

/-- Of a list of senses, those neither held nor listed before. -/
def State.notHeld (s : State) (c : Cw) : List (List Int) → List (List Int)
  | [] => []
  | x :: rest =>
    let l := s.notHeld c rest
    if (s.heldAt c x).isSome then l
    else x :: l.filter (fun y => s.senseKey c y != s.senseKey c x)

/-- The data whose decision a decode of the step starts from. -/
def State.hardOf (s : State) (c : Cw) : Option (List Byte) :=
  match c.step with
  | 0 => s.heldAt c zeroLevels
  | 1 => s.heldAt c zeroLevels
  | 2 => s.heldAt c c.shift
  | _ => s.heldAt c (s.estOf c)

/-- An iteration limit: 0 acts as 1, values above 40 as 40. -/
def clampIter (v : Nat) : Nat := max 1 (min 40 v)
/-- The iteration limit of a step (Table 9-1). -/
def State.iterLimit (s : State) (step : Nat) : Nat :=
  let i1 := clampIter (s.getL F.DEC_CFG.ITER1)
  match step with
  | 0 => min (clampIter (s.getL F.DEC_CFG.ITER0)) i1
  | 4 => clampIter (s.getL F.DEC_CFG.ITER4)
  | 5 => clampIter (s.getL F.DEC_CFG.ITER5)
  | _ => i1

/-- The last step a codeword may take: its ceiling; 1 for raw slots and bursts; 1 or 5 for helpers (R345); a parity check and a sentinel
never reconstruct. -/
def State.lastStep (s : State) (c : Cw) : Nat :=
  match c.use with
  | .raw _ _ => 1
  | .burst _ _ => 1
  | .helper p _ => if (s.cw p).jumped then 1 else 5
  | .check _ _ _ => min 5 c.ceil
  | .sentinel _ => 0
  | _ => min 6 c.ceil

/-- The predicted shift of a codeword's step 2 (R401). -/
def State.cwShift (s : State) (c : Cw) : List Int :=
  match c.set with
  | some g => s.predicted c.vdie c.spare c.page c.slc (s.bandAge g c.band)
  | none => zeroLevels

/-- Carries a codeword up the ladder: 0 it waits for a sense or a decode, 1 it comes to step 6, 2 it failed its last step. `fail` says that
its step just failed. -/
def State.climb (s : State) (i : Nat) (fail : Bool) : Nat → State × Nat
  | 0 => (s, 0)
  | fuel + 1 =>
    let c := s.cw i
    if 6 ≤ c.step then (s, 1)
    else if fail then
      (if s.lastStep c ≤ c.step then (s, 2)
       else (s.setCw i { c with step := c.step + 1, phase := 0, need := [] }).climb i false fuel)
    else
      let c := if c.step = 2 then { c with shift := s.cwShift c } else c
      let c := if c.shift = [] then { c with shift := zeroLevels } else c
      let s := s.setCw i c
      let need := s.notHeld c (s.stepSenses c)
      if c.step = 2 ∧ s.senseKey c c.shift = s.senseKey c zeroLevels then s.climb i true fuel
      else if need ≠ [] then (s.setCw i { c with stage := .want, need := need, fresh := decide (c.phase = 0) }, 0)
      else if c.step = 3 ∧ c.phase = 0 then
        let e := match s.heldAt c (s.beside c c.shift (0 - s.valleyDelta c)), s.heldAt c c.shift,
            s.heldAt c (s.beside c c.shift (s.valleyDelta c)) with
          | some a, some b, some d => valleyShift a b d (s.fp (s.cwFam c) "VALLEY_DELTA" 0 3)
          | _, _, _ => 0
        let c := { c with phase := 1, est := e }
        let s := s.setCw i c
        if s.senseKey c (s.estOf c) = s.senseKey c c.shift then s.climb i true fuel else s.climb i false fuel
      else if (s.hardOf c).isNone then s.climb i true fuel
      else (s.setCw i { c with stage := .decode, limit := s.iterLimit c.step }, 0)

/-- Enough steps for any climb. -/
def climbFuel : Nat := 32

/-! ## Counters of the read path (Tables 9-4 and 9-5) -/

def State.updDecs (s : State) (f : Decoders → Decoders) : State := { s with decs := f s.decs }
/-- One more unrecoverable tile, of the pool and of its die. -/
def State.countUnrec (s : State) (p : Nat) : State :=
  let n := satAdd 32 s.decs.unrec 1
  let s := (s.noteSat s.decs.unrec n (2 ^ 32 - 1)).updDecs (fun d => { d with unrec := n })
  if p = noPdie then s
  else
    let k := satAdd 32 (s.die p).unrec 1
    (s.noteSat (s.die p).unrec k (2 ^ 32 - 1)).setDie p { s.die p with unrec := k }

/-- The counters of a ladder's end (DEDUCED, log entry 139). -/
def State.countEnd (s : State) (c : Cw) (r : CwRes) : State :=
  let s := s.updDecs (fun d => { d with stepEnd := storePut (fun _ => 0) d.stepEnd r.step ((cnt d.stepEnd r.step + 1) % 2 ^ 32) })
  let s := if r.status = 0x20 ∨ r.status = 0x22 then s.countUnrec c.pdie
    else if r.status = 0x23 then s.updDecs (fun d => { d with ceilings := (d.ceilings + 1) % 2 ^ 32 })
    else if r.status = 1 then s.updDecs (fun d => { d with warnings := (d.warnings + 1) % 2 ^ 32 })
    else s
  if r.status ≤ 1 ∧ c.pdie ≠ noPdie ∧ (s.die c.pdie).corrMax < r.bits then
    s.setDie c.pdie { s.die c.pdie with corrMax := r.bits } else s

/-- The status of a tile that ended at steps 0 to 5 (R349). -/
def State.warnStatus (s : State) (bits step : Nat) : Nat :=
  let b := s.getF F.DEC_WARN.BITS
  let t := min 6 (s.getF F.DEC_WARN.STEP)
  if (b ≠ 0 ∧ b ≤ bits) ∨ (t ≠ 0 ∧ t ≤ step) then 1 else 0

/-! ## Delivery and completion (R332, R333, R350, R302, R374, R435) -/

/-- Writes bytes to byte `off` of an entry's destination (DEDUCED, log entry 144). -/
def State.deliver (s : State) (c i off : Nat) (m : List Byte) : State :=
  ((fragParts (s.ctx c).frags off m.length).foldl (fun (a : State × Nat) p =>
    (a.1.fabWrite (.tileOut c i) p.1 (slice m a.2 p.2), a.2 + p.2)) (s, 0)).1

/-- The greatest status of the tiles. -/
def worstOf (l : List TileJob) : Nat := l.foldl (fun a t => max a (t.status.getD 0)) 0
/-- The largest corrected-bit count of the delivered tiles and the highest step of any, as RESULT1 holds them (R350). -/
def bitsStep (l : List TileJob) : Nat :=
  let read := l.filter (fun t => t.status != some 3 && t.status != some 4)
  let bits := read.foldl (fun a t => if t.status.getD 0 ≤ 2 then max a t.bits else a) 0
  bits + 2 ^ 16 * (read.foldl (fun a t => max a t.step) 0)
/-- DETAIL of a status of a READ. -/
def readDetail (l : List TileJob) (st : Nat) : Nat :=
  if st ≤ 2 then bitsStep l / 2 ^ 16
  else if st = 3 ∨ st = 4 then 0
  else ((l.find? (fun t => t.status == some st)).map (·.step)).getD 0

/-- Have all tiles of an entry ended? -/
def Ctx.allEnded (x : Ctx) : Bool := x.tiles != [] && x.tiles.all (fun t => t.status.isSome)

/-- Completes a READ whose tiles have all ended. -/
def State.finishRead (s : State) (c : Nat) : State :=
  let x := s.ctx c
  let st := worstOf x.tiles
  let first := (x.tiles.find? (fun t => t.status == some st)).map (·.boi)
  let a := entMaddr x.entry
  let s := if entSptr x.entry = 0 then s
    else s.fabWrite (.statusArray c) (entSptr x.entry) ((x.tiles.map (fun t => leBytes 2 (t.status.getD 0))).flatten)
  s.finish c st (readDetail x.tiles st) (bandAddr (addrSet a) (addrBand a) (first.getD 0)) (bitsStep x.tiles)
    (x.tiles.filter (fun t => t.status != some 0)).length

/-- Completes a READ_RAW whose slots have all ended (R374, R375). -/
def State.finishRaw (s : State) (c : Nat) : State :=
  let x := s.ctx c
  let bad := (x.tiles.filter (fun t => t.status != some 0)).length
  if ent x.entry 32 1 = 1 then s.finish c (if bad = 0 then 0 else 0x20) (if bad = 0 then 0 else 1) (entMaddr x.entry) (bitsStep x.tiles) bad
  else s.finish c 0 0 (entMaddr x.entry) (x.tiles.foldl (fun a t => a + t.bits) 0) 0

/-- The tiles of a SCRUB_RANGE that failed. -/
def scrubFails (l : List TileJob) : List TileJob := l.filter (fun t => t.status == some 0x20 || t.status == some 0x22 || t.status == some 0x23)

/-- The summary of a SCRUB_RANGE (Table 11-8). -/
def State.scrubPage (s : State) (c : Nat) : List (Nat × Nat × Nat) :=
  let x := s.ctx c
  let l := x.tiles
  let n (p : TileJob → Bool) : Nat := (l.filter p).length
  let laddered (t : TileJob) : Bool := t.src == 0 || t.src == 4
  [(0, 8, entMaddr x.entry), (8, 4, l.length)] ++
    (List.range 8).map (fun k => (16 + 4 * k, 4, n (fun t => laddered t && t.step == k))) ++
    [(48, 4, n (fun t => t.src == 1)), (52, 4, n (fun t => t.src == 2)), (56, 4, n (fun t => t.src == 3)),
     (60, 4, n (fun t => t.src == 4)), (64, 4, n (fun t => t.status == some 1)), (68, 2, bitsStep l % 2 ^ 16),
     (70, 1, if x.queued = 0 then 0xFF else x.queued - 1), (72, 4, x.groups.eraseDups.length),
     (76, 4, (x.badGroups.map (· / 4)).eraseDups.length), (80, 4, (scrubFails l).length)] ++
    (((scrubFails l).take 496).zipIdx.map (fun (e : TileJob × Nat) =>
      [(128 + 8 * e.2, 4, e.1.boi), (132 + 8 * e.2, 2, e.1.status.getD 0), (134 + 8 * e.2, 1, e.1.step)])).flatten

/-- Queues a band for re-home from a SCRUB_RANGE, remembering the reason. -/
def State.scrubQueue (s : State) (c g b reason : Nat) : State :=
  let x := s.ctx c
  let s := s.setCtx c { x with queued := if x.queued = 0 then reason + 1 else min x.queued (reason + 1) }
  s.queueBand g b reason

/-- Completes a SCRUB_RANGE: mismatched groups are logged and raised, the summary written (R434, R435). -/
def State.finishScrub (s : State) (c : Nat) : State :=
  let x := s.ctx c
  let g := s.srcSet c
  let b := s.srcBand c
  let d := s.sset g
  let s := ((x.badGroups.map (· / 4)).eraseDups).foldl (fun s boi =>
    let which := (x.badGroups.filter (fun e => e / 4 == boi)).foldl (fun a e => a ||| e % 4) 0
    let s := s.logWrite 0x0012 2 (leBytes 8 (bandAddr (g % 256) b boi) ++ leBytes 1 (d.pos boi).plane ++
      leBytes 1 (d.pos boi).slot ++ leBytes 1 which)
    (s.raise Ev.parityMismatch).scrubQueue c g b 3) s
  let counted := x.tiles.map (fun (t : TileJob) =>
    if t.status = some 3 ∨ t.status = some 4 then { t with status := some 0 } else t)
  let st := worstOf counted
  let s := s.pageOut c (s.scrubPage c)
  s.finish c st (readDetail counted st) (entMaddr x.entry) (bitsStep x.tiles) (x.tiles.filter (fun t => t.status != some 0)).length

/-- The parity groups of a SCRUB_RANGE that can be checked, each by its first BOI (R434) (DEDUCED, log entry 142). -/
def State.checkGroups (s : State) (c : Nat) : List Nat :=
  let x := s.ctx c
  let g := s.srcSet c
  let b := s.srcBand c
  let d := s.sset g
  let firsts := (x.tiles.map (·.boi)).filter (fun boi => (d.pos boi).d == 0)
  firsts.filter (fun boi =>
    let r := d.pos boi
    let members := (List.range d.dpos).map (fun k => boiOf d.dpos d.planes d.slots (RowPos.mk r.row k r.plane r.slot))
    let jobs := members.map (fun m => x.tiles.find? (fun t => t.boi == m))
    jobs.all (fun j => match j with
      | some t => t.src == 2 || t.src == 3 || (t.src == 0 && t.status.getD 0x20 ≤ 2)
      | none => false) &&
      decide (r.row < s.dataRows g b) && (match (s.wband g b).rowAt r.row with | some w => w.par == 1 | none => true))

/-- The expected P or Q image of a checked group: the decoded images at their places, late voids as recorded (R121). -/
def State.groupParity (s : State) (c boi : Nat) (q : Bool) : List Byte :=
  let x := s.ctx c
  let g := s.srcSet c
  let b := s.srcBand c
  let d := s.sset g
  let r := d.pos boi
  let add (a : List Byte) (dp : Nat) (img : List Byte) : List Byte := if q then accQ a img dp else accP a img
  (List.range d.dpos).foldl (fun a k =>
    let m := boiOf d.dpos d.planes d.slots (RowPos.mk r.row k r.plane r.slot)
    let a := match x.tiles.find? (fun t => t.boi == m) with
      | some t => if t.src = 0 then
          add a k (scramble ((s.band g b).blocks.getD (d.boiPos m) 0) r.row r.slot t.data) else a
      | none => a
    match (s.band g b).corr.find? (fun e => e.1 == m) with
    | some e => add a k e.2
    | none => a) zeroImage

/-- Begins the parity reads of a SCRUB_RANGE whose tiles have ended, or completes it. -/
def State.scrubChecks (s : State) (c : Nat) : State :=
  let x := s.ctx c
  if (ent x.entry 36 4).testBit 1 = false then s.finishScrub c
  else
    let g := s.srcSet c
    let b := s.srcBand c
    let d := s.sset g
    let l := s.checkGroups c
    let asks := (l.map (fun boi =>
      let r := d.pos boi
      ([(pPos d.w r.row, 64)] ++ (if d.level = 2 then [(qPos d.w r.row, 65)] else [])).filterMap (fun (e : Nat × Nat) =>
        if (s.readLoc g b r.row e.1).isSome then some (boi, e.1, e.2) else none))).flatten
    let s := s.setCtx c { x with groups := (asks.map (·.1)).eraseDups, checks := asks.length }
    if asks = [] then s.finishScrub c
    else asks.foldl (fun s e =>
      let r := d.pos e.1
      let s := s.addCw (s.rowCw (.check c e.1 e.2.2) (s.bandCls g) x.level 6 g b r.row e.2.1 (r.plane * d.slots + r.slot))
      (s.climb (s.nextJob - 1) false climbFuel).1) s

/-- All tiles of an entry have ended: what follows by its opcode. -/
def State.tilesDone (s : State) (c : Nat) : State :=
  let x := s.ctx c
  if !x.allEnded ∨ x.state ≠ .running then s
  else if entOp x.entry = opREAD then s.finishRead c
  else if entOp x.entry = opREADRAW then s.finishRaw c
  else if entOp x.entry = opSCRUB then s.scrubChecks c
  else
    let st := worstOf x.tiles
    if 3 ≤ st then ((s.releaseBufs c).leaveBand c).finish c st (readDetail x.tiles st) 0 0 0
    else s.setCtx c { x with taken := true, status := st, detail := bitsStep x.tiles / 2 ^ 16 }

/-! ## Unrecoverable tiles (R364) -/

/-- Logs and raises an unrecoverable tile; `ctx` the entry it belongs to, if any: an entry raises the event once. -/
def State.noteFail (s : State) (c : Cw) (status step : Nat) (ctx : Option Nat) : State :=
  let g := c.set.getD 0
  let qc := match ctx with
    | some k => leBytes 2 (s.ctx k).queue ++ leBytes 2 (entCid (s.ctx k).entry)
    | none => leBytes 2 0xFFFF ++ leBytes 2 0
  let s := s.logWrite 0x0010 (if status = 0x22 then 2 else 1) (leBytes 8 (bandAddr (g % 256) c.band c.boi) ++ leBytes 2 (c.vdie % 4096) ++
    leBytes 2 c.pdie ++ leBytes 2 status ++ leBytes 1 step ++ leBytes 1 0 ++ qc)
  match ctx with
  | some k => if (s.ctx k).noted then s else (s.setCtx k { s.ctx k with noted := true }).raise Ev.readUnrecoverable
  | none => s.raise Ev.readUnrecoverable

/-- Passes an unrecoverable tile to the policy engine: the band's re-home and the criteria of the die (R364, R418). -/
def State.policyFail (s : State) (c : Cw) (status : Nat) : State :=
  let g := c.set.getD 0
  let s := s.queueBand g c.band (if status = 0x22 then 2 else 0)
  if status = 0x20 ∧ c.pdie ≠ noPdie then s.noteUnrec c.pdie (bandKey g c.band) else s

/-! ## What the end of a codeword means -/

/-- Tile `i` of an entry ended. -/
def State.tileGot (s : State) (c i : Nat) (w : Cw) (r : CwRes) : State :=
  if (s.ctx c).state ≠ .running then s
  else
    let g := w.set.getD 0
    let op := entOp (s.ctx c).entry
    let s := if r.status = 0x20 ∨ r.status = 0x22 then (s.noteFail w r.status r.step (some c)).policyFail w r.status else s
    let s := if op = opSCRUB then
        (if r.status = 0x20 then s.scrubQueue c g w.band 0
         else if r.status = 0x22 ∨ w.achk then s.scrubQueue c g w.band 2
         else if r.status = 2 then s.scrubQueue c g w.band 1
         else if r.status ≤ 1 ∧ (ent (s.ctx c).entry 36 4).testBit 0 ∧
             (s.fp (s.cwFam w) "REFRESH_BITS" 0 (s.gp "REFRESH_BITS" 0 200) ≤ r.bits ∨
               s.fp (s.cwFam w) "REFRESH_STEP" 0 (s.gp "REFRESH_STEP" 0 3) ≤ r.step) then s.scrubQueue c g w.band 4
         else s)
      else s
    let s := if op = opREAD ∧ r.status ≤ 2 then s.deliver c i (tileBytes * i) r.tile else s
    let x := s.ctx c
    let keep := op = opCOPY ∨ (op = opSCRUB ∧ (ent x.entry 36 4).testBit 1)
    let t := x.tiles.getD i TileJob.blank
    (s.setCtx c { x with tiles := x.tiles.set i { t with
      status := some r.status, step := r.step, bits := r.bits, data := if keep then r.tile else [] } }).tilesDone c

/-- Slot `i` of a READ_RAW ended: mode 1 by its decode. -/
def State.rawGot (s : State) (c i : Nat) (r : CwRes) : State :=
  if (s.ctx c).state ≠ .running then s
  else
    let s := if r.status ≤ 1 then s.deliver c i (tileBytes * i) r.tile else s
    let x := s.ctx c
    let t := x.tiles.getD i TileJob.blank
    (s.setCtx c { x with tiles := x.tiles.set i { t with
      status := some (if r.status ≤ 1 then 0 else 0x20), step := r.step, bits := r.bits } }).tilesDone c

/-- A slot of a READ_RAW of modes 0 and 2 has its senses: its images are delivered (Table 9-3). -/
def State.rawImages (s : State) (c i : Nat) (w : Cw) : State :=
  let n := s.cwBytes (s.cwFam w)
  let sd := s.softDelta w
  let at0 := (s.heldAt w zeroLevels).getD []
  let s := if ent (s.ctx c).entry 32 1 = 0 then s.deliver c i (n * i) at0
    else s.deliver c i (3 * n * i) ((s.heldAt w (s.beside w zeroLevels (0 - sd))).getD [] ++ at0 ++
      (s.heldAt w (s.beside w zeroLevels sd)).getD [])
  let x := s.ctx c
  let t := x.tiles.getD i TileJob.blank
  (s.setCtx c { x with tiles := x.tiles.set i { t with status := some 0, bits := popBits at0 } }).tilesDone c

/-- A patrol read ended (Table 11-1). -/
def State.patrolGot (s : State) (w : Cw) (r : CwRes) : State :=
  let g := w.set.getD 0
  let s := { s with patCounts := { s.patCounts with reads := s.patCounts.reads + 1 } }
  let x := s.lev w.vdie w.spare
  let s := if x.applied = [] ∨ g % 256 = 255 then s else s.setLev w.vdie w.spare { x with patrolBand := some (g, w.band) }
  let s := if w.achk && r.status = 2 then (s.noteFail w 0x22 r.step none).queueBand g w.band 2 else s
  if r.status = 0x20 ∨ r.status = 0x22 then
    let n := satAdd 32 s.patCounts.unrec 1
    let s := s.noteSat s.patCounts.unrec n (2 ^ 32 - 1)
    (({ s with patCounts := { s.patCounts with unrec := n } }).noteFail w r.status r.step none).policyFail w r.status
  else if r.status = 2 then
    { s with patCounts := { s.patCounts with recon := (s.patCounts.recon + 1) % 2 ^ 32 } }.queueBand g w.band 1
  else if r.status ≤ 1 ∧ (s.fp (s.cwFam w) "REFRESH_BITS" 0 (s.gp "REFRESH_BITS" 0 200) ≤ r.bits ∨
      s.fp (s.cwFam w) "REFRESH_STEP" 0 (s.gp "REFRESH_STEP" 0 3) ≤ r.step) then s.queueBand g w.band 4
  else s

/-- A sentinel was decoded, or failed (R618). -/
def State.sentinelGot (s : State) (i : Nat) (r : CwRes) : State :=
  let x := s.sleep.sentinels.getD i (Sentinel.mk 0 0 0)
  let failed := 1 < r.status
  let s := s.setF F.PWR_MITTEN_STAT.WORST (if failed then 0xFFFF else max r.bits (s.getF F.PWR_MITTEN_STAT.WORST))
  let s := if failed ∨ max 1 (s.getF F.PWR_MITTEN.SENT_BITS) ≤ r.bits then
      ((s.queueBand x.set x.band 4).raise Ev.mittenSentinel).startWake 6 else s
  ({ s with sleep := { s.sleep with left := s.sleep.left - 1 } }).windowEnd

/-- The image of a placed tile of an aborted entry was read (R120), or could not be had. -/
def State.imageGot (s : State) (c i : Nat) (r : CwRes) : State :=
  let x := s.ctx c
  let t := x.tiles.getD i TileJob.blank
  let g := s.destSet c
  let b := s.destBand c
  if x.aborting = 0 ∨ x.state ≠ .running then s
  else if r.status ≤ 2 then (s.correct g b t.boi (s.imageAt g b t.boi r.tile)).markTile c i 3
  else s.slotKept c i (if x.aborting = 0x12 then 3 else 1)

/-- The P or Q of a checked group was read (R434); one that did not decode is not compared. -/
def State.checkGot (s : State) (c boi pos : Nat) (r : CwRes) : State :=
  let x := s.ctx c
  if x.state ≠ .running then s
  else
    let bad := r.status ≤ 1 && r.tile != s.groupParity c boi (pos == 65)
    let x := { x with
      checks := x.checks - 1
      badGroups := if bad then x.badGroups ++ [4 * boi + (if pos = 65 then 2 else 1)] else x.badGroups }
    let s := s.setCtx c x
    if x.checks = 0 then s.finishScrub c else s

/-- A codeword that is no helper ended. -/
def State.endTop (s : State) (i : Nat) (r : CwRes) : State :=
  let c := s.cw i
  let raw := match c.use with | .raw _ _ => true | .burst _ _ => true | _ => false
  let s := if raw then s else s.countEnd c r
  let s := s.dropCw i
  let s := { s with cws := s.cws.filter (fun e => match e.2.use with | .helper p _ => p != i | _ => true) }
  match c.use with
  | .tile k j => s.tileGot k j c r
  | .raw k j => s.rawGot k j r
  | .patrol => s.patrolGot c r
  | .helper _ _ => s
  | .burst n j => s.burstGot n j (s.heldAt c (c.held.headD ([], [])).1) (if r.status ≤ 1 then some r.tile else none)
  | .sentinel j => s.sentinelGot j r
  | .page n j =>
    let s := if r.status = 0x20 ∨ r.status = 0x22 then s.noteFail c r.status r.step none else s
    s.pageGot n j (if r.status ≤ 2 then some r.tile else none)
  | .image k j => s.imageGot k j r
  | .check k boi pos => s.checkGot k boi pos r

/-! ## Reconstruction (R123 to R126, R345 to R347, R354) -/

/-- Has the row its accumulators in place of P and Q (R126)? -/
def State.rowAcc (s : State) (g b row : Nat) : Option ORow :=
  match (s.wband g b).rowAt row with
  | some r => if r.par = 0 then some r else none
  | none => none

/-- The data position of a codeword in its row; none for P and Q. -/
def State.cwData (s : State) (c : Cw) : Option Nat := (s.sset (c.set.getD 0)).dataPos c.row c.pos

/-- What the group has of data position `dp` without a read: an image, or nothing (`some none`: missing); none: to be read. -/
def State.groupData (s : State) (c : Cw) (dp : Nat) : Option (Option (List Byte)) :=
  let g := c.set.getD 0
  let d := s.sset g
  let b := c.band
  let boi := boiOf d.dpos d.planes d.slots (RowPos.mk c.row dp c.plane c.slot)
  let x := s.band g b
  let sl := match (s.wband g b).rowAt c.row with
    | some r => storeGet (fun _ => Slot.empty) r.slots (boi - d.rowBoi c.row)
    | none => Slot.mk 1 none none false false false 0 0
  if x.fill ≤ boi ∨ x.voids.contains boi ∨ sl.st ≠ 1 then some (some zeroImage)
  else if x.lost.contains boi then some none
  else match sl.buf with
    | some t => some (some (s.imageAt g b boi t))
    | none => if (s.readLoc g b c.row (d.boiPos boi)).isNone then some none else none

/-- The correction records of a group as (data position, image). -/
def State.groupCorr (s : State) (c : Cw) : List (Nat × List Byte) :=
  let g := c.set.getD 0
  let d := s.sset g
  ((s.band g c.band).corr.filter (fun e => (d.pos e.1).row == c.row && (d.pos e.1).plane == c.plane && (d.pos e.1).slot == c.slot)).map
    (fun e => ((d.pos e.1).d, e.2))

/-- Is P (64) or Q (65) of the row readable? -/
def State.parityReadable (s : State) (c : Cw) (pq : Nat) : Bool :=
  let g := c.set.getD 0
  let d := s.sset g
  let pos := if pq = 64 then pPos d.w c.row else qPos d.w c.row
  (pq == 64 || d.level == 2) && pos != c.pos && (s.readLoc g c.band c.row pos).isSome

/-- An image by its place in the group. -/
def Cw.image (c : Cw) (k : Nat) : Option (List Byte) :=
  match c.images.find? (fun e => e.1 == k) with
  | some e => e.2
  | none => none
/-- Is a place of the group asked for or known? -/
def Cw.asked (c : Cw) (k : Nat) : Bool := c.images.any (fun e => e.1 == k)

/-- What the group gives the target: its scrambled image, or its P or Q image as programmed. -/
def State.solve (s : State) (c : Cw) : Option (List Byte) :=
  let g := c.set.getD 0
  let d := s.sset g
  let corr := s.groupCorr c
  let others := (List.range d.dpos).filter (fun k => s.cwData c != some k)
  let known := others.filterMap (fun k => (c.image k).map (fun m => (k, m)))
  let gone := others.filter (fun k => (c.image k).isNone)
  let p := (c.image 64).map (fun m => removeP m corr)
  let q := (c.image 65).map (fun m => removeQ m corr)
  match s.cwData c with
  | some x => if 2 ≤ gone.length then none else reconstruct d.level p q known x gone.head?
  | none =>
    let full := match gone, p, q with
      | [], _, _ => some known
      | [y], _, some q => if d.isP c.row c.pos then some (known ++ [(y, recover1q (removeQ q known) y)]) else none
      | [y], some p, _ => if d.isP c.row c.pos then none else some (known ++ [(y, removeP p known)])
      | _, _, _ => none
    full.map (fun l => (l ++ corr).foldl (fun a e => if d.isP c.row c.pos then accP a e.2 else accQ a e.2 e.1) zeroImage)

/-- A parity page that a copy task makes while data of its group is lost: the lost slots count as zero, and are recorded (R416, R429). -/
def State.solveLost (s : State) (c : Cw) : Option (State × List Byte) :=
  match c.use, s.cwData c with
  | .page _ _, none =>
    let g := c.set.getD 0
    let d := s.sset g
    let gone := (List.range d.dpos).filter (fun k => (c.image k).isNone)
    let l := (List.range d.dpos).filterMap (fun k => (c.image k).map (fun m => (k, m)))
    let s := gone.foldl (fun s k =>
      let boi := boiOf d.dpos d.planes d.slots (RowPos.mk c.row k c.plane c.slot)
      if (s.band g c.band).lost.contains boi then s else s.slotLost g c.band boi) s
    some (s, (l ++ s.groupCorr c).foldl (fun a e => if d.isP c.row c.pos then accP a e.2 else accQ a e.2 e.1) zeroImage)
  | _, _ => none

/-- Reads one helper of a group; its number in the group is `k`. -/
def State.askHelper (s : State) (i k : Nat) : State :=
  let c := s.cw i
  let g := c.set.getD 0
  let d := s.sset g
  let pos := if k = 64 then pPos d.w c.row else if k = 65 then qPos d.w c.row else (memberOf k c.row d.w d.level).getD 0
  let h := s.rowCw (.helper i k) c.cls c.level 6 g c.band c.row pos (c.plane * d.slots + c.slot)
  let s := s.addCw { h with admTick := c.admTick, order := c.order }
  let j := s.nextJob - 1
  (s.setCw i { s.cw i with awaited := (s.cw i).awaited + 1 }).setCw j (s.cw j)

/-- The block and seed under which the target's image was placed (R125). -/
def State.seedBlock (s : State) (c : Cw) : Nat :=
  let g := c.set.getD 0
  match (s.wband g c.band).rowAt c.row with
  | some _ => s.seedOf g c.band c.boi
  | none => (s.band g c.band).blocks.getD c.pos 0

/-- The outcome of a recovered image: it passes both checks or ends the tile (Table 3-2, R347). -/
def State.recovered (s : State) (c : Cw) (img : List Byte) : CwRes :=
  match s.cwData c with
  | none => CwRes.mk 2 6 0xFFFF img
  | some _ =>
    let tile := scramble (s.seedBlock c) c.row c.slot img
    if tileCrcOk tile && tileAchkOk tile (bandAddr (c.set.getD 0 % 256) c.band c.boi) then CwRes.mk 2 6 0xFFFF tile
    else CwRes.mk (if c.achk then 0x22 else 0x20) 6 0 []

/-- All helpers asked for have ended: the target is recovered, a second parity is read, or the reconstruction fails or is abandoned.
Answers 0 waiting, 2 ended, 3 abandoned. -/
def State.reconTry (s : State) (i : Nat) : State × Nat :=
  let c := s.cw i
  if c.awaited ≠ 0 then (s, 0)
  else match s.solve c with
    | some img => (s.endTop i (s.recovered c img), 2)
    | none =>
      match [64, 65].find? (fun k => !c.asked k && s.parityReadable c k && (s.rowAcc (c.set.getD 0) c.band c.row).isNone) with
      | some k =>
        let s := s.askHelper i k
        ((s.climb (s.nextJob - 1) false climbFuel).1, 0)
      | none =>
        if c.jumped then (s, 3)
        else match s.solveLost c with
          | some (s, img) => (s.endTop i (CwRes.mk 2 6 0xFFFF img), 2)
          | none => (s.endTop i (CwRes.mk (if c.achk then 0x22 else 0x20) 6 0 []), 2)

/-- Begins a reconstruction: what needs no read is taken, the other data positions and P are read, Q where P is missing, both where
another data position is missing (Table 3-5). -/
def State.reconBegin (s : State) (i : Nat) : State × Nat :=
  let c := s.cw i
  let g := c.set.getD 0
  let d := s.sset g
  let late := if (s.cwData c).isSome ∧ (s.band g c.band).voids.contains c.boi then
      (s.band g c.band).corr.find? (fun e => e.1 == c.boi) else none
  match late with
  | some e => (s.endTop i (s.recovered c e.2), 2)
  | none =>
    let others := (List.range d.dpos).filter (fun k => s.cwData c != some k)
    let had := others.filterMap (fun k => (s.groupData c k).map (fun m => (k, m)))
    let toRead := others.filter (fun k => (s.groupData c k).isNone)
    let gone := (had.filter (fun e => e.2.isNone)).length
    let pars : List (Nat × Option (List Byte)) := match s.rowAcc g c.band c.row with
      | some r =>
        let k := 8 * c.plane + c.slot
        [(64, some (accGet r.accP k))] ++ (if d.level = 2 then [(65, some (accGet r.accQ k))] else [])
      | none => []
    let askP := pars == [] && s.parityReadable c 64 && (s.cwData c).isSome
    let askQ := pars == [] && s.parityReadable c 65 && (s.cwData c).isSome && (!askP || gone != 0)
    let ask := toRead ++ (if askP then [64] else []) ++ (if askQ then [65] else [])
    let s := s.setCw i { c with stage := .helpers, step := 6, images := had ++ pars, awaited := 0 }
    let s := ask.foldl (fun s k =>
      let s := s.askHelper i k
      (s.climb (s.nextJob - 1) false climbFuel).1) s
    s.reconTry i

/-- Goes on with a codeword that is no helper after a climb or a reconstruction, by their codes. -/
def State.drive (s : State) (i code : Nat) : Nat → State
  | 0 => s
  | fuel + 1 =>
    let c := s.cw i
    match code with
    | 1 =>
      (match c.use with
       | .sentinel _ => s.endTop i (CwRes.mk 0x20 6 0 [])
       | _ =>
        if s.lastStep c < 6 then s.endTop i (CwRes.mk 0x23 c.ceil 0 [])
        else
          let r := s.reconBegin i
          if r.2 = 3 then r.1.drive i 3 fuel else r.1)
    | 2 =>
      if !s.cws.any (fun e => e.1 == i) then s
      else
        let low := match c.use with | .tile _ _ => true | .patrol => true | .image _ _ => true | .page _ _ => true | _ => false
        s.endTop i (CwRes.mk (if low then 0x23 else 0x20) c.step 0 [])
    | 3 =>
      let n := satAdd 32 s.decs.abandoned 1
      let s := (s.noteSat s.decs.abandoned n (2 ^ 32 - 1)).updDecs (fun d => { d with abandoned := n })
      let s := s.setCw i { c with
        step := c.backStep, jumped := false, noJump := true, deadline := 0, missed := true, images := [], awaited := 0, need := [], phase := 0 }
      let s := match c.use with
        | .tile k _ => s.setCtx k { s.ctx k with late := true }
        | _ => s
      let m := storePut (fun _ => 0) s.pln.misses (s.homeIx c.pdie) (satAdd 32 (cnt s.pln.misses (s.homeIx c.pdie)) 1)
      let s : State := { s with pln := { s.pln with misses := m } }
      let r := s.climb i false climbFuel
      r.1.drive i r.2 fuel
    | _ => s

/-- A helper ended: its image, or none where it failed; its target goes on. -/
def State.helperEnd (s : State) (i : Nat) (img : Option (List Byte)) : State :=
  let h := s.cw i
  let s := s.dropCw i
  match h.use with
  | .helper p k =>
    if !s.cws.any (fun e => e.1 == p) then s
    else
      let c := s.cw p
      let s := s.setCw p { c with images := c.images ++ [(k, img)], awaited := c.awaited - 1 }
      let r := s.reconTry p
      if r.2 = 3 then r.1.drive p 3 4 else r.1
  | _ => s

/-- A codeword's step failed, or its ladder goes on; any codeword. -/
def State.cwOn (s : State) (i : Nat) (fail : Bool) : State :=
  let r := s.climb i fail climbFuel
  match (s.cw i).use with
  | .helper _ _ => if r.2 = 0 then r.1
    else (r.1.countEnd (r.1.cw i) (CwRes.mk 0 (r.1.cw i).step 0 [])).helperEnd i none
  | _ => r.1.drive i r.2 4

/-- Begins a codeword's ladder: a codeword whose member cannot be read starts at step 6 (R351). -/
def State.beginCw (s : State) (c : Cw) : State :=
  let s := s.addCw c
  s.cwOn (s.nextJob - 1) false

/-- Begins the ladders of the codeword reads that copy tasks and aborts have asked for. -/
def State.pumpCws (s : State) : State :=
  (storeKeys s.cws).foldl (fun s i =>
    let c := s.cw i
    if s.cws.any (fun e => e.1 == i) && c.stage == .want && c.need == [] then s.cwOn i false else s) s

/-! ## Data of a sense -/

/-- One more read of a slot of a band (R90), with the read-disturb limit (Table 11-2). -/
def State.countRead (s : State) (g b : Nat) : State :=
  let x := s.band g b
  let n := satAdd 32 x.reads 1
  let s := (s.noteSat x.reads n (2 ^ 32 - 1)).setBand g b { x with reads := n }
  if n = s.fp (s.sset g).family "RD_LIMIT" 0 50000000 then s.queueBand g b 5 else s

/-- The bytes of a codeword's sense have been transferred. -/
def State.cwGot (s : State) (i : Nat) (m : List Byte) : State :=
  let c := s.cw i
  match c.need with
  | [] => s
  | delta :: rest =>
    let s := match c.set with
      | some g => if c.held = [] then s.countRead g c.band else s
      | none => s
    let c := { c with need := rest, held := c.held ++ [(delta, m)], faults := 0, stage := .want, fresh := false, part := [] }
    let s := s.setCw i c
    if rest ≠ [] then s
    else match c.use with
      | .burst n j =>
        if (s.burst n).search then (s.dropCw i).burstGot n j (some m) none
        else s.setCw i { c with stage := .decode, limit := s.iterLimit 0 }
      | .raw k j => if s.rawMode c ≠ 1 then (s.dropCw i).rawImages k j c else s.cwOn i false
      | _ => s.cwOn i false

/-- A sense of a codeword failed: a second microcode fault, a timeout, an unresponsive die (R193, R361, R362). -/
def State.cwSenseFail (s : State) (i : Nat) : State :=
  let c := s.cw i
  match c.use with
  | .patrol =>
    let left := s.patrol.left ++ [(c.set.getD 0, c.band, c.row, c.pos)]
    let s := s.dropCw i
    { s with patrol := { s.patrol with left := left } }
  | .burst n j => (s.dropCw i).burstGot n j none none
  | .raw k _ => if s.rawMode c ≠ 1 then (s.stopReads k).finish k 0x20 0 (entMaddr (s.ctx k).entry) 0 0
      else (s.setCw i { c with need := [], stage := .want }).cwOn i true
  | _ => (s.setCw i { c with need := [], stage := .want, step := if c.pdie == noPdie || (s.die c.pdie).unresp then 5 else c.step }).cwOn i true

/-- Jumps a codeword to step 6, or reads around its die: its helpers stop at step 1 (R164, R343, R345). -/
def State.cwJump (s : State) (i : Nat) : State :=
  let c := s.cw i
  let s := s.setCw i { c with jumped := true, backStep := c.step, step := 6, need := [] }
  s.drive i 1 4

/-! ## DECODE_DONE (R334 to R348) -/

/-- Busy cycles of a decode (R334). -/
def hardCycles (n iter : Nat) : Nat := ceilDiv (n * max iter 12) 100
def softCycles (n iter : Nat) : Nat := ceilDiv (n * max iter 20 * 24) 1000

/-- Is the codeword one whose content carries no tile: P, Q, or a patrolled page whose slot is void or beyond FILL? -/
def State.noTile (s : State) (c : Cw) : Bool :=
  match c.set with
  | none => false
  | some g =>
    let x := s.band g c.band
    (s.cwData c).isNone ||
      (match c.use with | .patrol => decide (x.fill ≤ c.boi) || x.voids.contains c.boi || x.lost.contains c.boi | _ => false)

/-- What tracking learns from a decode at step 0 (R387, R390). -/
def State.feedCw (s : State) (c : Cw) (good : Bool) (hard out : List Byte) : State :=
  let feeds := (match c.use with
    | .raw _ _ => false
    | .burst _ _ => false
    | .sentinel _ => false
    | _ => true) && c.step == 0 && c.cls != 0 && c.set.isSome && (s.cwData c).isSome
  if !feeds then s
  else
    let n (read true' : Bool) : Nat := if !good || !c.slc then 0 else
      ((List.range (8 * out.length)).filter (fun j => (bitAt hard j == 1) == read && (bitAt out j == 1) == true')).length
    let s := s.feed c.vdie c.spare c.page c.slc (!good) (n false true) (n true false)
    let fam := s.cwFam c
    let mode := s.vdieMode c.vdie
    let x := s.lev c.vdie c.spare
    let z := s.zoneOf fam (if c.slc then 1 else mode) c.page
    if good && c.cls == 1 && x.applied != [] && c.set.getD 0 % 256 != 255 then
      s.setLev c.vdie c.spare (x.setZone z { x.zone z with last := some (c.set.getD 0, c.band, c.page / s.puOf fam mode) })
    else s

/-- A codeword converged and passed its CRC: the end of its ladder, or of the helper. -/
def State.cwGood (s : State) (i bits : Nat) (img tile : List Byte) : State :=
  let c := s.cw i
  match c.use with
  | .helper _ _ => (s.countEnd c (CwRes.mk 0 c.step bits [])).helperEnd i (some img)
  | _ => s.endTop i (CwRes.mk (s.warnStatus bits c.step) c.step bits (if s.noTile c then img else tile))

/-- A good CRC with a wrong address check (Table 3-2). -/
def State.cwAchk (s : State) (i : Nat) : State :=
  let c := s.cw i
  let n := satAdd 32 s.decs.achkFails 1
  let s := (s.noteSat s.decs.achkFails n (2 ^ 32 - 1)).updDecs (fun d => { d with achkFails := n })
  match c.use with
  | .helper _ _ => (s.countEnd c (CwRes.mk 0 c.step 0 [])).helperEnd i none
  | _ =>
    let s := (s.setCw i { c with achk := true }).queueBand (c.set.getD 0) c.band 2
    if s.lastStep c < 6 then s.endTop i (CwRes.mk 0x22 c.step 0 [])
    else (s.setCw i { s.cw i with step := 6 }).drive i 1 4

/-- DECODE_DONE: the decoder of codeword read `cw` ends its step after `iter` iterations, with the codeword `out` it converged to, or
none. -/
def execDecodeDone (cw iter : Nat) (out : Option (List Byte)) (s : State) : Host.Outcome State Fault Refusal :=
  .next (let c := s.cw cw
    if !s.clocked || !s.cws.any (fun e => e.1 == cw) || c.stage != .decode || c.limit < iter || iter == 0 then s
    else
      let fam := s.cwFam c
      let n := s.cwBytes fam
      let soft := c.step == 4 || c.step == 5
      let s := if c.step = 0 then s.noteDecode c.pdie out.isSome else s
      let s := s.updDecs (fun d => if soft then { d with softBusy := (d.softBusy + softCycles n iter) % 2 ^ 64 }
        else { d with hardBusy := (d.hardBusy + hardCycles n iter) % 2 ^ 64 })
      let hard := (match c.use with
        | .burst _ _ => c.held.head?.map (fun (h : List Int × List Byte) => h.2)
        | _ => s.hardOf c).getD []
      let fail (s : State) : State :=
        match c.use with
        | .burst m j =>
          if c.step = 0 then s.setCw cw { c with step := 1, limit := s.iterLimit 1 }
          else (s.dropCw cw).burstGot m j (some hard) none
        | _ => s.cwOn cw true
      match out with
      | none => fail (s.feedCw c false hard [])
      | some m =>
        let img := m.take tileBytes
        if m.length ≠ n ∨ ldpcCodeword img (s.profile fam) ≠ m then fail (s.feedCw c false hard [])
        else
          let bits := popBits (xorBytes m hard)
          let tile := scramble c.block c.page c.slot img
          if s.noTile c then s.cwGood cw bits img tile
          else if !tileCrcOk tile then
            let k := satAdd 32 s.decs.miscorrect 1
            let s := (s.noteSat s.decs.miscorrect k (2 ^ 32 - 1)).updDecs (fun d => { d with miscorrect := k })
            fail (s.feedCw c false hard [])
          else
            let s := s.feedCw c true hard m
            let counts := match c.use with | .raw _ _ => false | _ => true
            let s := if soft && counts then
                s.llrCount fam (decide (c.step = 5)) ((s.stepSenses c).filterMap (fun d => s.heldAt c d)) m else s
            match c.use with
            | .burst k j => (s.dropCw cw).burstGot k j (some hard) (some m)
            | .raw _ _ => s.cwGood cw bits img tile
            | _ =>
              if tileAchkOk tile (bandAddr (c.set.getD 0 % 256) c.band c.boi) then s.cwGood cw bits img tile
              else s.cwAchk cw)

/-! ## READ, COPY from media, SCRUB_RANGE -/

/-- READ: the entry begins; its slots wait for resolution. -/
def execRead (ctx : Nat) (s : State) : Host.Outcome State Fault Refusal :=
  .next (if s.starts ctx opREAD then (s.runCtx ctx) else s)

/-- COPY with SRCMEM 0 (R302): it joins its destination's order of placement and asks for scratchpad buffers. -/
def execCopyMedia (ctx : Nat) (s : State) : Host.Outcome State Fault Refusal :=
  .next (if s.starts ctx opCOPY && !entSrcMem (s.ctx ctx).entry then s.startWrite ctx else s)

/-- SCRUB_RANGE: the entry begins; its ceiling is tightened by OPTIONS. -/
def execScrubRange (ctx : Nat) (s : State) : Host.Outcome State Fault Refusal :=
  .next (if s.starts ctx opSCRUB then
      (let x := s.ctx ctx
       let o := ent x.entry 36 4
       let ceil := if o.testBit 11 then min x.ceil (o / 256 % 8) else x.ceil
       s.setCtx ctx { x with state := .running, ceil := min 6 ceil, deadline := 0 })
    else s)

/-- Resolves one slot of an entry (R328, Table 2-8): what needs no media ends at once. -/
def State.resolveOne (s : State) (g b boi : Nat) : TileJob :=
  let d := s.sset g
  match s.resolveBoi g b boi with
  | 1 =>
    let tile := match (s.wband g b).rowAt (d.rowOf boi) with
      | some r => (storeGet (fun _ => Slot.empty) r.slots (boi - d.rowBoi (d.rowOf boi))).buf.getD []
      | none => []
    TileJob.mk boi 1 (some 0) 0 0 tile 0
  | 2 => TileJob.mk boi 2 (some 3) 0 0 [] 0
  | 3 => TileJob.mk boi 3 (some 4) 0 0 [] 0
  | 4 => TileJob.mk boi 4 none 7 0 [] 0
  | _ => TileJob.mk boi 0 none 0 0 [] 0

/-- The codeword read of tile `i` of an entry. -/
def State.tileCw (s : State) (c i g b boi : Nat) : Cw :=
  let x := s.ctx c
  let d := s.sset g
  let p := d.pos boi
  { s.rowCw (.tile c i) 1 x.level x.ceil g b p.row (d.boiPos boi) (p.plane * d.slots + p.slot) with
    deadline := x.deadline, admTick := x.admTick, order := x.admSeq }

/-- READ_RESOLVE: the slots of a READ, COPY from media or SCRUB_RANGE resolve together. -/
def execReadResolve (ctx : Nat) (s : State) : Host.Outcome State Fault Refusal :=
  .next (let x := s.ctx ctx
    let op := entOp x.entry
    let reads := op == opREAD || op == opSCRUB || (op == opCOPY && !entSrcMem x.entry && x.bufs != 0)
    if !s.awake || s.pfail || x.state != .running || !reads || x.tiles != [] || x.ended || x.aborting != 0 then s
    else
      let g := s.srcSet ctx
      let b := s.srcBand ctx
      let n := if op = opSCRUB then ent x.entry 32 4 else entCount x.entry
      let a := entMaddr x.entry
      let jobs := (List.range n).map (fun i => s.resolveOne g b (addrBoi a + i))
      let s := s.setCtx ctx { x with tiles := jobs }
      let s := (List.range n).foldl (fun s i =>
        let t := jobs.getD i TileJob.blank
        if t.src = 1 then (if op = opREAD then s.deliver ctx i (tileBytes * i) t.data else s)
        else if t.src = 4 then
          (let w := s.tileCw ctx i g b t.boi
           (s.countUnrec noPdie).tileGot ctx i { w with pdie := noPdie } (CwRes.mk 0x20 7 0 []))
        else if t.src = 0 then s.beginCw (s.tileCw ctx i g b t.boi)
        else s) s
      s.tilesDone ctx)

/-! ## READ_RAW (R371 to R375) -/

/-- Starts a READ_RAW entry of a mode. -/
def State.startRaw (s : State) (c mode : Nat) : State :=
  if !s.starts c opREADRAW || ent (s.ctx c).entry 32 1 != mode then s
  else
    let x := s.ctx c
    let e := x.entry
    let a := entMaddr e
    let v := nsVdie (s.qNs x.queue) (addrVdie a)
    let y := s.vdie v
    let fam := y.family
    let slc := s.vdieMode v = 1 ∨ s.journalIndex (s.qNs x.queue) v (addrBlock a)
    if s.famSlots fam < addrSlot a + entCount e then s.finish c 0x40 28 0 0 0
    else
      let p := if y.state = 1 ∧ y.oldPdie ≠ noPdie then y.oldPdie else y.pdie
      let spare := y.state == 1 && y.oldPdie == noPdie
      let n := entCount e
      let s := s.setCtx c { x with
        state := .running, tiles := (List.range n).map (fun i => TileJob.mk (addrSlot a + i) 0 none 0 0 [] 0) }
      let tracked := if ent e 36 1 = 1 then (List.range 15).map (fun i => byteS8 (BitVec.ofNat 8 (ent e (40 + i) 1)))
        else []
      (List.range n).foldl (fun s i => s.beginCw { Cw.zero with
        use := .raw c i, cls := 1, level := x.level, order := x.admSeq, ceil := 1, deadline := x.deadline, admTick := x.admTick
        vdie := v, spare := spare, pdie := p, plane := addrPlane a, block := addrBlock a, page := addrPage a, slot := addrSlot a + i
        slc := slc, tracked := tracked }) s

/-- READ_RAW MODE 0. -/
def execReadRawMode0 (ctx : Nat) (s : State) : Host.Outcome State Fault Refusal := .next (s.startRaw ctx 0)
/-- READ_RAW MODE 1. -/
def execReadRawMode1 (ctx : Nat) (s : State) : Host.Outcome State Fault Refusal := .next (s.startRaw ctx 1)
/-- READ_RAW MODE 2. -/
def execReadRawMode2 (ctx : Nat) (s : State) : Host.Outcome State Fault Refusal := .next (s.startRaw ctx 2)

/-! ## Patrol (R407 to R410) -/

/-- The pages of a band that a pass reads, as (set key, band, row, position): those of finished wordlines on members not missing. -/
def State.patrolPages (s : State) (g b : Nat) : List (Nat × Nat × Nat × Nat) :=
  let d := s.sset g
  let pu := s.puOf d.family d.mode
  let st := (s.band g b).state
  if st ≠ 3 ∧ st ≠ 4 then []
  else ((List.range d.rows).map (fun row => ((List.range d.w).filter (fun pos =>
      (if g % 256 = 255 then decide (row * d.rowTiles < (s.band g b).fill) else s.wlFinished g b pos (row / pu)) &&
        (s.readLoc g b row pos).isSome)).map (fun pos => (g, b, row, pos)))).flatten

/-- Starts a pass: its pages in ascending set and band, or oldest first in an accelerated one (R408, R409) (DESIGN CHOICE, log entry 33; DEDUCED, log entry 130). -/
def State.startPass (s : State) (accel : Bool) : State :=
  let own := storeKeys s.bands
  let keys := if accel then own.mergeSort (fun a b =>
      decide (s.bandAge (b / 16384) (b % 16384) ≤ s.bandAge (a / 16384) (a % 16384))) else own
  let pages := (keys.map (fun k => s.patrolPages (k / 16384) (k % 16384))).flatten
  let len := max 1 (s.getL F.PTL_CTRL.PASS_DAYS) * 86400000000
  let len := if accel then len / 2 ^ s.getL F.PTL_CTRL.ACCEL else len
  { s with patrol := Patrol.mk (s.patrol.pass + 1) (s.mtime + len) accel (s.patrol.accelDone || accel) pages pages.length true }

/-- patrol_quota (R408). -/
def patrolQuota (left tEnd now tickUs : Nat) : Nat :=
  if tEnd ≤ now then min left 64
  else
    let t := (tEnd - now + tickUs - 1) / tickUs
    (left + t - 1) / t

/-- The patrol read of a page in pass `k`: plane (k + row) mod planes, slot (k + row div planes) mod slots (R407). -/
def State.patrolCw (s : State) (e : Nat × Nat × Nat × Nat) : Cw :=
  let d := s.sset e.1
  let k := s.patrol.pass
  let plane := (k + e.2.2.1) % max 1 d.planes
  let slot := (k + e.2.2.1 / max 1 d.planes) % max 1 d.slots
  s.rowCw .patrol 2 7 (min 6 (s.gp "PATROL_CEIL" 0 6)) e.1 e.2.1 e.2.2.1 e.2.2.2 (plane * d.slots + slot)

/-- Share of a pass done, in percent. -/
def State.passReg (s : State) : State :=
  let t := s.patrol.total
  s.setF F.PTL_STAT.PASS_PCT (if t = 0 then 0 else min 100 ((t - min t s.patrol.left.length) * 100 / t))

/-- The patrol requests of one tick (R408). -/
def State.patrolTick (s : State) : State :=
  if !s.peRuns || !s.patrol.running || s.flagL F.PTL_CTRL.HOLD then s
  else
    let n := patrolQuota s.patrol.left.length s.patrol.due s.mtime s.periodUs
    let now := s.patrol.left.take n
    let s := { s with patrol := { s.patrol with left := s.patrol.left.drop n } }
    let s := if now = [] then s else s.peStep 1
    (now.foldl (fun s e => if (s.readLoc e.1 e.2.1 e.2.2.1 e.2.2.2).isNone then s else s.beginCw (s.patrolCw e)) s).passReg

/-- PATROL_PASS_END: no page of the pass is left and none is being read; or no pass has begun yet. -/
def execPatrolPassEnd (s : State) : Host.Outcome State Fault Refusal :=
  .next (if !s.peRuns then s
    else if !s.patrol.running then ((s.peStep 1).startPass s.patrol.accel).passReg
    else if s.patrol.left != [] || s.cws.any (fun e => e.2.use == .patrol) then s
    else ((((s.peStep 1).countWrap F.PTL_STAT.PASSES 1).raise Ev.patrolPassDone).startPass false).passReg)

end Sys2Proof.Machine
end

