-- ==== Sys2Proof/Machine/PowerLoss.lean ====
section
/-! DEFINITION. What the brown-out sequence puts on the media (chapter 12): the fold, the choice of shelter pages, the directory, the
shelter programs and the seal. -/

namespace Sys2Proof.Machine

/-! ## Phase 3: the fold (R443) -/

/-- Every resident row, as (set key, band, row). -/
def State.residentRows (s : State) : List (Nat × Nat × ORow) :=
  (s.wbands.map (fun e => e.2.rows.map (fun r => (e.1 / 16384, e.1 % 16384, r)))).flatten

/-- The placed slots of a row whose page did not program, as BOIs. -/
def State.unprogrammed (s : State) (g : Nat) (r : ORow) : List Nat :=
  let d := s.sset g
  (r.slots.filter (fun e => e.2.st == 1 && cnt r.pages (d.boiPos (d.rowBoi r.row + e.1)) != 2)).map (fun e => d.rowBoi r.row + e.1)

/-- The key of a row among those that could not be folded. -/
def rowKey (g b row : Nat) : Nat := 16384 * bandKey g b + row
/-- The tiles that phase 3 reads from the fabric pool, each as its row's key and its buffer (DEDUCED, log entry 158). -/
def State.pinReads (s : State) : List (Nat × Nat) :=
  (s.residentRows.map (fun e => ((s.unprogrammed e.1 e.2.2).filter (fun boi =>
    let sl := storeGet (fun _ => Slot.empty) e.2.2.slots (boi - (s.sset e.1).rowBoi e.2.2.row)
    sl.fab && sl.buf.isSome)).map (fun boi => (rowKey e.1 e.2.1 e.2.2.row,
      (storeGet (fun _ => Slot.empty) e.2.2.slots (boi - (s.sset e.1).rowBoi e.2.2.row)).place)))).flatten

/-- Voids and folds them out; a row with a tile that could not be read stays as it is (Table 20-5). -/
def State.foldRows (s : State) : State :=
  s.residentRows.foldl (fun s e =>
    let g := e.1
    let b := e.2.1
    let l := if s.pf.unread.contains (rowKey g b e.2.2.row) then [] else s.unprogrammed g e.2.2
    let s := l.foldl (fun s boi => s.voidSlot g b boi) s
    s.setF F.PWR_PFAIL_STAT.FOLDED (satAdd 16 (s.getF F.PWR_PFAIL_STAT.FOLDED) l.length)) s

/-! ## Shelter dies (R444, R448) -/

/-- The covered rows to shelter, in ascending order of the tick each became an open row. -/
def State.shelterRows (s : State) : List (Nat × Nat × ORow) :=
  (s.residentRows.filter (fun e =>
    let d := s.sset e.1
    e.2.2.covered && e.2.2.par == 0 && (List.range d.dpos).any (fun dp =>
      cnt e.2.2.pages ((memberOf dp e.2.2.row d.w d.level).getD 0) == 2))).mergeSort (fun a b => decide (a.2.2.opened ≤ b.2.2.opened))

/-- The shelter pages that one row's P, or Q, takes on a die. -/
def State.shelterNeed (s : State) (d : SetDesc) (p : Nat) : Nat :=
  let per := s.famPlanes (s.famOf p) * s.famSlots (s.famOf p)
  if per = 0 then 0 else ceilDiv (d.planes * d.slots) per

/-- May a die take a row's P or Q; `away` lists channels to keep off; `use` the pages taken by die so far. -/
def State.shelterOk (s : State) (g row : Nat) (away : List Nat) (use : Store Nat) (p : Nat) : Bool :=
  let d := s.sset g
  let x := s.pdie p
  let base := 4096 * nsOf g
  let locs := d.members.map (fun v => (s.vdie (v + base)).pdie)
  let parity := ([pPos d.w row] ++ (if d.level = 2 then [qPos d.w row] else [])).map (fun pos => pdieChannel (locs.getD pos noPdie))
  x.shelter.isSome && x.cond == .mapped && !(s.die p).unresp && !locs.contains p && !parity.contains (pdieChannel p) &&
    !away.contains (pdieChannel p) &&
    s.vdies.any (fun e => e.2.mapped && e.2.state == 0 && e.2.pdie == p && e.1 / 4096 == nsOf g) &&
    decide (x.shelterPage + cnt use p + s.shelterNeed d p ≤ s.famPages x.family 1)

/-- The die with the fewest shelter programs on its channel, ties to the lowest number (DESIGN CHOICE, log entry 143). -/
def pickShelter (load : Store Nat) : List Nat → Option Nat
  | [] => none
  | p :: rest =>
    match pickShelter load rest with
    | none => some p
    | some q => if cnt load (pdieChannel p) ≤ cnt load (pdieChannel q) then some p else some q

/-- Chooses the shelter pages of every row that is sheltered, and notes them in the row: P pdie, block, first page, then Q's. -/
def State.chooseShelters (s : State) : State :=
  (s.shelterRows.foldl (fun (t : State × Store Nat × Store Nat) e =>
    let s := t.1
    let d := s.sset e.1
    let pick (away : List Nat) (use load : Store Nat) : Option Nat :=
      pickShelter load ((storeKeys s.pdies).filter (s.shelterOk e.1 e.2.2.row away use))
    let take (o : Option Nat) (use load : Store Nat) : (Nat × Nat × Nat) × Store Nat × Store Nat :=
      match o with
      | some p => ((p, (s.pdie p).shelter.getD 0, (s.pdie p).shelterPage + cnt use p), bump use p (s.shelterNeed d p),
          bump load (pdieChannel p) (s.shelterNeed d p))
      | none => ((noPdie, 0, 0), use, load)
    let whole := !s.pf.unread.contains (rowKey e.1 e.2.1 e.2.2.row)
    let p := take (if whole then pick [] t.2.1 t.2.2 else none) t.2.1 t.2.2
    let q := if d.level = 2 ∧ whole then take (pick [pdieChannel p.1.1] p.2.1 p.2.2) p.2.1 p.2.2 else ((noPdie, 0, 0), p.2.1, p.2.2)
    let w := s.wband e.1 e.2.1
    let r := { e.2.2 with shelter := some (p.1.1, p.1.2.1, p.1.2.2, q.1.1, q.1.2.1, q.1.2.2) }
    (s.setWband e.1 e.2.1 (w.setRow r), q.2.1, q.2.2)) (s, [], [])).1

/-! ## Phase 4: the directory (R445) -/

/-- A PL_DIR record of one entry kind. -/
def jDir (kind : Nat) (l : List (List Byte)) (eff : JEff) : JItem :=
  jrec 0x50 (leBytes 1 kind ++ leBytes 1 0 ++ leBytes 2 l.length ++ l.flatten) eff

/-- Runs of consecutive numbers of a rising list, as (first, count). -/
def runsOf : List Nat → List (Nat × Nat)
  | [] => []
  | x :: rest =>
    match runsOf rest with
    | (y, n) :: t => if y = x + 1 then (x, n + 1) :: t else (x, 1) :: (y, n) :: t
    | [] => [(x, 1)]

/-- The placed slots, on pages that programmed, of an entry whose completion has not been posted. -/
def State.postless (s : State) (c : Nat) : List Nat :=
  let x := s.ctx c
  let g := s.destSet c
  let d := s.sset g
  ((x.tiles.take x.placed).map (·.boi)).filter (fun boi => (s.resolveBoi g (s.destBand c) boi) != 2 &&
    (match (s.wband g (s.destBand c)).rowAt (d.rowOf boi) with
     | some r => cnt r.pages (d.boiPos boi) == 2
     | none => true))

/-- The directory of a namespace: its OPEN bands, sheltered rows, runs and next stamp. -/
def State.directory (s : State) (ns : Nat) : List JItem :=
  let bands := s.bands.filter (fun e => e.2.state == 3 && nsOf (e.1 / 16384) == ns && e.1 / 16384 % 256 != 255)
  let rows := s.residentRows.filter (fun e => nsOf e.1 == ns && e.2.2.shelter.isSome)
  let runs := ((storeKeys s.ctxs).filter (fun c =>
    let x := s.ctx c
    x.state != .free && x.placed != 0 && (entOp x.entry == opWRITE || entOp x.entry == opCOPY) && nsOf (s.destSet c) == ns)).map (fun c =>
      (runsOf ((s.postless c).mergeSort (· ≤ ·))).map (fun r => leBytes 1 (s.destSet c % 256) ++ leBytes 1 0 ++ leBytes 2 (s.destBand c) ++
        leBytes 4 r.1 ++ leBytes 4 r.2 ++ leBytes 2 (s.ctx c).queue ++ leBytes 2 (entCid (s.ctx c).entry)))
  [jDir 1 (bands.map (fun e => leBytes 1 (e.1 / 16384 % 256) ++ leBytes 1 0 ++ leBytes 2 (e.1 % 16384) ++ leBytes 4 e.2.fill)) .nothing,
   jDir 2 (rows.map (fun e =>
     let h := e.2.2.shelter.getD (noPdie, 0, 0, noPdie, 0, 0)
     leBytes 1 (e.1 % 256) ++ leBytes 1 0 ++ leBytes 2 e.2.1 ++ leBytes 2 e.2.2.row ++ leBytes 2 h.1 ++ leBytes 2 h.2.1 ++ leBytes 2 h.2.2.1 ++
       leBytes 2 h.2.2.2.1 ++ leBytes 2 h.2.2.2.2.1 ++ leBytes 2 h.2.2.2.2.2 ++ leBytes 2 0)) .nothing,
   jDir 3 runs.flatten .nothing,
   jDir 4 [leBytes 1 ns ++ leBytes 7 0 ++ leBytes 8 (s.stamp ns)] .plDir]

/-- The namespaces that have a journal set. -/
def State.journalNs (s : State) : List Nat := (storeKeys s.journals).filter (fun ns => (s.sset (jset ns)).defined)

/-- Starts phase 4. -/
def State.startDirectory (s : State) : State :=
  let s := s.setF F.PWR_PFAIL_STAT.PHASE 4
  let l := s.journalNs
  let s : State := { s with pf := { s.pf with wait := l.length, dir := l.map (fun ns => (ns, (s.journal ns).seq + 1)) } }
  l.foldl (fun s ns => s.journalAdd ns (s.directory ns)) s

/-! ## Phase 5: shelter programs (R444) -/

/-- The programs of one image list on shelter pages from a first page on: the images in order, each scrambled for its own place. -/
def State.shelterProgs (s : State) (g : Nat) (q : Bool) (row p block first : Nat) (l : List (List Byte)) : List Prog :=
  let fam := s.famOf p
  let planes := s.famPlanes fam
  let slots := s.famSlots fam
  let per := planes * slots
  (List.range (s.shelterNeed (s.sset g) p)).map (fun k => { Prog.zero with
    use := .shelter q, cls := 0, level := 0, set := g, row := row, pdie := p, block := block, page := first + k, slc := true, planes := planes,
    slots := slots
    images := (List.range per).map (fun i => scramble block (first + k) (i % max 1 slots) (l.getD (per * k + i) zeroImage)) })

/-- Starts phase 5: the P and Q accumulators of every row chosen. -/
def State.startShelter (s : State) : State :=
  let s := s.setF F.PWR_PFAIL_STAT.PHASE 5
  s.residentRows.foldl (fun s e =>
    match e.2.2.shelter with
    | none => s
    | some (p, pb, pp, q, qb, qp) =>
      let d := s.sset e.1
      let imgs (m : Store (List Byte)) : List (List Byte) :=
        (List.range (d.planes * d.slots)).map (fun k => accGet m (8 * (k / d.slots) + k % d.slots))
      let lp := if p = noPdie then [] else s.shelterProgs e.1 false e.2.2.row p pb pp (imgs e.2.2.accP)
      let lq := if q = noPdie then [] else s.shelterProgs e.1 true e.2.2.row q qb qp (imgs e.2.2.accQ)
      let s := if p = noPdie ∧ q = noPdie then s
        else s.setF F.PWR_PFAIL_STAT.SHELTERED (s.getF F.PWR_PFAIL_STAT.SHELTERED + 1)
      let s := (lp ++ lq).foldl (fun s x => s.addProg x) s
      let used (s : State) (die n : Nat) : State :=
        if die = noPdie then s else s.setPdie die { s.pdie die with shelterPage := (s.pdie die).shelterPage + n }
      used (used s p lp.length) q lq.length) s

/-- The directory of a namespace has committed: with the last of them phase 5 begins. -/
def State.dirCommitted (s : State) : State :=
  let s : State := { s with pf := { s.pf with wait := s.pf.wait - 1 } }
  if s.pf.wait = 0 then s.startShelter else s

/-! ## Phases 6 and 7 (R446) -/

/-- Starts phase 6: the seal of each namespace. -/
def State.startSeal (s : State) : State :=
  let s := s.setF F.PWR_PFAIL_STAT.PHASE 6
  let l := s.journalNs
  let s : State := { s with pf := { s.pf with wait := l.length } }
  l.foldl (fun s ns => s.journalAdd ns [jrec 0x51 (leBytes 8 (cnt s.pf.dir ns) ++ leBytes 4 (s.mtime - s.pf.start) ++ leBytes 4 0) .plSeal]) s

/-- Drives WP_n low on every quad. -/
def State.wpLow (s : State) : State :=
  (List.range s.build.quads).foldl (fun s q => s.setF (F.CHU_QUAD_CFG.WP_HIGH q) 0) s

/-- A seal has committed: with the last of them the sequence ends (R446). -/
def State.sealCommitted (s : State) : State :=
  let s : State := { s with pf := { s.pf with wait := s.pf.wait - 1 } }
  if s.pf.wait = 0 then
    (((s.setF F.PWR_PFAIL_STAT.SEALED 1).setF F.PWR_PFAIL_STAT.PHASE 7).wpLow).raise Ev.powerFailSealed
  else s

end Sys2Proof.Machine
end

