-- ==== Sys2Proof/Machine/Commit.lean ====
section
/-! DEFINITION. What comes about when a journal row commits (R449), and the journal's checkpoint (R451). -/

namespace Sys2Proof.Machine

/-! ## Effects of records -/

/-- A band's state change takes effect (Table 2-4): a band CLOSED completes the entries that joined its close (R324), a band ERASING has no
page of its last wordline left to fill. -/
def State.applyBand (s : State) (g b st fill closedAt : Nat) : State :=
  let x := s.band g b
  if st = 4 then
    let w := s.wband g b
    let s := (s.setBand g b { x with state := 4, closedAt := closedAt, fill := max fill x.fill }).setWband g b { w with closers := [] }
    let s := w.closers.foldl (fun s c => if (s.ctx c).state = .running then s.finish c 0 0 0 0 0 else s) s
    (s.dropRes g b).writePump g b
  else if st = 3 then
    s.setBand g b { x with
      state := 3, fill := 0, voids := [], lost := [], corr := [], opened := 0, closedAt := 0, reads := 0, rehoming := false }
  else if st = 1 then
    { (s.setBand g b { x with state := 1, rehoming := false }).setWband g b { s.wband g b with closing := false } with
      progs := s.progs.filter (fun e => !(e.2.use == .fill && e.2.set == g && e.2.band == b && !e.2.running)) }
  else
    (s.setWband g b WBand.none).setBand g b { Band.unerased with state := st, blocks := x.blocks }

/-- The binding of a re-home, or of a substitution, is committed: the switch (R319, R413, R414). -/
def State.applySwitch (s : State) (n : Nat) : State :=
  let t := s.task n
  let g := t.set
  let b := t.band
  let x := s.band g b
  let d := s.sset g
  match t.kind with
  | .rehome _ =>
    let blocks := (List.range d.w).map (fun pos =>
      if t.blocks.getD pos 0xFFFF = 0xFFFF then x.blocks.getD pos 0xFFFF else t.blocks.getD pos 0xFFFF)
    let s := s.setBand g b { x with
      blocks := blocks, corr := [], lost := [], opened := t.start, closedAt := s.nsTime (nsOf g), reads := 0, rehoming := false }
    let s := s.unqueue g b
    let s := { s with patCounts := { s.patCounts with rehomes := (s.patCounts.rehomes + 1) % 2 ^ 32 } }
    let s := s.tasks.foldl (fun s e =>
      if e.2.kind = .rebuild ∧ e.2.bind.any (fun k => k.1 == bandKey g b) then
        s.setTask e.1 { e.2 with rb := storeIns (bandKey g b) d.rows e.2.rb }
      else s) s
    s.setTask n { t with stage := 3, adm := s.admSeq + 1, old := (List.range d.w).map (fun pos =>
      if t.blocks.getD pos 0xFFFF = 0xFFFF then 0xFFFF else x.blocks.getD pos 0xFFFF) }
  | .subst =>
    let pad := x.blocks ++ List.replicate (t.pos + 1 - x.blocks.length) 0xFFFF
    let s := s.setBand g b { x with blocks := pad.set t.pos (t.blocks.headD 0) }
    let w := (s.wband g b).markDone t.pos t.stop
    let w := match w.rowAt t.stop with
      | some r => w.setRow { r with pages := storePut (fun _ => 0) r.pages t.pos 2 }
      | none => w
    let s := (s.setWband g b w).dropTask n
    let s := (w.rows.map (·.row)).foldl (fun s row => s.reseed g b row t.pos (t.blocks.headD 0)) s
    (s.writePump g b).abortPump g b
  | .rebuild => s

/-- The pending binding of a copy task is committed: it begins to copy (R318, R413). -/
def State.applyPending (s : State) (n : Nat) : State :=
  if !s.tasks.any (fun e => e.1 == n) then s
  else
    let t := s.task n
    let work := match t.kind with
      | .rehome _ => s.rehomeWork t.set t.band
      | .subst => s.substWork n
      | .rebuild => t.work
    (s.setTask n { t with stage := 1, work := work }).taskPump n

/-- A rebuild is complete: the spare's blocks are the member's (R431). -/
def State.applyRebuilt (s : State) (n : Nat) : State :=
  if !s.tasks.any (fun e => e.1 == n) then s
  else
    let t := s.task n
    let s := (s.setsOf t.vdie).foldl (fun s g =>
      let pos := s.posIn g t.vdie
      (List.range (s.sset g).bands).foldl (fun s b => s.applyBind g b pos (t.bindOf g b)) s) s
    let s := s.dropTask n
    { s with patCounts := { s.patCounts with rebuilds := (s.patCounts.rebuilds + 1) % 2 ^ 32 } }.rebuildRegs

/-- A map entry takes effect; the rebuild it starts begins, and a target that failed meanwhile is dealt with. -/
def State.applyMap (s : State) (v : Nat) (x : Vdie) : State :=
  let s := s.applyVdie v x
  if !x.mapped ∨ x.state ≠ 1 then s
  else
    let s := match s.rebuildOf v with
      | some (n, t) =>
        if t.stage = 0 then
          (let s := s.setTask n { t with stage := 1 }
           (s.rebuildPump n ((s.sset t.set).bands + 66)).rebuildRegs)
        else s
      | none => s
    if (s.die x.pdie).toRetire then s.targetFailed v else s

/-- A map entry takes effect; a die that holds a member of a data set gets its shelter block (R448). -/
def State.applyMapEntry (s : State) (v : Nat) (x : Vdie) : State :=
  let s := s.applyMap v x
  if x.mapped ∧ x.state = 0 ∧ x.member then s.bindShelter (vdieNs v) x.pdie else s

/-- A checkpoint is complete: the census record follows, and the journal bands before it are erased (R451). -/
def State.applyCkpt (s : State) (ns seq : Nat) : State :=
  let j := s.journal ns
  let g := jset ns
  let d := s.sset g
  let s : State := if ns = 0 then { s with census := { s.census with recDue := true } } else { s with pair := { s.pair with recDue := true } }
  let s := s.setJournal ns { j with inCkpt := false, ckptSeq := seq, ckptBand := j.newBand, ckptRow := j.newRow }
  let live := (List.range 64).filter (fun k => decide ((k + 64 - j.newBand) % 64 ≤ (j.band + 64 - j.newBand) % 64))
  let old := (List.range d.bands).filter (fun b => !live.contains b && (s.band g b).state == 4)
  old.foldl (fun s b =>
    let s := s.setBand g b { s.band g b with state := 1 }
    (List.range d.w).foldl (fun s pos =>
      match s.eraseLoc g b pos with
      | some l => s.askErase (.journalBand g b) ns l.pdie l.block d.planes 0 0 3 true
      | none => s) s) s

/-- A record's effect at its commit. -/
def State.applyEff (s : State) (e : JEff) : State :=
  match e with
  | .nothing => s
  | .finish c st detail r0 =>
    if (s.ctx c).state = .free ∨ (s.ctx c).state = .ready then s
    else if entOp (s.ctx c).entry = opWRITE ∨ entOp (s.ctx c).entry = opCOPY then s.finishPlaced c st detail
    else s.finish c st detail r0 0 0
  | .vdie v x => s.applyMapEntry v x
  | .setDef g d => s.applySetDef g d
  | .setDel g => s.applySetDel g
  | .band g b st fill closedAt => s.applyBand g b st fill closedAt
  | .voids g b boi n =>
    let s := (List.range n).foldl (fun s i =>
      if s.ctxs.any (fun k => k.2.aborting != 0 && s.destSet k.1 == g && s.destBand k.1 == b &&
          k.2.tiles.any (fun t => t.boi == boi + i && t.status == some 3)) then s.voidLate g b (boi + i) else s) s
    let s := s.ctxs.foldl (fun s k =>
      if k.2.aborting ≠ 0 ∧ s.destSet k.1 = g ∧ s.destBand k.1 = b then
        s.setCtx k.1 { s.ctx k.1 with tiles := (s.ctx k.1).tiles.map (fun (t : TileJob) =>
          if boi ≤ t.boi ∧ t.boi < boi + n ∧ t.status = some 3 then { t with status := some 0 } else t) }
      else s) s
    s.abortPump g b
  | .corr g b boi img =>
    let x := s.band g b
    s.setBand g b { x with corr := x.corr ++ [(boi, img)] }
  | .lost g b boi =>
    let x := s.band g b
    s.setBand g b { x with lost := if x.lost.contains boi then x.lost else x.lost ++ [boi] }
  | .badBlock p i => s.markBad p i
  | .retire p => s.setPdie p { s.pdie p with cond := .retired }
  | .shelter p i => s.setPdie p { s.pdie p with shelter := some i }
  | .bindPending n => s.applyPending n
  | .bindCommit n => if s.tasks.any (fun e => e.1 == n) then s.applySwitch n else s
  | .bindNow g b pos i => s.applyBind g b pos i
  | .intent job => s.applyIntent job
  | .erased job ok => s.applyErased job ok
  | .rebuilt n => s.applyRebuilt n
  | .hwm ns v =>
    let s := s.setJournal ns { s.journal ns with hwm := v }
    s
  | .ckptEnd ns seq => s.applyCkpt ns seq
  | .plDir => s.dirCommitted
  | .plSeal => s.sealCommitted
  | .recovered => s.setF F.PWR_RECOVERY.DONE 1

/-- A program of the journal row in flight has ended: with the last of them the row commits, or is written again as the next row with
the same SEQ (R449). -/
def State.journalProg (s : State) (ns job : Nat) (ok : Bool) : State :=
  let j := s.journal ns
  if !j.progs.contains job then s
  else
    let j := { j with progs := j.progs.filter (· != job), bad := j.bad || !ok }
    let s := s.setJournal ns j
    if j.progs ≠ [] then s
    else if j.bad then
      let s := s.setJournal ns { j with pend := j.flight ++ j.pend, flight := [], bad := false }
      (s.journalStep ns).journalPump ns
    else
      let effs := j.flight.map (·.eff)
      let s := s.setJournal ns { j with seq := j.seq + 1, rowsSince := j.rowsSince + 1, flight := [] }
      let s := s.peMark.journalStep ns
      let s := if ns = 0 then s.cuffSend 0x10 (leBytes 8 (j.seq + 1)) (j.flight.map JItem.record).flatten else s
      (effs.foldl (fun s e => s.applyEff e) s).journalPump ns

/-! ## The checkpoint (R451) -/

/-- Keys of a namespace in a store keyed by vdie. -/
def State.nsVdies (s : State) (ns : Nat) : List (Nat × Vdie) := s.vdies.filter (fun e => e.1 / 4096 == ns && e.2.mapped)
/-- The pdies a namespace's journal lists: those of its own home channels. -/
def State.nsPdies (s : State) (ns : Nat) : List (Nat × Pdie) :=
  s.pdies.filter (fun e => e.2.cond != .absent &&
    decide ((s.c0 ≤ pdieChannel e.1 ∧ pdieChannel e.1 < s.c0 + s.build.channels) ↔ ns = 0))

/-- A LEVELS record (Table 12-4). -/
def jLevels (v : Nat) (spare : Bool) (x : Levels) : JItem :=
  jrec 0x31 (leBytes 2 (v % 4096) ++ leBytes 1 (if spare then 1 else 0) ++ leBytes 5 0 ++ padTo 240 (x.applied.map s8Byte) ++
    padTo 240 (x.target.map s8Byte) ++ (x.k.map (fun k => leBytes 2 (BitVec.ofInt 16 k).toNat)).flatten ++ leBytes 2 0 ++
    (List.range 16).map (fun z => BitVec.ofNat 8 (x.zone z).laRef)) .nothing

/-- The erase counts of a die, up to 4,096 indices a record. -/
def State.jCounts (s : State) (p : Nat) : List JItem :=
  let n := s.famBlocks (s.famOf p)
  (List.range ((n + 4095) / 4096)).map (fun k =>
    let m := min 4096 (n - 4096 * k)
    jrec 0x22 (leBytes 2 p ++ leBytes 2 (4096 * k) ++ leBytes 2 m ++ leBytes 2 0 ++
      ((List.range m).map (fun i => leBytes 4 (s.wearOf p (4096 * k + i)))).flatten) .nothing)

/-- Records of one band. -/
def State.bandRecords (s : State) (g b : Nat) : List JItem :=
  let x := s.band g b
  let d := s.sset g
  [jBand g b x.state x.opened x.closedAt (if x.state = 4 then x.fill else 0) .nothing] ++
    (List.range d.w).filterMap (fun pos =>
      if x.blocks.getD pos 0xFFFF = 0xFFFF then none else some (jBinding g pos b (x.blocks.getD pos 0) 1 .nothing)) ++
    ((runsOf (x.voids.mergeSort (· ≤ ·))).map (fun r =>
      jrec 0x12 (leBytes 1 (g % 256) ++ leBytes 1 0 ++ leBytes 2 b ++ leBytes 4 r.1 ++ leBytes 4 r.2 ++ leBytes 4 0) .nothing)) ++
    (x.corr.map (fun e =>
      let r := d.pos e.1
      { jCorrection g r.d b r.row r.plane r.slot e.1 e.2 with eff := .nothing })) ++
    (x.lost.map (fun boi => { jLost g b boi with eff := .nothing }))

/-- Bindings that copy tasks hold pending, and the checkpoints of rebuilds. -/
def State.taskRecords (s : State) (ns : Nat) : List JItem :=
  (s.tasks.map (fun e =>
    let t := e.2
    if nsOf t.set ≠ ns then []
    else match t.kind with
      | .rehome _ => if 3 ≤ t.stage then [] else
        (List.range (s.sset t.set).w).filterMap (fun pos =>
          if t.blocks.getD pos 0xFFFF = 0xFFFF then none else some (jBinding t.set pos t.band (t.blocks.getD pos 0) 0 .nothing))
      | .subst => t.blocks.map (fun i => jBinding t.set t.pos t.band i 0 .nothing)
      | .rebuild => t.bind.map (fun k => jRebuildCkpt t.vdie (k.1 / 16384) (k.1 % 16384) (cnt t.rb k.1) k.2))).flatten

/-- The complete state of a namespace as records, those of its journal set first, CKPT_END last. -/
def State.ckptRecords (s : State) (ns first : Nat) : List JItem :=
  let vs := s.nsVdies ns
  let ps := s.nsPdies ns
  let sets := (storeKeys s.sets).filter (fun g => g / 256 == ns)
  let all := (storeKeys s.bands).filter (fun k => k / 16384 / 256 == ns)
  let own := (all.filter (fun k => k / 16384 == jset ns)).map (fun k => s.bandRecords (k / 16384) (k % 16384))
  let bands := all.filter (fun k => k / 16384 != jset ns)
  let fams := (vs.map (fun e => e.2.family)).eraseDups
  [s.jSetRec (jset ns) .nothing] ++ own.flatten ++ vs.map (fun e => { jVdie e.1 e.2 with eff := .nothing }) ++
    (ps.map (fun e => if e.2.cond = .retired then (jRetired ns e.1).map (fun i => { i with eff := .nothing }) else [])).flatten ++
    (sets.filter (· != jset ns)).map (fun g => s.jSetRec g .nothing) ++
    ps.map (fun e => jrec 0x03 (leBytes 2 e.1 ++ leBytes 1 e.2.volume ++ leBytes 1 e.2.lun ++ leBytes 16 e.2.uid) .nothing) ++
    (ps.map (fun e => e.2.bad.map (fun i => { jBadBlock e.1 i 1 with eff := .nothing }))).flatten ++
    fams.map (fun f => jrec 0x05 (leBytes 1 f ++ leBytes 1 ((profileRows.findIdx? (· == s.profile f)).getD 0) ++ leBytes 2 0) .nothing) ++
    (ps.filterMap (fun e => e.2.shelter.map (fun i => { jShelter e.1 i e.2.shelterPage with eff := .nothing }))) ++
    (bands.map (fun k => s.bandRecords (k / 16384) (k % 16384))).flatten ++ s.taskRecords ns ++
    ((s.erases.filter (fun e => e.2.intent)).map (fun e => jrec 0x20 (leBytes 2 e.2.pdie ++ leBytes 2 e.2.block ++ leBytes 1 (match e.2.use with
      | .band _ _ _ => 1
      | .shelter => 2
      | .journalBand _ _ => 3
      | .freeIndex => 4
      | .recovery => 5
      | .spareBlock _ => 1
      | .create _ _ => 3) ++ leBytes 3 0) .nothing)) ++
    (ps.map (fun e => s.jCounts e.1)).flatten ++
    ((s.levels.filter (fun e => e.1 / 2 / 4096 == ns)).map (fun e => jLevels (e.1 / 2) (e.1 % 2 == 1) e.2)) ++
    [{ jHwm ns (s.journal ns).hwm with eff := .nothing }, jrec 0x7F (leBytes 8 first) (.ckptEnd ns first)]

/-- Starts a checkpoint of a namespace; the level tables are verified first (R381). -/
def State.startCkpt (s : State) (ns : Nat) : State :=
  let s := ((storeKeys s.levels).filter (fun k => k / 2 / 4096 == ns)).foldl (fun s k => s.verifyTables (k / 2) (k % 2 == 1)) s
  let j := s.journal ns
  let first := if j.flight = [] then j.seq + 1 else j.seq + 2
  let s := s.setJournal ns { j with inCkpt := true, ckptFirst := first, rowsSince := 0, bandsSince := 0 }
  s.journalAdd ns (s.ckptRecords ns first)

/-- JOURNAL_CHECKPOINT: after 4,096 committed rows or 48 bands. -/
def execJournalCheckpoint (s : State) : Host.Outcome State Fault Refusal :=
  .next (if !s.awake || s.pfail || s.peHalted then s
    else
      (storeKeys s.journals).foldl (fun s ns =>
        let j := s.journal ns
        if !j.inCkpt && (decide (4096 ≤ j.rowsSince) || decide (48 ≤ j.bandsSince)) then (s.peStep 9).startCkpt ns else s) s)

end Sys2Proof.Machine
end

