-- ==== Sys2Proof/Machine/Planner.lean ====
section
/-! DEFINITION. The planner (chapter 4): requests by class, the power envelope of a rail group, the decision on each read of a busy die,
and the commit of every channel's plan for the next tick. -/

namespace Sys2Proof.Machine

/-! ## The draft of the next tick -/

/-- The plans being made: the items by channel in their order, the current of each rail group and what class B takes of it, the cycles
class B takes of each channel, the dies with a CMD or a STATUS planned, the hard and soft decoder cycles reserved with class B's
hard share, and the parity-engine cycles reserved. -/
structure Draft where
  items : Store (List Item)
  ma : Store Nat
  bMa : Store Nat
  bCyc : Store Nat
  cmds : List Nat
  stats : List Nat
  hard : Nat
  soft : Nat
  bHard : Nat
  parity : Nat
deriving DecidableEq, Repr

/-- A request for planner slots: its class and level now, its place in the order, what it asks for, its die and its job. -/
structure Req where
  cls : Nat
  level : Nat
  order : Nat
  act : Act
  pdie : Nat
  job : Nat
deriving DecidableEq, Repr

def State.exItems (s : State) (h : Nat) : List Item := storeGet (fun _ => []) s.pln.exec h
/-- Every item of the tick in execution. -/
def State.flying (s : State) : List Item := (s.pln.exec.map (·.2)).flatten
def Draft.list (a : Draft) (h : Nat) : List Item := storeGet (fun _ => []) a.items h
def Draft.setList (a : Draft) (h : Nat) (l : List Item) : Draft := { a with items := storePut (fun _ => []) a.items h l }

/-- Does an item start something on its die? -/
def Act.isCmd : Act → Bool
  | .read => true
  | .prog => true
  | .erase => true
  | .suspend => true
  | .resume => true
  | .resetLun => true
  | _ => false

/-- The place of an item in a tick: a reset first, then commands, so that their array time begins at once; then status reads with what
waits for them; data input with its confirm; resumes last. -/
def Act.phase : Act → Nat
  | .train => 0
  | .resetLun => 0
  | .suspend => 1
  | .erase => 1
  | .read => 1
  | .setLevels => 1
  | .status => 2
  | .dout => 2
  | .din => 3
  | .prog => 3
  | .resume => 4

/-- The place of an item in a draft: a command for a die that reads its status first goes after it. -/
def Draft.phase (a : Draft) (i : Item) : Nat := if a.stats.contains i.pdie then max 2 i.act.phase else i.act.phase

/-- Puts an item behind those of its place or an earlier one. -/
def Draft.insert (a : Draft) (i : Item) (l : List Item) : List Item :=
  l.takeWhile (fun x => decide (a.phase x ≤ a.phase i)) ++ [i] ++ l.dropWhile (fun x => decide (a.phase x ≤ a.phase i))

/-- The volume a channel unit has selected when the next tick begins. -/
def State.volNext (s : State) (h : Nat) : Option Nat :=
  match (s.exItems h).getLast? with
  | some i => if i.act = .train then none else some (s.pdie i.pdie).volume
  | none => (s.chan (s.chanOf h)).vol

/-- The cycles of a list of items with their volume selections (R188). -/
def State.listCycles (s : State) (h : Nat) : Option Nat → List Item → Nat
  | _, [] => 0
  | v, i :: rest =>
    let w := (s.pdie i.pdie).volume
    (if v = some w then 0 else s.costOf (s.famOf i.pdie) rtVol h) + i.cost + s.listCycles h (some w) rest

/-! ## The power envelope (R145 to R150) -/

/-- The families with a die on a rail group. -/
def State.railFams (s : State) (g : Nat) : List Nat :=
  ((s.pdies.filter (fun e => e.2.cond != .absent && s.railOf (quadOf (s.homeIx e.1)) == some g)).map (fun e => e.2.family)).eraseDups
/-- The largest first-tick current of any class of any family on a group. -/
def State.largestFirst (s : State) (g : Nat) : Nat :=
  (s.railFams g).foldl (fun m f => (List.range 4).foldl (fun m k => max m (max (s.iFirst f k false) (s.iFirst f k true))) m) 0
/-- The configured envelope in force (R145). -/
def State.envOf (s : State) (g : Nat) : Nat := max (s.getF (rgF F.PLN_RAIL_CFG.ENV_MA g)) (s.largestFirst g)
/-- The effective envelope (R148, R154). -/
def State.envEff (s : State) (g : Nat) : Nat :=
  let f := s.getF (rgF F.PLN_RAIL_STAT.FACTOR g)
  let capped := s.flag F.PLN_CTRL.THERM_ACTIVE || s.pln.thermTick == s.tickno + 1
  s.envOf g * (if capped then min f (s.getF F.PLN_ADAPT.THERM_CAP) else f) / 1000

/-- What an item draws in its tick. -/
def State.itemMa (s : State) (i : Item) : Nat :=
  let fam := s.famOf i.pdie
  match i.act with
  | .read => s.iFirst fam 0 ((i.jobs.head?.map (fun j => (s.cw j).slc)).getD false)
  | .prog => s.iFirst fam 1 ((i.jobs.head?.map (fun j => (s.prog j).slc)).getD false)
  | .erase => s.iFirst fam 2 ((i.jobs.head?.map (fun j => (s.eraseJob j).slc)).getD false)
  | .resume => (match (s.die i.pdie).op with | some o => s.iFirst fam o.kind.ix o.slc | none => 0)
  | .dout => s.iFirst fam 3 ((i.jobs.head?.map (fun j => (s.cw j).slc)).getD false)
  | .din => s.iFirst fam 3 ((i.jobs.head?.map (fun j => (s.prog j).slc)).getD false)
  | _ => 0

/-- The current that the operations active on a die draw in a tick after the one they started in (R146, R147). -/
def State.dieMa (s : State) (p : Nat) : Nat :=
  let d := s.die p
  let fam := s.famOf p
  (match d.read with | some o => s.iRun fam 0 o.slc | none => 0) +
    (match d.op with
     | some o => if (match d.susp with | some u => u.taken | none => false) then 0 else s.iRun fam o.kind.ix o.slc
     | none => 0)
/-- The current counted against each group before anything is planned: active operations, and starts not yet executed. -/
def State.baseMa (s : State) : Store Nat :=
  let one (m : Store Nat) (p n : Nat) : Store Nat :=
    match s.railOf (quadOf (s.homeIx p)) with
    | some g => bump m g n
    | none => m
  let m := s.dies.foldl (fun m e => one m e.1 (s.dieMa e.1)) []
  s.flying.foldl (fun m i => if i.act.isCmd then one m i.pdie (s.itemMa i) else m) m

/-! ## Adding items to the draft -/

/-- The percentage class B is guaranteed (R141, R143). -/
def State.bgShare (s : State) : Nat :=
  if s.flagL F.PLN_CTRL.HOLD_BG ∨ s.flag F.PLN_CTRL.THERM_ACTIVE then 0 else min 50 (s.getL F.PLN_CTRL.BG_SHARE)

/-- May a rail group take `n` mA more for a class, in class B's own pass only up to its share (R148, R149)? -/
def State.railFits (s : State) (a : Draft) (h cls n : Nat) (share : Bool) : Bool :=
  match s.railOf (quadOf h) with
  | none => false
  | some g =>
    n == 0 || (decide (cnt a.ma g + n ≤ if cls = 0 then s.envOf g else s.envEff g) &&
      (!share || decide (100 * (cnt a.bMa g + n) ≤ s.bgShare * s.envEff g)))

/-- Adds items of one die to a channel's plan where cycles and current allow. -/
def State.tryAdd (s : State) (a : Draft) (h cls : Nat) (share : Bool) (l : List Item) : Option Draft :=
  let b := l.foldl (fun (b : Draft) i =>
    let b := if i.act = .status then { b with stats := b.stats ++ [i.pdie] } else b
    b.setList h (b.insert i (b.list h))) a
  let n := (l.map s.itemMa).sum
  let used := s.listCycles h (s.volNext h) (b.list h)
  let mine := used - s.listCycles h (s.volNext h) (a.list h)
  if s.usable h < used ∨ (share ∧ s.bgShare * s.usable h < 100 * (cnt a.bCyc h + mine)) ∨ !s.railFits a h cls n share then none
  else
    let g := (s.railOf (quadOf h)).getD 0
    some { b with
      ma := bump b.ma g n
      bMa := if cls = 2 then bump b.bMa g n else b.bMa
      bCyc := if cls = 2 then bump b.bCyc h mine else b.bCyc
      cmds := b.cmds ++ (l.filter (fun i => i.act.isCmd)).map (·.pdie) }

/-- A start refused by the envelope is counted (Table 4-7). -/
def State.noteRefused (s : State) (a : Draft) (h cls : Nat) (l : List Item) : State :=
  let g := (s.railOf (quadOf h)).getD 0
  if s.railFits a h cls (l.map s.itemMa).sum false then s
  else { s with pln := { s.pln with refused := storePut (fun _ => 0) s.pln.refused g ((cnt s.pln.refused g + 1) % 2 ^ 32) } }

/-! ## Dies -/

/-- Does a die hold codeword data, or is its page register filling for a program? -/
def State.regBusy (s : State) (p : Nat) : Bool :=
  s.cws.any (fun e => e.2.pdie == p && (e.2.stage == .inReg || e.2.stage == .sensing)) ||
    s.progs.any (fun e => e.2.pdie == p && !e.2.running && (decide (0 < e.2.input) || decide (0 < e.2.part)))
/-- Is a die out of the plan: unresponsive, to be reset, or with a command under way in this tick or planned for the next? -/
def State.dieTaken (s : State) (a : Draft) (p : Nat) : Bool :=
  (s.die p).unresp || (s.die p).resetPend || a.cmds.contains p || s.flying.any (fun i => i.pdie == p && i.act.isCmd)
/-- Is a die idle in tick `n`, or its operation estimated at its end by then and not yet late (R134)? -/
def State.dieIdle (s : State) (a : Draft) (n p : Nat) : Bool :=
  !s.dieTaken a p && (s.die p).read.isNone && !s.regBusy p && (s.die p).susp.isNone &&
    (match (s.die p).op with | some o => decide (o.est ≤ n) && !o.late | none => true)
/-- The status read that an operation estimated at its end needs first. -/
def State.statusFirst (s : State) (a : Draft) (p cls : Nat) : List Item :=
  if ((s.die p).op.isSome ∨ (s.die p).read.isSome) ∧ !a.stats.contains p then
    [Item.mk .status p [] (s.costOf (s.famOf p) rtStatus (s.homeIx p)) cls 0 0] else []
/-- The burst that a codeword read belongs to. -/
def CwFor.inBurst : CwFor → Option Nat
  | .burst b _ => some b
  | _ => none
/-- Does a burst keep this read off its die (R165, R397)? -/
def State.burstBars (s : State) (c : Cw) : Bool :=
  match (s.die c.pdie).burst with
  | some b => c.use.inBurst != some b
  | none => false
/-- Is a die in a suspension that the read has joined? -/
def State.inSusp (s : State) (n p i : Nat) : Bool :=
  match (s.die p).susp with
  | some u => u.fixed && u.joined.contains i && decide (u.start ≤ n)
  | none => false

/-! ## The senses of a read -/

/-- The tracked levels that a codeword's senses start from, fixed with its first sense. -/
def State.cwTracked (s : State) (c : Cw) : List Int :=
  if c.tracked = [] then s.trackedOf c.vdie c.spare c.page c.slc else c.tracked
/-- The offsets its next sense loads. -/
def State.cwOffs (s : State) (c : Cw) : List Int := loadLevels (s.cwTracked c) (c.need.headD zeroLevels)
/-- The zone of its page. -/
def State.cwZone (s : State) (c : Cw) : Nat :=
  s.zoneOf (s.famOf c.pdie) (if c.slc then 1 else s.vdieMode c.vdie) c.page
/-- The codeword reads that the same sense serves: of the same page, with the same offsets, in the same plane or in any where the family
reads planes together (R183). -/
def State.matesOf (s : State) (i : Nat) : List Nat :=
  let c := s.cw i
  let multi := (s.fp (s.famOf c.pdie) "MULTI_PLANE" 0 0) % 2 == 1
  (s.cws.filter (fun e => e.1 == i || (e.2.pdie == c.pdie && e.2.stage == .want && e.2.need != [] && e.2.block == c.block && e.2.page == c.page &&
    e.2.slc == c.slc && (multi || e.2.plane == c.plane) && s.cwOffs e.2 == s.cwOffs c && e.2.use.inBurst == c.use.inBurst &&
    (!((s.die c.pdie).susp.isSome) || (match (s.die c.pdie).susp with | some u => u.joined.contains e.1 | none => true))))).map (·.1)
/-- The items of its next sense: a status read first where the die has an operation, the offsets where they differ from those the die
has (R194), the read. -/
def State.senseItems (s : State) (a : Draft) (i cls : Nat) : List Item :=
  let c := s.cw i
  let fam := s.famOf c.pdie
  let h := s.homeIx c.pdie
  let lv := if (s.die c.pdie).kept = some (s.cwOffs c ++ [(s.cwZone c : Int)]) then []
    else [Item.mk .setLevels c.pdie [i] (s.costOf fam rtLevels h) cls 0 0]
  s.statusFirst a c.pdie cls ++ lv ++ [Item.mk .read c.pdie (s.matesOf i) (s.costOf fam (rtRead c.slc) h) cls 0 0]

/-- The ticks of an array read (R134). -/
def State.readTicks (s : State) (p : Nat) (slc : Bool) : Nat := s.inTicks (s.typTime (s.famOf p) .read slc)

/-! ## Decoders and parity engines (R167, R168) -/

/-- The decoder cycles a codeword reserves when its sense completes a step: (hard, soft). -/
def State.reserveOfCw (s : State) (c : Cw) : Nat × Nat :=
  let n := s.cwBytes (s.famOf c.pdie)
  let decodes := match c.use with
    | .raw _ _ => s.rawMode c == 1
    | .burst b _ => !(s.burst b).search
    | _ => true
  if !decodes ∨ 1 < c.need.length ∨ (c.step = 3 ∧ c.phase = 0) then (0, 0)
  else if c.step = 4 ∨ c.step = 5 then (0, softCycles n (s.iterLimit c.step))
  else (hardCycles n (s.iterLimit c.step), 0)
/-- The reservations standing: codewords at a decoder or waiting for one, and transfers under way. -/
def State.reserved (s : State) : Nat × Nat :=
  let held := s.cws.foldl (fun (t : Nat × Nat) e =>
    if e.2.stage ≠ .decode then t
    else
      let n := s.cwBytes (s.famOf e.2.pdie)
      if e.2.step = 4 ∨ e.2.step = 5 then (t.1, t.2 + softCycles n e.2.limit) else (t.1 + hardCycles n e.2.limit, t.2)) (0, 0)
  s.flying.foldl (fun t i => if i.act ≠ .dout then t
    else i.jobs.foldl (fun t j => (t.1 + (s.reserveOfCw (s.cw j)).1, t.2 + (s.reserveOfCw (s.cw j)).2)) t) held
/-- The decoder cycles of one tick. -/
def State.hardCap (s : State) : Nat := s.getF F.DEC_POOL.HARD_ACTIVE * s.getF F.TCK_PERIOD.CYCLES
def State.softCap (s : State) : Nat := s.getF F.DEC_POOL.SOFT_ACTIVE * s.getF F.TCK_PERIOD.CYCLES
/-- q_dec: whole ticks of reserved work. -/
def State.qDec (s : State) (a : Draft) : Nat := if s.hardCap = 0 then 0 else a.hard / s.hardCap
/-- Can the pool decode these cycles in the tick or the next? -/
def State.decFits (s : State) (a : Draft) (r : Nat × Nat) (cls : Nat) (share : Bool) : Bool :=
  (r.1 == 0 || decide (a.hard + r.1 ≤ 2 * s.hardCap)) && (r.2 == 0 || decide (a.soft + r.2 ≤ 2 * s.softCap)) &&
    (!(share && cls == 2) || decide (100 * (a.bHard + r.1) ≤ s.bgShare * s.hardCap) || r.1 == 0)
/-- The parity-engine cycles of one tile, and of a tick. -/
def tileParity : Nat := ceilDiv tileBytes 128
def State.parityCap (s : State) : Nat := s.build.parity * s.getF F.TCK_PERIOD.CYCLES

/-! ## Read-around and jumps (R162 to R164, R343) -/

/-- The deadline of a codeword read; that of class U comes from the image (0: none). -/
def State.cwDeadline (s : State) (c : Cw) : Nat := if c.cls = 0 ∧ c.deadline = 0 then s.gp "U_DEADLINE" 0 0 else c.deadline
/-- t_ra for a read decided for tick `n`. -/
def State.tAround (s : State) (a : Draft) (c : Cw) (n : Nat) : Nat := n + 1 + s.readTicks c.pdie c.slc + s.qDec a
/-- Pages that wait to be read on a die before this read. -/
def State.readsAhead (s : State) (i : Nat) : Nat :=
  let c := s.cw i
  (((s.cws.filter (fun e => e.2.pdie == c.pdie && e.2.stage == .want && e.2.need != [] &&
      (decide (e.2.cls < c.cls) || (e.2.cls == c.cls && (decide (e.2.level < c.level) ||
        (e.2.level == c.level && decide (e.2.order < c.order))))) && !(e.2.block == c.block && e.2.page == c.page))).map
    (fun e => (e.2.block, e.2.page, e.2.plane)))).eraseDups.length
/-- The first tick in which a die is estimated available for a read decided for tick `n` (R162) (DEDUCED, log entry 111). -/
def State.tFree (s : State) (i n : Nat) : Nat :=
  let c := s.cw i
  let d := s.die c.pdie
  let per := 2 + s.readTicks c.pdie c.slc
  let base := match d.op, d.susp, d.read with
    | some o, some u, _ => max n u.start + u.joined.length * per + (o.est - u.cmdTick)
    | some o, none, _ => if o.late then n else max n o.est
    | none, _, some r => if r.late then n else max n (r.est + 1)
    | none, _, none => n
  base + s.readsAhead i * per
def State.tWait (s : State) (a : Draft) (i n : Nat) : Nat :=
  s.tFree i n + 1 + s.readTicks (s.cw i).pdie (s.cw i).slc + s.qDec a

/-- The helper pages of the method that would recover a codeword, by the dies they lie on; none where the row or the method does not
allow it (R163). -/
def State.helperDies (s : State) (c : Cw) : Option (List Nat) :=
  match c.set with
  | none => none
  | some g =>
    let d := s.sset g
    let missing := s.rowMissing g c.band c.row
    if d.level < missing + 1 ∨ (s.cwData c).isNone then none
    else
      let others := (List.range d.dpos).filter (fun k => s.cwData c != some k)
      let toRead := others.filter (fun k => (s.groupData c k).isNone)
      let gone := (others.filter (fun k => s.groupData c k == some none)).length
      let acc := (s.rowAcc g c.band c.row).isSome
      let p := s.parityReadable c 64
      let q := s.parityReadable c 65
      let pars : Option (List Nat) := if acc then (if d.level < gone + 1 then none else some [])
        else if gone = 0 then (if p then some [pPos d.w c.row] else if q then some [qPos d.w c.row] else none)
        else if gone = 1 ∧ p ∧ q then some [pPos d.w c.row, qPos d.w c.row] else none
      pars.map (fun l => ((toRead.map (fun k => (memberOf k c.row d.w d.level).getD 0) ++ l).filterMap (fun pos =>
        (s.readLoc g c.band c.row pos).map (·.pdie))))

/-- Do all conditions of R163 hold for a codeword in tick `n`? -/
def State.aroundOk (s : State) (a : Draft) (i n : Nat) : Bool :=
  let c := s.cw i
  let size := s.cwBytes (s.famOf c.pdie)
  s.lastStep c == 6 && !c.noJump && !c.jumped && s.cwDeadline c != 0 && c.cls != 2 &&
    (match s.helperDies c with
     | none => false
     | some l => l.all (fun p => s.dieIdle a n p && (s.die p).burst.isNone && (s.die p).op.isNone) &&
        decide (a.hard + l.length * hardCycles size (s.iterLimit 0) ≤ 2 * s.hardCap) &&
        decide (a.parity + (l.length + 1) * tileParity ≤ s.parityCap))

/-- Does step `k` of a codeword, which needs its first sense now, give way to step 6 (R343)? -/
def State.jumps (s : State) (a : Draft) (i n : Nat) : Bool :=
  let c := s.cw i
  let senses := if c.step = 3 then 3 else c.need.length
  let e := n + senses * (1 + s.readTicks c.pdie c.slc) + s.qDec a
  c.fresh && decide (2 ≤ c.step) && decide (c.step ≤ 5) && s.cwDeadline c != 0 && c.cls != 2 &&
    decide (c.admTick + s.cwDeadline c < e) && decide (s.tAround a c n < e) && s.aroundOk a i n

/-! ## Suspension (R157 to R160, R358) -/

/-- May the operation of a die be suspended in tick `n` for a read of `block`? -/
def State.suspendable (s : State) (p n block : Nat) : Bool :=
  let d := s.die p
  let fam := s.famOf p
  match d.op, d.susp with
  | some o, none =>
    let k := if o.kind = .prog then 0 else 1
    (o.kind == .prog || o.kind == .erase) && o.cls != 0 && d.read.isNone && d.burst.isNone &&
      s.hasRoutine fam (rtSuspend o.kind) && s.hasRoutine fam (rtResume o.kind) &&
      !(o.kind == .prog && (s.fp fam "NOSUSP_PASS" 0 0).testBit o.pass) &&
      decide (o.susps < s.fp fam "SUSP_MAX" k (if k = 0 then 4 else 12)) && decide (o.lastRun + s.fp fam "MIN_RUN" k 2 ≤ n) &&
      !(s.fp fam "SAME_BLOCK_READ" 0 1 == 0 && o.kind == .prog && o.block == block)
  | _, _ => false

/-- Fixes the reads of a suspension in the tick from which the die is treated as suspended: up to SUSP_READS page reads, class U, then F,
then B (R158). -/
def State.fixSusp (s : State) (p : Nat) : State :=
  let d := s.die p
  match d.susp, d.op with
  | some u, some o =>
    let k := if o.kind = .prog then 0 else 1
    let fam := s.famOf p
    let ok (c : Cw) : Bool := c.pdie == p && c.stage == .want && c.need != [] && !c.jumped && c.use.inBurst.isNone &&
      !(s.fp fam "SAME_BLOCK_READ" 0 1 == 0 && o.kind == .prog && o.block == c.block)
    let l := (s.cws.filter (fun e => ok e.2)).mergeSort (fun a b =>
      decide (a.2.cls < b.2.cls) || (a.2.cls == b.2.cls && (decide (a.2.level < b.2.level) ||
        (a.2.level == b.2.level && decide (a.2.order ≤ b.2.order)))))
    let pages := (l.map (fun e => (e.2.block, e.2.page, s.cwOffs e.2))).eraseDups.take (s.fp fam "SUSP_READS" k 4)
    let joined := (l.filter (fun e => pages.contains (e.2.block, e.2.page, s.cwOffs e.2))).map (·.1)
    s.setDie p { d with susp := some { u with fixed := true, joined := joined } }
  | _, _ => s

/-! ## Planning one request -/

def State.bumpPln (s : State) (f : Planner → Planner) : State := { s with pln := f s.pln }
/-- A counter of the planner page that wraps. -/
def wrap1 (m : Store Nat) (k : Nat) : Store Nat := storePut (fun _ => 0) m k ((cnt m k + 1) % 2 ^ 32)

/-- A read is planned: past its deadline it counts as a miss (R166). -/
def State.noteMiss (s : State) (n i : Nat) : State :=
  let c := s.cw i
  let d := s.cwDeadline c
  if c.missed ∨ d = 0 ∨ n ≤ c.admTick + d then s
  else
    let h := s.homeIx c.pdie
    let m := satAdd 32 (cnt s.pln.misses h) 1
    let s := (s.noteSat (cnt s.pln.misses h) m (2 ^ 32 - 1)).bumpPln (fun p => { p with misses := storePut (fun _ => 0) p.misses h m })
    let s := s.setCw i { c with missed := true }
    match c.use with
    | .tile k _ => s.setCtx k { s.ctx k with late := true }
    | _ => s

/-- Plans the next sense of a codeword on an available die; none where the envelope or the cycles refuse it. -/
def State.planSense (s : State) (a : Draft) (n cls : Nat) (share : Bool) (i : Nat) : State × Option Draft :=
  let c := s.cw i
  let h := s.homeIx c.pdie
  let l := s.senseItems a i cls
  match s.tryAdd a h cls share l with
  | some b =>
    let mates := s.matesOf i
    (mates.foldl (fun s j => s.noteMiss n j) (mates.foldl (fun s j =>
      if (s.cw j).tracked = [] then s.setCw j { s.cw j with tracked := s.cwTracked (s.cw j) } else s) s), some b)
  | none => (s.noteRefused a h cls l, none)

/-- The codeword reads that began after job number `j`. -/
def State.newCws (s : State) (j : Nat) : List Nat := (s.cws.filter (fun e => decide (j ≤ e.1) && e.2.stage == .want && e.2.need != [])).map (·.1)

/-- Sends a codeword to step 6 and plans the reads of its helpers. -/
def State.planAround (s : State) (a : Draft) (n cls : Nat) (share jump : Bool) (i : Nat) : State × Draft :=
  let h := s.homeIx (s.cw i).pdie
  let s := if jump then s.updDecs (fun d => { d with jumps := (d.jumps + 1) % 2 ^ 32 })
    else s.bumpPln (fun p => { p with arounds := wrap1 p.arounds h })
  let first := s.nextJob
  let s := s.cwJump i
  (s.newCws first).foldl (fun (t : State × Draft) j =>
    let r := t.1.planSense t.2 n cls share j
    (r.1, r.2.getD t.2)) (s, { a with parity := a.parity + (s.newCws first).length * tileParity + tileParity })

/-- The decision on a read (R155, R156): 1 planned or in hand, 0 it waits. -/
def State.planRead (s : State) (a : Draft) (n : Nat) (share : Bool) (r : Req) : State × Draft × Bool :=
  let i := r.job
  let c := s.cw i
  let p := c.pdie
  let h := s.homeIx p
  if c.stage ≠ .want ∨ c.need = [] ∨ ((a.list h).any (fun x => x.act == .read && x.jobs.contains i)) then (s, a, true)
  else if s.jumps a i n then
    let t := s.planAround a n r.cls share true i
    (t.1, t.2, true)
  else
    let exclusive := match c.use.inBurst with
      | some b => (s.burst b).exclusive && (s.die p).burst != some b
      | none => false
    let joined := s.inSusp n p i && !s.dieTaken a p && (s.die p).read.isNone &&
      !s.cws.any (fun e => e.2.pdie == p && (e.2.stage == .inReg || e.2.stage == .sensing))
    let idle := s.dieIdle a n p && !s.burstBars c && (!exclusive || (s.die p).op.isNone)
    let wait (s : State) : State × Draft × Bool :=
      (if r.cls = 2 then s else s.bumpPln (fun q => { q with waits := wrap1 q.waits h }), a, false)
    let around (s : State) : State × Draft × Bool :=
      if r.cls ≠ 2 ∧ c.admTick + s.cwDeadline c < s.tWait a i n ∧ s.tAround a c n < s.tWait a i n ∧ s.aroundOk a i n then
        (let t := s.planAround a n r.cls share false i
         (t.1, t.2, true))
      else wait s
    if joined ∨ idle then
      match s.planSense a n r.cls share i with
      | (s, some b) => (s, b, true)
      | (s, none) => if (s.railFits a h r.cls ((s.senseItems a i r.cls).map s.itemMa).sum share) then wait s else around s
    else if (match (s.die p).susp with | some u => u.fixed == false | none => false) then (s, a, true)
    else if r.cls ≠ 2 ∧ !s.dieTaken a p ∧ s.suspendable p n c.block then
      match (s.die p).op with
      | none => wait s
      | some o =>
        let it := Item.mk .suspend p [i] (s.costOf (s.famOf p) (rtSuspend o.kind) h) r.cls 0 0
        match s.tryAdd a h r.cls share [it] with
        | some b => (s.bumpPln (fun q => { q with suspends := wrap1 q.suspends h }), b, true)
        | none => wait s
    else around s

/-- Does every read that joined a suspension have its last transfer in the draft? -/
def State.suspServed (s : State) (a : Draft) (p : Nat) (u : Susp) : Bool :=
  let h := s.homeIx p
  let n := s.cwBytes (s.famOf p)
  u.joined.all (fun j => !s.cws.any (fun e => e.1 == j) ||
    (a.list h).any (fun x => x.act == .dout && x.jobs.contains j && decide (n ≤ x.off + x.len)))

/-- Plans the resume of a suspension whose reads are served: work of the read that obtained it; class U in a power fail (R158) (DEDUCED, log entry 103). -/
def State.planResume (s : State) (a : Draft) (n : Nat) (share : Bool) (p : Nat) : Draft × Bool :=
  let d := s.die p
  let h := s.homeIx p
  match d.susp, d.op with
  | some u, some o =>
    if (!u.taken && !u.gone) ∨ !u.fixed ∨ n < u.start ∨ s.dieTaken a p ∨ !s.suspServed a p u then (a, false)
    else
      let cls := if s.pfail then 0 else u.cls
      let it := Item.mk .resume p [] (s.costOf (s.famOf p) (rtResume o.kind) h) cls 0 0
      match s.tryAdd a h cls share [it] with
      | some b => (b, true)
      | none => (a, false)
  | _, _ => (a, false)

/-- Plans the next transfer of a codeword whose page is sensed, with a status read before the first of its die (R133, R134). -/
def State.planDout (s : State) (a : Draft) (n : Nat) (share : Bool) (r : Req) : State × Draft × Bool :=
  let i := r.job
  let c := s.cw i
  let p := c.pdie
  let h := s.homeIx p
  let fam := s.famOf p
  let size := s.cwBytes fam
  let len := s.rangeLen h size c.part.length (s.doutCost fam h size) (s.doutCost fam h 0)
  let last := decide (size ≤ c.part.length + len)
  let res := if last then s.reserveOfCw c else (0, 0)
  if s.flying.any (fun x => x.act == .dout && x.jobs.contains i) then (s, a, true)
  else if !s.decFits a res r.cls share then (s, a, false)
  else
    let st := if (s.die p).read.isSome then s.statusFirst a p r.cls else []
    match s.tryAdd a h r.cls share (st ++ [Item.mk .dout p [i] (s.doutCost fam h len) r.cls c.part.length len]) with
    | none => (s, a, false)
    | some b =>
      let b := { b with hard := b.hard + res.1, soft := b.soft + res.2, bHard := if r.cls = 2 then b.bHard + res.1 else b.bHard }
      (s, (s.planResume b n share p).1, true)

/-- Is the write protect of a die's quad lifted (R173)? -/
def State.wpHigh (s : State) (p : Nat) : Bool := s.flag (qF F.CHU_QUAD_CFG.WP_HIGH (quadOf (s.homeIx p)))

/-- The codewords a program inputs before its next confirm: those of one plane where the family programs planes one by one (R183). -/
def State.progNeed (s : State) (p : Prog) : Nat :=
  if (s.fp (s.famOf p.pdie) "MULTI_PLANE" 0 0).testBit 1 then p.images.length else (p.plane + 1) * p.slots
/-- The bytes of codeword `k` of a page: the codeword, after the last of a plane the page padding (R112, R195). -/
def State.progLen (s : State) (p : Prog) (k : Nat) : Nat :=
  let fam := s.famOf p.pdie
  let n := s.cwBytes fam
  if k % p.slots + 1 = p.slots then n + (s.fp fam "PAGE_SIZE" 0 0 + s.fp fam "SPARE_SIZE" 0 0 - p.slots * n) else n

/-- Adds the data inputs of a program from codeword `k` on as far as they fit, then its confirm. -/
def State.addDins (s : State) (i cls : Nat) (share : Bool) (part : Nat) : Nat → Nat → Draft → Draft × Bool
  | 0, _, a => (a, false)
  | fuel + 1, k, a =>
    let p := s.prog i
    let h := s.homeIx p.pdie
    let fam := s.famOf p.pdie
    if s.progNeed p ≤ k then
      match s.tryAdd a h cls share [Item.mk .prog p.pdie [i] (s.costOf fam (rtProg p.slc) h) cls 0 0] with
      | some b => (b, true)
      | none => (a, false)
    else
      let size := s.progLen p k
      let len := s.rangeLen h size part (s.dinCost fam h size) (s.dinCost fam h 0)
      match s.tryAdd a h cls share (s.statusFirst a p.pdie cls ++ [Item.mk .din p.pdie [i, k] (s.dinCost fam h len) cls part len]) with
      | none => (a, false)
      | some b => if size ≤ part + len then
          (let t := s.addDins i cls share 0 fuel (k + 1) b
           (t.1, true))
        else (b, true)

/-- Plans a page program: its data inputs and its confirm (R309). -/
def State.planProg (s : State) (a : Draft) (n : Nat) (share : Bool) (r : Req) : State × Draft × Bool :=
  let p := s.prog r.job
  let mine := decide (0 < p.input) || decide (0 < p.part)
  let free := if mine then !s.dieTaken a p.pdie && (s.die p.pdie).op.isNone && (s.die p.pdie).read.isNone else s.dieIdle a n p.pdie
  if s.flying.any (fun x => (x.act == .din || x.act == .prog) && x.jobs.head? == some r.job) then (s, a, true)
  else if !free ∨ !s.wpHigh p.pdie ∨ s.needsCheck p ∨ (s.die p.pdie).burst.isSome ∨
      (a.list (s.homeIx p.pdie)).any (fun x => x.act == .din && x.pdie == p.pdie) then (s, a, false)
  else
    let t := s.addDins r.job r.cls share p.part (p.images.length + 1) p.input a
    (s, t.1, t.2)

/-- Plans an erase whose turn has come (R325, R453). -/
def State.planErase (s : State) (a : Draft) (n : Nat) (share : Bool) (r : Req) : State × Draft × Bool :=
  let e := s.eraseJob r.job
  let h := s.homeIx e.pdie
  if !s.dieIdle a n e.pdie ∨ !s.wpHigh e.pdie ∨ (s.die e.pdie).burst.isSome then (s, a, false)
  else
    let l := s.statusFirst a e.pdie r.cls ++ [Item.mk .erase e.pdie [r.job] (s.costOf (s.famOf e.pdie) (rtErase e.slc) h) r.cls 0 0]
    match s.tryAdd a h r.cls share l with
    | some b => (s, b, true)
    | none => (s.noteRefused a h r.cls l, a, false)

/-- Plans one request. -/
def State.planReq (s : State) (a : Draft) (n : Nat) (share : Bool) (r : Req) : State × Draft × Bool :=
  let h := s.homeIx r.pdie
  match r.act with
  | .read => s.planRead a n share r
  | .dout => s.planDout a n share r
  | .prog => s.planProg a n share r
  | .erase => s.planErase a n share r
  | .resume =>
    let t := s.planResume a n share r.pdie
    (s, t.1, t.2)
  | .status =>
    if a.stats.contains r.pdie then (s, a, true)
    else (match s.tryAdd a h r.cls share [Item.mk .status r.pdie [] (s.costOf (s.famOf r.pdie) rtStatus h) r.cls 0 0] with
      | some b => (s, b, true)
      | none => (s, a, false))
  | .resetLun =>
    (match s.tryAdd a h r.cls share [Item.mk .resetLun r.pdie [] (s.costOf (s.famOf r.pdie) rtReset h) r.cls 0 0] with
      | some b => (s, b, true)
      | none => (s, a, false))
  | _ => (s, a, true)

/-! ## The requests -/

/-- Dies that something of the planner's is known of. -/
def State.knownDies (s : State) : List Nat := storeKeys s.dies

/-- Every request for tick `n`, classes and levels as they stand (Table 4-3); a promoted class B request is class F at the lowest
level (R142). -/
def State.requests (s : State) (n : Nat) : List Req :=
  let promo (r : Req) : Req := if r.cls = 2 ∧ s.pln.promoted.contains r.job then { r with cls := 1, level := 7 } else r
  let resets := s.knownDies.filterMap (fun p =>
    if (s.die p).resetPend && !(s.die p).unresp && !s.flying.any (fun x => x.act == .resetLun && x.pdie == p) then
      some (Req.mk (s.die p).resetCls 0 0 .resetLun p 0) else none)
  let stats := s.knownDies.filterMap (fun p =>
    let d := s.die p
    if d.unresp then none
    else match d.op, d.susp, d.read with
      | some o, some u, _ => if !u.taken && !u.gone && decide (u.start ≤ n) then some (Req.mk u.cls 0 0 .status p o.job)
          else none
      | some o, none, _ => if o.est ≤ n then some (Req.mk o.cls 0 0 .status p o.job) else none
      | none, _, some r => if r.est ≤ n && (r.late || !s.cws.any (fun e => e.2.pdie == p && e.2.stage == .sensing)) then some (Req.mk r.cls 0 0 .status p r.job) else none
      | none, _, none => none)
  let resumes := s.knownDies.filterMap (fun p =>
    match (s.die p).susp with
    | some u => if u.taken || u.gone then some (Req.mk (if s.pfail then 0 else u.cls) 0 0 .resume p 0) else none
    | none => none)
  let reads := s.cws.filterMap (fun e =>
    let c := e.2
    if c.pdie = noPdie ∨ (s.die c.pdie).unresp then none
    else match c.stage with
      | .want => if c.need = [] ∨ s.flying.any (fun x => x.act == .read && x.jobs.contains e.1) then none
          else some (promo (Req.mk c.cls c.level c.order .read c.pdie e.1))
      | .inReg => some (promo (Req.mk c.cls c.level c.order .dout c.pdie e.1))
      | .sensing => (match (s.die c.pdie).read with
        | some o => if o.est ≤ n then some (promo (Req.mk c.cls c.level c.order .dout c.pdie e.1)) else none
        | none => none)
      | _ => none)
  let progs := s.progs.filterMap (fun e => if e.2.running ∨ (s.die e.2.pdie).unresp then none
    else some (promo (Req.mk e.2.cls e.2.level e.2.order .prog e.2.pdie e.1)))
  let erases := s.erases.filterMap (fun e => if e.2.running ∨ !e.2.ready ∨ (s.die e.2.pdie).unresp then none
    else some (promo (Req.mk e.2.cls e.2.level e.2.order .erase e.2.pdie e.1)))
  (resets ++ stats ++ resumes ++ reads ++ progs ++ erases).mergeSort (fun a b =>
    decide (a.cls < b.cls) || (a.cls == b.cls && (decide (a.level < b.level) || (a.level == b.level && decide (a.order ≤ b.order)))))

/-! ## Held channels and retraining (R135, R137, R204, R205) -/

/-- The cause of Table 4-2 that keeps every item of a channel off the next tick, 0 where none does. -/
def State.holdCause (s : State) (h : Nat) : Nat :=
  if (s.chan (s.chanOf h)).failed then 4
  else if (s.quad (quadOf h)).held then 3
  else if s.asleep && s.getF F.PWR_STAT.STATE != 4 then 7
  else if s.build.pair && ((96 ≤ h && s.getF F.PAIR_STAT.STATE == 4) || (h < 96 && !s.pair.coreOk)) then 5
  else 0

/-- The key under which the refusals of a channel's retraining are counted. -/
def trainKey (h : Nat) : Nat := 2 ^ 40 + h

/-- Is a retraining of the channel requested and allowed by its rate limit in tick `n`? With the policy engine stopped only one that the error
rate forces (R637) (DEDUCED, log entry 108). -/
def State.trainDue (s : State) (h n : Nat) : Bool :=
  let f (g : Nat → Field) : Bool := s.flag (chF g h)
  let last := s.getF (chF F.CHU_TRAIN_TICK.TICK h)
  let rested := last == 0 || decide (last + 10000 ≤ n)
  let normal := f F.CHU_TRAIN_STAT.PEND_TEMP || f F.CHU_TRAIN_STAT.PEND_MARGIN
  let err := f F.CHU_TRAIN_STAT.PEND_ERROR && (rested || !f F.CHU_TRAIN_STAT.LAST_ERROR)
  err || (!s.peHalted && (f F.CHU_TRAIN_STAT.PEND_FW || f F.CHU_TRAIN_STAT.PEND_VCCQ || (normal && rested)))

/-- May a TRAIN item take the whole of tick `n` of a channel? -/
def State.trainOk (s : State) (h n : Nat) : Bool :=
  let mine (p : Nat) : Bool := s.homeIx p == h
  let urgent := (s.requests n).any (fun r => mine r.pdie && r.cls == 0)
  let waits := (s.requests n).any (fun r => mine r.pdie && r.act == .dout && decide (r.cls ≤ 1))
  let bg := s.bgShare != 0 || s.pln.promoted.contains (trainKey h) ||
    (s.flag (chF F.CHU_TRAIN_STAT.PEND_ERROR h))
  s.trainDue h n && !urgent && !waits && bg && s.flag (chF F.CHU_CFG.ENABLED h) && !s.pfail && !s.asleep &&
    s.holdCause h == 0

/-! ## The commit -/

/-- Plans the requests of a list in order; answers those left. -/
def State.planAll (s : State) (a : Draft) (n : Nat) (share : Bool) : List Req → State × Draft × List Req
  | [] => (s, a, [])
  | r :: rest =>
    let t := s.planReq a n share r
    let u := t.1.planAll t.2.1 n share rest
    (u.1, u.2.1, if t.2.2 then u.2.2 else r :: u.2.2)

/-- Was this class B request kept from the plan by the resources the classes share, and not by its die? -/
def State.keptOut (s : State) (a : Draft) (n : Nat) (r : Req) : Bool :=
  match r.act with
  | .read => s.dieIdle { a with cmds := [] } n r.pdie && !s.burstBars (s.cw r.job)
  | .dout => true
  | .prog => s.dieIdle { a with cmds := [] } n r.pdie && !s.needsCheck (s.prog r.job)
  | .erase => s.dieIdle { a with cmds := [] } n r.pdie
  | _ => false

/-- Counts the refusals of class B and promotes those refused for STARVE ticks (R142). -/
def State.noteStarved (s : State) (left : List (Nat × Nat)) : State :=
  let starve := max 1 (s.getL F.PLN_CTRL.STARVE)
  let counted := left.foldl (fun m e => storePut (fun _ => 0) m e.1 (cnt s.pln.starve e.1 + 1)) []
  let up := left.filter (fun e => decide (starve ≤ cnt counted e.1))
  let s := s.bumpPln (fun p => { p with starve := counted, promoted := up.map (·.1) })
  up.foldl (fun s e => s.bumpPln (fun p => { p with promos := wrap1 p.promos e.2 })) s

/-- Makes and commits the plans of the next tick: class U; class B within its share; class F; class B with what is left (R141) (DESIGN CHOICE, log entry 100). -/
def State.commitPlans (s : State) : State :=
  let n := s.tickno + 1
  let s := s.pumpCws
  let chans := s.planChans
  -- suspensions whose reads are now fixed
  let s := s.knownDies.foldl (fun s p =>
    match (s.die p).susp with
    | some u => if !u.fixed && decide (u.start ≤ n) then s.fixSusp p else s
    | none => s) s
  let causes := chans.map (fun h => (h, s.holdCause h))
  let trains := chans.filter (fun h => s.trainOk h n)
  -- a channel adopted at a hand-over takes class U items alone (R590)
  let open' (h cls : Nat) : Bool := s.flag (chF F.CHU_CFG.ENABLED h) && !trains.contains h &&
    (causes.find? (fun e => e.1 == h)).any (fun e => e.2 == 0 || (e.2 == 5 && 96 ≤ h && cls == 0))
  let s := if trains = [] then s else s.peStep 6
  let base := s.reserved
  let a0 := Draft.mk (trains.foldl (fun m h => storeIns h [Item.mk .train (pdieOf (s.chanOf h) 0) [] (s.usable h) 2 0 0] m) [])
    s.baseMa [] [] [] [] base.1 base.2 0 0
  let reqs := (s.requests n).filter (fun r => open' (s.homeIx r.pdie) r.cls && (!s.pfail || r.cls == 0))
  let u := s.planAll a0 n false (reqs.filter (fun r => r.cls == 0))
  let b := u.1.planAll u.2.1 n true (if s.bgShare = 0 then [] else reqs.filter (fun r => r.cls == 2))
  let f := b.1.planAll b.2.1 n false (reqs.filter (fun r => r.cls == 1))
  let held := s.bgShare == 0
  let r := f.1.planAll f.2.1 n false (if held then [] else b.2.2)
  let s' := r.1
  let a := r.2.1
  let left := ((if held then reqs.filter (fun q => q.cls == 2) else r.2.2).filter (fun q => s'.keptOut a n q)).map (fun q => (q.job, s'.homeIx q.pdie))
  let starved := left ++ (chans.filter (fun h => s'.trainDue h n && !trains.contains h && s'.bgShare == 0)).map (fun h => (trainKey h, h))
  let s := if s.pfail then s' else s'.noteStarved starved
  let holds := chans.foldl (fun (m : Store Nat) h =>
    let c : Nat := ((causes.find? (fun e => e.1 == h)).map (·.2)).getD 0
    let c := if trains.contains h then 2 else if c = 0 ∧ s.pfail ∧ a.list h = [] then 6 else c
    storePut (fun _ => 0) m h c) []
  -- a quad with an item is ungated (R612)
  let s := (List.range s.build.quads).foldl (fun s q =>
    if (s.quad q).gated && (List.range 4).any (fun k => a.list (4 * q + k) != []) then
      (let s := s.gateQuad q false
       if s.getF F.PWR_STAT.STATE = 1 then s.setF F.PWR_STAT.STATE 0 else s)
    else s) s
  s.bumpPln (fun p => { p with plans := a.items, planTick := n, nextHold := holds, railMa := a.ma })

/-- PLAN_COMMIT: once in each tick, 1 µs before the boundary; not in the fatal state. -/
def execPlanCommit (s : State) : Host.Outcome State Fault Refusal :=
  .next (if s.clocked && s.pln.planTick != s.tickno + 1 then s.commitPlans else s)

end Sys2Proof.Machine
end

