-- ==== Sys2Proof/Machine/Channel.lean ====
section
/-! DEFINITION. What the channel units execute (chapter 5): the items of a tick's plan, what the dies answer, the ends of reads, programs,
erases and resets (R134, R193, R355 to R362), retraining (R206, R207), VCCQ holds and ZQ calibration. -/

namespace Sys2Proof.Machine

/-! ## The plan in execution -/

def State.setExec (s : State) (h : Nat) (l : List Item) : State :=
  s.bumpPln (fun p => { p with exec := storePut (fun _ => []) p.exec h l })
/-- Drops the remaining items of the tick that `drop` selects. -/
def State.dropItems (s : State) (h : Nat) (drop : Item → Bool) : State := s.setExec h ((s.exItems h).filter (fun i => !drop i))
/-- One item executed, with the channel cycles it used. -/
def State.noteRun (s : State) (h cycles : Nat) : State :=
  s.bumpPln (fun p => { p with runItems := bump p.runItems h 1, runCycles := bump p.runCycles h cycles })

/-- Does what an item serves still stand as it was planned? An item that serves nothing any more is passed over (DEDUCED, log entry 101). -/
def State.itemAlive (s : State) (it : Item) : Bool :=
  let d := s.die it.pdie
  let j := it.jobs.headD 0
  let wants (j : Nat) : Bool := s.cws.any (fun e => e.1 == j && e.2.stage == .want && e.2.need != [] && e.2.pdie == it.pdie)
  let free := d.read.isNone && (d.op.isNone || (match d.susp with | some u => u.taken | none => false))
  match it.act with
  | .read => it.jobs.any wants && free
  | .setLevels => it.jobs.any wants && free
  | .suspend => it.jobs.any wants && d.susp.isNone &&
      (match d.op with | some o => o.kind == .prog || o.kind == .erase | none => false)
  | .dout => s.cws.any (fun e => e.1 == j && e.2.stage == .inReg && e.2.pdie == it.pdie && e.2.part.length == it.off)
  | .din => s.progs.any (fun e => e.1 == j && !e.2.running && e.2.input == it.jobs.getD 1 0 && e.2.part == it.off) &&
      d.op.isNone && d.read.isNone
  | .prog => s.progs.any (fun e => e.1 == j && !e.2.running && s.progNeed e.2 ≤ e.2.input) && d.op.isNone && d.read.isNone
  | .erase => s.erases.any (fun e => e.1 == j && !e.2.running && e.2.ready) && d.op.isNone && d.read.isNone
  | .resume => d.susp.isSome && d.op.isSome
  | .resetLun => d.resetPend
  | .status => true
  | .train => true

/-! ## The routine of an item (Tables 5-5 and 5-6) -/

/-- The planes a codeword read addresses, as a mask. -/
def State.readMask (s : State) (c : Cw) : Nat :=
  if (s.fp (s.famOf c.pdie) "MULTI_PLANE" 0 0) % 2 = 1 then
    (match c.set with | some g => 2 ^ (s.sset g).planes - 1 | none => 2 ^ c.plane)
  else 2 ^ c.plane
/-- The planes of a program or erase and the one whose row address is given. -/
def State.planeMask (s : State) (p bit planes plane : Nat) : Nat × Nat :=
  if (s.fp (s.famOf p) "MULTI_PLANE" 0 0).testBit bit then (2 ^ planes - 1, 0) else (2 ^ plane, plane)

/-- The routine an item names and its argument registers. -/
def State.itemCall (s : State) (it : Item) : Nat × List Nat :=
  let p := it.pdie
  let j := it.jobs.headD 0
  let opRow : Nat := match (s.die p).op with | some o => s.rowAddr p 0 o.block 0 | none => s.rowAddr p 0 0 0
  match it.act with
  | .read =>
    let c := s.cw j
    (rtRead c.slc, s.itemArgs p (s.rowAddr p c.plane c.block c.page) 0 0 (s.readMask c) 0)
  | .setLevels =>
    let c := s.cw j
    (rtLevels, s.levelArgs p (s.cwZone c) (s.cwOffs c))
  | .suspend => (rtSuspend (match (s.die p).op with | some o => o.kind | none => .prog), s.itemArgs p opRow 0 0 0 0)
  | .resume => (rtResume (match (s.die p).op with | some o => o.kind | none => .prog), s.itemArgs p opRow 0 0 0 0)
  | .resetLun => (rtReset, s.itemArgs p (s.rowAddr p 0 0 0) 0 0 0 0)
  | .status => (rtStatus, s.itemArgs p (s.rowAddr p 0 0 0) 0 0 0 0)
  | .dout =>
    let c := s.cw j
    (rtDout, s.itemArgs p (s.rowAddr p c.plane c.block c.page) (c.slot * s.cwBytes (s.famOf p) + it.off) it.len (2 ^ c.plane) 0)
  | .din =>
    let g := s.prog j
    let k := it.jobs.getD 1 0
    let pl := if g.slots = 0 then 0 else k / g.slots
    let sl := if g.slots = 0 then 0 else k % g.slots
    (rtDin, s.itemArgs p (s.rowAddr p pl g.block g.page) (sl * s.cwBytes (s.famOf p) + it.off) it.len (2 ^ pl) 0)
  | .prog =>
    let g := s.prog j
    let m := s.planeMask p 1 g.planes g.plane
    (rtProg g.slc, s.itemArgs p (s.rowAddr p m.2 g.block g.page) 0 0 m.1 g.pass)
  | .erase =>
    let e := s.eraseJob j
    let m := s.planeMask p 2 e.planes e.plane
    (rtErase e.slc, s.itemArgs p (s.rowAddr p m.2 e.block 0) 0 0 m.1 0)
  | .train => (rtStatus, [])

/-- The bytes of a codeword's stream as they go to the die: the encoded image, behind the last of a plane the page padding (R109, R112,
R195). -/
def State.dinStream (s : State) (g : Prog) (k : Nat) : List Byte :=
  let fam := s.famOf g.pdie
  let n := s.cwBytes fam
  let body := ldpcCodeword (g.images.getD k zeroImage) (s.profile fam)
  if k % g.slots + 1 = g.slots then
    body ++ pagePad g.block g.page g.slots (s.fp fam "PAGE_SIZE" 0 0 + s.fp fam "SPARE_SIZE" 0 0 - g.slots * n)
  else body

/-- Runs one routine of an item: what it drove goes out; a fault is recorded (R193). Answers what the microsequencer holds at its end. -/
def State.runOne (s : State) (h p r limit : Nat) (args : List Nat) (rdb : List Byte) (waits : List Nat) : State × Mseq :=
  let fam := s.famOf p
  let m := s.runRoutine fam r h limit args rdb waits
  let s := s.emit (.bus (s.chanOf h) r m.bus)
  match m.fault with
  | some c => (s.mseqFault h r c (pdieSlot p) ((((s.chan (s.chanOf h)).place fam r).getD (0, 0)).1 + m.pc), m)
  | none => (s, m)

/-- Runs the item's routine behind the volume selection it needs (R188): what X7 holds at the end, or none at a fault, with the code of
the fault. -/
def State.runItem (s : State) (h : Nat) (it : Item) (rdb : List Byte) (waits : List Nat) : State × Option Nat × Option Nat :=
  let p := it.pdie
  let v := (s.pdie p).volume
  let call := s.itemCall it
  let go (s : State) (rdb : List Byte) (waits : List Nat) (before : Nat) : State × Option Nat × Option Nat :=
    let t := s.runOne h p call.1 it.cost call.2 rdb waits
    (t.1.noteRun h (before + t.2.cycles), if t.2.fault.isSome then none else some (t.2.reg 7), t.2.fault)
  if (s.chan (s.chanOf h)).vol = some v then go s rdb waits 0
  else
    let t := s.runOne h p rtVol (s.costOf (s.famOf p) rtVol h) (s.itemArgs p 0 0 0 0 0) rdb waits
    if t.2.fault.isSome then (t.1.noteRun h t.2.cycles, none, t.2.fault)
    else go (t.1.setChan (s.chanOf h) { t.1.chan (s.chanOf h) with vol := some v }) t.2.rdb t.2.waits t.2.cycles

/-! ## The ends of array operations -/

/-- A codeword read leaves the suspension that served it (R357). -/
def State.leaveSusp (s : State) (p i : Nat) : State :=
  match (s.die p).susp with
  | some u => s.setDie p { s.die p with susp := some { u with joined := u.joined.filter (· != i) } }
  | none => s

/-- Sets the state of a member position's page of a row: 2 programmed, 3 missing. -/
def State.markPage (s : State) (g b row pos v : Nat) : State :=
  match (s.wband g b).rowAt row with
  | some r => s.setWband g b ((s.wband g b).setRow { r with pages := storePut (fun _ => 0) r.pages pos v })
  | none => s

/-- The rows of a band go on after one of its pages has ended. -/
def State.bandPump (s : State) (g b : Nat) : State :=
  if s.pfail then s else (((s.writePump g b).abortPump g b).pumpCws).intakePump

/-- A page program ended (R294, R314, R316, R317, R320). -/
def State.progEnd (s : State) (job : Nat) (ok : Bool) : State :=
  if !s.progs.any (fun e => e.1 == job) then s
  else
    let p := s.prog job
    let g := p.set
    let b := p.band
    let s := s.dropProg job
    let third := decide (2 ≤ cnt (s.wband g b).substs p.pos)
    let placed (s : State) (void : Bool) : State :=
      if ok then
        (let s := s.markPage g b p.row p.pos 2
         (s.setWband g b ((s.wband g b).markDone p.pos p.row)).bandPump g b)
      else
        let s := s.countSat F.PTY_WFAIL.PROG_FAILS 1
        let s := if void then s.voidPage g b p.row p.pos else s
        if s.pfail then s.markPage g b p.row p.pos 3
        else
          let s := if third then s.markPage g b p.row p.pos 3 else s
          (s.needSubst g b p.row p.pos p.level).bandPump g b
    match p.use with
    | .data => placed s true
    | .parity _ => placed s false
    | .fill => if ok then (s.setWband g b ((s.wband g b).markDone p.pos p.row)).bandPump g b
        else if s.pfail then s else (s.needSubst g b p.row p.pos p.level).bandPump g b
    | .journal ns => s.journalProg ns job ok
    | .shelter _ => s
    | .copy n => if s.pfail then s else if ok then s.copyDone n else s.copyFailed n

/-- An erase ended on one plane, or on all that one command covers. -/
def State.erasePart (s : State) (job : Nat) (ok : Bool) : State :=
  if !s.erases.any (fun e => e.1 == job) then s
  else
    let e := s.eraseJob job
    if !ok ∨ (s.fp (s.famOf e.pdie) "MULTI_PLANE" 0 0).testBit 2 ∨ e.planes ≤ e.plane + 1 then s.eraseEnd job ok
    else s.setErase job { e with running := false, plane := e.plane + 1 }

/-- A program ended on one plane, or on all that one command covers (R183). -/
def State.progPart (s : State) (job : Nat) (ok : Bool) : State :=
  if !s.progs.any (fun e => e.1 == job) then s
  else
    let p := s.prog job
    if !ok ∨ p.images.length ≤ s.progNeed p then s.progEnd job ok
    else s.setProg job { p with running := false, plane := p.plane + 1 }

/-- The die reported the end of its program, erase or reset, or it failed otherwise. -/
def State.opEnd (s : State) (p : Nat) (ok : Bool) : State :=
  match (s.die p).op with
  | none => s
  | some o =>
    let s := s.setDie p { s.die p with op := none, susp := none }
    if o.pass = 255 then s
    else match o.kind with
    | .prog => s.progPart o.job ok
    | .erase => s.erasePart o.job ok
    | _ => s

/-- The die reported its page sensed. -/
def State.readReady (s : State) (p : Nat) : State :=
  let s := s.setDie p { s.die p with read := none }
  { s with cws := s.cws.map (fun e => if e.2.pdie == p && e.2.stage == .sensing then (e.1, { e.2 with stage := .inReg }) else e) }

/-- The senses under way on a die fail; data in its page register is to be sensed again where the register is lost. -/
def State.readFails (s : State) (p : Nat) (reg : Bool) : State :=
  let l := storeKeys (s.cws.filter (fun e => e.2.pdie == p && e.2.stage == .sensing))
  let s := s.setDie p { s.die p with read := none }
  let s : State := if reg then
    { s with cws := s.cws.map (fun e => if e.2.pdie == p && e.2.stage == .inReg then (e.1, { e.2 with stage := .want, part := [] }) else e) }
    else s
  l.foldl (fun s i => if s.cws.any (fun e => e.1 == i) then (s.leaveSusp p i).cwSenseFail i else s) s

/-- A page register lost its contents: programs whose input had begun begin it again. -/
def State.inputLost (s : State) (p : Nat) : State :=
  { s with progs := s.progs.map (fun e =>
      if e.2.pdie == p && !e.2.running then (e.1, { e.2 with input := e.2.plane * e.2.slots, part := 0 }) else e) }

/-! ## Microcode faults of items (R193) -/

/-- The item faulted: it is repeated once; a second fault of the same item fails what it belongs to (DEDUCED, log entry 102). -/
def State.itemFault (s : State) (h : Nat) (it : Item) : State :=
  let p := it.pdie
  let s := s.setDie p { s.die p with kept := none }
  let j := it.jobs.headD 0
  let readFault (s : State) : State := it.jobs.foldl (fun s i =>
    if !s.cws.any (fun e => e.1 == i) then s
    else if (s.cw i).faults = 0 then s.setCw i { s.cw i with faults := 1 }
    else ((s.setCw i { s.cw i with faults := 0 }).leaveSusp p i).cwSenseFail i) s
  match it.act with
  | .read => readFault s
  | .setLevels => readFault (s.dropItems h (fun x => x.act == .read && x.pdie == p))
  | .suspend => readFault s
  | .dout => readFault (s.dropItems h (fun x => x.act == .resume && x.pdie == p))
  | .din =>
    let s := s.dropItems h (fun x => (x.act == .din || x.act == .prog) && x.jobs.headD 0 == j)
    let g := s.prog j
    if g.faultAt = it.jobs.getD 1 0 + 1 then s.progEnd j false
    else s.setProg j { g with faultAt := it.jobs.getD 1 0 + 1 }
  | .prog =>
    let g := s.prog j
    if g.faultAt = g.images.length + 1 then s.progEnd j false
    else s.setProg j { g with faultAt := g.images.length + 1, input := g.plane * g.slots, part := 0 }
  | .erase =>
    let e := s.eraseJob j
    if e.faults = 0 then s.setErase j { e with faults := 1 } else s.erasePart j false
  | .resume =>
    (match (s.die p).susp with
     | some u => if u.faults = 0 then s.setDie p { s.die p with susp := some { u with faults := 1 } } else s.opEnd p false
     | none => s)
  | .status => s.dropItems h (fun x => x.pdie == p)
  | .resetLun => s
  | .train => s

/-! ## CMD_ITEM (R132, R134) -/

/-- The first array program of a band sets its OPENED (R313) (DEDUCED, log entry 107). -/
def State.noteOpened (s : State) (g : Prog) : State :=
  match g.use with
  | .shelter _ => s
  | .copy _ => s
  | _ =>
    let x := s.band g.set g.band
    if x.opened = 0 then s.setBand g.set g.band { x with opened := s.nsTime (nsOf g.set) } else s

/-- A command routine has run: what it starts on the die. -/
def State.cmdDone (s : State) (it : Item) : State :=
  let p := it.pdie
  let fam := s.famOf p
  let d := s.die p
  let now := s.tickno
  let j := it.jobs.headD 0
  let begin' (k : OpKind) (slc : Bool) (pass job block : Nat) : ArrayOp :=
    let t := s.inTicks (s.typTime fam k slc)
    ArrayOp.mk k slc it.cls pass job block (now + 1 + t) now t 0 false
  match it.act with
  | .setLevels =>
    let c := s.cw j
    let s := it.jobs.foldl (fun s i => if s.cws.any (fun e => e.1 == i) then s.setCw i { s.cw i with faults := 0 } else s) s
    s.setDie p { d with kept := some (s.cwOffs c ++ [(s.cwZone c : Int)]) }
  | .read =>
    let l := it.jobs.filter (fun i => s.cws.any (fun e => e.1 == i && e.2.stage == .want && e.2.need != [] && e.2.pdie == p))
    let c := s.cw (l.headD 0)
    let burst := match c.use.inBurst with
      | some b => if (s.burst b).exclusive then some b else d.burst
      | none => d.burst
    let s := s.setDie p { d with
      read := some (begin' .read c.slc 0 (l.headD 0) c.block), senses := (d.senses + 1) % 2 ^ 32, burst := burst }
    l.foldl (fun s i => s.setCw i { s.cw i with stage := .sensing, faults := 0, part := [] }) s
  | .prog =>
    let g := s.prog j
    let s := (s.setDie p { d with op := some (begin' .prog g.slc g.pass j g.block) }).noteOpened g
    s.setProg j { g with running := true, faultAt := 0 }
  | .erase =>
    let e := s.eraseJob j
    (s.setDie p { d with op := some (begin' .erase e.slc 0 j e.block) }).setErase j { e with running := true, faults := 0 }
  | .suspend =>
    (match d.op with
     | some o =>
       let k := if o.kind = .prog then 0 else 1
       s.setDie p { d with susp := some (Susp.mk now (now + 1 + s.inTicks (s.fp fam "t_SUSP" k 0)) false false [] it.cls false 0) }
     | none => s)
  | .resume =>
    (match d.op, d.susp with
     | some o, some u => s.setDie p { d with op := some { o with est := o.est + (now - u.cmdTick), lastRun := now, late := false }, susp := none }
     | _, _ => s)
  | .resetLun =>
    let o := begin' .reset false 0 0 0
    s.setDie p { d with
      op := some { o with cls := d.resetCls }, susp := none, kept := none, resetPend := false, resetTill := now + o.nom + 4 }
  | _ => s

/-! ## STATUS_ITEM (R134, R181, R355, R360) -/

/-- An operation is late from the first busy status at or after its estimated end. -/
def State.lateOp (s : State) (p : Nat) : State :=
  let d := s.die p
  let isLate (o : ArrayOp) : Bool := decide (o.est ≤ s.tickno) && !o.late
  let rd := match d.read with | some o => isLate o | none => false
  let op := match d.op with | some o => isLate o && d.susp.isNone && o.kind != .reset | none => false
  let rst := match d.op with | some o => isLate o && o.kind == .reset | none => false
  let n := satAdd 32 d.lateReady 1
  let s := if rd || op then s.noteSat d.lateReady n (2 ^ 32 - 1) else s
  s.setDie p { s.die p with
    lateReady := if rd || op then n else d.lateReady
    read := if rd then d.read.map (fun o => { o with late := true }) else d.read
    op := if op || rst then d.op.map (fun o => { o with late := true }) else d.op }

/-- What is under way on a die taken over from the partner: found suspended it is resumed, found erasing it is reset (R590). Its operation
has the pass number 255, which no program has.
A status read of a die: SR[6] RDY, SR[5] ARDY, SR[0] FAIL, the suspend indicator where the family names one (DEDUCED, log entry 104). -/
def State.statusGot (s : State) (h p sr : Nat) : State :=
  let fam := s.famOf p
  let mask := s.fp fam "STATUS_EXPECT" 1 0
  let s := if sr &&& mask ≠ s.fp fam "STATUS_EXPECT" 0 0 &&& mask then s.busCheck h else s
  let d := s.die p
  let rdy := sr.testBit 6
  let ardy := sr.testBit 5
  let named := decide (s.fp fam "SUSP_BIT" 0 0xFF < 8)
  let ind := named && sr.testBit (s.fp fam "SUSP_BIT" 0 0xFF)
  let ok := !sr.testBit 0
  let busy (s : State) : State := (s.lateOp p).dropItems h (fun x => x.pdie == p)
  match d.op, d.susp with
  | some o, some u =>
    if u.taken then (if rdy then (if d.read.isSome then s.readReady p else s) else busy s)
    else if u.gone then s
    else if rdy && ardy && !ind then s.opEnd p ok
    else if rdy && !ardy && (ind || !named) then
      s.setDie p { d with op := some { o with susps := o.susps + 1 }, susp := some { u with taken := true } }
    else busy s
  | some o, none =>
    if rdy && ardy then s.opEnd p (o.kind == .reset || ok)
    else if o.pass = 255 ∧ rdy ∧ (ind ∨ !named) then
      s.setDie p { d with susp := some (Susp.mk s.tickno s.tickno true true [] 0 false 0) }
    else if o.pass = 255 ∧ o.kind = .erase then s.setDie p { d with op := none, resetPend := true, resetCls := 0 }
    else busy s
  | none, _ => if d.read.isNone then s else if rdy then s.readReady p else busy s

/-! ## The items -/

/-- Does a command fit the item a channel executes next? -/
def Act.cmd (a : Act) : Bool := a.isCmd || a == .setLevels

/-- Executes the item at the front of a channel's plan: `data` the bytes the die puts out in a DOUT, `rdb` what it answers to RDB, `waits`
how long WAITRB waits. -/
def State.frontRun (s : State) (h : Nat) (data rdb : List Byte) (waits : List Nat) : State :=
  match s.exItems h with
  | [] => s
  | it :: rest =>
    let p := it.pdie
    let s0 := s.setExec h rest
    if !s.itemAlive it then s0
    else if it.act = .dout ∧ data.length ≠ it.len then s
    else
      let t := s0.runItem h it rdb waits
      let s := t.1
      match t.2.1 with
      | none => s.itemFault h it
      | some x7 =>
        match it.act with
        | .status => s.statusGot h p (x7 % 256)
        | .dout =>
          let i := it.jobs.headD 0
          let c := s.cw i
          let part := c.part ++ data
          let s := s.setCw i { c with part := part, faults := 0 }
          if s.cwBytes (s.famOf p) ≤ part.length then (s.leaveSusp p i).cwGot i part else s
        | .din =>
          let j := it.jobs.headD 0
          let k := it.jobs.getD 1 0
          let g := s.prog j
          let s := s.emit (.din (s.chanOf h) (slice (s.dinStream g k) it.off it.len))
          if s.progLen g k ≤ it.off + it.len then s.setProg j { g with input := k + 1, part := 0, faultAt := if g.faultAt = k + 1 then 0 else g.faultAt }
          else s.setProg j { g with part := it.off + it.len }
        | _ => s.cmdDone it

/-- Does the front item of a channel satisfy `is`, the channel unit being at work? -/
def State.frontIs (s : State) (h : Nat) (is : Act → Bool) : Bool :=
  s.clocked && (match (s.exItems h).head? with | some it => is it.act | none => false)

/-- CMD_ITEM. -/
def execCmdItem (channel : Nat) (rdb : List Byte) (waits : List Nat) (s : State) : Host.Outcome State Fault Refusal :=
  .next (if s.frontIs channel Act.cmd then s.frontRun channel [] rdb waits else s)
/-- STATUS_ITEM. -/
def execStatusItem (channel : Nat) (rdb : List Byte) (waits : List Nat) (s : State) : Host.Outcome State Fault Refusal :=
  .next (if s.frontIs channel (· == .status) then s.frontRun channel [] rdb waits else s)
/-- DOUT_ITEM. -/
def execDoutItem (channel : Nat) (data rdb : List Byte) (waits : List Nat) (s : State) : Host.Outcome State Fault Refusal :=
  .next (if s.frontIs channel (· == .dout) then s.frontRun channel data rdb waits else s)
/-- DIN_ITEM. -/
def execDinItem (channel : Nat) (rdb : List Byte) (waits : List Nat) (s : State) : Host.Outcome State Fault Refusal :=
  .next (if s.frontIs channel (· == .din) then s.frontRun channel [] rdb waits else s)
/-- MSEQ_OVERRUN: the routine of the front item, or the volume selection before it, reaches its declared cost with these answers. -/
def execMseqOverrun (channel : Nat) (rdb : List Byte) (waits : List Nat) (s : State) : Host.Outcome State Fault Refusal :=
  .next (match (s.exItems channel).head? with
    | some it => if s.clocked && it.act != .train && s.itemAlive it && (s.runItem channel it rdb waits).2.2 == some 1 then
        s.frontRun channel (List.replicate it.len 0#8) rdb waits else s
    | none => s)

/-! ## SUSPEND_ABANDON, DIE_TIMEOUT, DIE_UNRESPONSIVE -/

/-- SUSPEND_ABANDON (R356). -/
def execSuspendAbandon (pdie : Nat) (s : State) : Host.Outcome State Fault Refusal :=
  .next (let d := s.die pdie
    match d.op, d.susp with
    | some o, some u =>
      if !s.clocked ∨ u.taken ∨ u.gone ∨ s.tickno < u.start + 4 then s
      else
        let n := satAdd 32 d.notTaken 1
        let s := s.noteSat d.notTaken n (2 ^ 32 - 1)
        s.setDie pdie { d with
          notTaken := n, op := some { o with susps := o.susps + 1 }
          susp := some { u with gone := true, fixed := true, joined := [] } }
    | _, _ => s)

/-- Has an operation timed out (R361)? (DEDUCED, log entry 105). -/
def State.timedOut (s : State) (p : Nat) (o : ArrayOp) : Bool :=
  o.late && o.kind != .reset &&
    decide (o.est + (s.inTicks (s.maxTime (s.famOf p) o.kind o.slc) - o.nom) + 4 ≤ s.tickno)

/-- DIE_TIMEOUT (R361). -/
def execDieTimeout (pdie : Nat) (s : State) : Host.Outcome State Fault Refusal :=
  .next (let d := s.die pdie
    let hit := match d.read with
      | some o => if s.timedOut pdie o then some o.cls else none
      | none => (match d.op with
        | some o => if d.susp.isNone && s.timedOut pdie o then some o.cls else none
        | none => none)
    match hit with
    | none => s
    | some cls =>
      if !s.clocked then s
      else
        let n := satAdd 32 d.timeouts 1
        let s := (s.noteSat d.timeouts n (2 ^ 32 - 1)).setDie pdie { d with timeouts := n, resetPend := true, resetCls := cls, kept := none }
        let s := (s.raise Ev.dieTimeout).dieLog pdie 1 0
        let s := s.dropItems (s.homeIx pdie) (fun x => x.pdie == pdie)
        let s := ((s.opEnd pdie false).inputLost pdie).readFails pdie true
        s.noteTimeout pdie)

/-- A die does not answer: it is taken out of the plan (R362). -/
def State.dieSilent (s : State) (p : Nat) : State :=
  let s := s.setDie p { s.die p with unresp := true, op := none, susp := none, resetPend := false, kept := none }
  let s := (s.raise Ev.dieUnresponsive).dieLog p 2 0
  let s := s.dropItems (s.homeIx p) (fun x => x.pdie == p)
  let cws := storeKeys (s.cws.filter (fun e => e.2.pdie == p && e.2.stage != .decode && e.2.stage != .helpers))
  let s := s.readFails p true
  let s := cws.foldl (fun s i => if s.cws.any (fun e => e.1 == i && e.2.pdie == p && e.2.stage == .want) then s.cwSenseFail i else s) s
  let s := (storeKeys (s.progs.filter (fun e => e.2.pdie == p))).foldl (fun s j => s.progEnd j false) s
  s.dieFails p false 1

/-- DIE_UNRESPONSIVE (R362): the RESET_LUN has not ended within the bound of R361. -/
def execDieUnresponsive (pdie : Nat) (s : State) : Host.Outcome State Fault Refusal :=
  .next (match (s.die pdie).op with
    | some o => if s.clocked && o.kind == .reset && o.late && decide ((s.die pdie).resetTill ≤ s.tickno) then s.dieSilent pdie else s
    | none => s)

/-! ## TRAIN_ITEM (R206, R207) -/

/-- The search for a low edge by three probes in the window of eight steps: the place in the window of the lowest passing step, none at an end
of the window. -/
def lowEdge : List Bool → Option Nat
  | [true, true, false] => some 2
  | [true, false, true] => some 3
  | [true, false, false] => some 4
  | [false, true, true] => some 5
  | [false, true, false] => some 6
  | [false, false, true] => some 7
  | _ => none
/-- The search for a high edge: the place of the highest passing step. -/
def highEdge : List Bool → Option Nat
  | [true, true, false] => some 6
  | [true, false, true] => some 5
  | [true, false, false] => some 4
  | [false, true, true] => some 3
  | [false, true, false] => some 2
  | [false, false, true] => some 1
  | _ => none
/-- The new edges of a die from its last ones; none where a search ends at an end of its window or the margin falls below 4. -/
def newEdges (e : Nat × Nat) (low high : List Bool) : Option (Nat × Nat) :=
  match lowEdge low, highEdge high with
  | some a, some b =>
    let lo := e.1 + a - 4
    let hi := e.2 + b - 4
    let ctr := (lo + hi) / 2
    if lo ≤ hi ∧ 4 ≤ min (ctr - lo) (hi - ctr) then some (lo, hi) else none
  | _, _ => none
/-- The centre and the margin of two edges (R202, R207). -/
def centre (e : Nat × Nat) : Nat := (e.1 + e.2) / 2
def margin (e : Nat × Nat) : Nat := min (centre e - e.1) (e.2 - centre e)

/-- The edges a slot had last: direction 0 read, 1 write. -/
def Chan.edge (c : Chan) (slot dir : Nat) : Nat × Nat := storeGet (fun _ => (0, 63)) c.edges (2 * slot + dir)

/-- Retrains one die, the write edges as well where it is the one of the rotation; answers whether it passed (DEDUCED, log entry 106). -/
def State.trainDie (s : State) (h : Nat) (t : TrainDie) (write : Bool) : State × Bool :=
  let ch := s.chanOf h
  let c := s.chan ch
  let k := t.slot
  let rd := newEdges (c.edge k 0) t.rdLow t.rdHigh
  let wr := if write then newEdges (c.edge k 1) t.wrLow t.wrHigh else some (c.edge k 1)
  match rd, wr with
  | some r, some w =>
    let trim (f : Nat → Nat → Field) : Field := chF (fun c => f c k) h
    let s := s.setChan ch { c with edges := storeIns (2 * k) r (if write then storeIns (2 * k + 1) w c.edges else c.edges) }
    let s := (((s.setF (trim F.CHU_DIE_TRIM.RD_CTR) (centre r)).setF (trim F.CHU_DIE_TRIM.RD_MARGIN) (margin r)).setF
      (trim F.CHU_DIE_TRIM.GATE) (t.gate - 32)).setF (trim F.CHU_DIE_TRIM.TEMP) (BitVec.ofInt 8 (s.quadTempOf (quadOf h))).toNat
    (if write then (s.setF (trim F.CHU_DIE_TRIM.WR_CTR) (centre w)).setF (trim F.CHU_DIE_TRIM.WR_MARGIN) (margin w) else s, true)
  | _, _ => (s.countSat (chF F.CHU_ERR.TRAIN_FAILS h) 1, false)

/-- TRAIN_ITEM: the retraining tick of a channel. `dies` holds what is found of each used die, in slot order. -/
def execTrainItem (channel : Nat) (dies : List TrainDie) (s : State) : Host.Outcome State Fault Refusal :=
  .next (if !s.frontIs channel (· == .train) then s
    else
      let h := channel
      let ch := s.chanOf h
      let used := (List.range 16).filter (fun k => s.flag (chF (fun c => F.CHU_DIE_TRIM.VALID c k) h))
      let s := (s.setExec h []).noteRun h (s.usable h)
      let ready (t : TrainDie) : Bool :=
        let p := pdieOf ch t.slot
        let bit := s.fp (s.famOf p) "SUSP_BIT" 0 0xFF
        t.status.testBit 6 && t.status.testBit 5 && !(decide (bit < 8) && t.status.testBit bit) && (s.die p).susp.isNone &&
          used.contains t.slot
      let s := dies.foldl (fun s t =>
        let fam := s.famOf (pdieOf ch t.slot)
        let mask := s.fp fam "STATUS_EXPECT" 1 0
        if used.contains t.slot ∧ t.status &&& mask ≠ s.fp fam "STATUS_EXPECT" 0 0 &&& mask then s.busCheck h else s) s
      let go := used.filterMap (fun k => dies.find? (fun t => t.slot == k && ready t))
      let pick := match go.find? (fun t => decide ((s.chan ch).rot ≤ t.slot)) with
        | some t => some t.slot
        | none => go.head?.map (·.slot)
      let r := go.foldl (fun (a : State × Nat) t =>
        let u := a.1.trainDie h t (some t.slot == pick)
        (u.1, if u.2 then a.2 + 1 else a.2)) (s, 0)
      let s := r.1
      let failed := go.length - r.2
      let res := if used.length = r.2 then 1 else if used ≠ [] ∧ failed = used.length then 3 else 2
      let least := used.foldl (fun m k => min m (min (s.getF (chF (fun c => F.CHU_DIE_TRIM.RD_MARGIN c k) h))
        (s.getF (chF (fun c => F.CHU_DIE_TRIM.WR_MARGIN c k) h)))) 255
      let err := s.getF (chF F.CHU_TRAIN_STAT.PEND_ERROR h)
      let set (s : State) (f : Nat → Field) (v : Nat) : State := s.setF (chF f h) v
      let s := s.countWrap (chF F.CHU_TRAIN_STAT.COUNT h) 1
      let s := set (set (set s F.CHU_TRAIN_STAT.MARGIN least) F.CHU_TRAIN_STAT.RESULT res) F.CHU_TRAIN_STAT.LAST_ERROR err
      let s := set (set (set s F.CHU_TRAIN_STAT.PEND_ERROR 0) F.CHU_TRAIN_STAT.PEND_FW 0) F.CHU_TRAIN_STAT.PEND_TEMP 0
      let s := set (set (set s F.CHU_TRAIN_STAT.PEND_MARGIN 0) F.CHU_TRAIN_STAT.PEND_VCCQ 0) F.CHU_TRAIN_TICK.TICK s.tickno
      let c := s.chan ch
      let bad := if res = 3 then c.badTrains + 1 else 0
      let s := s.setChan ch { c with
        vol := none, badTrains := bad, rot := match pick with | some k => k + 1 | none => c.rot }
      if 2 ≤ bad then s.channelFailed ch else s)

/-! ## VCCQ_HOLD_END, ZQ_SHORT_CAL, TRAIN_FORCE -/

/-- Requests a forced retraining of a channel; one held with cause 4 discards it (R205). -/
def State.askTrain (s : State) (h : Nat) (f : Nat → Field) : State :=
  if (s.chan (s.chanOf h)).failed then s else s.setF (chF f h) 1

/-- VCCQ_HOLD_END: the rail has been in range for 16 consecutive ticks (R178). -/
def execVccqHoldEnd (quad : Nat) (s : State) : Host.Outcome State Fault Refusal :=
  .next (let q := s.quad quad
    if !s.clocked ∨ !q.held ∨ q.good < 16 then s
    else
      let s := s.setQuad quad { q with held := false, good := 0 }
      (List.range 4).foldl (fun s k => s.askTrain (4 * quad + k) F.CHU_TRAIN_STAT.PEND_VCCQ) s)

/-- A short ZQ calibration of a quad ends with the codes given; at an end of their range the quad keeps its own (R199, R200). -/
def State.zqResult (s : State) (quad up down : Nat) : State :=
  let s := (s.countWrap (qF F.CHU_QUAD_ZQ.CALS quad) 1).setQuad quad { s.quad quad with zqTemp := s.quadTempOf quad, zqTick := s.tickno }
  let bad (v : Nat) : Bool := v == 0 || decide (63 ≤ v)
  if bad up || bad down then
    let s := s.raise Ev.zqFault
    (List.range 4).foldl (fun s k => s.countSat (chF F.CHU_ERR.ZQ_FAILS (4 * quad + k)) 1) s
  else s.setQuad quad { s.quad quad with zqNew := some (up, down) }
/-- ZQ_SHORT_CAL: a quad whose calibration is due runs it. -/
def execZqShortCal (quad up down : Nat) (s : State) : Host.Outcome State Fault Refusal :=
  .next (let q := s.quad quad
    let t := s.quadTempOf quad
    let due := decide (q.zqTick + s.gp "ZQ_PERIOD" 0 131072 ≤ s.tickno) || decide (10 ≤ t - q.zqTemp) || decide (10 ≤ q.zqTemp - t)
    if !s.clocked ∨ !s.flag (qF F.CHU_QUAD_CFG.ENABLED quad) ∨ !due then s else s.zqResult quad up down)

/-- TRAIN_FORCE: firmware writes 1 to CHU_TRAIN_CTRL.FORCE. -/
def execTrainForce (channel : Nat) (s : State) : Host.Outcome State Fault Refusal :=
  .next (if !s.served ∨ s.build.channels ≤ channel then s
    else if s.asleep then s.holdWrite (HeldWrite.mk 0 0 (0x100040 + 0x400 * channel) 4
      (s.reg (0x100040 + 0x400 * channel) ||| 2#64))
    else s.askTrain channel F.CHU_TRAIN_STAT.PEND_FW)

end Sys2Proof.Machine
end

