-- ==== Sys2Proof/Machine/Brownout.lean ====
section
/-! DEFINITION. Power fail (chapter 12): acceptance, glitches and drills (R438, R439), the stop of phase 1 (R441, R442), a power fail
during census (R239), and the steps of the brown-out sequence (R440, R443 to R446). -/

namespace Sys2Proof.Machine

/-! ## What acceptance stops -/

/-- Census stops for good with a code of Table 6-5. -/
def State.censusHalt (s : State) (code : Nat) : State :=
  ((s.setF F.PWR_CENSUS.STAGE 15).setF F.PWR_CENSUS.HALT code).raise Ev.censusHalted

/-- Is any array operation under way on a die? -/
def State.opsRunning (s : State) : Bool := s.dies.any (fun e => e.2.op.isSome || e.2.read.isSome || e.2.resetPend)

/-- Census halts for a power fail once no operation is left (R239) (DEDUCED, log entry 35). -/
def State.settleCheck (s : State) : State :=
  if s.pf.settle && s.stage < 6 && !s.opsRunning then s.censusHalt 6 else s

/-- Withdraws the codeword reads and bursts; data of reads that run is discarded. -/
def State.dropReads (s : State) : State :=
  { s with cws := [], bursts := [], dies := s.dies.map (fun e => (e.1, { e.2 with burst := none })) }
/-- Withdraws the programs that no die runs, but for those of a journal row in flight; those that stay are class U (DEDUCED, log entry 38). -/
def State.dropProgs (s : State) : State :=
  let stays (p : Prog) : Bool := p.running || (match p.use with | .journal _ => true | _ => false)
  let gone := s.progs.filter (fun e => !stays e.2)
  let s : State := { s with progs := (s.progs.filter (fun e => stays e.2)).map (fun e => (e.1, { e.2 with cls := 0 })) }
  gone.foldl (fun s e => match e.2.use with
    | .data => s.markPage e.2.set e.2.band e.2.row e.2.pos 0
    | .parity _ => s.markPage e.2.set e.2.band e.2.row e.2.pos 0
    | _ => s) s
/-- Acts on the operations of the dies by Table 12-2: erases get RESET_LUN, suspended programs are resumed, all as class U. -/
def State.stopDies (s : State) : State :=
  let one (d : Die) : Die :=
    let d := { d with read := d.read.map (fun (o : ArrayOp) => { o with cls := 0 }), resetCls := 0 }
    match d.op with
    | some o =>
      if o.kind = .erase then { d with op := none, susp := none, resetPend := true }
      else { d with
        op := some { o with cls := 0 }
        susp := d.susp.map (fun (u : Susp) => { u with joined := [], cls := 0, fixed := u.fixed || u.taken }) }
    | none => d
  { s with dies := s.dies.map (fun e => (e.1, one e.2)), erases := [] }

/-- The items of the tick that no longer run (R441). -/
def Act.stopped (a : Act) : Bool := a == .read || a == .prog || a == .erase || a == .din

/-- Phase 1 (R440, R441): the engines stop; what waits in the next tick's plan is made anew with class U alone. -/
def State.pfailBegin (s : State) (drill : Bool) : State :=
  let s : State := { s with pf := { PowerFail.zero with start := s.mtime } }
  let s := (s.setF F.PWR_PFAIL_STAT.PHASE 1).setF F.PWR_PFAIL_STAT.DRILL (if drill then 1 else s.getF F.PWR_PFAIL_STAT.DRILL)
  let s := s.fabAbandon (fun w => match w with
    | .fill _ => false
    | .writeback _ => false
    | .cfsBuffer => false
    | _ => true)
  let s := (storeKeys s.ctxs).foldl (fun s c => s.freeBufs c) s
  let s := s.cfsStop
  let s := ((s.dropReads).dropProgs).stopDies
  let s := s.bumpPln (fun p => { p with exec := p.exec.map (fun e => (e.1, e.2.filter (fun i => !i.act.stopped))) })
  let s : State := { s with journals := s.journals.map (fun e => (e.1, { e.2 with pend := [] })) }
  if s.pln.planTick = s.tickno + 1 then s.commitPlans else s

/-- A power fail in census stages 0 to 5 (R239): nothing further starts, and census halts when what runs has ended. -/
def State.pfailSettle (s : State) : State :=
  let s : State := { s with pf := { PowerFail.zero with settle := true } }
  let s := s.cfsStop.dropReads
  let s : State := { s with
    progs := s.progs.filter (fun e => e.2.running)
    erases := s.erases.filter (fun e => e.2.running)
    journals := s.journals.map (fun e => (e.1, { e.2 with pend := [] })) }
  let s := s.bumpPln (fun p => { p with exec := p.exec.map (fun e => (e.1, e.2.filter (fun i => !i.act.stopped))), plans := [] })
  s.settleCheck

/-- A power fail, or a drill, is accepted (R438, R439). It has no effect in the fatal state (R634), on a fenced instance, or once a
sequence has begun; asleep, the sequence waits for the wake it causes (Table 19-5) (DEDUCED, log entry 37). -/
def State.pfailAccept (s : State) (drill : Bool) : State :=
  if s.phase ≠ .on ∨ s.fatal ∨ s.pfail ∨ s.pf.settle ∨ s.pf.due ∨ s.getF F.PAIR_STAT.STATE = 6 then s
  else
    let s := s.raise Ev.powerFailAccepted
    if s.stage < 6 ∨ s.stage = 15 then (if s.stage = 15 then s else s.pfailSettle)
    else if s.asleep then
      { s with pf := { s.pf with due := true, drill := drill } }.startWake 3
    else s.pfailBegin drill

/-- What a wake does for an acceptance that waited for it (DESIGN CHOICE, log entry 36). -/
def State.pfailAtWake (s : State) : State := if s.pf.due then s.pfailBegin s.pf.drill else s

/-! ## POWER_FAIL_ACCEPT, PFAIL_GLITCH, PFAIL_DRILL -/

/-- The length of the filter: cycles of the filter clock, or two samples of the always-on clock between Mitten samples. -/
def State.pfailLen (s : State) : Nat := if s.getF F.PWR_STAT.STATE = 3 then 2 else max 1 (s.getF F.PWR_PFAIL_CFG.FILTER)

/-- POWER_FAIL_ACCEPT: PFAIL_n has been low for `cycles` consecutive samples. -/
def execPowerFailAccept (cycles : Nat) (s : State) : Host.Outcome State Fault Refusal :=
  .next (if s.pfailLen ≤ cycles then s.pfailAccept false else s)

/-- PFAIL_GLITCH: a low pulse of `cycles` samples ended; between Mitten samples none is counted. -/
def execPfailGlitch (cycles : Nat) (s : State) : Host.Outcome State Fault Refusal :=
  .next (if s.phase = .on ∧ s.getF F.PWR_STAT.STATE ≠ 3 ∧ 0 < cycles ∧ cycles < s.pfailLen then
      s.setF F.PWR_PFAIL_STAT.GLITCHES (satAdd 16 (s.getF F.PWR_PFAIL_STAT.GLITCHES) 1)
    else s)

/-- PFAIL_DRILL: firmware writes 1 to PWR_PFAIL_CFG.DRILL. -/
def execPfailDrill (s : State) : Host.Outcome State Fault Refusal :=
  .next (if !s.served then s
    else if s.asleep then s.holdWrite (HeldWrite.mk 0 0 0xB0200 4 (s.reg 0xB0200 ||| 2#64))
    else s.pfailAccept true)

/-! ## BROWNOUT_DRAIN_END, BROWNOUT_SHELTER_END, POWER_RESTORED -/

/-- Phase 3 reads the tiles it needs from the pin region (R447). -/
def State.startFold (s : State) : State :=
  let s := s.setF F.PWR_PFAIL_STAT.PHASE 3
  let l := s.pinReads
  (List.range l.length).foldl (fun s k =>
    let r := l.getD k (0, 0)
    s.fabRead (.pinRead r.1) (4096 * s.getF F.PTY_PIN_BASE.BASE + tileBytes * r.2) tileBytes) s

/-- Phase 3 ends: fold, shelters, directory. -/
def State.endFold (s : State) : State :=
  let s : State := { s with fab := s.fab.filter (fun r => match r.who with | .pinRead _ => false | _ => true) }
  ((s.foldRows).chooseShelters).startDirectory

/-- BROWNOUT_DRAIN_END: every program has reported ready or timed out, and phase 3 begins; it goes on at once where it reads nothing from
memory, else with the next such command, when its reads have been answered. -/
def execBrownoutDrainEnd (s : State) : Host.Outcome State Fault Refusal :=
  .next (if s.phase ≠ .on then s
    else if s.getF F.PWR_PFAIL_STAT.PHASE = 3 then
      (if s.fab.any (fun r => (match r.who with | .pinRead _ => true | _ => false) && !r.under) then s else s.endFold)
    else if s.getF F.PWR_PFAIL_STAT.PHASE ≠ 2 ∨ s.progs ≠ [] ∨ s.dies.any (fun e => match e.2.op with | some o => o.kind == .prog | none => false) then s
    else
      let s := s.startFold
      if s.fab.any (fun r => (match r.who with | .pinRead _ => true | _ => false) && !(r.cached && r.lines.isEmpty)) then s else s.endFold)

/-- BROWNOUT_SHELTER_END: every shelter program has reported ready or failed. -/
def execBrownoutShelterEnd (s : State) : Host.Outcome State Fault Refusal :=
  .next (if s.phase = .on ∧ s.getF F.PWR_PFAIL_STAT.PHASE = 5 ∧
      !s.progs.any (fun e => match e.2.use with | .shelter _ => true | _ => false) then s.startSeal else s)

/-- POWER_RESTORED: PFAIL_n has been high for 1,000 consecutive ticks after phase 7 (R446). -/
def execPowerRestored (s : State) : Host.Outcome State Fault Refusal :=
  .next (if s.phase = .on ∧ s.getF F.PWR_PFAIL_STAT.PHASE = 7 then s.raise Ev.powerRestored else s)

end Sys2Proof.Machine
end

