-- ==== Sys2Proof/Machine/Telemetry.lean ====
section
/-! DEFINITION. The telemetry unit and the hold-up bank: ADC samples (R151, R178, R219 to R221, R641), the open-stripe limit and its
remeasurement (R222 to R224). -/

namespace Sys2Proof.Machine

def State.updCensus (s : State) (f : Census → Census) : State := { s with census := f s.census }
def State.updHu (s : State) (f : HoldUp → HoldUp) : State := s.updCensus (fun (c : Census) => { c with hu := f c.hu })

/-- Microseconds since reset release (R654, READY_US) (DEDUCED, log entry 34). -/
def State.sinceReset (s : State) : Nat := s.mtime - s.census.added
/-- MediaTime advances at once by `us`; it never moves backward (R234). -/
def State.advanceTime (s : State) (us : Nat) : State :=
  (s.setF F.TCK_MTIME.MEDIATIME (s.getF F.TCK_MTIME.MEDIATIME + us)).updCensus (fun (c : Census) => { c with added := c.added + us })

/-! ## Samples -/

/-- A junction sensor's reading (R641): the highest since reset, and the condition of junction-high with its hysteresis. -/
def State.junctions (s : State) : List Int :=
  s.telem.coreTemp :: (List.range s.build.quads).map (fun q => storeGet (fun _ => 0) s.telem.quadTemp q)
def State.noteJunction (s : State) (v : Int) : State :=
  let high : Int := s.getF F.GLB_TEMP_CFG.HIGH
  let hyst : Int := max 1 (s.getF F.GLB_TEMP_CFG.HYST)
  let hot := s.junctions.any (fun t => decide (high ≤ t))
  let cool := s.junctions.all (fun t => decide (t < high - hyst))
  { s with
    telem := { s.telem with maxTemp := some (max v (s.telem.maxTemp.getD v)) }
    evc := { s.evc with junction := hot || (s.evc.junction && !cool) } }

/-- Is a VCCQ reading further than `pct` per cent from the image's value for a quad (R178)? -/
def State.vccqOff (s : State) (q mv pct : Nat) : Bool :=
  let n := s.gp "VCCQ" q 0
  decide (pct * n < 100 * (if mv ≤ n then n - mv else mv - n))

/-- A VCCQ sample: two in sequence outside ±6 % hold the quad's channels with cause 3 (R178). -/
def State.vccqSample (s : State) (q mv : Nat) : State :=
  let s : State := { s with telem := { s.telem with vccqMv := storePut (fun _ => 0) s.telem.vccqMv q mv } }
  if !s.flag (qF F.CHU_QUAD_CFG.ENABLED q) then s
  else if !s.vccqOff q mv 6 then s.setQuad q { s.quad q with bad := 0 }
  else
    let x := s.quad q
    let s := s.setQuad q { x with bad := x.bad + 1, good := 0, held := x.held || decide (1 ≤ x.bad) }
    if decide (1 ≤ x.bad) && !x.held then
      let s := s.raise Ev.vccqFault
      { s with dies := s.dies.map (fun e =>
          if quadOf (s.homeIx e.1) = q then (e.1, { e.2 with kept := none }) else e) }
    else s

/-- A sample of the hold-up bank: the crossings of V_LO and V_HI, the plateau (R221, R223) (DEDUCED, log entry 27). -/
def State.bankSample (s : State) (mv : Nat) : State :=
  let s : State := { s with telem := { s.telem with bankMv := mv } }
  let now := s.sinceReset
  let lo := s.gp "V_LO" 0 15000
  let hi := s.gp "V_HI" 0 25000
  let h : HoldUp := s.census.hu
  if h.vTop.isSome then s
  else
    let h : HoldUp := { h with
      charged := some (h.charged.getD (decide (lo ≤ mv)))
      tLo := if h.tLo.isNone && decide (lo ≤ mv) then some now else h.tLo
      tHi := if h.tHi.isNone && decide (hi ≤ mv) then some now else h.tHi }
    let h : HoldUp :=
      if h.tHi.isNone then h
      else if h.settled then { h with plateau := h.plateau ++ [mv] }
      else
        let old := h.near.filter (fun e => decide (e.1 + 1000 ≤ now))
        let near := old.drop (old.length - 1) ++ h.near.filter (fun e => decide (now < e.1 + 1000)) ++ [(now, mv)]
        { h with near := near, settled := old.getLast?.any (fun e => decide (mv < e.2 + 50)) }
    let h : HoldUp := if h.plateau.length < 64 then h
      else { h with vTop := some (min (h.plateau.sum / 64) (s.gp "V_TOP_MAX" 0 0)), near := [], plateau := [] }
    s.updHu (fun _ => h)

/-- A sample of a rail group, as rail voltage (R151, R219, R220). -/
def State.railSample (s : State) (g mv : Nat) : State :=
  let low := decide (s.getF (F.PLN_RAIL_CFG.DROOP_MV g) + mv < s.getF (F.PLN_RAIL_CFG.NOMINAL_MV g))
  let s := s.bumpPln (fun p => { p with samples := storePut (fun _ => []) p.samples g (storeGet (fun _ => []) p.samples g ++ [mv]) })
  s.updCensus (fun (c : Census) => { c with
    idle := if s.stage = 2 ∧ !c.idleDone.contains g then
        storePut (fun _ => []) c.idle g ((storeGet (fun _ => []) c.idle g ++ [mv]).take 64) else c.idle
    load := match c.load with
      | some (k, n, l, d) => some (k, n, l, d || (k == g && low))
      | none => none })

/-- TELEMETRY_SAMPLE: an ADC sample, in mV after the divider scale or in °C (DESIGN CHOICE, log entry 29; DEDUCED, log entry 200). -/
def execTelemetrySample (sensor : Sensor) (value : Int) (s : State) : Host.Outcome State Fault Refusal :=
  .next (if !s.clocked || !s.windowsOpen then s
    else
      let s : State := { s with telem := { s.telem with samples := (s.telem.samples + 1) % 2 ^ 32 } }
      let mv := value.toNat
      match sensor with
      | .rail g => if g < 8 then s.railSample g mv else s
      | .vccq q => if q < s.build.quads then s.vccqSample q mv else s
      | .bank => s.bankSample mv
      | .quadTemp q =>
        if q < s.build.quads then
          ({ s with telem := { s.telem with quadTemp := storePut (fun _ => 0) s.telem.quadTemp q value } } : State).noteJunction value
        else s
      | .coreTemp => ({ s with telem := { s.telem with coreTemp := value } } : State).noteJunction value)

/-! ## The open-stripe limit (R222) -/

/-- The sizing of R222 for a capacitance already clamped: e_av and e_fix, and the limit; none where the plateau is at or below V_MIN. -/
def holdupEnergy (cap vTop vMin derate eBase eDie dies : Nat) : Option (Nat × Nat) :=
  if vTop ≤ vMin then none
  else
    let eAll := cap * (vTop * vTop - vMin * vMin) / 2000000
    some (eAll * (1000 - derate) / 1000, eBase + dies * eDie)
/-- LIMIT from the two energies and that of one row. -/
def holdupLimit (eAv eFix eRow : Nat) : Nat := if eAv ≤ eFix then 0 else min 64 ((eAv - eFix) / eRow)

/-- The number of mapped pdies and claimed spares, of both namespaces while the partner's is fostered (R596), and the largest plane count of the families in use. -/
def State.holdupDies (s : State) : Nat :=
  ((s.pdies.filter (fun e => e.2.cond == .mapped || e.2.cond == .spareClaimed)).filter (fun e =>
    s.fostering || decide (s.c0 ≤ pdieChannel e.1 ∧ pdieChannel e.1 < s.c0 + s.build.channels))).length
def State.holdupPlanes (s : State) : Nat :=
  (s.vdies.filter (fun e => e.2.mapped && decide (e.1 < 4096))).foldl (fun m e => max m (s.famPlanes e.2.family)) 1

/-- Computes LIMIT for a capacitance and a plateau: the new limit and the state with PWR_HOLDUP_E written. A row energy of 0, for
which R222 states no quotient, gives a free value (DESIGN CHOICE, log entry 26). -/
def State.holdupCompute (s : State) (cap vTop : Nat) : State × Nat :=
  match holdupEnergy cap vTop (s.gp "V_MIN" 0 0) (s.gp "DERATE" 0 200) (s.gp "E_BASE" 0 0) (s.gp "E_DIE" 0 0) s.holdupDies with
  | none => (s, 0)
  | some (eAv, eFix) =>
    let s := (s.setF F.PWR_HOLDUP_E.AVAIL_UJ (min eAv (2 ^ 32 - 1))).setF F.PWR_HOLDUP_E.FIXED_UJ (min eFix (2 ^ 32 - 1))
    let eRow := 2 * s.holdupPlanes * s.gp "E_PAGE" 0 0
    if eRow = 0 ∧ eFix < eAv then (s.draw, min 64 s.drawn) else (s, holdupLimit eAv eFix eRow)

/-- A capacitance clamped to C_MIN to C_MAX (R221). -/
def State.clampCap (s : State) (cap : Nat) : Nat := min (max cap (s.gp "C_MIN" 0 0)) (s.gp "C_MAX" 0 0)

/-- The capacitance and its SOURCE (R221, R223): timed, from the census record, or C_MIN. A window of no width, for which R222 states no
quotient, gives a free value. -/
def State.holdupCap (s : State) : Nat × Nat :=
  match s.census.hu.charged, s.census.hu.tLo, s.census.hu.tHi with
  | some false, some a, some b =>
    let w := s.gp "V_HI" 0 25000 - s.gp "V_LO" 0 15000
    (s.clampCap (if w = 0 then s.drawn else s.gp "I_CHG" 0 0 * (b - a) / w), 1)
  | _, _, _ => if s.census.record = [] then (s.clampCap (s.gp "C_MIN" 0 0), 3) else (s.clampCap (field s.census.record 56 4), 2)

/-- HOLDUP_LIMIT: the later of the end of the measurement and the end of census stage 4 (R224). -/
def execHoldupLimit (s : State) : Host.Outcome State Fault Refusal :=
  .next (if !s.working ∨ s.stage < 5 ∨ 7 < s.stage ∨ s.flag F.PWR_HOLDUP.HU_DONE then s
    else
      let done (s : State) : State := ((s.setF F.PWR_HOLDUP.HU_DONE 1).setF F.PWR_CENSUS.HU_DONE 1).updHu (fun (h : HoldUp) =>
        { h with lastTick := s.tickno })
      if s.flag F.PWR_HOLDUP.FAULT then done (s.setF F.PWR_HOLDUP.LIMIT 0)
      else match s.census.hu.vTop with
        | none => s
        | some v =>
          let c := s.holdupCap
          let r := s.draw.holdupCompute c.1 v
          let s := ((r.1.setF F.PWR_HOLDUP.LIMIT r.2).setF F.PWR_HOLDUP.CAP_UF (min c.1 (2 ^ 20 - 1))).setF F.PWR_HOLDUP.SOURCE c.2
          done (s.setF F.PWR_HOLDUP.VTOP_MV v).ptyRegs)

/-- HOLDUP_TIMEOUT: V_HI was not reached within HU_TIMEOUT of reset release (R223). -/
def execHoldupTimeout (s : State) : Host.Outcome State Fault Refusal :=
  .next (if !s.working ∨ !s.windowsOpen ∨ s.census.hu.tHi.isSome ∨ s.flag F.PWR_HOLDUP.FAULT ∨ s.flag F.PWR_HOLDUP.HU_DONE ∨
        s.sinceReset < 1000 * s.gp "HU_TIMEOUT" 0 500 then s
    else ((s.setF F.PWR_HOLDUP.FAULT 1).setF F.PWR_HOLDUP.LIMIT 0).raise Ev.holdUpFault)

/-- HOLDUP_REMEASURE: the policy engine's measurement every 65,536 ticks found a plateau of `vtop` mV (R224) (DEDUCED, log entry 28). -/
def execHoldupRemeasure (vtop : Nat) (s : State) : Host.Outcome State Fault Refusal :=
  .next (if !s.awake ∨ s.pfail ∨ s.flag F.GLB_WDOG_STAT.PE_HALTED ∨ s.stage < 6 ∨ 7 < s.stage ∨ !s.flag F.PWR_HOLDUP.HU_DONE ∨
        s.tickno < s.census.hu.lastTick + 65536 then s
    else
      let s := (s.peStep 7).updHu (fun (h : HoldUp) => { h with lastTick := s.tickno })
      let v := min vtop (s.gp "V_TOP_MAX" 0 0)
      let old := s.getF F.PWR_HOLDUP.VTOP_MV
      if 98 * old ≤ 100 * v then s
      else
        let r := s.holdupCompute (s.getF F.PWR_HOLDUP.CAP_UF) v
        let s := r.1.raise Ev.holdUpLow
        if r.2 < s.getF F.PWR_HOLDUP.LIMIT then ((s.setF F.PWR_HOLDUP.LIMIT r.2).setF F.PWR_HOLDUP.VTOP_MV v).ptyRegs else s)

end Sys2Proof.Machine
end

