-- ==== Sys2Proof/Machine/Boot.lean ====
section
/-! DEFINITION. Reset and the first stages of census: power and block reset (R610), the image (R212, R213), the partner's image (R582),
enumeration (R178, R184, R199), the idle check of the supplies (R219), Gauntlet lock (R215, R255, R560, R561). -/

namespace Sys2Proof.Machine

/-! ## Power and reset -/

/-- The home quads of this instance as bits of PAIR_HOME (R580). -/
def State.ownQuads (s : State) : Nat := if s.right then 0xFFFFFF000000 else 0xFFFFFF
/-- Does this instance hold the token of home quad `q`; always so on a build without pair. -/
def State.holdsQuad (s : State) (q : Nat) : Bool :=
  !s.build.pair || (s.getF F.PAIR_HOME.HOME).testBit (q + (if s.right then 24 else 0))
/-- Was this instance fenced: does the partner hold its home quads (R600)? (DEDUCED, log entry 14). -/
def State.tokensGone (s : State) : Bool := s.build.pair && s.getF F.PAIR_HOME.HOME &&& s.ownQuads == 0

/-- What block reset leaves (R610, R638): the NOR, with an operation cut off, the always-on count, the tokens of the pair arbiter, what the
block has sent (DEDUCED, log entry 12). -/
def State.blockReset (s : State) : State :=
  let s := s.norTorn
  let gone := s.tokensGone
  let ao := s.aocnt
  let r : State := { State.reset with
    build := s.build, right := s.right, pending := s.pending, out := s.out, draws := s.draws
    cfs := { Cfs.zero with mem := s.cfs.mem } }
  let r := r.setF F.TCK_AOCNT.COUNT ao
  if gone then r.setF F.PAIR_HOME.HOME 0 else r

/-- BLOCK_RESET: BLKRST_n is asserted. -/
def execBlockReset (s : State) : Host.Outcome State Fault Refusal :=
  .next (if s.phase = .off then s else s.blockReset)

/-- POWER_LOSS: the instance goes to Off; the always-on domain is lost too. -/
def execPowerLoss (s : State) : Host.Outcome State Fault Refusal :=
  .next (if s.phase = .off then s
    else { ((s.setF F.PAIR_HOME.HOME s.ownQuads).blockReset.setF F.TCK_AOCNT.COUNT 0) with phase := .off })

/-- POWER_ON: the always-on domain is reset; BLKRST_n is still asserted. -/
def execPowerOn (s : State) : Host.Outcome State Fault Refusal :=
  .next (if s.phase = .off then
      { State.reset with
        build := s.build, right := s.right, pending := s.pending, out := s.out, draws := s.draws
        cfs := { Cfs.zero with mem := s.cfs.mem } }
    else s)

/-- BLOCK_RESET_RELEASE: census stage 0 clears the Liner and the scratchpad and opens the windows; stage 1 begins. -/
def execBlockResetRelease (s : State) : Host.Outcome State Fault Refusal :=
  .next (if s.phase = .held then { s.setF F.PWR_CENSUS.STAGE 1 with phase := .on, windowsOpen := true } else s)

/-! ## The image -/

/-- The registers that the image's tables set (R128, R144, R467): the period before the first tick only. -/
def State.loadTables (s : State) : State :=
  let s := if s.census.imaged then s
    else
      let p := s.gp "tick period" 0 1 % 4
      ((s.setF F.TCK_PERIOD.PERIOD p).setF F.TCK_PERIOD.ACTIVE p).setF F.TCK_PERIOD.CYCLES (4 * (p + 1) * s.gp "CCLK" 0 1200)
  let s := (List.range s.build.quads).foldl (fun s q =>
    s.setF (Field.mk (0xD0200 + 4 * (q / 8)) (4 * (q % 8) + 3) (4 * (q % 8))) (s.gp "rail map" q 0 % 16)) s
  let s := (List.range 8).foldl (fun s g =>
    ((s.setF (F.PLN_RAIL_CFG.NOMINAL_MV g) (s.gp "NOMINAL_MV" g 0)).setF (F.PLN_RAIL_CFG.DROOP_MV g) (s.gp "DROOP_MV" g 0)).setF
      (F.PLN_RAIL_CFG.ENV_MA g) (s.gp "ENV_MA" g 0)) s
  (s.setF F.LNR_SP_WAYS.IMAGE (s.gp "scratchpad way count" 0 (if s.build = .dz48 then 16 else 20))).updCensus (fun (c : Census) =>
    { c with imaged := true })

/-- Loads a slot into the staging area and verifies it; HALT tells of the slot loaded last (R213). -/
def State.loadSlot (s : State) (b : Bool) : State :=
  let ok := s.slotOk b
  let s := (s.reloadSlot b).setFlag F.PWR_CENSUS.SLOT_B b
  let s := if ok then s.loadTables.updCensus (fun (c : Census) => { c with ident := some (imageHcrc s.staging, imageGen s.staging) }) else s
  if s.build.pair && ok then s.emit (.ident (imageHcrc s.staging) (imageGen s.staging)) else s

/-- Compares the images of the pair, once both are known: they match, or both instances are in MISMATCH (R582) (DESIGN CHOICE, log entry 249). -/
def State.pairCompare (s : State) : State :=
  match s.pair.image with
  | none => s
  | some (h, g) =>
    if s.census.ident = none ∨ s.fostering then s
    else if s.census.ident = some (h, g) then
      if s.getF F.PAIR_STAT.STATE = 0 ∨ (s.getF F.PAIR_STAT.STATE = 3 ∧ s.pair.waiting) then
        ({ s with pair := { s.pair with waiting := false } }).setF F.PAIR_STAT.STATE 2
      else s
    else if s.getF F.PAIR_STAT.STATE = 3 ∧ !s.pair.waiting then s
    else (({ s with pair := { s.pair with waiting := false } }).setF F.PAIR_STAT.STATE 3).raise Ev.pairMismatch

/-- A write of 0b01 or 0b10 to SLOT_REQ (R213): stored in stages 0 and 1, a reload in stage 2; one of the slot that an UPDATE writes waits for
its end (R556). -/
def State.slotRequest (s : State) (b : Bool) : State :=
  if s.locked then s
  else
    let s := s.setF F.PWR_BOOT_CTRL.SLOT_REQ (if b then 2 else 1)
    if s.stage ≠ 2 then s
    else if s.cfs.op.any (fun o => o.code == 3) && s.idleSlot == b then s.updCfs (fun (c : Cfs) => { c with reload := some b })
    else (s.loadSlot b).pairCompare

/-- Stage 2 begins; a reload stored before acts now (R213). -/
def State.beginBoot (s : State) : State :=
  let s := s.setF F.PWR_CENSUS.STAGE 2
  match s.getF F.PWR_BOOT_CTRL.SLOT_REQ with
  | 1 => s.slotRequest false
  | 2 => s.slotRequest true
  | _ => s

/-- IMAGE_LOAD: `nor` is what discovery finds of the device. MediaTime advances by MT_LAST of a valid census record (R654). On DZ3-96P
stage 1 waits for the partner's image. -/
def execImageLoad (nor : Option NorSfdp) (s : State) : Host.Outcome State Fault Refusal :=
  .next (if !s.working ∨ s.stage ≠ 1 ∨ s.pf.settle ∨ s.flag F.CFS_DEV.SFDP_OK ∨ s.pair.waiting then s
    else
      let s := s.cfsBegin nor
      let s := match s.record 0 with
        | some (p, _) => (s.updCensus (fun (c : Census) => { c with record := p })).advanceTime (field p 36 8)
        | none => s
      let s := match s.bootSlot with
        | some b => s.loadSlot b
        | none => s.setF F.PWR_CENSUS.HALT 1
      if !s.build.pair then s.beginBoot
      else if s.pair.image.isSome then s.pairCompare.beginBoot
      else { s with pair := { s.pair with waiting := true } })

/-- PARTNER_WAIT_TIMEOUT: 2 s passed without the partner's image; the instance runs in MISMATCH until the partner arrives. -/
def execPartnerWaitTimeout (s : State) : Host.Outcome State Fault Refusal :=
  .next (if !s.working ∨ !s.build.pair ∨ s.stage ≠ 1 ∨ !s.pair.waiting ∨ s.pf.settle then s
    else (s.setF F.PAIR_STAT.STATE 3).beginBoot)

/-- PARTNER_IMAGE_IDENT: the partner's HCRC and GENERATION. -/
def execPartnerImageIdent (hcrc generation : Nat) (s : State) : Host.Outcome State Fault Refusal :=
  .next (if !s.working ∨ !s.build.pair then s
    else
      let s : State := { s with pair := { s.pair with image := some (hcrc, generation) } }
      if s.stage = 1 ∧ s.pair.waiting then (({ s with pair := { s.pair with waiting := false } }).pairCompare).beginBoot
      else s.pairCompare)

/-- SLOT_RELOAD: boot code asks for slot A, or B. -/
def execSlotReload (b : Bool) (s : State) : Host.Outcome State Fault Refusal :=
  .next (if s.served && !s.pf.settle then s.slotRequest b else s)

/-! ## ROM_ENUMERATE and RAIL_IDLE_CHECK -/

/-- Is a home quad in use by the rail map, its token held? -/
def State.quadWanted (s : State) (q : Nat) : Bool := decide (q < s.build.quads) && (s.railOf q).isSome && s.holdsQuad q

/-- ROM_ENUMERATE: the VCCQ reading of a quad, the codes its long ZQ calibration ended with, and what each of its channels answers to the
ROM routine. -/
def execRomEnumerate (quad vccq up down : Nat) (channels : List (List RomVolume)) (s : State) : Host.Outcome State Fault Refusal :=
  .next (if !s.working ∨ s.pf.settle ∨ !(s.stage == 2 || s.stage == 3) ∨ !s.census.imaged ∨ !s.quadWanted quad ∨
        s.census.roms.contains quad ∨ s.census.brought then s
    else
      let s : State := { s with telem := { s.telem with vccqMv := storePut (fun _ => 0) s.telem.vccqMv quad vccq } }
      if s.vccqOff quad vccq 5 then
        s.updCensus (fun (c : Census) => { c with roms := c.roms ++ [quad], out := c.out ++ [quad] })
      else
        let s := (s.countWrap (F.CHU_QUAD_ZQ.CALS quad) 1).setQuad quad { s.quad quad with
          zqTemp := s.quadTempOf quad, zqTick := s.tickno }
        let bad (v : Nat) : Bool := v == 0 || decide (63 ≤ v)
        let s := if bad up || bad down then
            (let s := (s.setF (F.CHU_QUAD_ZQ.LIMITED quad) 1).raise Ev.zqFault
             (List.range 4).foldl (fun s k => s.countSat (F.CHU_ERR.ZQ_FAILS (4 * quad + k)) 1) s)
          else (s.setF (F.CHU_QUAD_ZQ.PULLUP quad) up).setF (F.CHU_QUAD_ZQ.PULLDOWN quad) down
        s.updCensus (fun (c : Census) => { c with roms := c.roms ++ [quad], rom := storePut (fun _ => []) c.rom quad channels }))

/-- The rail groups in use, by the rail map. -/
def State.railsInUse (s : State) : List Nat :=
  (List.range 8).filter (fun g => (List.range s.build.quads).any (fun q => s.quadWanted q && s.railOf q == some g))

/-- RAIL_IDLE_CHECK: every group with 64 samples is decided by their mean. -/
def execRailIdleCheck (s : State) : Host.Outcome State Fault Refusal :=
  .next (if !s.working ∨ s.stage ≠ 2 ∨ !s.census.imaged ∨ s.pf.settle then s
    else
      s.railsInUse.foldl (fun s g =>
        let l := storeGet (fun _ => []) s.census.idle g
        if s.census.idleDone.contains g ∨ l.length < 64 then s
        else
          let mean := l.sum / 64
          let nom := s.getF (F.PLN_RAIL_CFG.NOMINAL_MV g)
          let s := s.updCensus (fun (c : Census) => { c with idleDone := c.idleDone ++ [g] })
          if 10 * (if mean ≤ nom then nom - mean else mean - nom) ≤ nom then s
          else
            let qs := (List.range s.build.quads).filter (fun q => s.railOf q == some g)
            (s.updCensus (fun (c : Census) => { c with out := c.out ++ qs })).raise Ev.railFault) s)

/-! ## GAUNTLET_LOCK -/

/-- The protection level asked for at lock (R560, R561); whether the store was erased by a lowering (DESIGN CHOICE, log entry 211). -/
def State.lockProtection (s : State) : State × Bool :=
  let req := min 2 (s.getF F.CFS_PROT_LEVEL.REQ)
  let lev := s.cfsLevel
  if !s.flag F.CFS_DEV.SFDP_OK then (s, false)
  else if lev < req then (s.setProt req, false)
  else if req = 0 ∧ lev = 1 ∧ s.getF F.CFS_PROT_LEVEL.LOWER_KEY = 0x5A then
    let s := ((s.setNor []).setF F.CFS_PROT_LEVEL.LEVEL 0).setF F.CFS_DEV.FORMATTED 0
    ((s.updCfs (fun (c : Cfs) => { c with recs := [], appends := [], ledger := (0, 0, 1), pos := 0, aheadDue := false })), true)
  else (s, false)

/-- The write of 1 to GNT_LOCK.LOCK in stage 2 (R255, R215). -/
def State.lockGauntlet (s : State) : State :=
  let s := s.setF F.GNT_LOCK.LOCK 1
  let r := s.lockProtection
  let s := r.1
  let halt := s.getF F.PWR_CENSUS.HALT
  if r.2 then s.censusHalt 1
  else if halt ≠ 0 then s.censusHalt halt
  else if s.getF F.PWR_BOOT_CTRL.SLOT_REQ = 3 then s.censusHalt 2
  else
    let s := s.setF F.PWR_CENSUS.STAGE 3
    let s := s.setFlag F.PWR_CENSUS.FIRST (s.census.record == [] || s.getF F.PWR_BOOT_CTRL.FRESH_KEY == 0xC3)
    if s.tokensGone then s.setF F.PAIR_STAT.STATE 7 else s

/-- GAUNTLET_LOCK. -/
def execGauntletLock (s : State) : Host.Outcome State Fault Refusal :=
  .next (if !s.served ∨ s.stage ≠ 2 ∨ s.locked ∨ s.pf.settle then s else s.lockGauntlet)

end Sys2Proof.Machine
end

