-- ==== Sys2Proof/Machine/Bringup.lean ====
section
/-! DEFINITION. Census stage 3: family matching (R185, R186), mode and rate of each quad (R176), microcode (R189), full training (R177, R201,
R202), the factory scan (R216), the tests of the decoders (R368) and the load steps of the rail groups (R220). -/

namespace Sys2Proof.Machine

/-! ## Families -/

/-- The families of the image that are usable (R539, R652). -/
def State.families (s : State) : List Nat := (List.range 16).filter (familyUsable s.params)
/-- The routines that every family must provide (Table 5-6). -/
def requiredRoutines : List Nat := [0x00, 0x01, 0x02, 0x03, 0x04, 0x05, 0x06, 0x07, 0x08, 0x09, 0x0A, 0x0F, 0x10, 0x11, 0x12]
/-- The family whose key and geometry a volume matches (R186) (DEDUCED, log entry 31). -/
def State.matchFamily (s : State) (id : List Nat) (p : ParamCopy) : Option Nat :=
  s.families.find? (fun f =>
    (List.range 6).all (fun i => s.fp f "READ_ID" i 0 == id.getD i 0) && s.fp f "PAGE_SIZE" 0 0 == p.page && s.fp f "SPARE_SIZE" 0 0 == p.spare &&
      s.famPlanes f == p.planes && s.famBlocks f == p.blocks && s.famPages f 0 == p.pages && s.fp f "LUNS" 0 1 == p.luns)

/-- The dies of a channel from its volumes' answers: the loop of R184 from volume `v` on; a seventeenth die is not taken. -/
def State.enumerate (s : State) (h : Nat) : Nat → List RomVolume → List Found → List Found
  | _, [], found => found
  | v, a :: rest, found =>
    if !a.onfi && !a.jedec then found
    else
      match (a.copies.take 3).find? (fun p => p.good) with
      | none => s.enumerate h (v + 1) rest found
      | some p =>
        match s.matchFamily a.id p with
        | none => s.enumerate h (v + 1) rest found
        | some f =>
          let more := (List.range p.luns).map (fun l =>
            Found.mk h v l f ((a.uids.getD l none).getD (2 ^ 128 - 1)) p.rates true 0 [])
          s.enumerate h (v + 1) rest ((found ++ more).take 16)

/-- The dies of a channel in slot order of their enumeration. -/
def State.channelFound (s : State) (h : Nat) : List Found :=
  let l := s.enumerate h 0 (((storeGet (fun _ => []) s.census.rom (quadOf h)).getD (h % 4) []).take 16) []
  (List.range l.length).filterMap (fun k => l[k]?.map (fun (d : Found) => { d with slot := k }))

/-! ## Mode and rate (R176, R197, R208) -/

/-- The preferred interface mode of a family. -/
def State.famIface (s : State) (f : Nat) : Nat := s.fp f "preferred interface mode" 0 0
/-- The family with the most dies in a list; ties go to the lowest index. -/
def mostFamily (l : List Found) : Nat :=
  (List.range 16).foldl (fun a f =>
    if (l.filter (fun d => d.family == a)).length < (l.filter (fun d => d.family == f)).length then f else a) 0
/-- Does Table 5-3 allow a rate code in a mode and at a VCCQ? (DEDUCED, log entry 30). -/
def codeInMode (mode : Nat) (v18 : Bool) (code : Nat) : Bool :=
  match mode with
  | 0 => code ≤ 1
  | 1 => v18 && 2 ≤ code && code ≤ 4
  | 2 => !v18 && 2 ≤ code && code ≤ 11
  | 3 => !v18 && 6 ≤ code && code ≤ 14
  | 4 => 2 ≤ code && (if v18 then code ≤ 4 else code ≤ 14)
  | _ => false
/-- A routine's cost at a rate code. -/
def State.costAt (s : State) (f r code : Nat) : Nat := match s.routine f r with | some p => p.elems.getD code 0 | none => 0
/-- The TRAIN work of a family for 16 dies fits a 4-µs tick (R208). -/
def State.trainFits (s : State) (f code : Nat) : Bool :=
  decide (16 * (s.costAt f 0x02 code + 6 * s.costAt f 0x15 code) + 6 * s.costAt f 0x16 code + s.costAt f 0x14 code + 32 ≤ phyMhz code)
/-- Does the image list timing for a family at a code? -/
def State.timed (s : State) (f code : Nat) : Bool := (List.range 16).any (fun k => s.fp f "TIMING" (16 * code + k) 0 != 0)
/-- The rate codes a quad may run, highest first. -/
def State.codesFor (s : State) (q : Nat) (l : List Found) : List Nat :=
  let mode := s.famIface (mostFamily l)
  let v18 := decide (1500 ≤ s.gp "VCCQ" q 0)
  ((List.range 15).filter (fun c => codeInMode mode v18 c && (c ≤ 4 || !s.flag (F.CHU_QUAD_ZQ.LIMITED q)) &&
    l.all (fun d => d.rates.testBit c && s.timed d.family c && s.trainFits d.family c &&
      (c ≤ 4 || (s.hasRoutine d.family 0x15 && s.hasRoutine d.family 0x16))))).reverse

/-- The used dies of a quad: of one family where preferred modes differ, with every routine, on a microcode store that holds them. -/
def State.quadFound (s : State) (q : Nat) : List Found :=
  let l := ((List.range 4).map (fun k => s.channelFound (4 * q + k))).flatten
  let f := mostFamily l
  let mixed := l.any (fun d => s.famIface d.family != s.famIface f)
  l.map (fun d => { d with used := (!mixed || d.family == f) && requiredRoutines.all (s.hasRoutine d.family) })

/-! ## Microcode (R189) -/

/-- The routines of a family in the image. -/
def State.famRoutines (s : State) (f : Nat) : List Param := s.params.filter (fun p => p.sect == 0x11 && p.family == f)
/-- Loads the families of a channel in ascending index, each only where it fits whole: the words, the places, the families loaded. -/
def State.loadStore (s : State) : List Nat → List Nat → List (Nat × Nat × Nat × Nat) → List Nat → List Nat × List (Nat × Nat × Nat × Nat) × List Nat
  | [], words, places, done => (words, places, done)
  | f :: rest, words, places, done =>
    let l := s.famRoutines f
    if 2048 < words.length + (l.map (fun p => p.elems.length - 15)).sum then s.loadStore rest words places done
    else
      let r := l.foldl (fun (a : List Nat × List (Nat × Nat × Nat × Nat)) p =>
        (a.1 ++ p.elems.drop 15, a.2 ++ [(f, p.id, a.1.length, p.elems.length - 15)])) (words, places)
      s.loadStore rest r.1 r.2 (done ++ [f])

/-! ## Full training (R177, R201, R202) -/

/-- The edges of a window of passing steps. -/
def windowOf (w : List Bool) : Option (Nat × Nat) :=
  match lowEdge' w, lowEdge' w.reverse with
  | some a, some b => some (a, w.length - 1 - b)
  | _, _ => none
where
  lowEdge' (w : List Bool) : Option Nat := w.findIdx? (fun b => b)
/-- Does a die pass training: gate found, both margins at least 4? -/
def tryPass (t : TryDie) : Bool :=
  t.gate.isSome && (match windowOf t.rd, windowOf t.wr with
    | some r, some w => decide (4 ≤ margin r) && decide (4 ≤ margin w)
    | _, _ => false)
/-- The per-bit delays that align every window's centre with the latest, as the 48 bits of CHU_DESKEW. -/
def deskewOf (bits : List (List Bool)) : Nat :=
  let cs := (List.range 8).map (fun i => match windowOf (bits.getD i []) with | some e => centre e | none => 0)
  let top := cs.foldl max 0
  ((List.range 8).map (fun i => (top - cs.getD i 0) % 64 * 2 ^ (6 * i))).sum
/-- What a try found of a die. -/
def tryOf (t : List TryChan) (d : Found) : TryDie :=
  ((t.getD (d.home % 4) (TryChan.mk [] [] [])).dies.getD d.slot (TryDie.mk none [] []))

/-- Trains a quad at the codes given, at most three: the code it runs, the try that gave its trims, and the dies that failed at the last. -/
def trainQuad (l : List Found) : List Nat → List (List TryChan) → Nat → Option (Nat × List TryChan × List Found)
  | [], _, _ => none
  | code :: codes, tries, n =>
    let t := tries.headD []
    let bad := if code ≤ 4 then [] else l.filter (fun d => !tryPass (tryOf t d))
    if bad = [] ∨ n = 0 ∨ codes = [] then some (code, t, bad)
    else
      match trainQuad l codes (tries.drop 1) (n - 1) with
      | none => some (code, t, bad)
      | some (c, u, last) =>
        if last ≠ [] ∧ bad.all (fun d => last.contains d) then some (code, t, last) else some (c, u, last)

/-- Puts the trims of a die into its slot's register, with the edges of its windows. -/
def State.putTrims (s : State) (d : Found) (t : TryDie) : State :=
  match windowOf t.rd, windowOf t.wr with
  | some r, some w =>
    let ch := s.chanOf d.home
    let c := s.chan ch
    let k := d.slot
    let s := s.setChan ch { c with edges := storeIns (2 * k) r (storeIns (2 * k + 1) w c.edges) }
    let f (s : State) (g : Nat → Nat → Field) (v : Nat) : State := s.setF (g d.home k) v
    let s := f (f (f s F.CHU_DIE_TRIM.VALID 1) F.CHU_DIE_TRIM.GATE (t.gate.getD 0 - 32)) F.CHU_DIE_TRIM.RD_CTR (centre r)
    let s := f (f (f s F.CHU_DIE_TRIM.WR_CTR (centre w)) F.CHU_DIE_TRIM.RD_MARGIN (margin r)) F.CHU_DIE_TRIM.WR_MARGIN (margin w)
    f s F.CHU_DIE_TRIM.TEMP (BitVec.ofInt 8 (s.quadTempOf (quadOf d.home))).toNat
  | _, _ => s

/-- Brings up one quad. -/
def State.bringQuad (s : State) (b : BringQuad) : State :=
  let q := b.quad
  let all := s.quadFound q
  let chans := (List.range 4).map (fun k => 4 * q + k)
  let r := chans.foldl (fun (a : State × List Found) h =>
    let mine := all.filter (fun d => d.home == h)
    let fams := (List.range 16).filter (fun f => mine.any (fun d => d.family == f && d.used))
    let st := a.1.loadStore fams [] [] []
    let ch := a.1.chanOf h
    (a.1.setChan ch { a.1.chan ch with ucode := st.1, places := st.2.1, vol := none },
      a.2 ++ mine.map (fun d => { d with used := d.used && st.2.2.contains d.family }))) (s, [])
  let s := r.1
  let used := r.2.filter (fun d => d.used)
  let codes := s.codesFor q used
  match (if used = [] then none else trainQuad used codes b.tries 2) with
  | none => s.updCensus (fun (c : Census) => { c with found := c.found ++ r.2.map (fun d => { d with used := false }) })
  | some (code, t, failed) =>
    let f := mostFamily used
    let mode := s.famIface f
    let diff := mode == 3 || (mode ≥ 2 && code ≥ 5) || (mode ≥ 1 && code ≤ 4 && s.fp f "differential strobes" 0 0 != 0)
    let put (s : State) (g : Nat → Field) (v : Nat) : State := s.setF (g q) v
    let s := put (put (put (put s F.CHU_QUAD_CFG.MODE mode) F.CHU_QUAD_CFG.RATE code) F.CHU_QUAD_CFG.DIFF (if diff then 1 else 0))
      F.CHU_QUAD_CFG.VCCQ18 (if 1500 ≤ s.gp "VCCQ" q 0 then 1 else 0)
    let s := put (put (put (put s F.CHU_QUAD_CFG.WP_HIGH 1) F.CHU_QUAD_CFG.ENABLED 1) F.CHU_QUAD_CFG.PHY_MHZ (phyMhz code))
      F.CHU_QUAD_CFG.DRV (s.fp f "PAD" (4 * code) 0)
    let s := put s F.CHU_QUAD_CFG.ODT (s.fp f "PAD" (4 * code + 1) 0)
    let found := r.2.map (fun d => { d with
      used := d.used && !failed.contains d
      bad := (b.bad.filter (fun e => 4 * q + e.1 == d.home && e.2.1 == d.slot)).map (fun e => e.2.2) })
    let s := if code ≤ 4 then s
      else
        let s := chans.foldl (fun s h =>
          let c := t.getD (h % 4) (TryChan.mk [] [] [])
          if found.any (fun d => d.home == h && d.used) then
            (s.setF (F.CHU_DESKEW_RD.DQ h) (deskewOf c.rdBits)).setF (F.CHU_DESKEW_WR.DQ h) (deskewOf c.wrBits)
          else s) s
        (found.filter (fun d => d.used)).foldl (fun s d => s.putTrims d (tryOf t d)) s
    s.updCensus (fun (c : Census) => { c with found := c.found ++ found })

/-- The channel registers that follow from the dies and their slots: CHU_CFG and CHU_TCYC, the latter for the family of the lowest slot. -/
def State.channelRegs (s : State) (h : Nat) : State :=
  let l := s.census.found.filter (fun d => d.home == h)
  let used := l.filter (fun d => d.used)
  let s := s.setF (F.CHU_CFG.ENABLED h) (if used = [] then 0 else 1)
  let s := s.setF (F.CHU_CFG.DIES h) l.length
  let s := s.setF (F.CHU_CFG.PRESENT h) ((used.map (fun d => 2 ^ d.slot)).sum)
  match (l.mergeSort (fun a b => decide (a.slot ≤ b.slot))).head? with
  | none => s
  | some d => (List.range 8).foldl (fun s k =>
      (s.setF (F.CHU_TCYC.HI h k) (s.timing d.family h (2 * k + 1))).setF (F.CHU_TCYC.LO h k) (s.timing d.family h (2 * k))) s

/-- CENSUS_BRINGUP: what training and the scan find on each quad, and the decoders that failed their test twice. A quad not listed has
nothing that passes. -/
def execCensusBringup (quads : List BringQuad) (decoders : List Nat) (s : State) : Host.Outcome State Fault Refusal :=
  .next (let wanted := (List.range s.build.quads).filter s.quadWanted
    if !s.working ∨ s.stage ≠ 3 ∨ s.pf.settle ∨ s.census.brought ∨ s.getF F.PAIR_STAT.STATE = 7 ∨
        !wanted.all (fun q => s.census.roms.contains q) then s
    else
      let go := wanted.filter (fun q => !s.census.out.contains q)
      let s := go.foldl (fun s q =>
        s.bringQuad ((quads.find? (fun b => b.quad == q)).getD (BringQuad.mk q [] []))) s
      let s := (List.range s.build.channels).foldl (fun s h => if go.contains (quadOf h) then s.channelRegs h else s) s
      let s := (decoders.filter (fun d => decide (d < s.hardNo + s.softNo))).foldl (fun s d => s.retireDecoder d) s
      let s := s.updCensus (fun (c : Census) => { c with brought := true })
      if s.census.found.any (fun d => d.used) then s else s.censusHalt 5)

/-! ## RAIL_LOAD_STEP (R220) -/

/-- The used dies of a rail group, as (home channel, slot, I_FIRST of a read). -/
def State.railDies (s : State) (g : Nat) : List (Nat × Nat × Nat) :=
  (s.census.found.filter (fun d => d.used && s.railOf (quadOf d.home) == some g)).map (fun d => (d.home, d.slot, s.iFirst d.family 0 false))
/-- As many dies as it takes for their currents to reach `ma`. -/
def loadDies (ma : Nat) : List (Nat × Nat × Nat) → Nat → List Nat
  | [], _ => []
  | d :: rest, sum => if ma ≤ sum then [] else (16 * d.1 + d.2.1) :: loadDies ma rest (sum + d.2.2)

/-- Starts step `k` of a group (DEDUCED, log entry 32). -/
def State.startLoad (s : State) (g k : Nat) : State :=
  let l := loadDies (ceilDiv (k * s.getF (F.PLN_RAIL_CFG.ENV_MA g)) 8) (s.railDies g) 0
  s.updCensus (fun (c : Census) => { c with load := some (g, k, l, false) })
/-- Goes on with the next group that has a used die, or to stage 4. -/
def State.nextLoad (s : State) (g : Nat) : State :=
  match ((List.range 8).filter (fun k => decide (g ≤ k) && s.railDies k != [])).head? with
  | some k => (s.updCensus (fun (c : Census) => { c with loadNext := k + 1 })).startLoad k 1
  | none => (s.peMark.updCensus (fun (c : Census) => { c with load := none })).setF F.PWR_CENSUS.STAGE 4

/-- RAIL_LOAD_STEP: the reads of the step before are ready. -/
def execRailLoadStep (s : State) : Host.Outcome State Fault Refusal :=
  .next (if !s.working ∨ s.stage ≠ 3 ∨ !s.census.brought ∨ s.pf.settle then s
    else
      match s.census.load with
      | none => s.nextLoad s.census.loadNext
      | some (g, k, _, droop) =>
        if droop then
          ((s.setF (F.PLN_RAIL_CFG.ENV_MA g) (s.getF (F.PLN_RAIL_CFG.ENV_MA g) * (k - 1) / 8)).raise Ev.railWeak).nextLoad (g + 1)
        else if k = 8 then s.nextLoad (g + 1)
        else s.startLoad g (k + 1))

end Sys2Proof.Machine
end

