-- ==== Sys2Proof/Machine/Areas.lean ====
section
/-! DEFINITION. The areas of the scratchpad (R467, R468, Table 13-2) and what census sets by them: the event log, the accumulators and the
pools of buffers (R289, R290). -/

namespace Sys2Proof.Machine

/-- The size of a way in KiB. -/
def State.wayKib (s : State) : Nat := if s.build = .dz48 then 768 else 1536
/-- A size rounded up to 64 KiB. -/
def up64 (n : Nat) : Nat := (n + 63) / 64 * 64
/-- Tiles of the scratchpad pool (R289). -/
def State.spTiles (s : State) : Nat := max 1024 (s.gp "scratchpad pool" 0 (if s.build = .dz48 then 1024 else 2048))
/-- Sizes in KiB of areas 1 to 6 as the image gives them, with the defaults of Table 13-2. -/
def State.areaSizes (s : State) : List Nat :=
  let small := decide (s.build = .dz48)
  [s.gp "accumulator area" 0 (if small then 4096 else 12288), ceilDiv (s.spTiles * tileBytes) 1024, 32, if small then 964 else 1924,
    s.gp "band table cache" 0 (if small then 512 else 2048), s.gp "event log area" 0 (if small then 256 else 512)]
/-- Places areas one after another, each on a 64-KiB boundary: bases and sizes. -/
def placeAreas : Nat → List Nat → List (Nat × Nat)
  | _, [] => []
  | base, n :: rest => (up64 base, n) :: placeAreas (up64 base + n) rest
/-- Where the last of them ends. -/
def areasEnd (l : List (Nat × Nat)) : Nat := match l.getLast? with | some e => e.1 + e.2 | none => 0

/-- The staging area's size in KiB. -/
def State.stagingKib (s : State) : Nat := ceilDiv s.staging.length 1024
/-- The way count that R467 gives for a need. -/
def State.waysFor (s : State) (need : Nat) : Nat := min 24 (max need (s.getF F.LNR_SP_WAYS.IMAGE))

/-- The areas at stage 4: the need in ways, bases and sizes of areas 1 to 6. -/
def State.layAreas (s : State) : Nat × List (Nat × Nat) :=
  let sizes := s.areaSizes
  let need (l : List Nat) : Nat := ceilDiv (areasEnd (placeAreas 0 l)) s.wayKib
  let start (l : List Nat) : Nat := up64 (max s.stagingKib ((24 - s.waysFor (need l)) * s.wayKib))
  let excess := areasEnd (placeAreas (start sizes) sizes) - 24 * s.wayKib
  let sizes' := (sizes.headD 0 - up64 excess) :: sizes.drop 1
  (need sizes', placeAreas (start sizes') sizes')

/-- Places the areas at census stage 4 and sets what follows from their sizes. -/
def State.setAreas (s : State) : State :=
  let r := s.layAreas
  let s := s.setF F.LNR_SP_WAYS.NEED r.1
  let s := (List.range 6).foldl (fun s k =>
    (s.setF (F.LNR_SP_AREA.BASE_KIB (k + 1)) (r.2.getD k (0, 0)).1).setF (F.LNR_SP_AREA.SIZE_KIB (k + 1)) (r.2.getD k (0, 0)).2) s
  let acc := (r.2.getD 0 (0, 0)).2
  let s := s.setF F.GLB_LOG_CFG.CAP ((r.2.getD 5 (0, 0)).2 * 16)
  let s := (s.setF F.PTY_ROWSTORE.ACC_KIB acc).setF F.PTY_ROWSTORE.ACC_FREE_KIB acc
  let s := (s.setF F.PTY_ROWSTORE.SP_TILES s.spTiles).setF F.PTY_ROWSTORE.SP_FREE s.spTiles
  let fab := s.getF F.PTY_PIN_SIZE.PAGES * 4096 / tileBytes
  let fab := if fab < 1024 then 0 else fab
  (s.setF F.PTY_PIN_STAT.FAB_TILES fab).setF F.PTY_PIN_STAT.FAB_FREE fab

/-- READ_READY: the ways beyond WAYS are released, the window offsets fall by their size, and areas 0 and 7 take their places; area 0 keeps
what stays of the staging area. -/
def State.releaseWays (s : State) : State :=
  let ways := s.waysFor (s.getF F.LNR_SP_WAYS.NEED)
  let gone := (24 - ways) * s.wayKib
  let keep := s.stagingKib - gone
  let s : State := { s with staging := s.staging.drop (1024 * gone) }
  let s := s.setF F.LNR_SP_WAYS.WAYS ways
  let s := (List.range 6).foldl (fun s k =>
    s.setF (F.LNR_SP_AREA.BASE_KIB (k + 1)) (s.getF (F.LNR_SP_AREA.BASE_KIB (k + 1)) - gone)) s
  let top := s.getF (F.LNR_SP_AREA.BASE_KIB 6) + s.getF (F.LNR_SP_AREA.SIZE_KIB 6)
  let s := s.setF (F.LNR_SP_AREA.SIZE_KIB 0) keep
  (s.setF (F.LNR_SP_AREA.BASE_KIB 7) top).setF (F.LNR_SP_AREA.SIZE_KIB 7) (ways * s.wayKib - top)

end Sys2Proof.Machine
end

