-- ==== Sys2Proof/Machine/Replay.lean ====
section
/-! DEFINITION. Reading the journal set from the media (R226, R450): rows reconstructed from what the media reads give, and what each record
of Table 12-4 does to the state at replay. -/

namespace Sys2Proof.Machine

def State.updReplay (s : State) (f : Replay → Replay) : State :=
  s.updCensus (fun (c : Census) => { c with replay := f c.replay })

/-! ## Media reads -/

/-- The read of one codeword slot among those given. -/
def findRead (reads : List MediaRead) (p plane block page slot : Nat) : Option MediaRead :=
  reads.find? (fun r => r.pdie == p && r.plane == plane && r.block == block && r.page == page && r.slot == slot)
/-- The image that a codeword slot decodes to, none where it does not. -/
def readImage (reads : List MediaRead) (p plane block page slot : Nat) : Option (List Byte) :=
  match findRead reads p plane block page slot with
  | some r => if r.erased then none else r.image
  | none => none
/-- Is a page of a block written: does any codeword slot read not as erased? (DEDUCED, log entry 125). -/
def pageWritten (reads : List MediaRead) (p block page : Nat) : Bool :=
  reads.any (fun r => r.pdie == p && r.block == block && r.page == page && !r.erased)
/-- Does a page decode: some codeword slot of it gives an image? -/
def pageDecodes (reads : List MediaRead) (p block page : Nat) : Bool :=
  reads.any (fun r => r.pdie == p && r.block == block && r.page == page && !r.erased && r.image.isSome)

/-! ## Rows -/

/-- What a journal row reads as. -/
inductive RowRead where
  | unwritten
  | invalid
  | row (seq : Nat) (first : Bool) (recs : List (Nat × List Byte))
deriving DecidableEq, Repr

/-- The image of data position `dp`, codeword `k`, of a journal row whose members lie at `locs` (pdie, block): read, or reconstructed by
parity level 2 (R226). -/
def rowImage (reads : List MediaRead) (d : SetDesc) (locs : List (Nat × Nat)) (row dp k : Nat) : Option (List Byte) :=
  let at' (pos : Nat) : Option (List Byte) :=
    let l := locs.getD pos (noPdie, 0)
    readImage reads l.1 (k / d.slots) l.2 row (k % d.slots)
  let dat (x : Nat) : Option (List Byte) := match memberOf x row d.w d.level with
    | some pos => at' pos
    | none => none
  match dat dp with
  | some i => some i
  | none =>
    let known := (List.range d.dpos).filterMap (fun x => if x = dp then none else (dat x).map (fun i => (x, i)))
    let lost := (List.range d.dpos).filter (fun x => x != dp && (dat x).isNone)
    match lost with
    | [] => reconstruct d.level (at' (pPos d.w row)) (at' (qPos d.w row)) known dp none
    | [y] => reconstruct d.level (at' (pPos d.w row)) (at' (qPos d.w row)) known dp (some y)
    | _ => none

/-- A journal row as the media reads give it. -/
def readRow (reads : List MediaRead) (d : SetDesc) (locs : List (Nat × Nat)) (row : Nat) : RowRead :=
  if !locs.any (fun l => pageWritten reads l.1 l.2 row) then .unwritten
  else
    let tiles := (List.range d.dpos).map (fun dp =>
      let block := (locs.getD ((memberOf dp row d.w d.level).getD 0) (noPdie, 0)).2
      (List.range (d.planes * d.slots)).map (fun k =>
        match rowImage reads d locs row dp k with
        | some i => let t := scramble block row (k % d.slots) i
          if tileCrcOk t then t.take 4096 else []
        | none => []))
    if tiles.flatten.any (fun t => t == []) then .invalid
    else match parseRow tiles.flatten.flatten with
      | some (seq, first, recs) => .row seq first recs
      | none => .invalid

/-! ## Records -/

/-- Drops the indices of a band's blocks from those known to be erased. -/
def State.bandUsed (s : State) (g b : Nat) : State :=
  let d := s.sset g
  let used := (List.range d.w).map (fun pos => ((s.vdie (d.memberAt pos + 4096 * nsOf g)).pdie, (s.band g b).blocks.getD pos 0xFFFF))
  s.updReplay (fun (r : Replay) => { r with dones := r.dones.filter (fun e => !used.contains e) })

/-- A BAND record. -/
def State.replayBand (s : State) (g b st opened closedAt fill : Nat) : State :=
  let x := s.band g b
  match st with
  | 3 => (s.setBand g b { Band.unerased with state := 3, blocks := x.blocks, opened := opened }).bandUsed g b
  | 4 =>
    let moved := x.state == 4 && x.opened != opened
    (s.setBand g b { x with
      state := 4, opened := opened, closedAt := closedAt, fill := fill, reads := 0
      corr := if moved then [] else x.corr, lost := if moved then [] else x.lost }).bandUsed g b
  | 1 => (s.setBand g b { x with state := 1 }).updReplay (fun (r : Replay) => { r with
      pendings := r.pendings.filter (fun e => !(e.1 == g && e.2.2.1 == b)) })
  | _ => s.setBand g b { Band.unerased with state := st, blocks := x.blocks }

/-- The entries of a PL_DIR record, `n` of `size` bytes. -/
def dirEntries (m : List Byte) (n size : Nat) : List (List Byte) := (List.range n).map (fun i => slice m (4 + size * i) size)

/-- A PL_DIR record of the row with SEQ `seq`; the first of a directory begins it. -/
def State.replayDir (s : State) (ns seq : Nat) (m : List Byte) : State :=
  let n := field m 2 2
  s.updReplay (fun (r : Replay) => match field m 0 1 with
    | 1 => { r with
        dirSeq := some seq, sealed := false, sealUs := 0, shelters := [], runs := [], nextStamp := 0
        fills := (dirEntries m n 8).map (fun e => (nsSet ns (field e 0 1), field e 2 2, field e 4 4)) }
    | 2 => { r with shelters := r.shelters ++ (dirEntries m n 20).map (fun e =>
        Shelter.mk (nsSet ns (field e 0 1)) (field e 2 2) (field e 4 2) (field e 6 2, field e 8 2, field e 10 2)
          (field e 12 2, field e 14 2, field e 16 2)) }
    | 3 => { r with runs := r.runs ++ (dirEntries m n 16).map (fun e =>
        Run.mk (nsSet ns (field e 0 1)) (field e 2 2) (field e 4 4) (field e 8 4) (field e 12 2) (field e 14 2)) }
    | 4 => { r with nextStamp := ((dirEntries m n 16).map (fun e => if field e 0 1 = ns then field e 8 8 else 0)).foldl max 0 }
    | _ => r)

/-- The effect of one record at replay; `seq` is its row's. -/
def State.replayRec (s : State) (ns seq : Nat) (e : Nat × List Byte) : State :=
  let m := e.2
  match e.1 with
  | 0x01 =>
    let v := nsVdie ns (field m 0 2)
    let x := Vdie.ofWord (field m 8 8)
    let old := s.vdie v
    (s.setVdie v x).mapCond old x
  | 0x02 =>
    let g := nsSet ns (field m 0 1)
    let d := SetDesc.ofBytes m
    let s := s.setSset g d
    if d.defined then s else { s with bands := s.bands.filter (fun k => k.1 / 16384 != g) }
  | 0x03 =>
    let p := field m 0 2
    let x := s.pdie p
    s.setPdie p { x with
      cond := if x.cond = .absent then .spareFree else x.cond, volume := field m 2 1, lun := field m 3 1, uid := field m 4 16 }
  | 0x04 => s.markBad (field m 0 2) (field m 2 2)
  | 0x05 => s.updCensus (fun (c : Census) => { c with profiles := storeIns (field m 0 1) (1 + field m 1 1) c.profiles })
  | 0x06 =>
    let p := field m 0 2
    s.setPdie p { s.pdie p with shelter := some (field m 2 2), shelterPage := field m 4 2 }
  | 0x10 => s.replayBand (nsSet ns (field m 0 1)) (field m 2 2) (field m 4 1) (field m 8 8) (field m 16 8) (field m 24 4)
  | 0x11 =>
    let g := nsSet ns (field m 0 1)
    let pos := field m 1 1
    let b := field m 2 2
    let i := field m 4 2
    let s := s.updReplay (fun (r : Replay) => { r with pendings := r.pendings.filter (fun k => k != (g, pos, b, i)) })
    if field m 6 1 = 1 then s.applyBind g b pos i
    else s.updReplay (fun (r : Replay) => { r with pendings := r.pendings ++ [(g, pos, b, i)] })
  | 0x12 =>
    let g := nsSet ns (field m 0 1)
    let b := field m 2 2
    let x := s.band g b
    let l := ((List.range (field m 8 4)).map (· + field m 4 4)).filter (fun boi => !x.voids.contains boi)
    s.setBand g b { x with voids := x.voids ++ l }
  | 0x13 =>
    let g := nsSet ns (field m 0 1)
    let b := field m 2 2
    let d := s.sset g
    let boi := boiOf d.dpos d.planes d.slots (RowPos.mk (field m 4 2) (field m 1 1) (field m 6 1) (field m 7 1))
    let x := s.band g b
    s.setBand g b { x with corr := x.corr.filter (fun k => k.1 != boi) ++ [(boi, slice m 16 4128)] }
  | 0x14 =>
    let g := nsSet ns (field m 0 1)
    let b := field m 2 2
    let x := s.band g b
    s.setBand g b { x with lost := if x.lost.contains (field m 4 4) then x.lost else x.lost ++ [field m 4 4] }
  | 0x20 =>
    let p := field m 0 2
    let i := field m 2 2
    let x := s.pdie p
    let known := s.census.replay.intents.any (fun k => k.1 == p && k.2.1 == i)
    let s := if known then s else s.setPdie p { x with wear := bump x.wear i 1 }
    let names (k : Nat × Nat × Nat × Nat) : Bool := (s.vdie ((s.sset k.1).memberAt k.2.1 + 4096 * ns)).pdie == p && k.2.2.2 == i
    s.updReplay (fun (r : Replay) => { r with
      intents := if known then r.intents else r.intents ++ [(p, i, field m 4 1)]
      dones := r.dones.filter (fun k => k != (p, i))
      pendings := if field m 4 1 = 4 then r.pendings.filter (fun k => !names k) else r.pendings })
  | 0x21 =>
    let p := field m 0 2
    let i := field m 2 2
    s.updReplay (fun (r : Replay) => { r with
      intents := r.intents.filter (fun k => !(k.1 == p && k.2.1 == i))
      dones := if field m 4 1 = 0 then r.dones ++ [(p, i)] else r.dones })
  | 0x22 =>
    let p := field m 0 2
    let x := s.pdie p
    s.setPdie p { x with wear := (List.range (field m 4 2)).foldl (fun w k =>
      storePut (fun _ => 0) w (field m 2 2 + k) (field m (8 + 4 * k) 4)) x.wear }
  | 0x30 =>
    let v := nsVdie ns (field m 0 2)
    let key := bandKey (nsSet ns (field m 2 1)) (field m 4 2)
    s.updReplay (fun (r : Replay) => { r with
      ckpts := r.ckpts.filter (fun k => !(k.1 == v && k.2.1 == key)) ++ [(v, key, field m 6 2, field m 8 2)] })
  | 0x31 =>
    let v := nsVdie ns (field m 0 2)
    let t (o : Nat) : List Int := (slice m o 240).map byteS8
    let a := t 8
    let b := t 248
    s.setLev v (field m 2 1 == 1) { Levels.zero with
      applied := a, target := b, crcA := tableCrc a, crcT := tableCrc b
      k := (List.range 15).map (fun i => signedElem 2 (field m (488 + 2 * i) 2))
      zones := (List.range 16).map (fun z => (z, { Zone.zero with laRef := field m (520 + z) 1 })) }
  | 0x40 => s.setJournal ns { s.journal ns with hwm := field m 8 8 }
  | 0x50 => s.replayDir ns seq m
  | 0x51 => s.updReplay (fun (r : Replay) =>
      if r.dirSeq = some (field m 0 8) then { r with sealed := true, sealUs := field m 8 4 } else r)
  | 0x52 => s.updReplay (fun (r : Replay) => { r with
      dirSeq := none, sealed := false, sealUs := 0, fills := [], shelters := [], runs := [], nextStamp := 0 })
  | _ => s

/-- The records of a row. -/
def State.replayRow (s : State) (ns : Nat) (row : Nat × List (Nat × List Byte)) : State :=
  row.2.foldl (fun s e => s.replayRec ns row.1 e) s

end Sys2Proof.Machine
end

