-- ==== Sys2Proof/Machine/Census.lean ====
section
/-! DEFINITION. Census stage 4: the first census (R48, R63, R228), the load of the journal (R226, R227), the comparison with the previous
census (R229 to R232). -/

namespace Sys2Proof.Machine

/-! ## Dies and slots -/

/-- The pdie of a home channel and slot. -/
def State.homePdie (s : State) (h slot : Nat) : Nat := pdieOf (s.c0 + h) slot
/-- The used die found under an enumeration slot of a home channel. -/
def State.foundAt (s : State) (h slot : Nat) : Option Found :=
  s.census.found.find? (fun d => d.home == h && d.slot == slot && d.used)
/-- Enters a die found into a slot with a condition. -/
def State.enterDie (s : State) (p : Nat) (d : Found) (cond : PdieCond) : State :=
  s.setPdie p { Pdie.absent with cond := cond, volume := d.volume, lun := d.lun, uid := d.uid, family := d.family, bad := d.bad }

/-! ## The first census -/

/-- Maps the dies found (R48). -/
def State.firstCensusMap (s : State) : State :=
  let m := firstMap (fun c n => (s.foundAt c n).isSome) s.build.channels (s.gp "dies per spare" 0 48)
  let s := m.1.foldl (fun s e => match s.foundAt e.1 e.2 with
    | some d => s.enterDie (s.homePdie e.1 e.2) d .spareFree
    | none => s) s
  (List.range m.2.length).foldl (fun s v =>
    let e := m.2.getD v (0, 0)
    match s.foundAt e.1 e.2 with
    | some d =>
      let p := s.homePdie e.1 e.2
      let s := (s.enterDie p d .mapped).setVdie v (Vdie.mk true 0 d.family false false 0 0 noPdie p)
      s.setLev v false (s.freshLevels d.family 0)
    | none => s) s

/-- The journal family: the one with the most NORMAL vdies, the lowest index on a tie (R63). -/
def State.journalFamily (s : State) : Nat :=
  let n (f : Nat) : Nat := (s.vdies.filter (fun e => e.2.mapped && e.2.family == f)).length
  (List.range 16).foldl (fun a f => if n a < n f then f else a) 0
/-- The lowest-slot NORMAL vdie of a family on a home channel. -/
def State.lowestOn (s : State) (f h : Nat) : Option Nat :=
  let l := s.vdies.filter (fun e => e.2.mapped && e.2.family == f && pdieChannel e.2.pdie == s.c0 + h)
  (l.foldl (fun (a : Option (Nat × Nat)) e => match a with
    | none => some (e.2.pdie, e.1)
    | some (p, _) => if e.2.pdie < p then some (e.2.pdie, e.1) else a) none).map (·.2)
/-- The member found from a channel upward, the channels chosen skipped. -/
def State.memberFrom (s : State) (f : Nat) (chosen : List Nat) : Nat → Nat → Option (Nat × Nat)
  | 0, _ => none
  | fuel + 1, h =>
    match (if chosen.contains h then none else s.lowestOn f h) with
    | some v => some (h, v)
    | none => s.memberFrom f chosen fuel ((h + 1) % s.build.channels)
/-- The journal set's members in order, as (home channel, vdie). -/
def State.journalMembers (s : State) : List (Nat × Nat) :=
  let c := s.build.channels
  (List.range 4).foldl (fun (l : List (Nat × Nat)) k =>
    match s.memberFrom s.journalFamily (l.map (·.1)) c (k * c / 4) with
    | some e => l ++ [e]
    | none => l) []
/-- The 64 highest good indices of a pdie, ascending (R63) (DEDUCED, log entry 120). -/
def State.journalBlocks (s : State) (p : Nat) : List Nat :=
  let l := s.goodIndices p
  l.drop (l.length - 64)

/-- Is a row-0 page of the blocks that R63 would choose a journal page (R228)? (DEDUCED, log entry 121). -/
def State.journalPresent (s : State) (reads : List MediaRead) : Bool :=
  s.journalMembers.any (fun e =>
    let p := (s.vdie e.2).pdie
    reads.any (fun r => r.pdie == p && r.page == 0 && !r.erased && (s.journalBlocks p).contains r.block &&
      (match r.image with
       | some i => let t := scramble r.block 0 r.slot i
         tileCrcOk t && field t 0 4 == 0x4A524E4C
       | none => false)))

/-- Creates the journal set: its descriptor, its bands bound and under erase (DESIGN CHOICE, log entry 41: the erases of the creation carry no
intent, as no journal is there to hold it). -/
def State.createJournal (s : State) : State :=
  let f := s.journalFamily
  let mem := s.journalMembers.map (·.2)
  let planes := s.famPlanes f
  let d := SetDesc.mk 4 2 f 1 planes (s.famSlots f) 64 (s.famPages f 1) mem
  let s := s.setSset 255 d
  let s := mem.foldl (fun s v => s.setVdie v { s.vdie v with journal := true }) s
  let blks := mem.map (fun v => s.journalBlocks (s.vdie v).pdie)
  let s := (List.range 64).foldl (fun s b => s.setBand 255 b { Band.unerased with
    state := 1, blocks := blks.map (fun l => l.getD b 0xFFFF) }) s
  (List.range 64).foldl (fun s b => (List.range 4).foldl (fun s pos =>
    let p := (s.vdie (mem.getD pos 0)).pdie
    let i := (blks.getD pos []).getD b 0xFFFF
    if i = 0xFFFF then s
    else
      let x := s.pdie p
      (s.setPdie p { x with wear := bump x.wear i 1 }).addErase { EraseJob.zero with
        use := .create b pos, cls := 0, level := 0, pdie := p, block := i, planes := planes, slc := true, intent := true, ready := true }) s) s

/-- The profiles of the families in use, recorded at the first census (R113). -/
def State.recordProfiles (s : State) : State :=
  s.updCensus (fun (c : Census) => { c with profiles := ((s.vdies.map (fun e => e.2.family)).eraseDups).foldl (fun m f =>
    storeIns f (1 + (profileRows.findIdx? (· == s.profile f)).getD 0) m) c.profiles })

/-- The first census up to the erase of the journal set's blocks. -/
def State.firstCensus (s : State) (reads : List MediaRead) : State :=
  let s := s.firstCensusMap
  if s.journalMembers.length < 4 then s.censusHalt 10
  else if s.getF F.PWR_BOOT_CTRL.FRESH_KEY ≠ 0xC3 ∧ s.journalPresent reads then s.censusHalt 8
  else s.recordProfiles.createJournal.updCensus (fun (c : Census) => { c with phase := 1 })

/-! ## The load of the journal (R226, R227) -/

/-- The family that the journal's dies have, from what enumeration found at the recorded numbers. -/
def State.recordFamily (s : State) (p : Nat) : Nat :=
  match s.census.found.find? (fun d => s.c0 + d.home == pdieChannel p && d.slot == pdieSlot p) with
  | some d => d.family
  | none => match s.census.found.find? (fun d => s.c0 + d.home == pdieChannel p) with
    | some d => d.family
    | none => 0
/-- Where a journal band's members are read, by position: on the pdie replaced while its member is REBUILDING. -/
def State.journalLocs (s : State) (ns b : Nat) : List (Nat × Nat) :=
  let d := s.sset (jset ns)
  (List.range d.w).map (fun pos =>
    let x := s.vdie (nsVdie ns (d.memberAt pos))
    (if x.state = 1 then x.oldPdie else if x.mapped then x.pdie else noPdie, (s.band (jset ns) b).blocks.getD pos 0xFFFF))

/-- Where replay stands: the state without the row held, that row, the place of the row to read next, whether the end of the checkpoint
sought was met, and bands begun since its first row. -/
structure ReplayAt where
  st : State
  held : Nat × List (Nat × List Byte)
  band : Nat
  row : Nat
  ended : Bool
  crossed : Nat

/-- The next place of the journal after a band's row; the band that is full is CLOSED (DEDUCED, log entry 122). -/
def State.replayNext (s : State) (ns b row : Nat) : State × Nat × Nat :=
  let d := s.sset (jset ns)
  if row + 1 < d.rows then (s, b, row + 1)
  else (s.setBand (jset ns) b { s.band (jset ns) b with state := 4, fill := d.tiles }, (b + 1) % 64, 0)

/-- Reads rows in sequence up to the first that is unwritten or breaks it. A row that is written and not valid is passed over: its programs
failed and it was written again as the next row; of two rows with one SEQ the later counts (R449, R450). -/
def replayLoop (reads : List MediaRead) (ns ckpt : Nat) : Nat → ReplayAt → ReplayAt
  | 0, a => a
  | fuel + 1, a =>
    let ahead := a.st.replayRow ns a.held
    match readRow reads (ahead.sset (jset ns)) (ahead.journalLocs ns a.band) a.row with
    | .unwritten => a
    | .invalid =>
      let n := a.st.replayNext ns a.band a.row
      replayLoop reads ns ckpt fuel { a with
        st := n.1, band := n.2.1, row := n.2.2, crossed := a.crossed + (if n.2.2 = 0 then 1 else 0) }
    | .row seq _ recs =>
      if seq ≠ a.held.1 ∧ seq ≠ a.held.1 + 1 then a
      else
        let st := if seq = a.held.1 then a.st else ahead
        let n := st.replayNext ns a.band a.row
        replayLoop reads ns ckpt fuel { a with
          st := n.1, held := (seq, recs), band := n.2.1, row := n.2.2, crossed := a.crossed + (if n.2.2 = 0 then 1 else 0)
          ended := a.ended || recs.any (fun e => e.1 == 0x7F && field e.2 0 8 == ckpt) }

/-- Replays a namespace's journal from the row after the one held and sets its journal's position. -/
def replayFrom (reads : List MediaRead) (ns ckpt : Nat) (a : ReplayAt) : ReplayAt :=
  let d := (a.st.replayRow ns a.held).sset (jset ns)
  let a := replayLoop reads ns ckpt (64 * d.rows) a
  let s := a.st.replayRow ns a.held
  let x := s.band (jset ns) a.band
  let s := if a.row = 0 then s else s.setBand (jset ns) a.band { x with state := 3, fill := d.rowBoi a.row }
  let j := s.journal ns
  { a with st := s.setJournal ns { j with
      seq := a.held.1, band := a.band, row := a.row, rowsSince := a.held.1 + 1 - ckpt, bandsSince := a.crossed } }

/-- The checkpoint that a census record names and the rows after it: none where it cannot be recovered. -/
def State.loadJournal (s : State) (reads : List MediaRead) (ns f : Nat) (p : List Byte) : Option State :=
  let pd := (List.range 4).map (fun k => field p (8 + 2 * k) 2)
  let bl := (List.range 4).map (fun k => field p (16 + 2 * k) 2)
  let row := field p 24 2
  let ckpt := field p 28 8
  let d := SetDesc.mk 4 2 f 1 (s.famPlanes f) (s.famSlots f) 64 (s.famPages f 1) []
  match readRow reads d (pd.zip bl) row with
  | .row seq _ recs =>
    if seq ≠ ckpt then none
    else
      let held := (seq, recs)
      let ahead := s.replayRow ns held
      match (List.range 64).find? (fun b => (ahead.band (jset ns) b).blocks == bl) with
      | none => none
      | some b =>
        let n := ahead.replayNext ns b row
        let s := if n.2.2 = 0 then s.setBand (jset ns) b { s.band (jset ns) b with state := 4 } else s
        let a := replayFrom reads ns ckpt (ReplayAt.mk s held n.2.1 n.2.2
          (recs.any (fun e => e.1 == 0x7F && field e.2 0 8 == ckpt)) (if n.2.2 = 0 then 1 else 0))
        if !a.ended then none
        else
          let j := a.st.journal ns
          some (a.st.setJournal ns { j with
            ckptFirst := ckpt, ckptBand := b, ckptRow := row, ckptSeq := ckpt, newBand := b, newRow := row })
  | _ => none

/-! ## Comparison with the previous census (R229 to R231) -/

/-- The die found at a recorded slot's volume and LUN. -/
def State.foundFor (s : State) (p : Nat) : Option Found :=
  let x := s.pdie p
  s.census.found.find? (fun d => s.c0 + d.home == pdieChannel p && d.volume == x.volume && d.lun == x.lun)
/-- The family a pdie is mapped with, if a vdie names it. -/
def State.mappedFamily (s : State) (p : Nat) : Option Nat :=
  (s.vdies.find? (fun e => decide (e.1 < 4096) && e.2.mapped && (e.2.pdie == p || e.2.oldPdie == p))).map (fun e => e.2.family)
/-- The outcome of a recorded slot: 0 kept, 1 kept with a census anomaly, 2 another die, 3 no usable die (Table 6-3). -/
def State.slotOutcome (s : State) (p : Nat) : Nat :=
  match s.foundFor p with
  | none => 3
  | some d =>
    let fam := match s.mappedFamily p with | some f => d.family == f | none => true
    if !d.used then 3
    else if !fam then 2
    else if d.uid = (s.pdie p).uid then 0
    else if d.uid = 2 ^ 128 - 1 then 1
    else 2

/-- The recorded slots that count: mapped or spare. -/
def State.recordedPdies (s : State) : List Nat :=
  (s.nsPdies 0).filterMap (fun e => if e.2.cond == .retired then none else some e.1)
/-- m of a set as it would be with the pdies of a list gone (R231). -/
def State.missingWith (s : State) (g : Nat) (gone : List Nat) : Nat :=
  ((s.sset g).members.filter (fun v =>
    let x := s.vdie (v + 4096 * nsOf g)
    x.state != 0 || gone.contains x.pdie)).length

/-- Applies the outcomes to one vdie (Table 6-3). -/
def State.vdieOutcome (s : State) (v : Nat) (gone : List Nat) : State :=
  let x := s.vdie v
  if x.state = 0 ∧ gone.contains x.pdie then
    let s := if s.setsOf v = [] then s else s.pendRebuild v
    s.journalAdd 0 [jVdie v { x with state := 2, pdie := noPdie, oldPdie := noPdie }]
  else if x.state = 1 ∧ gone.contains x.pdie then
    let s := if gone.contains x.oldPdie then s.setVdie v { x with oldPdie := noPdie } else s
    s.targetFailed v
  else if x.state = 1 ∧ x.oldPdie ≠ noPdie ∧ gone.contains x.oldPdie then
    s.journalAdd 0 [jVdie v { x with oldPdie := noPdie }]
  else s

/-- Moves the trims and edges of a channel's dies from the slots of their enumeration to the recorded ones; `moves` lists (from, to). -/
def State.moveTrims (s : State) (h : Nat) (moves : List (Nat × Nat)) : State :=
  let trims := moves.map (fun e => (e.2, s.reg (F.CHU_DIE_TRIM.VALID h e.1).reg))
  let ch := s.chanOf h
  let c := s.chan ch
  let edges := moves.map (fun e => (e.2, storeGet (fun _ => (0, 0)) c.edges (2 * e.1), storeGet (fun _ => (0, 0)) c.edges (2 * e.1 + 1)))
  let s := (List.range 16).foldl (fun s k => s.setReg (F.CHU_DIE_TRIM.VALID h k).reg
    (((trims.find? (fun e => e.1 == k)).map (·.2)).getD 0#64)) s
  s.setChan ch { s.chan ch with edges := edges.foldl (fun m e =>
    storePut (fun _ => (0, 0)) (storePut (fun _ => (0, 0)) m (2 * e.1) e.2.1) (2 * e.1 + 1) e.2.2) [] }

/-- Gives the dies found their slots: the recorded one, or for a die no slot records the lowest slot that no record holds (DESIGN CHOICE, log entry 131). -/
def State.giveSlots (s : State) (gone : List Nat) : State :=
  (List.range s.build.channels).foldl (fun s h =>
    let l := s.census.found.filter (fun d => d.home == h)
    let recorded (d : Found) : Option Nat := (List.range 16).find? (fun k =>
      let x := s.pdie (s.homePdie h k)
      x.cond != .absent && x.volume == d.volume && x.lun == d.lun)
    let slots := l.foldl (fun (a : List (Found × Option Nat) × List Nat) d =>
      match recorded d with
      | some k => (a.1 ++ [(d, some k)], a.2)
      | none =>
        match (List.range 16).find? (fun k => (s.pdie (s.homePdie h k)).cond == .absent && !a.2.contains k) with
        | some k => if d.used then (a.1 ++ [(d, some k)], a.2 ++ [k]) else (a.1 ++ [(d, none)], a.2)
        | none => (a.1 ++ [(d, none)], a.2)) ([], [])
    let s := slots.1.foldl (fun s e =>
      match e.2 with
      | none => s
      | some k =>
        let p := s.homePdie h k
        let x := s.pdie p
        if x.cond = .absent then
          ((s.enterDie p e.1 .spareFree).journalAdd 0 (jrec 0x03 (leBytes 2 p ++ leBytes 1 e.1.volume ++ leBytes 1 e.1.lun ++
            leBytes 16 e.1.uid) .nothing :: e.1.bad.map (fun i => { jBadBlock p i 0 with eff := .nothing })))
        else if gone.contains p then s else s.setPdie p { x with family := e.1.family }) s
    let s := s.moveTrims h (slots.1.filterMap (fun e => e.2.map (fun k => (e.1.slot, k))))
    let mine := slots.1.map (fun (e : Found × Option Nat) => match e.2 with
      | some k => { e.1 with
          slot := k, used := e.1.used && (s.pdie (s.homePdie h k)).cond != .retired && !gone.contains (s.homePdie h k) }
      | none => { e.1 with used := false, slot := 16 })
    let s := s.updCensus (fun (c : Census) => { c with found := c.found.filter (fun d => d.home != h) ++ mine })
    s.channelRegs h) s

/-- Compares with the previous census and applies the outcomes (R229 to R232). -/
def State.compareCensus (s : State) : State :=
  let live := s.recordedPdies
  let outs := live.map (fun p => (p, s.slotOutcome p))
  let other := (outs.filter (fun e => e.2 == 2)).length
  let gone := (outs.filter (fun e => decide (2 ≤ e.2))).map (·.1)
  if live.length < other * 8 then s.censusHalt 4
  else if s.sets.any (fun e => decide (e.1 < 256) && e.2.defined && decide (e.2.level < s.missingWith e.1 gone)) then s.censusHalt 9
  else
    let s := s.updCensus (fun (c : Census) => { c with anomalies := (outs.filter (fun e => e.2 == 1)).length })
    let s := s.giveSlots gone
    let s := gone.foldl (fun s p =>
      if (s.mappedFamily p).isSome then s else s.journalAdd 0 (jRetired 0 p)) s
    let s := ((storeKeys s.vdies).filter (fun v => decide (v < 4096))).foldl (fun s v => s.vdieOutcome v gone) s
    let s := s.vdies.foldl (fun s e =>
      if e.2.mapped ∧ e.1 < 4096 ∧ (s.lev e.1 false).applied = [] then s.setLev e.1 false (s.freshLevels e.2.family (s.vdieMode e.1)) else s) s
    s.peMark.setF F.PWR_CENSUS.STAGE 5

/-- Is the journal of the instance idle: nothing waits, no row is in flight? -/
def State.journalIdle (s : State) : Bool := (s.journal 0).flight == [] && (s.journal 0).pend == []
/-- Does census go on: in its stage, no power fail met, not sleeping, not fatal? (DEDUCED, log entry 115). -/
def State.censusRuns (s : State) (stage : Nat) : Bool := s.awake && s.stage == stage && !s.pf.settle && !s.pfail

/-- CENSUS_JOURNAL: `reads` is what the media reads of stage 4 give. At a first census the command comes again once the erases of the new
journal set, and then its first checkpoint, are done. -/
def execCensusJournal (reads : List MediaRead) (s : State) : Host.Outcome State Fault Refusal :=
  .next (if !s.censusRuns 4 then s
    else match s.census.phase with
      | 0 =>
        let s := s.peMark.setAreas
        if s.flag F.PWR_CENSUS.FIRST then s.firstCensus reads
        else (match s.loadJournal reads 0 (s.recordFamily (field s.census.record 8 2)) s.census.record with
          | some s => s.compareCensus
          | none => s.censusHalt 3)
      | 1 =>
        if s.erases.any (fun e => match e.2.use with | .create _ _ => true | _ => false) then s
        else (s.peMark.startCkpt 0).updCensus (fun (c : Census) => { c with phase := 2 })
      | _ => if s.journalIdle then s.peMark.setF F.PWR_CENSUS.STAGE 5 else s)

end Sys2Proof.Machine
end

