-- ==== Sys2Proof/Machine/Cuff.lean ====
section
/-! DEFINITION. The cuff (R583 to R587): what is sent, the shadow of the partner's state built from what arrives, resyncs, resends and
retraining. -/

namespace Sys2Proof.Machine

def State.updPair (s : State) (f : Pair → Pair) : State := { s with pair := f s.pair }

/-! ## Heartbeats sent -/

/-- FLAGS of a heartbeat (Table 18-1). -/
def State.beatFlags (s : State) : Nat :=
  (if s.pair.coreOk then 0 else 1) + (if s.pfail then 2 else 0) + (if s.mirror then 4 else 0) + (if s.fostering then 8 else 0)
/-- Sends a HEARTBEAT, which carries the ACK; it is not counted in MSEQ (R583, R588) (DESIGN CHOICE, log entry 232). -/
def State.sendBeat (s : State) : State :=
  if !s.build.pair then s
  else s.emit (.cuff 0x01 s.pair.tx (leBytes 8 s.tickno) (leBytes 8 s.mtime ++ leBytes 1 (s.getF F.TCK_PERIOD.ACTIVE) ++ leBytes 1 s.stage ++
    leBytes 1 s.beatFlags ++ leBytes 1 0 ++ leBytes 4 s.pair.rx))

/-! ## Resyncs sent (R586) -/

/-- An item as a RESYNC message carries it: TYPE of the live message, its header fields, its payload (the layout within a slice is the
model's, log entry 50). -/
def ShadowItem.bytes : ShadowItem → List Byte
  | .journal seq records => leBytes 8 0x10 ++ leBytes 8 seq ++ records
  | .levels vdie target spare table => leBytes 8 0x11 ++ leBytes 2 vdie ++ leBytes 1 (if target then 1 else 0) ++ leBytes 1 (if spare then 1 else 0) ++
      leBytes 4 0 ++ table
  | .qcfg queue owner vector regs => leBytes 8 0x20 ++ leBytes 2 queue ++ leBytes 2 owner ++ leBytes 4 vector ++ regs
  | .qidx queue ci pi a b => leBytes 8 0x21 ++ leBytes 2 queue ++ leBytes 2 ci ++ leBytes 2 pi ++ leBytes 1 (if a then 1 else 0) ++
      leBytes 1 (if b then 1 else 0)
  | .ctxOpen ctx queue pos cid op => leBytes 8 0x22 ++ leBytes 8 (ctx + queue * 2 ^ 14 + pos * 2 ^ 24 + cid * 2 ^ 40 + op * 2 ^ 56)
  | .ctxDone ctx kind => leBytes 8 0x23 ++ leBytes 4 ctx ++ leBytes 4 kind
  | .place ctx tiles set band boi fill => leBytes 8 0x30 ++ leBytes 4 ctx ++ leBytes 4 tiles ++ leBytes 2 set ++ leBytes 2 band ++ leBytes 4 boi ++
      leBytes 4 fill
  | .position p record => leBytes 8 0x3F ++ leBytes 8 p.1 ++ leBytes 2 p.2.1 ++ leBytes 2 p.2.2.1 ++ leBytes 4 0 ++ leBytes 8 p.2.2.2.1 ++
      leBytes 2 p.2.2.2.2.1 ++ leBytes 2 p.2.2.2.2.2.1 ++ leBytes 4 0 ++ leBytes 8 p.2.2.2.2.2.2 ++ record

/-- Every item of Table 18-2 as it stands (DESIGN CHOICE, log entry 246). -/
def State.shadowItems (s : State) : List ShadowItem :=
  let j := s.journal 0
  let recs := ((s.ckptRecords 0 0).filter (fun i => i.type != 0x7F)).map JItem.record
  let qs := (storeKeys s.queues).filter (fun q => s.qState q != 0)
  let cs := s.ctxs.filter (fun e => e.2.state != .free)
  let queue (q : Nat) : List ShadowItem :=
    [.qcfg q (s.getF (F.GNT_QATTR.OWNER q)) (s.getF (F.WQ_CFG.VECTOR q))
       (([0, 8, 0x10].map (fun o => leBytes 8 (s.reg (0x40000 + 64 * q + o)).toNat)).flatten ++
         ([0x18, 0x1C, 0x20, 0x24, 0x28, 0x2C, 0x30, 0x34, 0x38, 0x3C].map (fun o => leBytes 4 (s.reg (0x40000 + 64 * q + o)).toNat)).flatten),
     .qidx q (s.getF (F.WQ_STATUS.SQ_CI q)) (s.getF (F.WQ_OUT.CQ_PI q)) (s.queue q).sqPhase (s.queue q).cqPhase]
  let ctx (e : Nat × Ctx) : List ShadowItem :=
    .ctxOpen e.1 e.2.queue 0 (entCid e.2.entry) (entOp e.2.entry) ::
      (if e.2.placed = 0 then [] else
        [.place e.1 e.2.placed (s.destSet e.1 % 256) (s.destBand e.1) e.2.firstBoi (s.band (s.destSet e.1) (s.destBand e.1)).fill])
  [.position (j.seq, j.band, j.row, j.ckptSeq, j.ckptBand, j.ckptRow, j.hwm) s.census.record, .journal j.seq recs.flatten] ++
    (s.bands.filter (fun e => e.2.state == 3 && decide (e.1 / 16384 < 255))).map (fun e =>
      .place (2 ^ 32 - 1) 0 (e.1 / 16384) (e.1 % 16384) e.2.fill e.2.fill) ++
    (qs.map queue).flatten ++ (cs.map ctx).flatten

/-- Sends a full resync, once the instance has reached READ_READY and its images are known to match (DESIGN CHOICE, log entry 50; DEDUCED, log entry 231). -/
def State.sendResync (s : State) : State :=
  let st := s.getF F.PAIR_STAT.STATE
  if !s.build.pair ∨ !s.flag F.PAIR_STAT.CUFF_UP ∨ !s.flag F.PWR_CENSUS.READ_READY ∨ !(st == 1 || st == 2 || st == 8) then s
  else
    let l := s.shadowItems
    (List.range l.length).foldl (fun s k =>
      s.cuffSend 0x3F (leBytes 4 k ++ leBytes 4 l.length) (Sys2Proof.Machine.ShadowItem.bytes (l.getD k (.journal 0 [])))) s

/-! ## Cuff up and down (R584) -/

/-- Effects that waited for an ACK go on: entries are accepted; placements, completions and admissions go on with their own commands. -/
def State.releaseHeld (s : State) : State :=
  if !s.awake || s.pfail then s
  else (storeKeys s.queues).foldl (fun s q => if (s.queue q).idxMsg.isSome then s.drainCopies q (s.depth q) else s) s

/-- The cuff goes down: with it the mirror; what it kept is sent again with the next resync (DEDUCED, log entry 230). -/
def State.cuffFails (s : State) : State :=
  if !s.flag F.PAIR_STAT.CUFF_UP then s
  else
    let s := (s.setF F.PAIR_STAT.CUFF_UP 0).setF F.PAIR_STAT.MIRROR_VALID 0
    let s := if s.getF F.PAIR_STAT.STATE = 1 then s.setF F.PAIR_STAT.STATE 2 else s
    let s := s.setF F.PAIR_CUFF.DOWNS (satAdd 16 (s.getF F.PAIR_CUFF.DOWNS) 1)
    ((s.updPair (fun (p : Pair) => { p with sent := [], crcTicks := [], downTick := s.tickno })).raise Ev.cuffDown).releaseHeld

/-- CUFF_RESEND: every message not covered within 64 µs is sent again, in order; with the third resend of a message the cuff is down. -/
def execCuffResend (s : State) : Host.Outcome State Fault Refusal :=
  .next (if !s.build.pair ∨ s.phase ≠ .on ∨ !s.flag F.PAIR_STAT.CUFF_UP then s
    else
      let due (m : CuffMsg) : Bool := decide (m.sent + 64 ≤ s.mtime)
      let l := s.pair.sent.filter due
      let s' := l.foldl (fun s (m : CuffMsg) => s.emit (.cuff m.type m.mseq m.head m.payload)) s
      let s' := (s'.setF F.PAIR_CUFF.RETRANS (s'.getF F.PAIR_CUFF.RETRANS + l.length)).updPair (fun (p : Pair) => { p with
        sent := p.sent.map (fun (m : CuffMsg) => if due m then { m with sent := s.mtime, resends := m.resends + 1 } else m) })
      if l.any (fun m => decide (2 ≤ m.resends)) then s'.cuffFails else s')

/-- CUFF_BEAT_CRC_ERROR: the beat is discarded; 16 within 1,048,576 ticks take the cuff down. -/
def execCuffBeatCrcError (s : State) : Host.Outcome State Fault Refusal :=
  .next (if !s.build.pair ∨ s.phase ≠ .on then s
    else
      let l := s.tickno :: s.pair.crcTicks.filter (fun t => decide (s.tickno < t + 1048576))
      let s := (s.setF F.PAIR_CUFF.CRC_ERRORS (satAdd 16 (s.getF F.PAIR_CUFF.CRC_ERRORS) 1)).updPair (fun (p : Pair) => { p with crcTicks := l })
      if 16 ≤ l.length then s.cuffFails else s)

/-- CUFF_RETRAIN: a down cuff is retrained, once per 65,536 ticks; after a retrain that passes it is up, MSEQ begins anew on both sides (log
entry 51), and a resync runs (DESIGN CHOICE, log entry 51). -/
def execCuffRetrain (pass : Bool) (s : State) : Host.Outcome State Fault Refusal :=
  .next (if !s.build.pair ∨ s.phase ≠ .on ∨ s.flag F.PAIR_STAT.CUFF_UP ∨ (s.pair.upOnce ∧ s.tickno < s.pair.downTick + 65536) then s
    else if !pass then s.updPair (fun (p : Pair) => { p with upOnce := true, downTick := s.tickno })
    else ((s.setF F.PAIR_STAT.CUFF_UP 1).updPair (fun (p : Pair) => { p with upOnce := true, tx := 0, rx := 0, sent := [] })).sendResync)

/-! ## The shadow (R585) -/

/-- A partner context of which the shadow holds nothing. -/
def ShadowCtx.none : ShadowCtx := ShadowCtx.mk 0 0 0 0 [] 0 false
/-- Bands named by BAND records begin with FILL 0. -/
def bandFills (fills : Store Nat) (records : List Byte) : Store Nat :=
  (parseRecords records.length records).foldl (fun m e =>
    if e.1 = 0x10 then storeDel (bandKey (nsSet 1 (field e.2 0 1)) (field e.2 2 2)) m else m) fills

/-- Takes an item into the shadow (DEDUCED, log entry 248). -/
def Pair.take (p : Pair) : ShadowItem → Pair
  | .journal seq records => { p with rows := storeIns seq records p.rows, fills := bandFills p.fills records }
  | .levels vdie target spare table => { p with
      levels := storeIns (4 * vdie + (if spare then 2 else 0) + (if target then 1 else 0)) table p.levels }
  | .qcfg queue owner vector regs => { p with
      shadowQ := storeIns queue (ShadowQueue.mk (leBytes 2 queue ++ leBytes 2 owner ++ leBytes 4 vector ++ regs) 0 0 true true 0) p.shadowQ }
  | .qidx queue ci pi a b =>
      let x := storeGet (fun _ => ShadowQueue.none) p.shadowQ queue
      { p with shadowQ := storeIns queue { x with sqCi := ci, cqPi := pi, sqPhase := a, cqPhase := b } p.shadowQ }
  | .ctxOpen ctx queue pos cid op => { p with shadowC := storeIns ctx (ShadowCtx.mk queue pos cid op [] 0 false) p.shadowC }
  | .ctxDone ctx _ => { p with shadowC := storeDel ctx p.shadowC }
  | .place ctx tiles set band boi fill =>
      let p := { p with fills := storeIns (bandKey (nsSet 1 set) band) fill p.fills }
      match p.shadowC.find? (fun e => e.1 == ctx) with
      | some e => { p with shadowC := storeIns ctx { e.2 with runs := e.2.runs ++ [(nsSet 1 set, band, boi, tiles)] } p.shadowC }
      | none => p
  | .position place record => { p with place := place, record := record }

/-- A message with the next MSEQ is received and acknowledged; any other waits for what is missing to be sent again (R584) (DEDUCED, log entry 233). -/
def State.cuffTake (s : State) (mseq : Nat) (f : State → State) : State :=
  if !s.build.pair ∨ s.phase ≠ .on ∨ !s.flag F.PAIR_STAT.CUFF_UP ∨ s.getF F.PAIR_STAT.STATE = 6 ∨ s.getF F.PAIR_STAT.STATE = 3 ∨ mseq % 2 ^ 32 ≠ (s.pair.rx + 1) % 2 ^ 32 then s
  else (f (s.updPair (fun (p : Pair) => { p with rx := mseq % 2 ^ 32 }))).sendBeat
/-- A live item. -/
def State.takeItem (s : State) (mseq : Nat) (i : ShadowItem) : State := s.cuffTake mseq (fun s => s.updPair (fun p => p.take i))

/-- JOURNAL. -/
def execJournal (mseq seq : Nat) (records : List Byte) (s : State) : Host.Outcome State Fault Refusal :=
  .next (s.takeItem mseq (.journal seq records))
/-- LEVELS. -/
def execLevels (mseq vdie : Nat) (target spare : Bool) (table : List Byte) (s : State) : Host.Outcome State Fault Refusal :=
  .next (s.takeItem mseq (.levels vdie target spare table))
/-- QCFG. -/
def execQcfg (mseq queue owner vector : Nat) (regs : List Byte) (s : State) : Host.Outcome State Fault Refusal :=
  .next (s.takeItem mseq (.qcfg queue owner vector regs))
/-- QIDX. -/
def execQidx (mseq queue sqCi cqPi : Nat) (sqPhase cqPhase : Bool) (s : State) : Host.Outcome State Fault Refusal :=
  .next (s.takeItem mseq (.qidx queue sqCi cqPi sqPhase cqPhase))
/-- CTX_OPEN. -/
def execCtxOpen (mseq ctx queue pos cid op : Nat) (s : State) : Host.Outcome State Fault Refusal :=
  .next (s.takeItem mseq (.ctxOpen ctx queue pos cid op))
/-- CTX_DONE. -/
def execCtxDone (mseq ctx kind : Nat) (s : State) : Host.Outcome State Fault Refusal := .next (s.takeItem mseq (.ctxDone ctx kind))
/-- PLACE. -/
def execPlace (mseq ctx tiles set band boi fill : Nat) (s : State) : Host.Outcome State Fault Refusal :=
  .next (s.takeItem mseq (.place ctx tiles set band boi fill))

/-- The first part of a resync begins the shadow anew. -/
def Pair.begin' (p : Pair) : Pair :=
  { p with shadowQ := [], shadowC := [], rows := [], levels := [], fills := [], parts := [] }
/-- One slice: journal records are kept as the base, beside the rows that follow. -/
def Pair.slice (p : Pair) (part : Nat) : ShadowItem → Pair
  | .journal _ records => { p with parts := storeIns part records p.parts }
  | i => p.take i

/-- RESYNC: a slice of the partner's full state; with the last the mirror is valid (R586). -/
def execResync (mseq part count : Nat) (item : ShadowItem) (s : State) : Host.Outcome State Fault Refusal :=
  .next (s.cuffTake mseq (fun s =>
    let s := if part = 0 then s.updPair (fun p => p.begin') else s
    let s := s.updPair (fun p => p.slice part item)
    if part + 1 ≠ count then s
    else
      let s := (s.setF F.PAIR_STAT.MIRROR_VALID 1).setF F.PAIR_STAT.RESYNCS (s.getF F.PAIR_STAT.RESYNCS + 1)
      let st := s.getF F.PAIR_STAT.STATE
      let s := if st = 2 ∨ (st = 8 ∧ !s.fostering) then s.setF F.PAIR_STAT.STATE 1 else s
      s.raise Ev.cuffUp))

end Sys2Proof.Machine
end

