-- ==== Sys2Proof/Machine/Events.lean ====
section
/-! DEFINITION. The event concentrator (chapter 15): delivery, acknowledge and end of interrupt, moderation and hold-off, the core
idle inputs and the THERM_n filter. -/

namespace Sys2Proof.Machine

/-- A target's stack, top first. -/
def State.stack (s : State) (t : Nat) : List StackEntry := storeGet (fun _ => []) s.evc.nests t
/-- Sets a target's stack. -/
def State.setStack (s : State) (t : Nat) (l : List StackEntry) : State :=
  { s with evc := { s.evc with nests := storePut (fun _ => []) s.evc.nests t l } }
/-- The running priority of a target: of its top entry, 16 when the stack is empty (R518). -/
def State.running (s : State) (t : Nat) : Nat :=
  match s.stack t with
  | [] => 16
  | e :: _ => e.prio
/-- The tick of the acknowledge whose hold-off of group `g` towards target `t` still stands (R527). -/
def State.ackTick (s : State) (g t : Nat) : Option Nat := storeGet (fun _ => none) s.evc.ackTick (16 * g + t)
/-- Sets or ends that hold-off. -/
def State.setAckTick (s : State) (g t : Nat) (v : Option Nat) : State :=
  { s with evc := { s.evc with ackTick := storePut (fun _ => none) s.evc.ackTick (16 * g + t) v } }
/-- A source's priority (R517). -/
def State.prio (s : State) (src : Nat) : Nat := s.getF (F.EVC_SRC_CFG.PRIO src)

/-- Is a pending source released by the moderation or hold-off of its group (R525, R527)? Priority 0 and fault-fatal (R634) are
exempt from a status hold-off. -/
def State.evReleased (s : State) (src : Nat) : Bool :=
  if src < 256 then (s.mod src).released
  else s.prio src == 0 || src == Ev.faultFatal || (s.ackTick (src / 16) (s.target src)).isNone

/-- Is a source deliverable to target `t` (R518)? -/
def State.deliverable (s : State) (t src : Nat) : Bool :=
  s.isPending src && s.target src == t && s.flag (F.EVC_SRC_CFG.ENABLE src) && !s.flag (insvcF src) &&
    decide (s.prio src < s.running t) && s.evReleased src

/-- The deliverable source with the lowest priority number, and among equal ones the lowest source number (R519). -/
def State.bestSource (s : State) (t : Nat) : Option Nat :=
  ((List.range 512).filter (fun src => s.deliverable t src)).foldl
    (fun b c => match b with
      | none => some c
      | some x => if s.prio c < s.prio x then some c else some x) none

/-- Is a target's line asserted (R518)? -/
def State.line (s : State) (t : Nat) : Bool := (s.bestSource t).isSome

/-- The acknowledge of a source by its target: pushed, in service, its pending bit cleared when it is an edge source, its count
reset when it is a completion source, the hold-off of its group begun when it is a status source (R519, R525, R527). -/
def State.ackSource (s : State) (t src : Nat) : State :=
  let s := s.setStack t (StackEntry.mk src (s.prio src) :: s.stack t)
  let s := s.setF (insvcF src) 1
  let s := if Ev.level src then s else s.setF (pendF src) 0
  if src < 256 then s.setMod src Moderation.zero
  else if s.getF (F.EVC_GRP_CFG.HOLDOFF (src / 16)) = 0 then s
  else s.setAckTick (src / 16) t (some s.tickno)

/-- The read of a target's EVC_ACK (R519). -/
def State.evAck (s : State) (t : Nat) : State :=
  match s.bestSource t with
  | none => { s with readData := 0x3FF }
  | some src => { s.ackSource t src with readData := src }

/-- EVENT_ACK: in Mitten the access wakes the unit and waits (Table 19-3). -/
def execEventAck (target : Nat) (s : State) : Host.Outcome State Fault Refusal :=
  .next (if s.served && target < 16 then (if s.mitten then s.startWake 1 else s.evAck target) else s)

/-- The write of `src` to a target's EVC_EOI: pops the matching top entry, or is refused (R521, R522, R524). -/
def State.evEoi (s : State) (t src : Nat) : State :=
  match s.stack t with
  | e :: rest =>
    if e.src = src then (s.setStack t rest).setF (insvcF src) 0
    else ((s.setF (F.EVC_TGT_STAT.FAULT t) 1).countSat (F.EVC_TGT_STAT.FAULTS t) 1).raise Ev.eoiFault
  | [] => ((s.setF (F.EVC_TGT_STAT.FAULT t) 1).countSat (F.EVC_TGT_STAT.FAULTS t) 1).raise Ev.eoiFault

/-- EVENT_EOI. -/
def execEventEoi (target source : Nat) (s : State) : Host.Outcome State Fault Refusal :=
  .next (if s.served && target < 16 then
      (if s.asleep then
        s.holdWrite (HeldWrite.mk 0 0 (0x21004 + 0x40 * target) 4 (BitVec.ofNat 64 (source % 512)))
       else s.evEoi target (source % 512))
    else s)

/-- EVC_SET: raises an edge source once; ignored for level and reserved sources (R515). -/
def execEvcSet (source : Nat) (s : State) : Host.Outcome State Fault Refusal :=
  .next (if s.served then
      (if s.asleep then s.holdWrite (HeldWrite.mk 0 0 0x20880 4 (BitVec.ofNat 64 (source % 512)))
       else s.raise (source % 512))
    else s)

/-- Clears one source's pending bit and, for a completion source, its count; a level source's bit is ignored (R525). -/
def State.pendClear1 (s : State) (src : Nat) : State :=
  if Ev.level src then s
  else
    let s := s.setF (pendF src) 0
    if src < 256 then s.setMod src Moderation.zero else s

/-- The write of `mask` to EVC_PEND `k`. -/
def State.pendClear (s : State) (k : Nat) (mask : Word) : State :=
  (List.range 64).foldl (fun s i => if mask.getLsbD i then s.pendClear1 (64 * k + i) else s) s

/-- EVC_PEND_CLEAR. -/
def execEvcPendClear (k : Nat) (mask : Word) (s : State) : Host.Outcome State Fault Refusal :=
  .next (if s.served && k < 8 then
      (if s.asleep then s.holdWrite (HeldWrite.mk 0 0 (0x20800 + 8 * k) 8 mask) else s.pendClear k mask)
    else s)

/-- MODERATION_RELEASE: the hold-off of a pending completion source, or of a host vector, has elapsed (R525, R531) (DESIGN CHOICE, log entry 77). -/
def execModerationRelease (host : Bool) (source : Nat) (s : State) : Host.Outcome State Fault Refusal :=
  .next (if !(s.phase == .on) || s.asleep then s
    else if host then
      (let m := s.hostMod source
       if m.count ≠ 0 ∧ ¬ m.released ∧ m.first + s.getF F.EVC_HOST_MOD.HOLDOFF ≤ s.tickno then
         (s.setHostMod source { m with released := true }).hostSignal source
       else s)
    else
      (let m := s.mod source
       if source < 256 ∧ m.count ≠ 0 ∧ ¬ m.released ∧
           m.first + s.getF (F.EVC_GRP_CFG.HOLDOFF (source / 16)) ≤ s.tickno then
         s.setMod source { m with released := true }
       else s))

/-- STATUS_HOLDOFF_END: HOLDOFF ticks have begun after the tick of the acknowledge (R527). -/
def execStatusHoldoffEnd (group target : Nat) (s : State) : Host.Outcome State Fault Refusal :=
  .next (match s.ackTick group target with
    | some n =>
      if s.phase = .on ∧ ¬ s.asleep ∧ n + s.getF (F.EVC_GRP_CFG.HOLDOFF group) ≤ s.tickno then
        s.setAckTick group target none
      else s
    | none => s)

/-- CORE_IDLE_ASSERT: every counted completion source of the target is released (R525, R526). -/
def execCoreIdleAssert (target : Nat) (s : State) : Host.Outcome State Fault Refusal :=
  .next (if s.phase = .on ∧ target < 16 then
      (let s := s.setF (F.EVC_TGT_STAT.IDLE target) 1
       (storeKeys s.evc.mods).foldl (fun s src =>
         if s.target src = target ∧ (s.mod src).count ≠ 0 then s.setMod src { s.mod src with released := true }
         else s) s)
    else s)

/-- CORE_IDLE_DEASSERT: moderation again holds back the target's unreleased completion sources (R526). -/
def execCoreIdleDeassert (target : Nat) (s : State) : Host.Outcome State Fault Refusal :=
  .next (if s.phase = .on ∧ target < 16 then s.setF (F.EVC_TGT_STAT.IDLE target) 0 else s)

/-- The filter length in cycles: 0 acts as 1 (EVC_FILTER.LEN). -/
def State.thermLen (s : State) : Nat := max 1 (s.getF F.EVC_FILTER.LEN)

/-- Does the THERM_n filter run (R529)? -/
def State.thermRuns (s : State) : Bool := s.phase == .on && !s.mitten

/-- THERM_ASSERT: THERM_n has held asserted for `cycles` filter cycles (R528); THERM_ACTIVE follows the output (R154). -/
def execThermAssert (cycles : Nat) (s : State) : Host.Outcome State Fault Refusal :=
  .next (if s.thermRuns && decide (s.thermLen ≤ cycles) && !s.flag F.EVC_FILTER.THERM then
      (s.setF F.EVC_FILTER.THERM 1).setF F.PLN_CTRL.THERM_ACTIVE 1
    else s)

/-- THERM_DEASSERT (R528). -/
def execThermDeassert (cycles : Nat) (s : State) : Host.Outcome State Fault Refusal :=
  .next (if s.thermRuns && decide (s.thermLen ≤ cycles) && s.flag F.EVC_FILTER.THERM then
      (let s : State := { s with pln := { s.pln with thermTick := s.tickno + 1 } }
       (s.setF F.EVC_FILTER.THERM 0).setF F.PLN_CTRL.THERM_ACTIVE 0)
    else s)

/-- THERM_GLITCH: an excursion of `cycles` filter cycles, shorter than LEN (R528). -/
def execThermGlitch (cycles : Nat) (s : State) : Host.Outcome State Fault Refusal :=
  .next (if s.thermRuns && decide (cycles < s.thermLen) then s.countSat F.EVC_FILTER.GLITCHES 1 else s)

end Sys2Proof.Machine
end

