-- ==== Sys2Proof/Machine/Recovery.lean ====
section
/-! DEFINITION. Census stage 5 and the closing of rows beside stage 6: recovery after a loss of power (R452 to R462, Table 12-7), READ_READY and
WRITE_READY (R236), the census record (R225), the assumed gap (R234) and the restart of census (R240). -/

namespace Sys2Proof.Machine

/-- Adds to a field that stops at its maximum. -/
def State.addTo (s : State) (f : Field) (n : Nat) : State := s.setF f (satAdd (spanBits f.hi f.lo) (s.getF f) n)
/-- The OPEN bands of a namespace's data sets, as (set key, band). -/
def State.openBands (s : State) (ns : Nat) : List (Nat × Nat) :=
  (s.bands.filter (fun e => e.2.state == 3 && nsOf (e.1 / 16384) == ns && e.1 / 16384 % 256 != 255)).map (fun e =>
    (e.1 / 16384, e.1 % 16384))

/-! ## Steps 1 to 3 -/

/-- The source of recovery (Table 12-6). -/
def State.recoverySource (s : State) : Nat :=
  match s.census.replay.dirSeq with
  | some _ => if s.census.replay.sealed then 1 else 2
  | none => if s.openBands 0 = [] then 0 else 3

/-- Step 1: stamps, of which the first is 1 (R95); the source is shown (DEDUCED, log entry 123). -/
def State.recover1 (s : State) : State :=
  let r := s.census.replay
  let src := s.recoverySource
  let s := s.setStamp 0 (max 1 (max (s.journal 0).hwm r.nextStamp))
  (s.setF F.PWR_RECOVERY.SOURCE src).setF F.PWR_LAST_PFAIL.SEAL_US (if src = 1 then r.sealUs else 0)

/-- Is the member at a position of a set REBUILDING? -/
def State.posRebuilding (s : State) (g pos : Nat) : Bool := (s.vdie ((s.sset g).memberAt pos + 4096 * nsOf g)).state == 1

/-- Step 2: pending bindings are released; the bands of re-homes are queued again. The journal does not hold a re-home's reason: it is a free
value (log entry 42). A pending binding of an OPEN band is a substitution's and is kept for its restart; those of a REBUILDING member are its
rebuild's. -/
def State.recover2 (s : State) (ns : Nat) : State :=
  let l := s.census.replay.pendings.filter (fun e => !s.posRebuilding e.1 e.2.1)
  let s := l.foldl (fun s e => s.releaseIndex ns (s.vdie ((s.sset e.1).memberAt e.2.1 + 4096 * ns)).pdie e.2.2.2) s
  let moved := ((l.filter (fun e => (s.band e.1 e.2.2.1).state == 4)).map (fun e => (e.1, e.2.2.1))).eraseDups
  moved.foldl (fun s e => (s.queueBand e.1 e.2 (s.drawn % 7)).draw) s

/-- Erases again the blocks of bands found ERASING, but for those known to be erased (R454). -/
def State.reeraseBands (s : State) (ns : Nat) : State :=
  (s.bands.filter (fun e => e.2.state == 1 && nsOf (e.1 / 16384) == ns)).foldl (fun s e =>
    let g := e.1 / 16384
    let b := e.1 % 16384
    let d := s.sset g
    let own := decide (g % 256 = 255)
    let todo := (List.range d.w).filterMap (fun pos => match s.eraseLoc g b pos with
      | some l => if s.census.replay.dones.contains (l.pdie, l.block) then none else some (pos, l)
      | none => none)
    if todo = [] then (if own then s.setBand g b { Band.unerased with state := 2, blocks := e.2.blocks } else s.bandErased g b)
    else todo.foldl (fun s (x : Nat × Loc) =>
      (s.askErase (if own then .journalBand g b else .band g b x.1) ns x.2.pdie x.2.block d.planes 0 0 (if own then 3 else 1) d.slc).addTo
        F.PWR_RECOVERY.REERASED 1) s) s

/-- Step 3: half-erased blocks are erased again; of sources 1 and 2 not the shelter blocks (R454) (DEDUCED, log entry 243). -/
def State.recover3 (s : State) (ns : Nat) : State :=
  let s := s.reeraseBands ns
  let src := s.getF F.PWR_RECOVERY.SOURCE
  s.census.replay.intents.foldl (fun s e =>
    if s.erases.any (fun k => k.2.pdie == e.1 && k.2.block == e.2.1) ∨ (e.2.2 = 2 ∧ (src = 1 ∨ src = 2)) ∨ (s.pdie e.1).cond = .retired then s
    else
      let s := s.addTo F.PWR_RECOVERY.REERASED 1
      let planes := s.famPlanes (s.famOf e.1)
      if e.2.2 = 2 then s.askErase .shelter ns e.1 e.2.1 planes 0 0 2 true else s.askErase .recovery ns e.1 e.2.1 planes 0 0 5 false) s

/-! ## Step 4: FILL (R461) -/

/-- The highest row of a member's block of a band that decodes, plus 1. -/
def State.extent (s : State) (reads : List MediaRead) (g b pos : Nat) : Nat :=
  (List.range (s.sset g).rows).foldl (fun m row => match s.readLoc g b row pos with
    | some l => if pageDecodes reads l.pdie l.block row then row + 1 else m
    | none => m) 0
/-- FILL by the scan: beyond the last data slot on a programmed page. -/
def State.scanFill (s : State) (reads : List MediaRead) (g b : Nat) : Nat :=
  let d := s.sset g
  (List.range d.w).foldl (fun m pos =>
    let n := s.extent reads g b pos
    (List.range n).foldl (fun m row => match d.dataPos row pos with
      | some dp => max m (((d.pageBois row dp).foldl max 0) + 1)
      | none => m) m) 0
/-- Is the page that holds a BOI there to be read and erased? -/
def State.boiErased (s : State) (reads : List MediaRead) (g b boi : Nat) : Bool :=
  let d := s.sset g
  match s.readLoc g b (d.rowOf boi) (d.boiPos boi) with
  | some l => !pageWritten reads l.pdie l.block (d.rowOf boi)
  | none => false
/-- Marks slots void and records them. -/
def State.voidMany (s : State) (g b : Nat) (l : List Nat) : State :=
  let x := s.band g b
  let s := s.setBand g b { x with voids := x.voids ++ l }
  let s := s.addTo F.PWR_RECOVERY.VOIDED l.length
  if l = [] then s else s.journalAdd (nsOf g) ((runsOf (l.mergeSort (· ≤ ·))).map (fun r => jVoids g b r.1 r.2))
/-- Step 4 for one band: FILL, and the placed slots on erased pages become void. -/
def State.recover4 (s : State) (reads : List MediaRead) (e : Nat × Nat) : State :=
  let g := e.1
  let b := e.2
  let fill := if s.getF F.PWR_RECOVERY.SOURCE = 3 then s.scanFill reads g b
    else match s.census.replay.fills.find? (fun f => f.1 == g && f.2.1 == b) with
      | some f => f.2.2
      | none => 0
  let s := s.setBand g b { s.band g b with fill := fill }
  let x := s.band g b
  s.voidMany g b ((List.range fill).filter (fun boi => !x.voids.contains boi && !x.lost.contains boi && s.boiErased reads g b boi))

/-! ## Step 5: accumulators (R459) -/

/-- Codeword `k` of a row's P or Q as its shelter page gives it. -/
def State.shelterImage (s : State) (reads : List MediaRead) (at' : Nat × Nat × Nat) (k : Nat) : Option (List Byte) :=
  if at'.1 = noPdie then none
  else
    let fam := s.famOf at'.1
    let slots := max 1 (s.famSlots fam)
    let per := max 1 (s.famPlanes fam * slots)
    let page := at'.2.2 + k / per
    (readImage reads at'.1 (k % per / slots) at'.2.1 page (k % slots)).map (scramble at'.2.1 page (k % slots))

/-- The image of a data slot as the media gives it. -/
def State.dataImage (s : State) (reads : List MediaRead) (g b boi : Nat) : Option (List Byte) :=
  let d := s.sset g
  let r := d.pos boi
  match s.readLoc g b r.row (d.boiPos boi) with
  | some l => readImage reads l.pdie r.plane l.block r.row r.slot
  | none => none

/-- The accumulators of codeword `k` of a row: from the shelter, else by read-back; with the BOIs that become lost and whether the shelter
gave them. -/
def State.restoreAcc (s : State) (reads : List MediaRead) (g b row k : Nat) : List Byte × List Byte × List Nat × Bool :=
  let d := s.sset g
  let sh := s.census.replay.shelters.find? (fun x => x.set == g && x.band == b && x.row == row)
  let p := match sh with | some x => s.shelterImage reads x.p k | none => none
  let q := match sh with | some x => s.shelterImage reads x.q k | none => none
  match p, q, d.level with
  | some p, some q, _ => (p, q, [], true)
  | some p, none, 1 => (p, zeroImage, [], true)
  | p, q, _ =>
    let x := s.band g b
    let bois := ((List.range d.dpos).map (fun dp => (dp, boiOf d.dpos d.planes d.slots (RowPos.mk row dp (k / d.slots) (k % d.slots))))).filter
      (fun e => decide (e.2 < x.fill) && !x.voids.contains e.2 && !x.lost.contains e.2)
    let known := bois.filterMap (fun e => (s.dataImage reads g b e.2).map (fun i => (e.1, i)))
    let miss := bois.filter (fun e => !known.any (fun i => i.1 == e.1))
    let back := match miss with
      | [m] => (reconstruct d.level p q known m.1 none).map (fun i => (m.1, i))
      | _ => none
    let all := match back with | some i => known ++ [i] | none => known
    let lost := match back with | some _ => [] | none => miss.map (·.2)
    (all.foldl (fun a e => accP a e.2) zeroImage, if d.level = 2 then all.foldl (fun a e => accQ a e.2 e.1) zeroImage else zeroImage, lost, false)

/-- Is the page of a member position of a row programmed, by what the reads show; a missing member counts as missing. -/
def State.pageFound (s : State) (reads : List MediaRead) (g b row pos : Nat) : Nat :=
  if s.memberFailed g pos then 3
  else match s.readLoc g b row pos with
    | some l => if pageWritten reads l.pdie l.block row then 2 else 0
    | none => 2

/-- Restores one row whose parity is not programmed. -/
def State.restoreRow (s : State) (reads : List MediaRead) (g b row : Nat) : State :=
  let d := s.sset g
  let pages := (List.range d.w).foldl (fun m pos => storePut (fun _ => 0) m pos (s.pageFound reads g b row pos)) []
  let pd := 2 ≤ cnt pages (pPos d.w row)
  let qd := d.level = 1 ∨ 2 ≤ cnt pages (qPos d.w row)
  let s := s.setWband g b ((List.range d.w).foldl (fun w pos => if cnt pages pos = 0 then w else w.markDone pos row) (s.wband g b))
  if pd ∧ qd then s
  else
    let acc := (List.range (d.planes * d.slots)).map (fun k => (k, s.restoreAcc reads g b row k))
    let lost := (acc.map (fun e => e.2.2.2.1)).flatten
    let s := lost.foldl (fun s boi => s.slotLost g b boi) s
    let s := if lost = [] then s else s.setF F.PWR_RECOVERY.LOST 1
    let x := s.band g b
    let slots := (List.range d.rowTiles).foldl (fun m k =>
      let boi := d.rowBoi row + k
      let st := if x.voids.contains boi then 2 else if boi < x.fill then 1 else 0
      storePut (fun _ => Slot.empty) m k { Slot.empty with
        st := st, folded := st == 2, seed := x.blocks.getD (d.boiPos boi) 0 }) []
    let put (f : List Byte × List Byte × List Nat × Bool → List Byte) : Store (List Byte) :=
      acc.foldl (fun m e => accPut m (8 * (e.1 / d.slots) + e.1 % d.slots) (f e.2)) []
    let covered := decide ((s.openRows.filter (·.covered)).length < s.limit)
    let r : ORow := ORow.mk row s.tickno covered (put (fun e => e.1)) (put (fun e => e.2.1)) slots pages 0 none
    let w := s.wband g b
    let s := (s.setWband g b { w with rows := w.rows ++ [r] }).ptyRegs
    if acc.all (fun e => e.2.2.2.2) then s.addTo F.PWR_RECOVERY.SHELTERED 1 else s.addTo F.PWR_RECOVERY.READBACK 1

/-- Step 5 for one band. -/
def State.recover5 (s : State) (reads : List MediaRead) (e : Nat × Nat) : State :=
  let d := s.sset e.1
  let s := s.setWband e.1 e.2 WBand.none
  (List.range (d.rowOf ((s.band e.1 e.2).fill + d.rowTiles - 1))).foldl (fun s row => s.restoreRow reads e.1 e.2 row) s

/-! ## Step 6: runs without a posted completion (R458) -/

/-- Voids one slot of a run: folded out of a row whose parity is not programmed, else under a correction record. -/
def State.voidRun (s : State) (reads : List MediaRead) (r : Run) (boi : Nat) : State :=
  let g := r.set
  let b := r.band
  let d := s.sset g
  let x := s.band g b
  if x.fill ≤ boi ∨ x.voids.contains boi then s
  else
    match s.dataImage reads g b boi with
    | none =>
      (s.setF F.PWR_RECOVERY.LOST 1).logWrite 0x0013 1 (leBytes 8 (bandAddr (g % 256) b boi) ++ leBytes 2 r.queue ++ leBytes 2 r.cid ++
        leBytes 1 2)
    | some img =>
      let row := d.rowOf boi
      match (s.wband g b).rowAt row with
      | some o =>
        let o := { (o.acc d boi img) with
          slots := storePut (fun _ => Slot.empty) o.slots (boi - d.rowBoi row) { Slot.empty with st := 2, folded := true } }
        (s.setWband g b ((s.wband g b).setRow o)).voidMany g b [boi]
      | none =>
        let p := d.pos boi
        (s.journalAdd (nsOf g) [jCorrection g p.d b row p.plane p.slot boi img]).voidMany g b [boi]

/-- Step 6. -/
def State.recover6 (s : State) (reads : List MediaRead) : State :=
  s.census.replay.runs.foldl (fun s r => ((List.range r.count).map (· + r.boi)).foldl (fun s boi => s.voidRun reads r boi) s) s

/-! ## Step 7: rebuilds and substitutions -/

/-- What the reads find of the pages from RB on in the spare's block of a band: those made are passed over, and a block with a page that
neither decodes nor reads as erased gives its place to another (R430). -/
def State.spareFound (s : State) (reads : List MediaRead) (n g b : Nat) : State :=
  let t := s.task n
  let d := s.sset g
  let k := bandKey g b
  let p := (s.vdie t.vdie).pdie
  let i := t.bindOf g b
  let pages := (s.ordOf d.family d.mode).filter (fun r => (cnt t.mask k).testBit r && decide (t.rbOf g b ≤ r))
  let known := pages.takeWhile (fun r => pageDecodes reads p i r)
  match pages.drop known.length with
  | [] => s.setTask n { t with found := storePut (fun _ => 0) t.found k (known.foldl (fun m r => m ||| 2 ^ r) 0) }
  | r :: _ =>
    if pageWritten reads p i r then
      let s := s.markBad p i
      (match s.chooseIndex p false with
       | none => (s.journalAdd (nsOf g) [jBadBlock p i 1]).dieFails p true 4
       | some j => (s.setTask n { t with bind := storeIns k j t.bind, rb := storePut (fun _ => 0) t.rb k 0 }).journalAdd (nsOf g)
           [jBadBlock p i 1, jBinding g (s.posIn g t.vdie) b j 0 .nothing])
    else s.setTask n { t with found := storePut (fun _ => 0) t.found k (known.foldl (fun m r => m ||| 2 ^ r) 0) }

/-- Takes up the rebuild of a REBUILDING vdie from its checkpoints (R430). -/
def State.resumeRebuild (s : State) (reads : List MediaRead) (v : Nat) : State :=
  let sets := s.setsOf v
  let r := s.census.replay
  let mine := r.pendings.filter (fun e => sets.contains e.1 && e.2.1 == s.posIn e.1 v)
  let ck := r.ckpts.filter (fun e => e.1 == v)
  let bind := ck.foldl (fun m e => storeIns e.2.1 e.2.2.2 m) (mine.foldl (fun m e => storeIns (bandKey e.1 e.2.2.1) e.2.2.2 m) [])
  let g := sets.headD 0
  let t : Task := { Task.zero with
    kind := .rebuild, cls := s.bgCls g, set := g, vdie := v, pos := s.posIn g v, slot := s.freeSlot, stage := 1
    bind := bind, rb := ck.foldl (fun m e => storePut (fun _ => 0) m e.2.1 e.2.2.1) []
    mask := bind.foldl (fun m e => storeIns e.1 (s.rebuildMask (e.1 / 16384) (e.1 % 16384) (s.posIn (e.1 / 16384) v)) m) [] }
  let n := s.nextJob
  let s := (s.setTask n t).bumpJob
  let s := if (s.lev v true).applied = [] then s.setLev v true (s.freshLevels (s.vdie v).family (s.vdieMode v)) else s
  let s := ck.foldl (fun s e => s.spareFound reads n (e.2.1 / 16384) (e.2.1 % 16384)) s
  (s.rebuildPump n ((s.sset g).bands + 66)).rebuildRegs

/-- Restarts a substitution from step 1 of R318, for the first page of its member that is not programmed. -/
def State.resumeSubst (s : State) (e : Nat × Nat × Nat × Nat) : State :=
  let d := s.sset e.1
  if (s.band e.1 e.2.2.1).state ≠ 3 ∨ s.posRebuilding e.1 e.2.1 then s
  else match (s.ordOf d.family d.mode).find? (fun row => !(s.wband e.1 e.2.2.1).pageDone e.2.1 row) with
    | some row => s.needSubst e.1 e.2.2.1 row e.2.1 0
    | none => s

/-- Step 7. -/
def State.recover7 (s : State) (reads : List MediaRead) (ns : Nat) : State :=
  let s := s.census.replay.pendings.foldl (fun s e => s.resumeSubst e) s
  ((storeKeys s.vdies).filter (fun v => v / 4096 == ns && (s.vdie v).mapped && (s.vdie v).state == 1)).foldl (fun s v => s.resumeRebuild reads v) s

/-! ## READ_READY (R236) -/

/-- Erases the shelter blocks that the directory used, and those with fewer than 16 free pages (R448, Table 12-7) (DEDUCED, log entry 124). -/
def State.freeShelters (s : State) : State :=
  let used := (s.census.replay.shelters.map (fun x => [x.p.1, x.q.1])).flatten
  (storeKeys s.pdies).foldl (fun s p =>
    let x := s.pdie p
    match x.shelter with
    | none => s
    | some i =>
      let full := s.famPages x.family 1
      if x.cond = .mapped ∧ !s.erases.any (fun e => e.2.pdie == p && e.2.block == i) ∧ (used.contains p ∨ full < x.shelterPage + 16) then
        (s.setPdie p { x with shelterPage := full }).askErase .shelter (s.pdieNs p) p i (s.famPlanes x.family) 0 0 2 true
      else s) s

/-- Every zone is due for a sample (R386). -/
def State.allDue (s : State) : State :=
  { s with levels := s.levels.map (fun e => (e.1, { e.2 with zones := e.2.zones.map (fun z => (z.1, { z.2 with due := true })) })) }
/-- The end of stage 5. -/
def State.reachReady (s : State) : State :=
  let s := s.setF F.PWR_CENSUS.STAGE 6
  let s := (s.setF F.PWR_CENSUS.READ_READY 1).setF F.PWR_CENSUS_TIME.READY_US (min (2 ^ 32 - 1) s.sinceReset)
  let s := (s.releaseWays.raise Ev.readReady).sendResync
  let s := s.updCensus (fun (c : Census) => { c with recDue := true, close := s.openBands 0 })
  let s := if s.patrol.accel then s.allDue else s
  let s := s.freeShelters
  s.vdies.foldl (fun s e => if e.2.mapped ∧ e.2.state = 0 ∧ e.2.member ∧ e.1 < 4096 then s.bindShelter 0 e.2.pdie else s) s

/-- Is an erase of recovery still to end? -/
def State.recoveryErasing (s : State) : Bool :=
  s.erases.any (fun e => match e.2.use with
    | .freeIndex => false
    | _ => true)

/-- CENSUS_RECOVERY: the next step of Table 12-7, once the journal changes of the step before have committed. `reads` is what its media
reads give; a page none of whose codewords it lists is erased. -/
def execCensusRecovery (reads : List MediaRead) (s : State) : Host.Outcome State Fault Refusal :=
  .next (if !s.censusRuns 5 ∨ !s.journalIdle ∨ s.recoveryErasing then s
    else
      let n := s.census.step
      let s := s.peMark.updCensus (fun (c : Census) => { c with step := n + 1 })
      match n with
      | 1 => s.recover1
      | 2 => s.recover2 0
      | 3 => s.recover3 0
      | 4 => (s.openBands 0).foldl (fun s e => s.recover4 reads e) s
      | 5 => (s.openBands 0).foldl (fun s e => s.recover5 reads e) s
      | 6 => s.recover6 reads
      | 7 => s.recover7 reads 0
      | 8 => s.journalAdd 0 [jrec 0x52 (leBytes 8 (s.census.replay.dirSeq.getD 0)) .recovered]
      | _ => s.reachReady)

/-! ## Beside stage 6 (R460) -/

/-- Closes the rows of the band that comes first, then carries or closes the band. -/
def State.rowClose (s : State) (g b : Nat) : State :=
  let d := s.sset g
  let s := (s.padRow g b).writePump g b
  let drop (s : State) : State := s.updCensus (fun (c : Census) => { c with close := c.close.filter (fun e => e != (g, b)) })
  if (s.wband g b).rows.any (fun r => r.par == 0) then s
  else if s.puOf d.family d.mode = 1 ∧ s.laOf d.family d.mode = 0 then
    (if !s.flag F.PWR_CENSUS.HU_DONE then s
     else if s.resFits d then drop (s.takeRes g b)
     else (drop s).startClose g b [])
  else (drop s).startClose g b []

/-- RECOVERY_ROW_CLOSE: every band whose rows recovery left open goes as far as it can. -/
def execRecoveryRowClose (s : State) : Host.Outcome State Fault Refusal :=
  .next (if !s.censusRuns 6 then s else s.census.close.foldl (fun s e => s.rowClose e.1 e.2) s)

/-- WRITE_READY: READ_READY, the limit known, and every row that recovery left open closed or carried. A fundamental reset of the host function
is complete (Table 17-5) (DEDUCED, log entry 181). -/
def execWriteReady (s : State) : Host.Outcome State Fault Refusal :=
  .next (if !s.censusRuns 6 ∨ !s.flag F.PWR_CENSUS.HU_DONE ∨ s.census.close ≠ [] ∨ s.openRows ≠ [] ∨ s.wbands.any (fun e => e.2.closing) then s
    else
      let s := ((s.setF F.PWR_CENSUS.STAGE 7).setF F.PWR_CENSUS.WRITE_READY 1).raise Ev.writeReady
      if s.flag F.GLB_HFN_STATUS.PRESENT ∧ s.host.resets = [] then s.setF F.GLB_HFN_STATUS.READY 1 else s)

/-! ## The assumed gap (R234) -/

/-- The worst-case gap of the image. -/
def State.worstGap (s : State) : Nat := s.gp "worst-case gap" 0 7776000000000
/-- A gap above a day: patrol is accelerated, at most once a census, and every zone is due for a sample (R386, R409); before WRITE_READY
the pass is noted and begins with patrol (DEDUCED, log entry 129). -/
def State.afterGap (s : State) : State :=
  let s := if s.patrol.accelDone then s
    else if s.peRuns then s.startPass true else { s with patrol := { s.patrol with accel := true } }
  s.allDue
/-- Applies the worst-case gap. -/
def State.assumeGap (s : State) : State :=
  let g := s.worstGap
  let s := (s.advanceTime g).setF F.PWR_CENSUS.GAP_ASSUMED 1
  (s.updCensus (fun (c : Census) => { c with gap := g })).raise Ev.gapAssumed |>.afterGap

/-- GAP_ASSUMED: no anchor has been accepted 1,048,576 ticks after reset release, at a later census. -/
def execGapAssumed (s : State) : Host.Outcome State Fault Refusal :=
  .next (if !s.awake ∨ s.flag F.PWR_CENSUS.FIRST ∨ s.census.anchor.isSome ∨ s.flag F.PWR_CENSUS.GAP_ASSUMED ∨ s.tickno < 1048576 ∨ s.stage < 4 ∨
        s.stage = 15 then s
    else s.assumeGap)

/-! ## The census record (R225) -/

/-- HT_LAST of a record committed now (R235). -/
def State.htLast (s : State) : Nat :=
  match s.census.anchor with
  | some (h, m) => h + (s.mtime - m)
  | none =>
    let p := s.census.record
    if field p 44 8 = 0 then 0 else field p 44 8 + (s.mtime - field p 36 8)
/-- CRC-32C over the recorded pairs of pdie and unique ID. -/
def State.popCrc (s : State) (ns : Nat) : Nat :=
  (crc32c ((s.nsPdies ns).map (fun e => leBytes 2 e.1 ++ leBytes 16 e.2.uid)).flatten).toNat
/-- The payload of Table 6-2 for a namespace (DEDUCED, log entry 251). -/
def State.censusPayload (s : State) (ns : Nat) : List Byte :=
  let j := s.journal ns
  let locs := s.journalLocs ns j.ckptBand
  padTo 236 (leBytes 2 1 ++ leBytes 2 0 ++ leBytes 4 (field (if ns = 0 then s.census.record else s.pair.record) 4 4 + 1) ++ (locs.map (fun l => leBytes 2 l.1)).flatten ++
    (locs.map (fun l => leBytes 2 l.2)).flatten ++ leBytes 2 j.ckptRow ++ leBytes 2 0 ++ leBytes 8 j.ckptSeq ++ leBytes 8 (s.nsTime ns) ++
    leBytes 8 s.htLast ++ leBytes 4 (s.popCrc ns) ++ leBytes 4 (if ns = 0 then s.getF F.PWR_HOLDUP.CAP_UF else field s.pair.record 56 4) ++
    leBytes 4 (if ns = 0 then s.getF F.PWR_HOLDUP.VTOP_MV else field s.pair.record 60 4))

/-- CENSUS_RECORD_COMMIT. -/
def execCensusRecordCommit (s : State) : Host.Outcome State Fault Refusal :=
  .next (if !s.awake ∨ s.pfail ∨ s.pf.settle ∨ s.stage < 4 ∨ 8 ≤ s.stage then s
    else if s.census.recDue ∨ (6 ≤ s.stage ∧ s.census.lastRecord + 1048576 ≤ s.tickno) then
      (s.updCensus (fun (c : Census) => { c with recDue := false, lastRecord := s.tickno })).commitRecord (s.censusPayload 0)
    else s)

/-! ## Restart (R240) -/

/-- A watchdog expiry in stage 4 or 5: census begins stage 4 again; the third time it halts. What training, enumeration and the measurements
found stays. -/
def State.restartCensus (s : State) : State :=
  let n := s.getF F.PWR_CENSUS.WD_RESTARTS + 1
  let s := s.setF F.PWR_CENSUS.WD_RESTARTS n
  if 3 ≤ n then s.censusHalt 7
  else
    let found := s.census.found
    ({ s with
      vdies := [], pdies := [], sets := [], bands := [], journals := [], wbands := [], tasks := [], requeue := [], rebuildPend := [], levels := []
      progs := s.progs.filter (fun e => e.2.running), erases := s.erases.filter (fun e => e.2.running), cws := []
      census := { s.census with
        replay := Replay.zero, step := 1, phase := 0, close := [], profiles := [], recDue := false, found := found } }).setF
      F.PWR_CENSUS.STAGE 4

end Sys2Proof.Machine
end

