-- ==== Sys2Proof/Machine/Query.lean ====
section
/-! DEFINITION. The pages of QUERY (R89, R171, R288, R376, R406, R437, R603, R641) and SET_TIME (R233 to R235). A page is its fields as
(offset, bytes, value); bytes it does not list read 0. -/

namespace Sys2Proof.Machine

/-- Bytes as fields of eight from an offset on. -/
def byteFields : Nat → Nat → List Byte → List (Nat × Nat × Nat)
  | 0, _, _ => []
  | n + 1, off, m => if m = [] then [] else (off, (m.take 8).length, leNat (m.take 8)) :: byteFields n (off + 8) (m.drop 8)
/-- Bytes as fields from an offset on. -/
def asFields (off : Nat) (m : List Byte) : List (Nat × Nat × Nat) := byteFields m.length off m
/-- A signed byte as a number. -/
def s8 (v : Int) : Nat := (BitVec.ofInt 8 v).toNat

/-- TICKNO, at the head of every page of counters. -/
def State.tickField (s : State) : Nat × Nat × Nat := (0, 8, s.tickno)
/-- Has the census of a namespace come so far that pages show its geometry (R238)? -/
def State.geometryShown (s : State) (ns : Nat) : Bool :=
  if ns = 0 then s.flag F.PWR_CENSUS.READ_READY else s.build.pair && (s.getF F.PAIR_STAT.STATE == 5 || s.getF F.PAIR_STAT.STATE == 8)

/-! ## Geometry (Table 2-9) -/

/-- Page 0x0100: 512 map entries from a vdie on. -/
def State.pageMap (s : State) (ns first : Nat) : List (Nat × Nat × Nat) :=
  if !s.geometryShown ns then []
  else (List.range 512).filterMap (fun k => if first + k < 4096 then some (8 * k, 8, (s.vdie (nsVdie ns (first + k))).word) else none)
/-- Page 0x0101: the descriptor of a set; of one not defined only its number. -/
def State.pageSet (s : State) (ns g : Nat) : List (Nat × Nat × Nat) :=
  if !s.geometryShown ns then []
  else if (s.sset (nsSet ns g)).defined then asFields 0 (s.setBytes (nsSet ns g)) else [(0, 1, g)]
/-- Page 0x0102: the entry of a band. -/
def State.pageBand (s : State) (ns param : Nat) : List (Nat × Nat × Nat) :=
  if !s.geometryShown ns then [] else asFields 0 (s.bandBytes (nsSet ns (param % 256)) (param / 2 ^ 16 % 2 ^ 14))
/-- Page 0x0103: the spare and retired pdies. -/
def State.pageSpares (s : State) (ns : Nat) : List (Nat × Nat × Nat) :=
  if !s.geometryShown ns then []
  else
    let kind (c : PdieCond) : Option Nat := match c with
      | .spareFree => some 0
      | .spareClaimed => some 1
      | .retired => some 2
      | .mapped => none
      | .absent => none
    let l := (s.nsPdies ns).filterMap (fun e => (kind e.2.cond).map (fun k => k * 2 ^ 13 + e.1))
    (0, 2, l.length) :: (List.range l.length).map (fun k => (16 + 2 * k, 2, l.getD k 0))

/-! ## The planner (Table 4-7) -/

/-- The planner page of rail groups and channels from an index on: 0 for the instance's own, 1 for its partner's. -/
def State.pagePlanner (s : State) (far : Nat) : List (Nat × Nat × Nat) :=
  let groups := (List.range 8).map (fun k =>
    let g := 8 * far + k
    [(16 + 16 * k, 2, s.envEff g), (18 + 16 * k, 2, s.getF (rgF F.PLN_RAIL_STAT.USED_MA g)),
      (20 + 16 * k, 2, s.getF (rgF F.PLN_RAIL_STAT.FACTOR g)), (22 + 16 * k, 2, s.getF (rgF F.PLN_RAIL_STAT.DROOPS g)),
      (24 + 16 * k, 4, cnt s.pln.refused g)])
  let chans := (List.range s.build.channels).map (fun k =>
    let h := 96 * far + k
    let o := 512 + 32 * k
    [(o, 1, cnt s.pln.hold h), (o + 1, 1, min 255 (cnt s.pln.lastItems h)), (o + 2, 2, min 65535 (cnt s.pln.lastCycles h)),
      (o + 4, 4, cnt s.pln.suspends h), (o + 8, 4, cnt s.pln.arounds h), (o + 12, 4, cnt s.pln.waits h), (o + 16, 4, cnt s.pln.misses h),
      (o + 20, 4, cnt s.pln.promos h)])
  s.tickField :: groups.flatten ++ chans.flatten
/-- Page 0x1200: filled only while the partner is fostered (R603). -/
def State.pagePartner (s : State) : List (Nat × Nat × Nat) :=
  if s.build.pair && (s.getF F.PAIR_STAT.STATE == 5 || s.getF F.PAIR_STAT.STATE == 8) then s.pagePlanner 1 else [s.tickField]

/-! ## Queues, decoders, channels -/

/-- Page 0x0700 (Table 7-13). -/
def State.pageQueue (s : State) (q : Nat) : List (Nat × Nat × Nat) :=
  let x := s.queue q
  [s.tickField, (8, 2, q), (10, 1, s.getF (F.WQ_STATUS.STATE q)), (11, 1, s.getF (F.WQ_STATUS.CAUSE q)), (12, 2, x.piSeen), (14, 2, x.ciSeen),
    (16, 2, s.getF (F.WQ_STATUS.SQ_CI q)), (18, 2, s.getF (F.WQ_OUT.CQ_PI q)), (20, 2, s.getF (F.WQ_OUT.OUTSTANDING q)),
    (22, 2, x.credit), (24, 4, x.fetched), (28, 4, x.completed), (32, 4, x.refetches), (36, 4, x.refused), (40, 4, x.fabricFails),
    (44, 4, x.late), (48, 4, x.fullTicks)]
/-- Page 0x0900 (Table 9-4). -/
def State.pageDecoder (s : State) : List (Nat × Nat × Nat) :=
  let d := s.decs
  [s.tickField, (8, 1, s.getF F.DEC_POOL.HARD_ACTIVE), (9, 1, s.getF F.DEC_POOL.SOFT_ACTIVE), (16, 8, (s.reg 0xD0410).toNat)] ++
    (List.range 8).map (fun k => (32 + 4 * k, 4, cnt d.stepEnd k)) ++
    [(64, 4, d.miscorrect), (68, 4, d.jumps), (72, 4, d.abandoned), (76, 4, d.achkFails), (80, 4, d.unrec), (84, 4, d.ceilings),
     (88, 4, d.warnings), (92, 4, d.tests), (96, 4, d.testFails), (104, 8, d.hardBusy), (112, 8, d.softBusy)]
/-- Page 0x0901 (Table 9-5) of a home channel. -/
def State.pageChannel (s : State) (h : Nat) : List (Nat × Nat × Nat) :=
  [s.tickField, (8, 1, h)] ++ ((List.range 16).map (fun k =>
    let o := 64 + 128 * k
    let p := pdieOf (s.chanOf h) k
    let there := h < s.build.channels && (s.flag (F.CHU_CFG.ENABLED h)) && (s.getF (F.CHU_CFG.PRESENT h)).testBit k
    if !there then [(o, 1, 0xFF)]
    else
      let f := match s.census.found.find? (fun d => d.home == h && d.slot == k) with
        | some d => d.family
        | none => s.famOf p
      let d := s.die p
      [(o, 1, f), (o + 1, 1, (profileRows.findIdx? (· == s.profile f)).getD 0), (o + 2, 1, s.rateOf h)] ++
        (List.range 16).map (fun i => (o + 4 + 2 * i, 2, s.timing f h i)) ++
        [(o + 36, 4, d.senses), (o + 40, 4, d.lateReady), (o + 44, 4, d.timeouts), (o + 48, 4, d.notTaken), (o + 52, 4, d.unrec),
         (o + 56, 2, d.corrMax)])).flatten

/-! ## Levels (Tables 10-7 and 10-8) -/

/-- A table of offsets as bytes. -/
def tableFields (off : Nat) (t : List Int) : List (Nat × Nat × Nat) := asFields off (t.map s8Byte)
/-- Page 0x0A00 of a vdie. -/
def State.pageLevels (s : State) (ns v : Nat) : List (Nat × Nat × Nat) :=
  let key := nsVdie ns v
  let x := s.vdie key
  if !s.geometryShown ns then [s.tickField, (8, 2, v)]
  else if !x.mapped then [s.tickField, (8, 2, v), (12, 1, 2)]
  else
    let l := s.lev key false
    let sp := s.lev key true
    [s.tickField, (8, 2, v), (10, 1, x.family), (11, 1, s.levelsOf x.family (s.vdieMode key)), (12, 1, if x.state = 1 then 1 else 0),
      (16, 4, l.crcA), (20, 4, l.crcT)] ++ tableFields 32 l.applied ++ tableFields 272 l.target ++
      (List.range 15).map (fun i => (512 + 2 * i, 2, (BitVec.ofInt 16 (l.k.getD i 0)).toNat)) ++
      ((List.range 16).map (fun z =>
        let y := l.zone z
        let o := 544 + 24 * z
        [(o, 1, y.laRef), (o + 1, 1, (if y.suspect then 128 else 0) + y.run % 4), (o + 2, 1, y.outcome), (o + 4, 4, y.samples),
          (o + 8, 4, y.rejects), (o + 12, 2, y.feedFails), (o + 16, 8, y.lastTick)])).flatten ++
      (if x.state = 1 then tableFields 928 sp.applied ++ tableFields 1168 sp.target else [])
/-- Page 0x0A01 of a family (DEDUCED, log entry 85). -/
def State.pageLlr (s : State) (f : Nat) : List (Nat × Nat × Nat) :=
  if !s.pdies.any (fun e => e.2.cond != .absent && e.2.family == f) then [s.tickField, (8, 1, f), (12, 1, 2)]
  else
    let x := s.llr f
    [s.tickField, (8, 1, f)] ++ (List.range 4).map (fun i => (16 + i, 1, s8 (x.t4.getD i 0))) ++
      (List.range 6).map (fun i => (20 + i, 1, s8 (x.t5.getD i 0))) ++ [(32, 4, x.windows4), (36, 4, x.windows5)]

/-! ## Patrol and telemetry -/

/-- Page 0x0B00 (Table 11-10). -/
def State.pagePatrol (s : State) (ns : Nat) : List (Nat × Nat × Nat) :=
  let p := s.patrol
  let c := s.patCounts
  let pend := (s.rebuildOrder.filter (fun v => v / 4096 == ns)).take 32
  let queue := (s.requeueOrder.filter (fun e => nsOf e.set == ns)).take 488
  [s.tickField, (8, 8, p.due), (16, 8, p.left.length), (24, 1, if p.running && p.accel then 1 else 0), (32, 4, c.reads), (36, 4, c.queued),
    (40, 4, c.recon), (44, 4, c.unrec), (48, 4, c.rehomes), (52, 4, c.abandoned), (56, 4, c.lost), (60, 4, c.dies), (64, 4, c.channels),
    (68, 4, c.rebuilds), (72, 4, c.deferred), (76, 2, pend.length)] ++
    (List.range 32).map (fun k => (128 + 2 * k, 2, match pend[k]? with | some v => v % 4096 | none => 0xFFFF)) ++
    ((List.range queue.length).map (fun j => match queue[j]? with
      | some e => [(192 + 8 * j, 1, e.set % 256), (193 + 8 * j, 1, e.reason), (194 + 8 * j, 2, e.band), (196 + 8 * j, 1, if e.active then 1 else 0)]
      | none => [])).flatten
/-- Page 0x1400 (Table 20-8). -/
def State.pageTelemetry (s : State) : List (Nat × Nat × Nat) :=
  let t := s.telem
  [s.tickField, (8, 1, s8 t.coreTemp), (9, 1, s8 (t.maxTemp.getD 0))] ++
    ((List.range s.build.quads).map (fun q => [(16 + 2 * q, 2, storeGet (fun _ => 0) t.vccqMv q),
      (64 + q, 1, s8 (storeGet (fun _ => 0) t.quadTemp q))])).flatten ++ [(96, 2, t.bankMv), (100, 4, t.samples)]

/-! ## The commands -/

/-- A page by its code and parameter, in a namespace. -/
def State.queryPage (s : State) (page param ns : Nat) : List (Nat × Nat × Nat) :=
  match page with
  | 0x0100 => s.pageMap ns param
  | 0x0101 => s.pageSet ns param
  | 0x0102 => s.pageBand ns param
  | 0x0103 => s.pageSpares ns
  | 0x0200 => s.pagePlanner 0
  | 0x0700 => s.pageQueue param
  | 0x0900 => s.pageDecoder
  | 0x0901 => s.pageChannel param
  | 0x0A00 => s.pageLevels ns param
  | 0x0A01 => s.pageLlr param
  | 0x0B00 => s.pagePatrol ns
  | 0x1200 => s.pagePartner
  | 0x1400 => s.pageTelemetry
  | _ => []

/-- Serves a QUERY entry of one page: the snapshot goes to its buffer, RESULT0 is its tick (R280). -/
def State.serveQuery (s : State) (c page : Nat) : State :=
  if !s.starts c opQUERY || ent (s.ctx c).entry 32 2 != page then s
  else
    let l := s.queryPage page (ent (s.ctx c).entry 40 8) (s.qNs (s.ctx c).queue)
    (s.pageOut c l).finish c 0 0 s.tickno 0 0

/-- QUERY of page 0x0100. -/
def execQueryVdieMap (ctx : Nat) (s : State) : Host.Outcome State Fault Refusal := .next (s.serveQuery ctx 0x0100)
/-- QUERY of page 0x0101. -/
def execQuerySet (ctx : Nat) (s : State) : Host.Outcome State Fault Refusal := .next (s.serveQuery ctx 0x0101)
/-- QUERY of page 0x0102. -/
def execQueryBand (ctx : Nat) (s : State) : Host.Outcome State Fault Refusal := .next (s.serveQuery ctx 0x0102)
/-- QUERY of page 0x0103. -/
def execQuerySpares (ctx : Nat) (s : State) : Host.Outcome State Fault Refusal := .next (s.serveQuery ctx 0x0103)
/-- QUERY of page 0x0200. -/
def execQueryPlanner (ctx : Nat) (s : State) : Host.Outcome State Fault Refusal := .next (s.serveQuery ctx 0x0200)
/-- QUERY of page 0x0700. -/
def execQueryQueue (ctx : Nat) (s : State) : Host.Outcome State Fault Refusal := .next (s.serveQuery ctx 0x0700)
/-- QUERY of page 0x0900. -/
def execQueryDecoder (ctx : Nat) (s : State) : Host.Outcome State Fault Refusal := .next (s.serveQuery ctx 0x0900)
/-- QUERY of page 0x0901. -/
def execQueryChannelRead (ctx : Nat) (s : State) : Host.Outcome State Fault Refusal := .next (s.serveQuery ctx 0x0901)
/-- QUERY of page 0x0A00. -/
def execQueryLevels (ctx : Nat) (s : State) : Host.Outcome State Fault Refusal := .next (s.serveQuery ctx 0x0A00)
/-- QUERY of page 0x0A01. -/
def execQueryLlr (ctx : Nat) (s : State) : Host.Outcome State Fault Refusal := .next (s.serveQuery ctx 0x0A01)
/-- QUERY of page 0x0B00. -/
def execQueryPatrol (ctx : Nat) (s : State) : Host.Outcome State Fault Refusal := .next (s.serveQuery ctx 0x0B00)
/-- QUERY of page 0x1200. -/
def execQueryPartnerPlan (ctx : Nat) (s : State) : Host.Outcome State Fault Refusal := .next (s.serveQuery ctx 0x1200)
/-- QUERY of page 0x1400. -/
def execQueryTelemetry (ctx : Nat) (s : State) : Host.Outcome State Fault Refusal := .next (s.serveQuery ctx 0x1400)

/-! ## SET_TIME -/

/-- A day in microseconds, the gap above which patrol is accelerated (R409). -/
def dayUs : Nat := 86400000000

/-- Takes the first anchor, host time `h` (R233 to R235). A gap by R233 counts from MediaTime without the gap assumed before (DEDUCED, log entry 128). -/
def State.takeAnchor (s : State) (h : Nat) : State :=
  let note (s : State) : State := s.updCensus (fun (c : Census) => { c with anchor := some (h, s.mtime) })
  if s.flag F.PWR_CENSUS.FIRST then note s
  else
    let p := s.census.record
    let ht := field p 44 8
    let mt := field p 36 8
    if ht = 0 then note (if s.flag F.PWR_CENSUS.GAP_ASSUMED then s else s.assumeGap)
    else
      let gap : Int := (h : Int) - ht - ((s.mtime : Int) - s.census.gap - mt)
      let s := if gap < 0 then
          (s.raise Ev.timeAnomaly).logWrite 0x0070 8 (leBytes 8 (BitVec.ofInt 64 gap).toNat)
        else s
      let more := gap.toNat - s.census.gap
      let s := (s.advanceTime more).setF F.PWR_CENSUS.ANCHORED 1
      note (if dayUs < more then s.afterGap else s)

/-- SET_TIME: RESULT0 is MediaTime as it then stands, RESULT1 the entry's host time. Only the first after block reset is an anchor. -/
def execSetTime (ctx : Nat) (s : State) : Host.Outcome State Fault Refusal :=
  .next (if !s.starts ctx opSETTIME then s
    else
      let h := ent (s.ctx ctx).entry 32 8
      let s := if s.census.anchor.isSome then s else s.takeAnchor h
      s.finish ctx 0 0 s.mtime h 0)

end Sys2Proof.Machine
end

