-- ==== Sys2Proof/Machine/Liner.lean ====
section
/-! DEFINITION. The Liner's commands (chapter 13): fills and write-backs answered, maintenance operations, disable and enable, scrub, the leaky
bucket, the flip test and the scratchpad window. -/

namespace Sys2Proof.Machine

/-! ## The scratchpad (R466 to R469, R492) -/

/-- Has READ_READY been set? -/
def State.rdReady (s : State) : Bool := s.flag F.PWR_CENSUS.READ_READY
/-- The key of the line at a window offset (R466). -/
def State.spKey (s : State) (off : Nat) : Nat :=
  let l := off / 256
  let r := l / s.build.banks
  32 * (384 * (l % s.build.banks) + r % 384) + (32 - s.getF F.LNR_SP_WAYS.WAYS) + r / 384
/-- The window offset of the line under a key. -/
def State.spOffset (s : State) (key : Nat) : Nat :=
  let r := (key % 32 - (32 - s.getF F.LNR_SP_WAYS.WAYS)) * 384 + key / 32 % 384
  256 * (r * s.build.banks + key / 32 / 384)
/-- The bytes of the scratchpad. -/
def State.spEnd (s : State) : Nat := s.getF F.LNR_SP_WAYS.WAYS * s.wayKib * 1024
/-- The area of a window offset, if any; until READ_READY the image lies at offset 0 (R211). -/
def State.areaOf (s : State) (off : Nat) : Option Nat :=
  if !s.rdReady && decide (off < s.stagingKib * 1024) then some 0
  else (List.range 8).find? (fun k => decide (s.getF (F.LNR_SP_AREA.BASE_KIB k) * 1024 ≤ off) &&
    decide (off < (s.getF (F.LNR_SP_AREA.BASE_KIB k) + s.getF (F.LNR_SP_AREA.SIZE_KIB k)) * 1024))
/-- The offset of a window offset in an area. -/
def State.inArea (s : State) (k off : Nat) : Nat := off - s.getF (F.LNR_SP_AREA.BASE_KIB k) * 1024
/-- The word of area 0 or 7 at a window offset (DESIGN CHOICE, log entry 11). -/
def State.spWord (s : State) (off : Nat) : Word :=
  if s.areaOf off = some 0 then BitVec.ofNat 64 (field s.staging (off / 8 * 8) 8) else storeGet (fun _ => 0#64) s.liner.sp (off / 8)
/-- Makes it hold a value. -/
def State.setSpWord (s : State) (off : Nat) (w : Word) : State :=
  if s.areaOf off = some 0 then
    let o := off / 8 * 8
    let m := s.staging ++ List.replicate (o + 8 - s.staging.length) 0#8
    { s with staging := m.take o ++ leBytes 8 w.toNat ++ m.drop (o + 8) }
  else s.updLiner (fun n => { n with sp := storePut (fun _ => 0#64) n.sp (off / 8) w })

/-- The outcome of an uncorrectable scratchpad word by its area (Table 13-7). What is rebuilt or fetched again from the media or a mirror
is as it was. -/
def State.spOutcome (s : State) (off : Nat) : State :=
  match s.areaOf off with
  | some 0 => if s.rdReady then s else s.loadSlot (s.flag F.PWR_CENSUS.SLOT_B)
  | some 2 => let o := s.inArea 2 (off / 256 * 256)
    s.spoilBuffers 2 (fromTo (s.inArea 2 off / tileBytes) (max (s.inArea 2 off) o / tileBytes))
  | some 4 =>
    let v := s.inArea 4 off / 1280
    let x := s.lev v false
    let s := (if s.drawn % 2 = 0 then s.setLev v false { x with crcA := tableCrc x.applied + 1 }
      else s.setLev v false { x with crcT := tableCrc x.target + 1 })
    s.draw
  | some 6 =>
    let p := s.inArea 6 off / 256 * 4
    let n := ((List.range 4).filter (fun i => (s.logAt (p + i)).lseq != 0)).length
    let s := { s with log := (List.range 4).foldl (fun m i => storePut (fun _ => LogEntry.blank) m (p + i) LogEntry.blank) s.log }
    if n = 0 then s else s.logWrite 0x22 4 (leBytes 4 n)
  | _ => s
/-- An uncorrectable scratchpad word. In firmware space it stays bad until the whole word is written; elsewhere it is restored (DEDUCED, log entry 157). -/
def State.spLost (s : State) (key word : Nat) : State :=
  let off := s.spOffset key + 8 * word
  let s := (s.uncorrected 2 key word false ((s.areaOf off).getD 7)).countSat F.LNR_ECC_CNT2.UNCORR_LOST 1
  let keep := s.rdReady && (s.areaOf off == some 0 || s.areaOf off == some 7)
  (if keep then s else s.setFlips (33 * key + word) (0, 0)).spOutcome off

/-- An uncorrectable data word of a cache line, met by no access (Table 13-6). -/
def State.cacheLost (s : State) (key word : Nat) : State :=
  match s.lineAt key with
  | none => s
  | some x =>
    let s := s.uncorrected 0 key word x.dirty 0xFF
    if x.dirty then
      ((((s.countSat F.LNR_ECC_CNT2.UNCORR_LOST 1).writeBack key { x with wv := x.wv - 2 ^ word } none).putLine key none).spoilPin x.tag)
    else (s.countSat F.LNR_ECC_CNT.UNCORR_CLEAN 1).putLine key none

/-! ## Answers of the fabric -/

/-- Installs a fill: valid words stay, the rest takes the data (R490). -/
def State.install (s : State) (m : Miss) (bytes : List Byte) : State × List Byte :=
  let key := 32 * s.lnSet m.line + m.way
  let x := match s.lineAt key with | some x => if x.tag = m.line then x else LLine.blank m.line | none => LLine.blank m.line
  let data := x.data.mapIdx (fun i b => if x.has (i / 8) then b else bytes.getD i 0#8)
  (s.putLine key (some { x with wv := allWords, data := data, locked := x.locked || m.lock }), data)
/-- Every read that waits for a line is served with its bytes. -/
def State.giveAll (s : State) (l : Nat) (m : List Byte) : State :=
  (List.range s.fab.length).foldl (fun s i => match s.fab[i]? with
    | some r => if r.cached && !r.write && r.lines.contains l then s.giveLine i l m else s
    | none => s) s

/-- LINE_FILL_DONE: the fill of a demand miss, or a line read past the cache, has arrived. -/
def execLineFillDone (line : Nat) (bytes : List Byte) (s : State) : Host.Outcome State Fault Refusal :=
  .next (if !s.working || bytes.length != 256 then s
    else
      let pass (s : State) : State :=
        if s.fabOpen (.pass line) then ((s.fabAnswered (.pass line)).giveAll line bytes).lnRun else s
      match s.missOf line with
      | some m =>
        if m.prefetch || !s.fabOpen (.fill line) then pass s
        else
          let s := (s.fabAnswered (.fill line)).setMiss (s.lnBank line) none
          let r := s.install m bytes
          ((r.1.touch (s.lnSet line) m.way).giveAll line r.2).lnRun
      | none => pass s)

/-- PREFETCH_FILL_DONE: a prefetch fill is installed without touching the tree, or discarded (R474, R485). -/
def execPrefetchFillDone (line : Nat) (bytes : List Byte) (s : State) : Host.Outcome State Fault Refusal :=
  .next (if !s.working || bytes.length != 256 || !s.fabOpen (.fill line) then s
    else match s.missOf line with
      | some m =>
        if !m.prefetch then s
        else
          let s := (s.fabAnswered (.fill line)).setMiss (s.lnBank line) none
          (if m.drop then s else (s.install m bytes).1).lnRun
      | none => s)

/-- WRITEBACK_DONE: the write under a port's tag is acknowledged: a write-back buffer line, a merge buffer entry, a tile of the pin region, a
completion, data delivered to a queue owner. -/
def execWritebackDone (port tag : Nat) (s : State) : Host.Outcome State Fault Refusal :=
  .next (if !s.working then s
    else match s.fab.find? (fun r => r.holds port tag) with
      | some r =>
        (match r.who with
         | .writeback l => ((s.fabAnswered r.who).updLiner (fun n => { n with wbuf := n.wbuf.eraseP (fun w => w.line == l) })).lnRun
         | .merge l => ((s.fabAnswered r.who).updLiner (fun n => { n with merging := n.merging.eraseP (fun w => w.line == l) })).lnRun
         | .pin _ => (s.fabAnswered r.who).lnRun
         | .post _ => { s with fab := s.fab.filter (fun x => !x.holds port tag) }.fabPump
         | .tileOut _ _ => { s with fab := s.fab.filter (fun x => !x.holds port tag) }.fabPump
         | .statusArray _ => { s with fab := s.fab.filter (fun x => !x.holds port tag) }.fabPump
         | .result _ => { s with fab := s.fab.filter (fun x => !x.holds port tag) }.fabPump
         | _ => s)
      | none => s)

/-- MERGE_FLUSH: 64 CCLK cycles have passed since the entry of a line was written to. -/
def execMergeFlush (line : Nat) (s : State) : Host.Outcome State Fault Refusal :=
  .next (if s.working then (s.flushMerge line).lnRun else s)

/-! ## Maintenance (R482 to R486) -/

/-- The lines of a range operation. -/
def State.maintLines (s : State) (code : Nat) : List Nat :=
  let base := s.getF F.LNR_MAINT_BASE.BASE
  let n := s.getF F.LNR_MAINT_LEN.LINES
  if code = 4 ∨ code = 5 then (List.range n).map (· + base)
  else if code < 7 then s.heldLines.filter (fun l => decide (base ≤ l) && decide (l < base + n))
  else if code = 10 then []
  else s.heldLines
/-- The lines an operation processes in all. -/
def State.maintTotal (s : State) (code : Nat) : Nat :=
  if code < 7 then s.getF F.LNR_MAINT_LEN.LINES else if code = 10 then 0 else 384 * s.build.banks * s.cacheWays
/-- Does some 4-KiB page of the range meet a condition? -/
def State.rangeMeets (s : State) (p : Nat → Bool) : Bool :=
  let base := s.getF F.LNR_MAINT_BASE.BASE
  let n := s.getF F.LNR_MAINT_LEN.LINES
  decide (0 < n) && (fromTo (base / 16) ((base + n - 1) / 16)).any p
/-- Is an operation refused (R482, R483)? -/
def State.maintRefused (s : State) (code : Nat) : Bool :=
  code == 0 || decide (10 < code) || (code != 10 && !s.linerOn) ||
  ([2, 3, 4, 5].contains code && s.rangeMeets (fun p => s.inPin (4096 * p))) ||
  ([4, 5].contains code && s.rangeMeets (fun p => s.regionAttr (4096 * p) == .uc))
/-- A write to OP of LNR_MAINT_OP. -/
def State.maintWrite (s : State) (code : Nat) : State :=
  if !s.served then s
  else if s.asleep then s.holdWrite (HeldWrite.mk 0 0 0x80210 4 (BitVec.ofNat 64 code))
  else if s.pfail || s.flag F.LNR_MAINT_OP.BUSY then s
  else if s.maintRefused code then s.setF F.LNR_MAINT_OP.RESULT 2
  else
    let s := s.setReg 0x80218 0#64
    if code < 7 ∧ s.getF F.LNR_MAINT_LEN.LINES = 0 then s.setF F.LNR_MAINT_OP.RESULT 1
    else
      let s := s.setF F.LNR_MAINT_OP.BUSY 1
      let l := s.maintLines code
      let s := s.setF F.LNR_MAINT_STAT.LINES_DONE (satAdd 32 (s.maintTotal code - l.eraseDups.length) 0)
      let s := if code = 10 then (List.range s.build.banks).foldl (fun s b => s.trigScrub b) s else s
      s.startMaint 0 code l

/-- CLEAN. -/
def execClean (s : State) : Host.Outcome State Fault Refusal := .next (s.maintWrite 1)
/-- INVAL. -/
def execInval (s : State) : Host.Outcome State Fault Refusal := .next (s.maintWrite 2)
/-- CLEAN_INVAL. -/
def execCleanInval (s : State) : Host.Outcome State Fault Refusal := .next (s.maintWrite 3)
/-- ZERO. -/
def execZero (s : State) : Host.Outcome State Fault Refusal := .next (s.maintWrite 4)
/-- LOCK. -/
def execLock (s : State) : Host.Outcome State Fault Refusal := .next (s.maintWrite 5)
/-- UNLOCK. -/
def execUnlock (s : State) : Host.Outcome State Fault Refusal := .next (s.maintWrite 6)
/-- CLEAN_ALL. -/
def execCleanAll (s : State) : Host.Outcome State Fault Refusal := .next (s.maintWrite 7)
/-- CLEAN_INVAL_ALL. -/
def execCleanInvalAll (s : State) : Host.Outcome State Fault Refusal := .next (s.maintWrite 8)
/-- UNLOCK_ALL. -/
def execUnlockAll (s : State) : Host.Outcome State Fault Refusal := .next (s.maintWrite 9)
/-- SCRUB. -/
def execScrub (s : State) : Host.Outcome State Fault Refusal := .next (s.maintWrite 10)

/-- MAINT_DONE: the operation of LNR_MAINT_OP ends when every write-back it caused has been acknowledged (R485). -/
def execMaintDone (s : State) : Host.Outcome State Fault Refusal :=
  .next (if s.working && s.flag F.LNR_MAINT_OP.BUSY && s.maintOver 0 then
      ((s.endMaint 0).setF F.LNR_MAINT_OP.BUSY 0).setF F.LNR_MAINT_OP.RESULT 1
    else s)

/-! ## Disabling and enabling (R487 to R489) -/

/-- A write of ENABLE. -/
def State.linerEnable (s : State) (on : Bool) : State :=
  let st := s.getF F.LNR_CTRL.STATE
  if s.pfail then s
  else if on then
    (if st = 0 then (s.setF F.LNR_CTRL.ENABLE 1).setF F.LNR_CTRL.STATE 1 else if st = 2 then s.setF F.LNR_CTRL.ENABLE 1 else s)
  else if st = 1 then ((s.setF F.LNR_CTRL.ENABLE 0).setF F.LNR_CTRL.STATE 2).startMaint 1 8 s.heldLines
  else s
/-- The write as firmware makes it. -/
def State.enableWrite (s : State) (on : Bool) : State :=
  if !s.served then s
  else if s.asleep then s.holdWrite (HeldWrite.mk 0 0 0x80000 4 (setBits (s.reg 0x80000) 0 0 (if on then 1 else 0)))
  else s.linerEnable on
/-- LINER_DISABLE. -/
def execLinerDisable (s : State) : Host.Outcome State Fault Refusal := .next (s.enableWrite false)
/-- LINER_ENABLE. -/
def execLinerEnable (s : State) : Host.Outcome State Fault Refusal := .next (s.enableWrite true)
/-- LINER_DISABLED: the last write-back of a disable is acknowledged; the locks and trees are gone. A write of 1 made meanwhile takes
effect. -/
def execLinerDisabled (s : State) : Host.Outcome State Fault Refusal :=
  .next (if s.working && s.getF F.LNR_CTRL.STATE == 2 && s.maintOver 1 then
      let s := (s.endMaint 1).updLiner (fun n => { n with plru := [] })
      s.setF F.LNR_CTRL.STATE (if s.flag F.LNR_CTRL.ENABLE then 1 else 0)
    else s)

/-! ## Scrub and the leaky bucket (R493, R494) -/

/-- BUCKET_LEAK: LEAK ticks have passed. -/
def execBucketLeak (s : State) : Host.Outcome State Fault Refusal :=
  .next (if !s.awake then s
    else
      let s := (List.range s.build.banks).foldl (fun s b => s.setF (bucketF b) (s.getF (bucketF b) - 1)) s
      let half := max 1 (s.getF F.LNR_ECC_CFG.THRESH) / 2
      s.updLiner (fun n => { n with rated := n.rated.filter (fun b => decide (half < s.getF (bucketF b))) }))

/-- A stored word is read with an error: 1 corrected, 2 uncorrectable. -/
def State.wordErr (s : State) (key word r : Nat) : State :=
  if r = 2 then
    (if s.cacheWays ≤ key % 32 then s.spLost key word else if word = 32 then s.tagLost key else s.cacheLost key word)
  else s
/-- Does a scrub read a word: of the scratchpad, of a valid line, a tag entry? -/
def State.scrubReads (s : State) (key word : Nat) : Bool :=
  if s.cacheWays ≤ key % 32 then decide (word < 32)
  else word == 32 || (match s.lineAt key with | some x => x.has word | none => false)
/-- A scrub reads the line under a key; `errs` lists the words found wrong, and whether by two bits. -/
def State.scrubKey (s : State) (key : Nat) (errs : List (Nat × Bool)) : State :=
  let s := (List.range 33).foldl (fun s w => if s.scrubReads key w then
      let r := s.eccRead key w
      r.2.wordErr key w r.1 else s) s
  errs.foldl (fun s e => if !s.scrubReads key e.1 then s
    else if e.2 then s.wordErr key e.1 2 else s.corrected (key / 32 / 384)) s
/-- The key of the line a scrub comes to after `p` lines of a bank (DESIGN CHOICE, log entry 156). -/
def scrubAt (bank p : Nat) : Nat := 32 * (384 * bank + p / 32) + p % 32
/-- One line of a bank's triggered pass. -/
def State.scrubOne (s : State) (bank : Nat) (errs : List (Nat × Bool)) : State :=
  match storeGet (fun _ => 0) s.liner.trig bank with
  | 0 => s
  | p + 1 =>
    let s := s.scrubKey (scrubAt bank p) errs
    let s := if s.liner.ops.any (fun m => m.owner == 0 && m.code == 10) then s.countOp 0 F.LNR_MAINT_STAT.LINES_DONE else s
    let whole := decide (p + 1 = 12288)
    let s := s.updLiner (fun n => { n with trig := storePut (fun _ => 0) n.trig bank (if whole then 0 else p + 2) })
    if whole then s.countWrap F.LNR_ECC_CNT2.PASSES 1 else s
/-- SCRUB_LINE: 16 CCLK cycles have passed; every bank with a triggered pass reads one line. `errs` lists what is found wrong as (bank, word,
whether by two bits), word 32 for the tag entry (DESIGN CHOICE, log entry 155). -/
def execScrubLine (errs : List (Nat × Nat × Bool)) (s : State) : Host.Outcome State Fault Refusal :=
  .next (if !s.awake then s
    else ((List.range s.build.banks).foldl (fun s b => s.scrubOne b ((errs.filter (fun e => e.1 == b)).map (·.2))) s).lnRun)
/-- One tick of the background pass (DEDUCED, log entry 160). -/
def State.scrubTick (s : State) : State :=
  if s.build.bgScrub && s.flag F.LNR_ECC_CFG.SCRUB_BG then
    (List.range (max 1 (s.getF F.LNR_ECC_CFG.SCRUB_RATE))).foldl (fun s _ =>
      let p := s.liner.scrubPos
      let s := (List.range s.build.banks).foldl (fun s b => s.scrubKey (scrubAt b p) []) s
      let s := s.updLiner (fun n => { n with scrubPos := (p + 1) % 12288 })
      if p + 1 = 12288 then s.countWrap F.LNR_ECC_CNT2.PASSES s.build.banks else s) s
  else s

/-! ## The flip test and the window (R469, R495) -/

/-- A write of 1 to ARM. -/
def State.flipArm (s : State) : State := if s.flag F.LNR_FLIP_CTRL.TEST_EN then s.setF F.LNR_FLIP_CTRL.ARMED 1 else s
/-- FLIP_ARM. -/
def execFlipArm (s : State) : Host.Outcome State Fault Refusal :=
  .next (if !s.served then s
    else if s.asleep then s.holdWrite (HeldWrite.mk 0 0 0x80508 4 (s.reg 0x80508 ||| 1#64))
    else s.flipArm)

/-- A write of `width` bytes, 4 or 8, through the scratchpad window: areas 0 and 7 take it, after READ_READY. Half a word is written by
reading the word first. -/
def State.spWrite (s : State) (off width : Nat) (value : Word) : State :=
  if !s.rdReady || decide (s.spEnd ≤ off) || !(s.areaOf off == some 0 || s.areaOf off == some 7) then s
  else
    let key := s.spKey off
    let word := off / 8 % 32
    let r := if width = 8 then (0, s.setFlips (33 * key + word) (0, 0)) else s.eccRead key word
    let s := r.2
    if r.1 = 2 then s.spLost key word
    else
      let s := s.setSpWord off (if width = 8 then value
        else if off % 8 = 4 then setBits (s.spWord off) 63 32 value.toNat else setBits (s.spWord off) 31 0 value.toNat)
      if s.flag F.LNR_FLIP_CTRL.ARMED && !s.flag F.LNR_FLIP_CTRL.TARGET then
        (s.setFlips (33 * key + word) (s.getF F.LNR_FLIP_DATA.MASK, s.getF F.LNR_FLIP_CTRL.CHECK)).setF F.LNR_FLIP_CTRL.ARMED 0
      else s
/-- SP_WINDOW_WRITE: firmware writes through the scratchpad window. -/
def execSpWindowWrite (offset width : Nat) (value : Word) (s : State) : Host.Outcome State Fault Refusal :=
  .next (if !s.served || !(width == 4 || width == 8) || offset % width != 0 then s
    else if s.asleep then s.holdWrite (HeldWrite.mk 2 0 offset width value)
    else s.spWrite offset width value)

end Sys2Proof.Machine
end

