-- ==== Sys2Proof/Machine/Mover.lean ====
section
/-! DEFINITION. The Mover (chapter 14): start checks, the three loops, the buffer, the transforms, Liner maintenance for a transfer, the
completion record, abort and failures. -/

namespace Sys2Proof.Machine

/-! ## The loops (R498 to R501) -/

/-- A 32-bit step as a signed number. -/
def stepOf (v : Nat) : Int := if 2 ^ 31 ≤ v then (v : Int) - 2 ^ 32 else v
/-- A three-loop pattern: base, steps and counts. -/
structure Loops where
  base : Nat
  st : List Int
  n : List Nat
deriving DecidableEq, Repr

/-- elem_addr. -/
def Loops.addr (l : Loops) (e : Nat) : Nat :=
  let n0 := l.n.getD 0 1
  let n1 := l.n.getD 1 1
  let t := (e % n0 : Nat) * l.st.getD 0 0 + (e / n0 % n1 : Nat) * l.st.getD 1 0 + (e / (n0 * n1) : Nat) * l.st.getD 2 0
  (((l.base : Int) + t) % 2 ^ 64).toNat
/-- span: the lowest and the highest byte touched, none where the pattern leaves the address space. -/
def Loops.span (l : Loops) (len : Nat) : Option (Nat × Nat) :=
  let ts := (List.range 3).map (fun k => l.st.getD k 0 * ((l.n.getD k 1 - 1 : Nat) : Int))
  let lo := ts.foldl (fun a t => if t < 0 then a + t else a) 0
  let hi := ts.foldl (fun a t => if t < 0 then a else a + t) ((len : Int) - 1)
  if (l.base : Int) + lo < 0 ∨ 2 ^ 64 ≤ (l.base : Int) + hi then none
  else some (((l.base : Int) + lo).toNat, ((l.base : Int) + hi).toNat)

/-- The transform of a channel: 0 COPY, 1 INTERLEAVE, 2 DEINTERLEAVE, 3 BITPLANE. -/
def State.mvX (s : State) (c : Nat) : Nat := s.getF (F.MVR_MODE.XFORM c)
/-- K, or P. -/
def State.mvK (s : State) (c : Nat) : Nat := s.getF (F.MVR_MODE.K_M1 c) + 1
def State.mvElem (s : State) (c : Nat) : Nat := s.getF (F.MVR_CNT.ELEM_M1 c) + 1
/-- Source elements of a group, and output elements. -/
def State.mvGroup (s : State) (c : Nat) : Nat := if s.mvX c = 0 then 1 else s.mvK c
def State.mvOuts (s : State) (c : Nat) : Nat := if s.mvX c = 1 ∨ s.mvX c = 2 then s.mvK c else 1
/-- The output element's bytes. -/
def State.mvOutElem (s : State) (c : Nat) : Nat :=
  if s.mvX c = 3 then s.mvElem c * (if s.flag (F.MVR_MODE.PACK c) then 4 else 8) else s.mvElem c
def State.mvN0 (s : State) (c : Nat) : Nat := s.getF (F.MVR_CNT.N0_M1 c) + 1
def State.mvN1 (s : State) (c : Nat) : Nat := s.getF (F.MVR_CNT.N1_M1 c) + 1
def State.mvN2 (s : State) (c : Nat) : Nat := s.getF (F.MVR_CNT.N2_M1 c) + 1
/-- The source pattern. -/
def State.mvSrc (s : State) (c : Nat) : Loops :=
  Loops.mk (s.getF (F.MVR_SRC.ADDR c))
    [stepOf (s.getF (F.MVR_SSTEP01.S0 c)), stepOf (s.getF (F.MVR_SSTEP01.S1 c)), stepOf (s.getF (F.MVR_STEP2.S2 c))]
    [s.mvN0 c, s.mvN1 c, s.mvN2 c]
/-- The output pattern. -/
def State.mvDst (s : State) (c : Nat) : Loops :=
  Loops.mk (s.getF (F.MVR_DST.ADDR c))
    [stepOf (s.getF (F.MVR_DSTEP01.D0 c)), stepOf (s.getF (F.MVR_DSTEP01.D1 c)), stepOf (s.getF (F.MVR_STEP2.D2 c))]
    [if s.mvX c = 3 then s.mvN0 c / s.mvK c else s.mvN0 c, s.mvN1 c, s.mvN2 c]
/-- Groups of a transfer. -/
def State.mvGroups (s : State) (c : Nat) : Nat := s.mvN0 c * s.mvN1 c * s.mvN2 c / s.mvGroup c
/-- The reservation in 4-KiB units. -/
def State.mvBufq (s : State) (c : Nat) : Nat := if s.getF (F.MVR_MODE.BUFQ c) = 0 then 16 else s.getF (F.MVR_MODE.BUFQ c)

/-! ## Start checks (Table 14-1) -/

/-- The record's range; none where there is no record. -/
def State.mvRec (s : State) (c : Nat) : Option (Bool × Nat) :=
  let sp := s.flag (F.MVR_CREC.SP c)
  let a := 16 * s.getF (F.MVR_CREC.ADDR c)
  if a = 0 ∧ !sp then none else some (sp, a)
/-- Does a range meet the pin region? -/
def State.rangePin (s : State) (r : Nat × Nat) : Bool :=
  let lo := 4096 * s.getF F.PTY_PIN_BASE.BASE
  decide (r.1 < lo + 4096 * s.getF F.PTY_PIN_SIZE.PAGES) && decide (lo ≤ r.2)
/-- Does a scratchpad range lie in area 0 or in area 7? -/
def State.rangeFree (s : State) (r : Nat × Nat) : Bool :=
  s.rdReady && [0, 7].any (fun k =>
    decide (s.getF (F.LNR_SP_AREA.BASE_KIB k) * 1024 ≤ r.1) &&
    decide (r.2 < (s.getF (F.LNR_SP_AREA.BASE_KIB k) + s.getF (F.LNR_SP_AREA.SIZE_KIB k)) * 1024))
/-- Are the record's bytes where a record may be written? -/
def State.recOk (s : State) (c : Nat) : Bool :=
  match s.mvRec c with
  | some (true, a) => s.rangeFree (a, a + 15)
  | some (false, a) => !s.rangePin (a, a + 15)
  | none => true
/-- The status of the first check that fails; 0: none. -/
def State.mvCheck (s : State) (c : Nat) : Nat :=
  let x := s.mvX c
  let k := s.mvK c
  let g := 2 ^ s.getF (F.MVR_MODE.G_LOG2 c)
  let srcSp := s.flag (F.MVR_MODE.SRC_SP c)
  let dstSp := s.flag (F.MVR_MODE.DST_SP c)
  let src := (s.mvSrc c).span (s.mvElem c)
  let dst := (s.mvDst c).span (s.mvOutElem c)
  let pin (r : Option (Nat × Nat)) : Bool := r.any s.rangePin
  let pinRec := match s.mvRec c with | some (false, a) => s.rangePin (a, a + 15) | _ => false
  let badRec := match s.mvRec c with | some (true, _) => !s.recOk c | _ => false
  if 3 < x then 0x10
  else if (x = 1 ∨ x = 2) ∧ (k < 2 ∨ 4 < s.getF (F.MVR_MODE.G_LOG2 c) ∨ s.mvElem c % g ≠ 0 ∨ s.mvN0 c % k ≠ 0) then 0x10
  else if x = 3 ∧ (4 < k ∨ s.mvN0 c % k ≠ 0) then 0x10
  else if (!srcSp && pin src) || (!dstSp && pin dst) || pinRec then 0x11
  else if (srcSp && src.any (fun r => decide (s.spEnd ≤ r.2))) || (dstSp && dst.any (fun r => !s.rangeFree r)) || badRec then 0x12
  else if srcSp == dstSp && (match src, dst with | some a, some b => decide (a.1 ≤ b.2) && decide (b.1 ≤ a.2) | _, _ => false) then 0x13
  else if src.isNone || dst.isNone then 0x14
  else if 4096 * s.mvBufq c < (if x = 0 then 0 else k * s.mvElem c + (if x = 3 then s.mvOutElem c else 0)) then 0x15
  else 0

/-! ## Scratchpad bytes -/

/-- The bytes of a log entry (Table 20-3). -/
def LogEntry.bytes (e : LogEntry) : List Byte :=
  if e.lseq = 0 then List.replicate 64 0#8
  else
    let m := leBytes 8 e.lseq ++ leBytes 8 e.mtime ++ leBytes 8 e.tickno ++ leBytes 2 e.type ++ leBytes 1 e.cls ++ [0#8] ++
      (e.payload ++ List.replicate (32 - e.payload.length) 0#8)
    m ++ leBytes 4 (crc32c m).toNat
/-- A word of the scratchpad. The layouts of areas 1 to 5 are not stated: their words are free values. -/
def State.spLook (s : State) (off : Nat) : Word × State :=
  match s.areaOf off with
  | some 0 => (s.spWord off, s)
  | some 7 => (s.spWord off, s)
  | some 6 => (BitVec.ofNat 64 (field (s.logAt (s.inArea 6 off / 64)).bytes (s.inArea 6 off % 64 / 8 * 8) 8), s)
  | some _ => (BitVec.ofNat 64 s.drawn, s.draw)
  | none => (0#64, s)
/-- Reads words from `off` on: their bytes, and whether an uncorrectable error was met (DESIGN CHOICE, log entry 159). -/
def State.spWords (s : State) (off : Nat) : Nat → State × List Byte × Bool
  | 0 => (s, [], false)
  | n + 1 =>
    let key := s.spKey off
    let e := s.eccRead key (off / 8 % 32)
    let s := if e.1 = 2 then e.2.spLost key (off / 8 % 32) else e.2
    let w := s.spLook off
    let r := w.2.spWords (off + 8) n
    (r.1, leBytes 8 w.1.toNat ++ r.2.1, e.1 == 2 || r.2.2)
/-- Reads bytes of the scratchpad. -/
def State.spBytes (s : State) (off len : Nat) : State × List Byte × Bool :=
  let r := s.spWords (off / 8 * 8) ((off + len + 7) / 8 - off / 8)
  (r.1, slice r.2.1 (off % 8) len, r.2.2)
/-- Writes bytes to area 0 or 7. -/
def State.spPut (s : State) : Nat → List Byte → State
  | _, [] => s
  | off, b :: rest =>
    let i := off % 8
    let s := s.setFlips (33 * s.spKey off + off / 8 % 32) (0, 0)
    (s.setSpWord off (setBits (s.spWord off) (8 * i + 7) (8 * i) b.toNat)).spPut (off + 1) rest

/-! ## Transforms (R505, R506) -/

/-- INTERLEAVE of `k` elements of `n` bytes by granules of `g`. -/
def interleave (k n g : Nat) (m : List Byte) : List Byte :=
  ((List.range (n / g)).map (fun i => ((List.range k).map (fun e => slice m (e * n + i * g) g)).flatten)).flatten
/-- DEINTERLEAVE. -/
def deinterleave (k n g : Nat) (m : List Byte) : List Byte :=
  ((List.range k).map (fun e => (List.range n).map (fun b => m.getD ((b / g * k + e) * g + b % g) 0#8))).flatten
/-- The state code of cell `c` of `p` bit pages of `n` bytes. -/
def cellCode (p n map : Nat) (m : List Byte) (c : Nat) : Nat :=
  let r := (List.range p).foldl (fun a i => a + (m.getD (i * n + c / 8) 0#8).toNat / 2 ^ (c % 8) % 2 * 2 ^ i) 0
  map / 16 ^ r % 16
/-- BITPLANE. -/
def bitplane (p n map : Nat) (pack : Bool) (m : List Byte) : List Byte :=
  if pack then (List.range (4 * n)).map (fun k => BitVec.ofNat 8 (cellCode p n map m (2 * k) + 16 * cellCode p n map m (2 * k + 1)))
  else (List.range (8 * n)).map (fun c => BitVec.ofNat 8 (cellCode p n map m c))
/-- The output bytes of a group. -/
def State.mvApply (s : State) (c : Nat) (m : List Byte) : List Byte :=
  let k := s.mvK c
  let n := s.mvElem c
  let g := 2 ^ s.getF (F.MVR_MODE.G_LOG2 c)
  if s.mvX c = 1 then interleave k n g m else if s.mvX c = 2 then deinterleave k n g m
  else if s.mvX c = 3 then bitplane k n (s.getF (F.MVR_MAP.MAP c)) (s.flag (F.MVR_MODE.PACK c)) m else m

/-! ## Channels -/

def State.mv (s : State) (c : Nat) : MvCh := storeGet (fun _ => MvCh.idle) s.mover c
def State.setMv (s : State) (c : Nat) (x : MvCh) : State := { s with mover := storePut (fun _ => MvCh.idle) s.mover c x }
/-- Are all requests of a channel answered, or served? -/
def State.mvQuiet (s : State) (c : Nat) : Bool := !s.fab.any (fun r => r.who == FabWho.mover c && !r.under)
/-- The requests of a channel have ended. -/
def State.mvClear (s : State) (c : Nat) : State := { s with fab := s.fab.filter (fun r => r.who != FabWho.mover c) }.fabPump

/-- The group a channel is at as RESID names it; nothing where all are completed (DEDUCED, log entry 172). -/
def State.mvResid (s : State) (c : Nat) : State :=
  let e := (s.mv c).group * s.mvGroup c
  let left := decide ((s.mv c).group < s.mvGroups c)
  let n0 := s.mvN0 c
  let s := s.setFlag (F.MVR_RESID.VALID c) left
  let s := s.setF (F.MVR_RESID.I0 c) (if left then e % n0 else 0)
  let s := s.setF (F.MVR_RESID.I1 c) (if left then e / n0 % s.mvN1 c else 0)
  s.setF (F.MVR_RESID.I2 c) (if left then e / (n0 * s.mvN1 c) else 0)

/-- A transfer has ended: the channel is IDLE, its reservation free, mover-done raised where the record, if any, was written. -/
def State.mvIdle (s : State) (c : Nat) (recorded : Bool) : State :=
  let x := s.mv c
  let s := (s.setF (F.MVR_STAT.STATE c) 0).setF (F.MVR_STAT.LAST_STATUS c) x.status
  let s := (s.setMv c (MvCh.mk .idle x.group x.status false)).endMaint (2 + c)
  let s := if x.held then s.setF F.MVR_BUF.FREE (s.getF F.MVR_BUF.FREE + s.mvBufq c) else s
  if recorded && s.flag (F.MVR_MODE.IRQ c) then s.raise (Ev.moverDone c) else s
/-- A transfer ends with a status: its record is due, or it is over at once where it has none or may not be written. -/
def State.mvEnd (s : State) (c status : Nat) : State :=
  let s := (s.setMv c { s.mv c with stage := .record, status := status }).mvResid c
  if (s.mvRec c).isNone ∨ !s.recOk c then s.mvIdle c true else s
/-- The same for a channel that never ran. -/
def State.mvNone (s : State) (c status : Nat) : State := (s.setF (F.MVR_STAT.STATE c) 3).mvEnd c status

/-- Starts channel `c` (R497). -/
def State.mvStart (s : State) (c : Nat) : State :=
  if s.getF (F.MVR_STAT.STATE c) ≠ 0 ∨ s.flag F.MVR_GLOBAL.STOPPED then s
  else
    let s := (s.setF (F.MVR_DONE.BYTES c) 0).setMv c (MvCh.mk .idle 0 0 false)
    let st := s.mvCheck c
    if st ≠ 0 then s.mvNone c st
    else { s.setF (F.MVR_STAT.STATE c) 1 with moverQ := s.moverQ ++ [c] }
/-- The channels that a mask of bits names, in ascending order. -/
def maskBitsOf (mask : Nat) : List Nat := (List.range 32).filter (fun c => mask.testBit c)
/-- A write to MVR_GO. From the acceptance of a power fail nothing starts (R513) (DEDUCED, log entry 170). -/
def State.mvGo (s : State) (mask : Nat) : State := if s.pfail then s else (maskBitsOf mask).foldl (fun s c => s.mvStart c) s
/-- MOVER_GO: firmware writes MVR_GO. -/
def execMoverGo (channels : Word) (s : State) : Host.Outcome State Fault Refusal :=
  .next (if !s.served then s
    else if s.asleep then s.holdWrite (HeldWrite.mk 0 0 0x91000 4 channels)
    else s.mvGo channels.toNat)

/-- Asks for the source elements of the group a channel has come to; what lies in the scratchpad is read with the group. -/
def State.mvRead (s : State) (c : Nat) : State :=
  let x := s.mv c
  let s := s.setMv c { x with stage := .reading }
  if s.flag (F.MVR_MODE.SRC_SP c) then s
  else (List.range (s.mvGroup c)).foldl (fun s i =>
    s.fabRead (.mover c) ((s.mvSrc c).addr (x.group * s.mvGroup c + i)) (s.mvElem c)) s
/-- Maintenance of a range for a channel (R507): CLEAN_INVAL of its source, CLEAN of its destination. -/
def State.mvMaint (s : State) (c code : Nat) (r : Option (Nat × Nat)) : State :=
  let lines := s.heldLines.filter (fun l => r.any (fun a => decide (a.1 / 256 ≤ l) && decide (l ≤ a.2 / 256)))
  s.startMaint (2 + c) code lines

/-- MOVER_RESERVE: the channel queued first takes its reservation and runs; with PRE_INVAL its reads begin, at this command again where
lines must be written back first, once those are acknowledged. -/
def execMoverReserve (channel : Nat) (s : State) : Host.Outcome State Fault Refusal :=
  .next (if !s.awake || s.pfail then s
    else if s.getF (F.MVR_STAT.STATE channel) = 2 ∧ (s.mv channel).stage = .inval then
      (if s.maintOver (2 + channel) then (s.endMaint (2 + channel)).mvRead channel else s)
    else if s.moverQ.head? ≠ some channel ∨ s.flag F.MVR_GLOBAL.STOPPED ∨ s.getF F.MVR_BUF.FREE < s.mvBufq channel then s
    else
      let s : State := { s with moverQ := s.moverQ.drop 1 }
      let s := (s.setF F.MVR_BUF.FREE (s.getF F.MVR_BUF.FREE - s.mvBufq channel)).setF (F.MVR_STAT.STATE channel) 2
      let s := s.setMv channel (MvCh.mk .inval 0 0 true)
      if s.flag (F.MVR_MODE.PRE_INVAL channel) && !s.flag (F.MVR_MODE.SRC_SP channel) && s.linerOn then
        let s := s.mvMaint channel 3 ((s.mvSrc channel).span (s.mvElem channel))
        if s.maintOver (2 + channel) then (s.endMaint (2 + channel)).mvRead channel else s
      else s.mvRead channel)

/-! ## Groups (R504 to R506, R512) -/

/-- Stops a channel: nothing waiting is issued any more (R509) (DEDUCED, log entry 171). -/
def State.mvStop (s : State) (c status : Nat) : State :=
  let s := (s.setF (F.MVR_STAT.STATE c) 3).setMv c { s.mv c with stage := .stopping, status := status }
  let s : State := { s with fab := s.fab.filter (fun r => !(r.who == FabWho.mover c && r.issued.isNone)) }
  s.updLiner (fun n => { n with ops := n.ops.map (fun m => if m.owner = 2 + c then { m with todo := [] } else m) })
/-- The bytes of the group a channel has read, `m` what came from the fabric; an uncorrectable scratchpad word stops the channel. -/
def State.mvGather (s : State) (c : Nat) (m : List Byte) : State × List Byte × Bool :=
  let x := s.mv c
  if s.flag (F.MVR_MODE.SRC_SP c) then
    (List.range (s.mvGroup c)).foldl (fun (a : State × List Byte × Bool) i =>
      let r := a.1.spBytes ((s.mvSrc c).addr (x.group * s.mvGroup c + i)) (s.mvElem c)
      (r.1, a.2.1 ++ r.2.1, a.2.2 || r.2.2)) (s, [], false)
  else (s, s.readBytes (.mover c) m, false)
/-- Writes the output elements of a group in order. -/
def State.mvWrite (s : State) (c : Nat) (m : List Byte) : State :=
  let x := s.mv c
  let n := s.mvOutElem c
  (List.range (s.mvOuts c)).foldl (fun s i =>
    let a := (s.mvDst c).addr (x.group * s.mvOuts c + i)
    if s.flag (F.MVR_MODE.DST_SP c) then s.spPut a (slice m (i * n) n) else s.fabWrite (.mover c) a (slice m (i * n) n)) s
/-- What follows a completed group: the next one, or the end of the transfer. -/
def State.mvNext (s : State) (c : Nat) : State :=
  let x := s.mv c
  let s := s.mvClear c
  let s := s.setF (F.MVR_DONE.BYTES c) (s.getF (F.MVR_DONE.BYTES c) + s.mvOuts c * s.mvOutElem c)
  let s := s.setMv c { x with group := x.group + 1 }
  if x.group + 1 < s.mvGroups c then s.mvRead c
  else if s.flag (F.MVR_MODE.POST_CLEAN c) && !s.flag (F.MVR_MODE.DST_SP c) && s.linerOn then
    (s.setMv c { s.mv c with stage := .clean }).mvMaint c 1 ((s.mvDst c).span (s.mvOutElem c))
  else s.mvEnd c 0
/-- MOVER_GROUP_DONE: with `data`, the reads of a group have been answered with these bytes, and its writes are made; without, the writes
have been acknowledged, and the group is completed. -/
def execMoverGroupDone (channel : Nat) (data : Option (List Byte)) (s : State) : Host.Outcome State Fault Refusal :=
  .next (if !s.awake || s.pfail || s.getF (F.MVR_STAT.STATE channel) != 2 || !s.mvQuiet channel then s
    else match (s.mv channel).stage, data with
      | .reading, some m =>
        let r := s.mvGather channel m
        if r.2.2 then r.1.mvStop channel 5
        else
          let s := r.1.mvClear channel
          let out := s.mvApply channel r.2.1
          let s := (s.setMv channel { s.mv channel with stage := .writing }).mvWrite channel out
          if s.flag (F.MVR_MODE.DST_SP channel) then s.mvNext channel else s
      | .writing, none => s.mvNext channel
      | _, _ => s)

/-! ## The record (R508) -/

/-- The 16 bytes of the record with a value of OWN (Table 14-2). -/
def State.mvRecord (s : State) (c own : Nat) : List Byte :=
  let x := s.mv c
  leBytes 8 (s.getF (F.MVR_DONE.BYTES c)) ++ leBytes 4 (satAdd 32 (x.group * s.mvGroup c) 0) ++ leBytes 2 x.status ++ leBytes 1 c ++ leBytes 1 own
/-- MOVER_RECORD: the record is written, bytes 0 to 14 first; at the command after their acknowledge OWN and the channel is IDLE. Every
output write, and the clean of the destination, comes before. -/
def execMoverRecord (channel : Nat) (s : State) : Host.Outcome State Fault Refusal :=
  .next (if !s.awake || s.pfail then s
    else
      let x := s.mv channel
      match x.stage, s.mvRec channel with
      | .clean, _ => if s.maintOver (2 + channel) then s.mvEnd channel 0 else s
      | .record, some (true, a) => (s.spPut a (s.mvRecord channel 0)).mvIdle channel true
      | .record, some (false, a) =>
        if s.liner.merge ≠ [] then s.flushAll
        else if s.liner.merging ≠ [] then s
        else
          let s : State := { s with fab := s.fab.filter (fun r => r.who != FabWho.moverRecord channel) }
          (s.fabWrite (.moverRecord channel) a ((s.mvRecord channel 0).take 15)).setMv channel { x with stage := .first }
      | .first, some (_, a) =>
        if !s.fabOpen (.moverRecord channel) then s
        else ((s.fabAnswered (.moverRecord channel)).fabWrite (.moverRecord channel) (a + 15) [0#8]).mvIdle channel true
      | _, _ => s)

/-! ## Abort, failures, restart (R509 to R511) -/

/-- A write to MVR_ABORT. -/
def State.mvAbort (s : State) (mask : Nat) : State :=
  (maskBitsOf mask).foldl (fun s c =>
    let st := s.getF (F.MVR_STAT.STATE c)
    if st = 1 then State.mvNone { s with moverQ := s.moverQ.filter (· != c) } c 1
    else if st = 2 ∧ (s.mv c).stage ≠ .record ∧ (s.mv c).stage ≠ .first then s.mvStop c 1
    else s) s
/-- MOVER_ABORT: firmware writes MVR_ABORT. -/
def execMoverAbort (channels : Word) (s : State) : Host.Outcome State Fault Refusal :=
  .next (if !s.served then s
    else if s.asleep then s.holdWrite (HeldWrite.mk 0 0 0x91004 4 channels)
    else if s.pfail then s else s.mvAbort channels.toNat)

/-- MOVER_STOP_DONE: the accesses a stopping channel had issued have ended. -/
def execMoverStopDone (channel : Nat) (s : State) : Host.Outcome State Fault Refusal :=
  .next (if !s.awake || s.pfail || (s.mv channel).stage != .stopping || s.liner.wbuf.any (fun w => w.owner == some (2 + channel)) then s
    else (s.mvClear channel).mvEnd channel (s.mv channel).status)

/-- A fabric access of a channel failed (R510). A failed record is dropped: its channel is IDLE with the status. -/
def State.mvFail (s : State) (c addr : Nat) (timeout record : Bool) : State :=
  let st := if timeout then 4 else 2
  let s := if s.flag F.MVR_GLOBAL.STOPPED then s
    else ((((s.setF F.MVR_GLOBAL.STOPPED 1).setF F.MVR_GLOBAL.CAUSE_CH c).setFlag F.MVR_GLOBAL.TIMEOUT timeout).raise Ev.moverFabricError)
  let s := s.logWrite 0x31 3 (leBytes 8 addr ++ leBytes 1 c ++ leBytes 1 (if timeout then 2 else 1) ++ leBytes 1 (if record then 1 else 0))
  let s := (List.range 32).foldl (fun s k =>
    if k ≠ c ∧ s.getF (F.MVR_STAT.STATE k) = 2 ∧ (s.mv k).stage ≠ .record ∧ (s.mv k).stage ≠ .first then s.mvStop k 3 else s) s
  if record then (if s.getF (F.MVR_STAT.STATE c) = 0 then s else (s.setMv c { s.mv c with status := st }).mvIdle c false)
  else if s.getF (F.MVR_STAT.STATE c) = 0 then s else s.mvStop c st

/-- A write of 1 to RESTART. -/
def State.mvRestart (s : State) : State :=
  if (List.range 32).any (fun c => 2 ≤ s.getF (F.MVR_STAT.STATE c)) then s else s.setF F.MVR_GLOBAL.STOPPED 0
/-- MOVER_RESTART: firmware writes 1 to RESTART. -/
def execMoverRestart (s : State) : Host.Outcome State Fault Refusal :=
  .next (if !s.served then s
    else if s.asleep then s.holdWrite (HeldWrite.mk 0 0 0x91008 4 1#64)
    else s.mvRestart)

end Sys2Proof.Machine
end

