-- ==== Sys2Proof/Machine/Power.lean ====
section
/-! DEFINITION. Power states (chapter 19): requests for Park and Mitten, the gating of idle quads, the entry to sleep, the sources of a wake and
the opening of a sample window; the advance of MediaTime and TICKNO across a sleep. -/

namespace Sys2Proof.Machine

/-! ## MediaTime and TICKNO (R619 to R621) -/

/-- mt_advance. -/
def mtAdvance (mt acc n : Nat) : Nat × Nat := (mt + (n * 15625 + acc) / 512, (n * 15625 + acc) % 512)
/-- tick_advance. -/
def tickAdvance (tickno phase n perUs : Nat) : Nat × Nat :=
  (tickno + (phase + n * 15625) / (perUs * 512), (phase + n * 15625) % (perUs * 512))
/-- The difference of two always-on counts. -/
def aoDiff (now before : Nat) : Nat := (now + 2 ^ 48 - before) % 2 ^ 48
/-- MediaTime advances by `n` always-on counts. -/
def State.addCounts (s : State) (n : Nat) : State :=
  let r := mtAdvance (s.getF F.TCK_MTIME.MEDIATIME) (s.getF F.TCK_FRAC.ACC) n
  { (s.setF F.TCK_MTIME.MEDIATIME r.1).setF F.TCK_FRAC.ACC r.2 with subUs := 0 }
/-- The CCLK frequency in MHz (DESIGN CHOICE, log entry 17). -/
def State.cclkMhz (s : State) : Nat := max 1 (s.gp "CCLK" 0 1200)
/-- The phase of a tick, recorded at sleep entry. -/
def State.setPhase (s : State) (cycles : Nat) : State :=
  ({ s with sleep := { s.sleep with entryAo := s.aocnt } }).setF F.TCK_FRAC.PHASE (cycles * 512 / s.cclkMhz)
/-- The timebase resumes: both clocks are brought forward by the counts since it stopped. The watchdog stood still (R635). -/
def State.resumeTime (s : State) : State :=
  let n := aoDiff s.aocnt s.sleep.entryAo
  let r := tickAdvance s.tickno (s.getF F.TCK_FRAC.PHASE) n s.periodUs
  let s : State := { s with wdog := { s.wdog with lastStep := s.wdog.lastStep + (r.1 - s.tickno) } }
  ((s.addCounts n).setF F.TCK_TICKNO.TICKNO r.1)

/-! ## Requests (R613) -/

/-- Records a request: 0 cancels, 1 Park, 2 Mitten with a period in seconds. -/
def State.askSleep (s : State) (state period : Nat) : State :=
  ({ s with sleep := { s.sleep with reqPeriod := if state = 2 then period else 0 } }).setF F.PWR_STAT.PENDING state
/-- The sample period of PWR_MITTEN. -/
def State.mittenPeriod (s : State) : Nat := max 1 (s.getF F.PWR_MITTEN.PERIOD_S)
/-- A POWER entry completes once its request is recorded. -/
def State.powerEntry (s : State) (c state : Nat) : State :=
  if !s.starts c opPOWER || ent (s.ctx c).entry 32 1 != state then s
  else
    let arg := ent (s.ctx c).entry 36 4
    (s.askSleep state (if arg = 0 then s.mittenPeriod else arg)).finish c 0 0 state 0 0
/-- POWER_CANCEL. -/
def execPowerCancel (ctx : Nat) (s : State) : Host.Outcome State Fault Refusal := .next (s.powerEntry ctx 0)
/-- POWER_PARK. -/
def execPowerPark (ctx : Nat) (s : State) : Host.Outcome State Fault Refusal := .next (s.powerEntry ctx 1)
/-- POWER_MITTEN. -/
def execPowerMitten (ctx : Nat) (s : State) : Host.Outcome State Fault Refusal := .next (s.powerEntry ctx 2)

/-- A write of PWR_CTRL.REQ: 3 acts as 0 (DEDUCED, log entry 70). -/
def State.reqWrite (s : State) (v : Nat) : State :=
  let v := if v = 3 then 0 else v
  (s.setF F.PWR_CTRL.REQ v).askSleep v s.mittenPeriod
/-- The write as firmware makes it: asleep, it wakes the instance, a cancel with cause 8 (Table 19-5). -/
def State.reqFirmware (s : State) (v : Nat) : State :=
  if !s.served then s
  else if s.asleep then
    (if v = 0 then s.startWake 8 else s).holdWrite (HeldWrite.mk 0 0 0xB0300 4 (setBits (s.reg 0xB0300) 1 0 v))
  else s.reqWrite v
/-- REQ_CANCEL. -/
def execReqCancel (s : State) : Host.Outcome State Fault Refusal := .next (s.reqFirmware 0)
/-- REQ_PARK. -/
def execReqPark (s : State) : Host.Outcome State Fault Refusal := .next (s.reqFirmware 1)
/-- REQ_MITTEN. -/
def execReqMitten (s : State) : Host.Outcome State Fault Refusal := .next (s.reqFirmware 2)

/-! ## Idle (R612) -/

/-- The quads census has enabled. -/
def State.enabledQuads (s : State) : List Nat := (List.range s.build.quads).filter (fun q => s.flag (F.CHU_QUAD_CFG.ENABLED q))
/-- QUAD_GATE: a quad has been without work for IDLE_TICKS ticks; with every enabled quad gated the instance is Idle. -/
def execQuadGate (quad : Nat) (s : State) : Host.Outcome State Fault Refusal :=
  .next (if !s.awake || !s.flag F.PWR_CTRL.IDLE_EN || !s.enabledQuads.contains quad || (s.quad quad).gated ||
        decide (cnt s.sleep.quiet quad < max 1 (s.getF F.PWR_CTRL.IDLE_TICKS)) then s
    else
      let s := s.gateQuad quad true
      if s.enabledQuads.all (fun q => (s.quad q).gated) ∧ s.getF F.PWR_STAT.STATE = 0 then s.setF F.PWR_STAT.STATE 1 else s)

/-! ## Sleep entry (R606, R614, R617) -/

/-- The conditions of Table 19-4 for a request. The policy engine stands at no step boundary before WRITE_READY (DEDUCED, log entry 173). -/
def State.sleepMay (s : State) (req : Nat) : Bool :=
  s.flag F.PWR_CENSUS.WRITE_READY &&
  s.ctxs.all (fun e => e.2.state == .free || e.2.state == .tables || e.2.state == .waiting) &&
  s.dies.all (fun e => e.2.op.isNone && e.2.read.isNone) && s.cws.isEmpty &&
  (List.range 32).all (fun c => s.getF (F.MVR_STAT.STATE c) == 0) &&
  s.cfs.cur.isNone && s.cfs.op.isNone && s.cfs.appends.isEmpty &&
  s.journals.all (fun e => e.2.pend.isEmpty && e.2.flight.isEmpty) && s.erases.isEmpty &&
  s.tasks.all (fun e => e.2.progs.isEmpty && e.2.since == 0 && (e.2.kind == .rebuild || decide (e.2.stage < 2))) &&
  (req == 1 || (s.openRows.isEmpty && s.wbands.all (fun e => e.2.rows.isEmpty))) &&
  s.pair.step == 0

/-- The sentinel of a stripe set, if it has one. -/
def State.sentinelOf (s : State) (g : Nat) : Option Sentinel :=
  let d := s.sset g
  if !d.defined ∨ s.setStateCode d = 4 then none
  else
    let l := (List.range d.bands).filter (fun b => (s.band g b).state == 4)
    match l.foldl (fun (o : Option Nat) b => match o with
        | none => some b
        | some a => if s.bandAge g a < s.bandAge g b then some b else some a) none with
    | none => none
    | some b => ((List.range d.tiles).find? (fun boi => (s.readLoc g b (d.rowOf boi) (d.boiPos boi)).isSome)).map (Sentinel.mk g b)

/-- The clocks stop, with `cycles` of the tick elapsed. -/
def State.fallAsleep (s : State) (cycles : Nat) : State :=
  let req := s.getF F.PWR_STAT.PENDING
  let s := ((s.raise Ev.sleepEntered).setPhase cycles).wpLow
  let s : State := { s with sleep := { s.sleep with firstAo := s.aocnt } }
  if req = 2 then
    let l := (List.range 255).filterMap (fun g => s.sentinelOf g)
    let p := max 1 s.sleep.reqPeriod
    let s : State := { s with sleep := { s.sleep with sentinels := l, period := p, nextWindow := p * 32768, left := 0 } }
    (s.setF F.PWR_MITTEN_STAT.SENTINELS l.length).setF F.PWR_STAT.STATE 3
  else s.setF F.PWR_STAT.STATE 2

/-- SLEEP_ENTRY: at a tick boundary the conditions hold and entry begins; once every fabric request has been answered and the merge buffer is
empty, at this command or at a later one, the instance sleeps. -/
def execSleepEntry (cycles : Nat) (s : State) : Host.Outcome State Fault Refusal :=
  .next (let st := s.getF F.PWR_STAT.STATE
    let req := s.getF F.PWR_STAT.PENDING
    if !s.working || s.pfail || s.pf.due || req == 0 then s
    else if st ≤ 1 ∧ !s.sleepMay req then s
    else if st ≠ 5 ∧ 1 < st then s
    else
      let s : State := if st = 5 then s else { s.setF F.PWR_STAT.STATE 5 with sleep := { s.sleep with closing := true } }
      let s := s.flushAll
      if s.fab.all (fun r => r.issued.isNone) then s.fallAsleep cycles else s)

/-! ## Wake sources (Table 19-5) -/

/-- ALARM: the always-on count has reached PWR_ALARM.AT. -/
def execAlarm (s : State) : Host.Outcome State Fault Refusal :=
  .next (let n := s.getF F.PWR_ALARM.AT
    if s.phase = .on ∧ n ≠ 0 ∧ s.aocnt = n then s.startWake 4 else s)
/-- EPWAKE_ASSERT: EPWAKE, or an access to a BAR of the host function. -/
def execEpwakeAssert (s : State) : Host.Outcome State Fault Refusal := .next (if s.phase = .on then s.startWake 2 else s)
/-- WINDOW_ACCESS_IN_MITTEN: the access waits until the wake ends. -/
def execWindowAccessInMitten (write : Bool) (s : State) : Host.Outcome State Fault Refusal :=
  .next (if s.served && (s.mitten || (write && s.asleep)) then s.startWake 1 else s)

/-! ## Mitten sampling (R617, R618) -/

/-- Adds the codeword read of a sentinel: class B, at step 0 only. -/
def State.addSentinel (s : State) (i : Nat) (x : Sentinel) : State :=
  let d := s.sset x.set
  let p := d.pos x.boi
  let s := s.addCw (s.rowCw (.sentinel i) 2 7 0 x.set x.band p.row (d.boiPos x.boi) (p.plane * d.slots + p.slot))
  (s.climb (s.nextJob - 1) false climbFuel).1
/-- MITTEN_WINDOW: the sample period has passed; the timebase resumes, every enabled queue is polled once and the sentinels are read. -/
def execMittenWindow (s : State) : Host.Outcome State Fault Refusal :=
  .next (if !s.working || s.getF F.PWR_STAT.STATE != 3 || s.sleep.wake != 0 || decide (aoDiff s.aocnt s.sleep.firstAo < s.sleep.nextWindow) then s
    else
      let s := (s.resumeTime.setF F.PWR_STAT.STATE 4).setF F.PWR_MITTEN_STAT.WORST 0
      let l := s.sleep.sentinels
      let s : State := { s with sleep := { s.sleep with nextWindow := s.sleep.nextWindow + s.sleep.period * 32768, left := l.length } }
      let s := (storeKeys s.queues).foldl (fun s q =>
        if s.qState q = 1 ∧ !s.fab.any (fun r => r.who == .poll q) then s.fabRead (.poll q) (s.idxAddr q) 8 else s) s
      let s := (List.range l.length).foldl (fun s i => s.addSentinel i (l.getD i (Sentinel.mk 0 0 0))) s
      s.windowEnd)

end Sys2Proof.Machine
end

