-- ==== Sys2Proof/Machine/HostFn.lean ====
section
/-! DEFINITION. The direct host function (chapter 17): its resets, the query window, bus mastering, the interrupt mode and masked vectors. -/

namespace Sys2Proof.Machine

/-! ## Signals held back (R532, R573) -/

/-- Sends the message of every vector whose pending bit is set, where nothing masks or holds it. -/
def State.hostPump (s : State) : State :=
  if s.hostMode ≠ 1 ∨ s.hostBlocked ∨ s.host.fnMask then s
  else (storeKeys s.host.pba).foldl (fun s v => if (s.msix v).mask then s else (s.setPba v false).hostSignal v) s

/-! ## Resets (R576 to R578) -/

/-- The code of LAST_RESET. -/
def FnReset.code : FnReset → Nat
  | .flr => 1
  | .hot => 2
  | .linkDown => 3
/-- Queues the host may own (R256). -/
def State.hostQueues (s : State) : List Nat := (List.range 512).map (· + 512) |>.filter (fun q => s.hostOwned q)
/-- A queue is ended by a function reset: its completions are discarded, one that shuts down already included. -/
def State.resetQueue (s : State) (q : Nat) : State :=
  if s.qState q = 2 then s.setQueue q { s.queue q with discard := true } else s.stopQueue q 0x11 true
/-- A function reset begins, or joins one under way (R577, steps 1 to 3). On a fenced instance it resets configuration space and MSI-X state
alone (R593) (DEDUCED, log entry 180). -/
def State.fnReset (s : State) (k : FnReset) : State :=
  if s.phase ≠ .on ∨ !s.flag F.GLB_HFN_STATUS.PRESENT then s
  else if s.getF F.PAIR_STAT.STATE = 6 then
    ({ s with host := HostFn.zero }.setF F.GLB_HFN_STATUS.BME 0).setF F.GLB_HFN_STATUS.D3 0
  else
    let first := s.host.resets.isEmpty
    let s : State := { s with host := { s.host with resets := s.host.resets ++ [k] } }
    let s := (s.setF F.GLB_HFN_STATUS.READY 0).setF F.GLB_HFN_STATUS.LAST_RESET k.code
    if !first then s
    else
      let s := s.fabAbandon (fun w => match s.whoQueue w with | some q => s.hostOwned q | none => false)
      s.hostQueues.foldl (fun s q => s.resetQueue q) s
/-- FUNCTION_LEVEL_RESET. -/
def execFunctionLevelReset (s : State) : Host.Outcome State Fault Refusal := .next (s.fnReset .flr)
/-- HOT_RESET. -/
def execHotReset (s : State) : Host.Outcome State Fault Refusal := .next (s.fnReset .hot)
/-- LINK_DOWN. -/
def execLinkDown (s : State) : Host.Outcome State Fault Refusal := .next (s.fnReset .linkDown)

/-- Returns a queue's registers to their reset values. -/
def State.clearQueue (s : State) (q : Nat) : State :=
  let s := [0, 8, 0x10, 0x18, 0x1C, 0x20, 0x24, 0x28, 0x2C, 0x30, 0x34].foldl (fun s o =>
    s.setReg (0x40000 + 64 * q + o) (regReset s.build s.right (0x40000 + 64 * q + o))) s
  s.setQueue q Queue.zero
/-- FUNCTION_RESET_DONE: every host-owned queue is DISABLED (R577, steps 4 and 5). The function is not READY before WRITE_READY. -/
def execFunctionResetDone (s : State) : Host.Outcome State Fault Refusal :=
  .next (if s.phase ≠ .on ∨ s.host.resets = [] ∨ s.hostQueues.any (fun q => s.qState q != 0) then s
    else
      let n := s.host.resets.length
      let s := s.hostQueues.foldl (fun s q => s.clearQueue q) s
      let s := (List.range 16).foldl (fun s k => s.setReg (0x22100 + 8 * k) 0#64) s
      let s := (s.setReg 0x2010000 0#64).setReg 0x2010008 0#64
      let s : State := { s with host := HostFn.zero, evc := { s.evc with hostMods := [] } }
      let s := (s.setF F.GLB_HFN_STATUS.BME 0).setF F.GLB_HFN_STATUS.D3 0
      (s.setFlag F.GLB_HFN_STATUS.READY (s.flag F.PWR_CENSUS.WRITE_READY)).countWrap F.GLB_HFN_STATUS.RESETS n)

/-! ## The query window (R572) -/

/-- Is a page served to the host for a parameter (Table 17-4)? -/
def State.windowServes (s : State) (page param : Nat) : Bool :=
  queryParamOk page param &&
    (if page = 0x0101 ∨ page = 0x0102 then
       s.hostQueues.any (fun q => (s.getF (F.GNT_QATTR.OPCODES q)).testBit opQUERY && s.setInMask q (param % 256))
     else if page = 0x0700 then s.hostOwned param
     else page == 0x0900)
/-- A write of 1 to HF_QCTL.START (DEDUCED, log entry 183). -/
def State.queryStart (s : State) : State :=
  if s.flag F.HF_QCTL.BUSY then s
  else
    let page := s.getF F.HF_QCTL.PAGE
    let param := s.getF F.HF_QPARAM.PARAM
    let ok := s.windowServes page param
    let l := if ok then s.queryPage page param 0 else []
    ({ s with host := { s.host with window := l } }).setF F.HF_QCTL.RESULT (if ok then 1 else 2)
/-- QUERY_WINDOW_START: the host writes 1 to START; the snapshot ends within the step. A BAR access wakes a sleeping instance. -/
def execQueryWindowStart (s : State) : Host.Outcome State Fault Refusal :=
  .next (if !s.served || !s.flag F.GLB_HFN_STATUS.READY || s.fatal then s
    else if s.asleep then (s.startWake 2).holdWrite (HeldWrite.mk 1 0 0x10000 4 (s.reg 0x2010000 ||| 0x10000#64))
    else s.queryStart)

/-! ## Bus mastering, power state, interrupt mode (R573 to R575) -/

/-- BUS_MASTER_CHANGE. -/
def execBusMasterChange (bme : Bool) (s : State) : Host.Outcome State Fault Refusal :=
  .next (if s.phase ≠ .on then s else (s.setFlag F.GLB_HFN_STATUS.BME bme).fabPump.hostPump)
/-- D3_TRANSITION. -/
def execD3Transition (d3 : Bool) (s : State) : Host.Outcome State Fault Refusal :=
  .next (if s.phase ≠ .on then s else (s.setFlag F.GLB_HFN_STATUS.D3 d3).fabPump.hostPump)

/-- INTERRUPT_MODE_CHANGE: MSI-X Enable, Function Mask and Interrupt Disable are written. A change of mode clears every vector's moderation
count and the pending state of the mode left (DEDUCED, log entry 184). -/
def execInterruptModeChange (msixEnable functionMask intxDisable : Bool) (s : State) : Host.Outcome State Fault Refusal :=
  .next (if s.phase ≠ .on then s
    else
      let old := s.hostMode
      let s : State := { s with host := { s.host with msixEn := msixEnable, fnMask := functionMask, intxDis := intxDisable } }
      if s.hostMode = old then s.hostPump
      else
        let s : State := { s with evc := { s.evc with hostMods := [] } }
        let s := if old = 1 then { s with host := { s.host with pba := [] } } else s
        if old = 2 then (List.range 16).foldl (fun s k => s.setReg (0x22100 + 8 * k) 0#64) s else s)

/-- MSIX_UNMASK: the host clears the Mask bit of a vector. -/
def execMsixUnmask (vector : Nat) (s : State) : Host.Outcome State Fault Refusal :=
  .next (if s.phase ≠ .on ∨ 1024 ≤ vector ∨ !s.flag F.GLB_HFN_STATUS.PRESENT then s
    else
      State.hostPump { s with host := { s.host with
        table := storePut (fun _ => MsixEntry.reset) s.host.table vector { s.msix vector with mask := false } } })

end Sys2Proof.Machine
end

