-- ==== Sys2Proof/Machine/Pair.lean ====
section
/-! DEFINITION. The pair arbiter (R588, R589), the hand-over (R590 to R598) and the return (R600 to R602), with the fatal state that a
self-check fault leads to where no hand-over follows (R633, R634). -/

namespace Sys2Proof.Machine

/-! ## Self-check faults -/

/-- The fatal state (R634). -/
def State.enterFatal (s : State) (code unit : Nat) : State :=
  if s.fatal then s
  else
    let s := (s.setF F.GLB_FAULT_STAT.FATAL 1).setF F.GLB_FAULT_STAT.FATAL_CAUSE code
    let s := s.logWrite 0x0080 5 (leBytes 1 code ++ leBytes 1 unit)
    (s.raise Ev.faultFatal).bumpPln (fun p => { p with plans := [] })

/-- A self-check fault: on DZ3-96P CORE_OK is deasserted, and a heartbeat with FAIL goes out; elsewhere the fault is fatal (R588, R634). -/
def State.selfFault (s : State) (code unit : Nat) : State :=
  if s.phase ≠ .on ∨ s.fatal ∨ !s.pair.coreOk ∨ s.getF F.PAIR_STAT.STATE = 6 then s
  else if s.build.pair then (s.updPair (fun p => { p with coreOk := false, cause := code })).sendBeat
  else s.enterFatal code unit

/-- SELF_CHECK_FAULT: codes 1 to 4 of Table 18-3; `unit` as in a FATAL entry. -/
def execSelfCheckFault (code unit : Nat) (s : State) : Host.Outcome State Fault Refusal :=
  .next (if 1 ≤ code ∧ code ≤ 4 then s.selfFault code unit else s)
/-- YIELD: PAIR_CTRL.YIELD is written; it acts where KEY holds 0xA5. -/
def execYield (s : State) : Host.Outcome State Fault Refusal :=
  .next (if s.build.pair && s.served && s.getF F.PAIR_CTRL.KEY == 0xA5 then s.selfFault 5 0 else s)

/-! ## Heartbeats -/

/-- HEARTBEAT: what the partner says of itself, and the ACK. The partner's messages are covered up to `ack`. A partner that no longer holds
this instance's tokens has given them back (R580, R600, R601) (DEDUCED, log entry 235). -/
def execHeartbeat (tickno mtime period stage flags ack : Nat) (s : State) : Host.Outcome State Fault Refusal :=
  .next (if !s.build.pair ∨ s.phase ≠ .on then s
    else
      let s := ((s.setF F.PAIR_PEER.TICKNO tickno).setF F.PAIR_STAT.MISSED 0).setFlag F.PAIR_STAT.PARTNER_PFAIL (flags.testBit 1)
      let s := s.setFlag F.PAIR_STAT.PARTNER_CORE_OK (!flags.testBit 0)
      let s := s.updPair (fun p => { p with
        peerPeriod := some (period % 4), peerStage := stage, peerFlags := flags
        peerTime := if s.fostering then p.peerTime else mtime, ownTime := if s.fostering then p.ownTime else s.mtime
        sent := p.sent.filter (fun m => decide (2 ^ 31 ≤ (ack + 2 ^ 32 - m.mseq) % 2 ^ 32)) })
      let s := if s.tokensGone ∧ !flags.testBit 3 then
          (let s := s.setF F.PAIR_HOME.HOME s.ownQuads
           if s.getF F.PAIR_STAT.STATE = 7 then s.setF F.PAIR_STAT.STATE (if s.mirror then 1 else 2) else s)
        else s
      s.releaseHeld)

/-- HEARTBEAT_MISSED: `us` have passed since the last heartbeat (DEDUCED, log entry 234). -/
def execHeartbeatMissed (us : Nat) (s : State) : Host.Outcome State Fault Refusal :=
  .next (match s.pair.peerPeriod with
    | none => s
    | some p =>
      if !s.build.pair ∨ s.phase ≠ .on ∨ us < 4 * (p + 1) + 2 then s
      else
        let n := satAdd 8 (s.getF F.PAIR_STAT.MISSED) 1
        let s := s.setF F.PAIR_STAT.MISSED n
        if n = 4 then s.raise Ev.partnerSuspect else s)

/-! ## The failed instance (R590, step 1; R581, R593, R594) -/

/-- The fence: core logic is held in reset. The pair logic, the configuration store, the telemetry, the host function and the always-on
count stay, and with them PWR_CENSUS; the tags of what was issued advance (R632) (DEDUCED, log entry 239). -/
def State.fence (s : State) : State :=
  let s := s.fabAbandon (fun _ => true)
  let kept := s.regs.filter (fun e => decide (0x400000 ≤ e.1 ∧ e.1 < 0x400200) || decide (0x22100 ≤ e.1 ∧ e.1 < 0x22180) ||
    e.1 == F.PWR_CENSUS.STAGE.reg || e.1 == F.GLB_HFN_STATUS.READY.reg || e.1 == F.TCK_AOCNT.COUNT.reg || decide (0xA0000 ≤ e.1 ∧ e.1 < 0xB0000))
  let r : State := { State.reset with
    build := s.build, right := s.right, pending := s.pending, out := s.out, draws := s.draws, phase := .on, windowsOpen := true
    regs := kept, epochs := s.epochs, cfs := s.cfs, host := { s.host with resets := [], window := [] }, telem := s.telem
    pair := { Pair.zero with
      coreOk := false, cause := s.pair.cause, image := s.pair.image, peerPeriod := s.pair.peerPeriod, peerStage := s.pair.peerStage
      peerFlags := s.pair.peerFlags, peerTime := s.pair.peerTime, ownTime := s.pair.ownTime } }
  let r := (r.setF F.PAIR_HOME.HOME 0).setF F.PAIR_STAT.STATE 6
  ((r.setF F.PAIR_STAT.CUFF_UP 0).setF F.PAIR_STAT.MIRROR_VALID 0).setF F.GLB_HFN_STATUS.READY 0

/-! ## The shadow comes into use -/

/-- The partner's quads and dies, as their channel units hold them (DESIGN CHOICE, log entry 237). -/
def State.adoptChannels (s : State) (v : PeerView) : State :=
  let s := v.regs.foldl (fun s e => s.setReg (2 ^ 24 + e.1) e.2) s
  let s := (List.range 8).foldl (fun s g => s.setF (rgF F.PLN_RAIL_STAT.FACTOR (8 + g)) 1000) s
  let s := v.dies.foldl (fun s e => s.setPdie e.1 { Pdie.absent with family := e.2 }) s
  (List.range 96).foldl (fun s k =>
    let ch := s.chanOf (96 + k)
    let mine := v.dies.filter (fun e => pdieChannel e.1 == ch)
    if mine = [] then s
    else
      let st := s.loadStore ((List.range 16).filter (fun f => mine.any (fun e => e.2 == f))) [] [] []
      s.setChan ch { Chan.zero with ucode := st.1, places := st.2.1 }) s

/-- The partner namespace from the shadow: the base of the last resync, the journal rows after it, the level tables, FILL of the OPEN bands;
next stamp and journal place. -/
def State.buildShadow (s : State) : State :=
  let p := s.pair
  let s := s.updReplay (fun _ => Replay.zero)
  let s := p.parts.foldl (fun s e => (parseRecords e.2.length e.2).foldl (fun s r => s.replayRec 1 p.place.1 r) s) s
  let rows := p.rows.filter (fun e => decide (p.place.1 < e.1))
  let s := rows.foldl (fun s e => s.replayRow 1 (e.1, parseRecords e.2.length e.2)) s
  let s := p.levels.foldl (fun s e =>
    let v := 4096 + e.1 / 4
    let spare := e.1 / 2 % 2 == 1
    let t := (e.2.take 240).map (fun b => b.toInt)
    let x := s.lev v spare
    let x := if x.applied = [] then s.freshLevels (s.vdie v).family (s.vdieMode v) else x
    s.setLev v spare (if e.1 % 2 = 1 then { x with target := t, crcT := tableCrc t } else { x with applied := t, crcA := tableCrc t })) s
  let s := s.updReplay (fun (r : Replay) => { r with fills := p.fills.map (fun e => (e.1 / 16384, e.1 % 16384, e.2)) })
  let last := (rows.map (·.1)).foldl max p.place.1
  let rowsN := max 1 (s.sset (jset 1)).rows
  let n := p.place.2.1 * rowsN + p.place.2.2.1 + rows.length
  let hwm := max (s.journal 1).hwm p.place.2.2.2.2.2.2
  (s.setJournal 1 { s.journal 1 with
    seq := last, band := n / rowsN % 64, row := n % rowsN, rowsSince := last + 1 - p.place.2.2.2.1, bandsSince := 0, ckptSeq := p.place.2.2.2.1
    ckptBand := p.place.2.2.2.2.1, ckptRow := p.place.2.2.2.2.2.1, newBand := p.place.2.2.2.2.1, newRow := p.place.2.2.2.2.2.1, hwm := hwm
    next := hwm })

/-- Does a pdie belong to the fostered partner? -/
def State.farDie (s : State) (p : Nat) : Bool := s.pdieNs p == 1
/-- Every die of the partner in use has an operation that a STATUS is to tell of: erasing where the shadow holds an intent without its
end (R590, step 2) (DEDUCED, log entry 241). -/
def State.adoptDies (s : State) : State :=
  s.pdies.foldl (fun s e =>
    if !s.farDie e.1 ∨ e.2.cond = .absent ∨ e.2.cond = .retired then s
    else
      let erasing := s.census.replay.intents.any (fun k => k.1 == e.1)
      s.setDie e.1 { Die.idle with
        op := some (ArrayOp.mk (if erasing then .erase else .prog) false 0 255 0 0 (s.tickno + 1) s.tickno
          (s.inTicks (s.typTime e.2.family .prog false)) 0 false) }) s

/-- LIMIT for the dies of both namespaces: lowered where the result is smaller, never raised (R596). -/
def State.fosterLimit (s : State) : State :=
  let r := s.holdupCompute (s.getF F.PWR_HOLDUP.CAP_UF) (s.getF F.PWR_HOLDUP.VTOP_MV)
  if r.2 < s.getF F.PWR_HOLDUP.LIMIT then (r.1.setF F.PWR_HOLDUP.LIMIT r.2).ptyRegs else s

/-! ## HANDOVER_DECISION (R589, R590) -/

/-- Every token of the pair. -/
def allQuads : Nat := 0xFFFFFFFFFFFF
/-- May this instance be the survivor (Table 18-4)? -/
def State.mayFoster (s : State) (v : PeerView) : Bool :=
  s.pair.coreOk && !v.coreOk && !s.pfail && !s.pf.settle && !s.pf.due && !v.pfail && s.flag F.PWR_CENSUS.READ_READY && !s.fatal && s.phase == .on &&
    (s.getF F.PAIR_STAT.STATE == 1 || s.getF F.PAIR_STAT.STATE == 2)

/-- The survivor takes over; without a valid mirror the hand-over is cold (R598). -/
def State.takeOver (s : State) (v : PeerView) : State :=
  let warm := s.mirror
  let s := (s.setF F.PAIR_HOME.HOME allQuads).setF F.PAIR_STAT.STATE 4
  let s := (s.setF F.PAIR_STAT.LAST_CAUSE v.cause).setFlag F.PAIR_STAT.LAST_COLD (!warm)
  let s := s.setF F.PAIR_STAT.HANDOVERS (satAdd 16 (s.getF F.PAIR_STAT.HANDOVERS) 1)
  let s := ((s.setF F.PAIR_STAT.CUFF_UP 0).setF F.PAIR_STAT.MIRROR_VALID 0).setF F.PAIR_STAT.PARTNER_CORE_OK 0
  let s := s.setReg F.PAIR_HO_TIME.READ_US.reg 0#64
  let s := (s.updPair (fun p => { p with
    step := 1, decidedUs := s.mtime, fosterWrites := false, redo := [], sent := [], peerFlags := 1, downTick := s.tickno, recDue := false
    shadowC := if warm then p.shadowC else [] })).raise Ev.handoverStart
  let s := (s.adoptChannels v).startWake 7
  let s := if warm then (s.buildShadow).fosterLimit else s.updReplay (fun _ => Replay.zero)
  s.adoptDies.releaseHeld

/-- HANDOVER_DECISION: the arbiter has seen a CORE_OK deasserted. Of the failed instance it makes a fenced one, or, where Table 18-4 gives no
hand-over, one that keeps its quads, held with cause 5, and in the fatal state for codes 1 to 4 (DEDUCED, log entry 238). -/
def execHandoverDecision (peer : PeerView) (s : State) : Host.Outcome State Fault Refusal :=
  .next (if !s.build.pair ∨ s.phase ≠ .on ∨ s.getF F.PAIR_STAT.STATE = 6 then s
    else if !s.pair.coreOk then
      (if peer.coreOk ∧ !peer.pfail ∧ peer.ready ∧ !s.pfail ∧ !s.pf.settle ∧ !s.pf.due ∧ s.getF F.PAIR_STAT.STATE ≠ 3 ∧ !s.fostering then
         (s.setF F.PAIR_STAT.LAST_CAUSE s.pair.cause).fence
       else if s.pair.cause ≤ 4 then s.enterFatal s.pair.cause 1 else s)
    else if s.mayFoster peer then s.takeOver peer
    else s)

/-! ## HANDOVER_ABORT: steps 3 to 6 of Table 18-5, and R598 -/

/-- Passes over rows that the shadow has already: up to the first place that is unwritten or holds a later SEQ. -/
def skipRows (reads : List MediaRead) (s : State) (last : Nat) : Nat → Nat → Nat → Nat × Nat
  | 0, b, row => (b, row)
  | fuel + 1, b, row =>
    let n := s.replayNext 1 b row
    match readRow reads (s.sset (jset 1)) (s.journalLocs 1 b) row with
    | .row seq _ _ => if last < seq then (b, row) else skipRows reads s last fuel n.2.1 n.2.2
    | .invalid => skipRows reads s last fuel n.2.1 n.2.2
    | .unwritten => (b, row)

/-- Step 3: the rows after the shadow's last SEQ (DEDUCED, log entry 240). -/
def State.catchUp (s : State) (reads : List MediaRead) : State :=
  let j := s.journal 1
  let at' := skipRows reads s j.seq (64 * max 1 (s.sset (jset 1)).rows) j.band j.row
  let a := replayFrom reads 1 j.ckptSeq (ReplayAt.mk s (j.seq, []) at'.1 at'.2 false 0)
  a.st.setStamp 1 (max 1 (max (a.st.journal 1).hwm j.hwm))

/-- The cold hand-over reads the partner's journal from the record that its store port gives (DEDUCED, log entry 242). -/
def State.coldLoad (s : State) (reads : List MediaRead) (record : List Byte) : Option State :=
  let p := field record 8 2
  (s.loadJournal reads 1 (s.pdie p).family record).map (fun s =>
    ((s.updPair (fun q => { q with record := record })).setStamp 1 (max 1 (s.journal 1).hwm)).fosterLimit)

/-- PWR_RECOVERY tells of the instance's own census: what recovery of the partner namespace counts in it is undone (log entry 52). -/
def State.asRecovery (s : State) (src : Nat) (f : State → State) : State :=
  let w := s.reg F.PWR_RECOVERY.SOURCE.reg
  (f (s.setF F.PWR_RECOVERY.SOURCE src)).setReg F.PWR_RECOVERY.SOURCE.reg w

/-- Do all codewords of a page decode? -/
def pageWhole (reads : List MediaRead) (d : SetDesc) (p block page : Nat) : Bool :=
  (List.range (d.planes * d.slots)).all (fun k => (readImage reads p (k / d.slots) block page (k % d.slots)).isSome)

/-- One slot of a run whose entry has not ended (Table 18-6). -/
def State.farVoid (s : State) (reads : List MediaRead) (c : Nat) (x : ShadowCtx) (g b boi : Nat) : State :=
  let d := s.sset g
  let row := d.rowOf boi
  let pos := d.boiPos boi
  if (s.band g b).voids.contains boi ∨ (s.band g b).fill ≤ boi then s
  else
    let whole := match s.readLoc g b row pos with
      | some l => pageWhole reads d l.pdie l.block row
      | none => false
    let written := s.pageFound reads g b row pos == 2
    let parity := s.pageFound reads g b row (pPos d.w row) == 2 && (d.level == 1 || s.pageFound reads g b row (qPos d.w row) == 2)
    let s := if written && !whole && (s.readLoc g b row pos).isSome then
        s.updPair (fun p => { p with redo := if p.redo.contains (g, b, row, pos) then p.redo else p.redo ++ [(g, b, row, pos)] })
      else s
    if written && parity then
      match s.dataImage reads g b boi with
      | some img =>
        let r := d.pos boi
        (s.journalAdd 1 [jCorrection g r.d b row r.plane r.slot boi img]).voidMany g b [boi]
      | none =>
        let s := s.logWrite 0x0013 1 (leBytes 8 (bandAddr (g % 256) b boi) ++ leBytes 2 x.queue ++ leBytes 2 x.cid ++ leBytes 1 3)
        s.updPair (fun p => { p with shadowC := p.shadowC.map (fun e => if e.1 = c then (e.1, { e.2 with detail := 1 }) else e) })
    else s.voidMany g b [boi]

/-- Step 5: the voids of every open context. -/
def State.farVoids (s : State) (reads : List MediaRead) : State :=
  s.pair.shadowC.foldl (fun s e => e.2.runs.foldl (fun s r =>
    (List.range r.2.2.2).foldl (fun s i => s.farVoid reads e.1 e.2 r.1 r.2.1 (r.2.2.1 + i)) s) s) s

/-- The hand-over is done: completions of the open contexts, events, times; patrol takes the partner's pages along. -/
def State.handoverDone (s : State) : State :=
  let s := s.updPair (fun p => { p with
    step := 5, abortTick := s.tickno, shadowC := p.shadowC.map (fun e => (e.1, { e.2 with ready := true })) })
  let s := (storeKeys s.pair.shadowQ).foldl (fun s q => s.farPost q (s.farReady q)) s
  let s := (s.setF F.PAIR_HO_TIME.READ_US (min (2 ^ 32 - 1) (s.mtime - s.pair.decidedUs))).setF F.PAIR_STAT.STATE 5
  let pages := (((storeKeys s.bands).filter (fun k => decide (256 ≤ k / 16384))).map (fun k =>
    s.patrolPages (k / 16384) (k % 16384))).flatten
  let s : State := if s.patrol.running then
    { s with patrol := { s.patrol with left := s.patrol.left ++ pages, total := s.patrol.total + pages.length } } else s
  s.raise Ev.handoverDone

/-- Has an operation that the partner began still to end, or an erase of the partner's dies? -/
def State.farBusy (s : State) : Bool := s.dies.any (fun e => s.farDie e.1 && (e.2.resetPend || (match e.2.op with
  | some o => o.pass == 255 || o.kind == .reset
  | none => false)))
def State.farErasing (s : State) : Bool := s.erases.any (fun e => s.farDie e.2.pdie && e.2.use != .freeIndex)
/-- Nothing waits to be journaled for the partner namespace. -/
def State.farIdle (s : State) : Bool := (s.journal 1).flight == [] && (s.journal 1).pend == []
/-- Takes up the rebuilds of the partner namespace from their checkpoints. -/
def State.farRebuilds (s : State) (reads : List MediaRead) : State :=
  ((storeKeys s.vdies).filter (fun v => v / 4096 == 1 && (s.vdie v).mapped && (s.vdie v).state == 1)).foldl (fun s v => s.resumeRebuild reads v) s
/-- The next step. -/
def State.setStep (s : State) (n : Nat) : State := s.updPair (fun p => { p with step := n })

/-- HANDOVER_ABORT: the next step of the hand-over, once the journal changes of the step before have committed; `reads` is what its media
reads give and `record` the partner's census record, read for a cold hand-over. On the fenced instance the pair logic signals `vectors`. -/
def execHandoverAbort (reads : List MediaRead) (record : List Byte) (vectors : List Nat) (s : State) : Host.Outcome State Fault Refusal :=
  .next (let st := s.getF F.PAIR_STAT.STATE
    let cold := s.flag F.PAIR_STAT.LAST_COLD
    if !s.build.pair ∨ s.phase ≠ .on then s
    else if st = 6 then vectors.foldl (fun s v => s.hostSignal (v % 1024)) s
    else if st ≠ 4 ∨ !s.awake ∨ s.pfail then s
    else match s.pair.step with
      | 1 =>
        if cold then (match s.coldLoad reads record with | some s => s.adoptDies.setStep 2 | none => s)
        else (s.catchUp reads).setStep 2
      | 2 => if s.farBusy ∨ !s.farIdle then s else ((s.recover2 1).asRecovery 3 (fun s => s.recover3 1)).setStep 3
      | 3 =>
        if !s.farIdle ∨ (cold ∧ s.farErasing) then s
        else
          let s := s.asRecovery (if cold then 3 else 2) (fun s => (s.openBands 1).foldl (fun s e => s.recover4 reads e) s)
          (if cold then s else s.asRecovery 2 (fun s => s.farVoids reads)).setStep 4
      | 4 => if !s.farIdle then s else s.handoverDone
      | _ => s)

/-! ## FOSTER_WRITE_READY (R595) -/

/-- Restores the rows of the partner's OPEN bands by read-back and closes the bands; pages whose program failed are substituted. -/
def State.farClose (s : State) (reads : List MediaRead) : State :=
  let l := s.openBands 1
  let s := s.asRecovery 3 (fun s => l.foldl (fun s e => s.recover5 reads e) s)
  let s := if s.flag F.PAIR_STAT.LAST_COLD then s.recover7 reads 1 else s.farRebuilds reads
  let s := s.pair.redo.foldl (fun s e => (s.markPage e.1 e.2.1 e.2.2.1 e.2.2.2 3).needSubst e.1 e.2.1 e.2.2.1 e.2.2.2 0) s
  (l.foldl (fun s e => s.startClose e.1 e.2 []) (s.updPair (fun p => { p with redo := [] }))).setStep 6

/-- FOSTER_WRITE_READY: step 7 of Table 18-5; the command comes again once every partner band is CLOSED or was never OPEN. -/
def execFosterWriteReady (reads : List MediaRead) (s : State) : Host.Outcome State Fault Refusal :=
  .next (if !s.build.pair ∨ !(s.getF F.PAIR_STAT.STATE == 5 || s.getF F.PAIR_STAT.STATE == 8) ∨ !s.awake ∨ s.pfail then s
    else match s.pair.step with
      | 5 => if s.farIdle then s.farClose reads else s
      | 6 =>
        if s.openBands 1 ≠ [] ∨ !s.farIdle then s
        else
          let s := s.updPair (fun p => { p with
            step := if s.getF F.PAIR_STAT.STATE = 8 then 10 else 0, fosterWrites := true })
          (s.setF F.PAIR_HO_TIME.WRITE_US (min (2 ^ 32 - 1) (s.mtime - s.pair.decidedUs))).raise Ev.fosterWriteReady
      | _ => s)

/-- PARTNER_DROP: a partner completion that found no room for 65,536 ticks after step 6 (R592). -/
def execPartnerDrop (ctx : Nat) (s : State) : Host.Outcome State Fault Refusal :=
  .next (match s.pair.shadowC.find? (fun e => e.1 == ctx) with
    | none => s
    | some e =>
      if !e.2.ready ∨ !s.awake ∨ s.pfail ∨ s.tickno < s.pair.abortTick + 65536 then s
      else
        let s := s.logWrite 0x0041 8 (leBytes 2 e.2.queue ++ leBytes 2 e.2.cid ++ leBytes 2 0x12)
        (s.dropShadowC ctx).raise Ev.partnerDropped)

/-! ## GIVE_BACK (R600, R601) -/

/-- Is the partner, restarted, waiting for its tokens at the start of stage 3? -/
def State.peerWaits (s : State) : Bool := s.pair.peerStage == 3 && !s.pair.peerFlags.testBit 0

/-- The write of 1 to GIVE_BACK (DEDUCED, log entry 244). -/
def State.giveBack (s : State) : State :=
  if !s.build.pair ∨ s.getF F.PAIR_STAT.STATE ≠ 5 then s
  else if (storeKeys s.queues).any (fun q => s.fosterQ q && s.qState q != 0) then s.setF F.PAIR_STAT.GB_RESULT 2
  else if !s.peerWaits then s.setF F.PAIR_STAT.GB_RESULT 3
  else
    let s := s.setF F.PAIR_STAT.STATE 8
    if s.pair.step ≠ 0 then s else (s.openBands 1).foldl (fun s e => s.startClose e.1 e.2 []) (s.setStep 10)
/-- GIVE_BACK. -/
def execGiveBack (s : State) : Host.Outcome State Fault Refusal :=
  .next (if s.served && s.awake && !s.pfail then s.giveBack else s)

/-- Stops background work of the partner namespace: rebuilds write a checkpoint, re-homes are abandoned. -/
def State.farStop (s : State) : State :=
  let s := s.tasks.foldl (fun s e =>
    if e.2.set < 256 then s
    else match e.2.kind with
      | .rebuild => (((if e.2.stage = 1 then s.rebuildCkpt e.1 else s).stopTask e.1).dropTask e.1).rebuildRegs
      | .rehome _ => if e.2.stage < 2 then s.abandonRehome e.1 false else s
      | .subst => s) s
  { s with
    requeue := s.requeue.filter (fun e => decide (e.set < 256)), rebuildPend := s.rebuildPend.filter (fun v => decide (v < 4096))
    patrol := { s.patrol with left := s.patrol.left.filter (fun e => decide (e.1 < 256)) }
    bursts := s.bursts.filter (fun e => decide (e.2.vdie < 4096)) }.requeueRegs

/-- Everything of the partner namespace leaves the survivor. -/
def State.dropFar (s : State) : State :=
  { s with
    vdies := s.vdies.filter (fun e => decide (e.1 < 4096)), sets := s.sets.filter (fun e => decide (e.1 < 256))
    bands := s.bands.filter (fun e => decide (e.1 / 16384 < 256)), wbands := s.wbands.filter (fun e => decide (e.1 / 16384 < 256))
    journals := s.journals.filter (fun e => e.1 == 0), levels := s.levels.filter (fun e => decide (e.1 / 2 < 4096))
    tasks := s.tasks.filter (fun e => decide (e.2.set < 256)), cws := s.cws.filter (fun e => !s.farDie e.2.pdie)
    progs := s.progs.filter (fun e => !s.farDie e.2.pdie), erases := s.erases.filter (fun e => !s.farDie e.2.pdie)
    dies := s.dies.filter (fun e => !s.farDie e.1), pdies := s.pdies.filter (fun e => !s.farDie e.1)
    chans := s.chans.filter (fun e => decide (s.c0 ≤ e.1 ∧ e.1 < s.c0 + s.build.channels)), quads := s.quads.filter (fun e => decide (e.1 < 24))
    regs := s.regs.filter (fun e => !(decide (2 ^ 24 ≤ e.1 ∧ e.1 < 2 ^ 25)))
    pair := { s.pair with shadowC := [], shadowQ := [], rows := [], levels := [], fills := [], parts := [], step := 0, fosterWrites := false } }

/-- What a tick does for a give-back under way, and for the partner's census record. -/
def State.giveBackStep (s : State) : State :=
  if !s.build.pair ∨ s.pfail then s
  else
    let s := if s.pair.recDue ∧ s.getF F.PAIR_STAT.STATE = 5 ∧ s.pair.peerFlags.testBit 0 then
        (s.updPair (fun p => { p with recDue := false })).emit (.partnerRecord (s.censusPayload 1)) else s
    match s.pair.step with
    | 10 => if s.openBands 1 ≠ [] ∨ !s.farIdle ∨ s.farErasing ∨ s.tasks.any (fun e => decide (256 ≤ e.2.set) && (match e.2.kind with
        | .rebuild => false
        | .rehome _ => decide (2 ≤ e.2.stage)
        | .subst => true)) then s else s.farStop.setStep 11
    | 11 => if !s.farIdle ∨ s.farErasing then s else (s.startCkpt 1).setStep 12
    | 12 =>
      if !s.farIdle ∨ (s.journal 1).inCkpt ∨ s.farErasing then s
      else
        let s := s.emit (.partnerRecord (s.censusPayload 1))
        let s := (s.dropFar.setF F.PAIR_HOME.HOME s.ownQuads).setF F.PAIR_STAT.GB_RESULT 1
        (s.raise Ev.giveBackDone).sendResync
    | _ => s

end Sys2Proof.Machine
end

