-- ==== Sys2Proof/Machine/Faults.lean ====
section
/-! DEFINITION. Failed fabric accesses (R477, R629 to R632, Table 20-5) and the watchdog of the policy engine (R635 to R638). -/

namespace Sys2Proof.Machine

/-! ## What a failed access comes to (Table 20-5) -/

/-- The status of an entry that a fabric failure ends (R285). -/
def fabStatus (timeout : Bool) : Nat := if timeout then 0x51 else 0x50
/-- An entry's access failed: the entry ends with that status; one whose work is done, but not its completion, takes it over. -/
def State.entryFail (s : State) (c : Nat) (timeout : Bool) : State :=
  let x := s.ctx c
  if x.state = .free then s
  else if x.state = .ready then
    (s.setCtx c { x with status := fabStatus timeout, detail := 0, r0 := 0, r1 := 0, r2 := 0 }).stopData c
  else s.abortEntry c (fabStatus timeout)
/-- An access failed with the outcome of its requester. From the acceptance of a power fail on, queues and the Mover stand still (R441) (DEDUCED, log entry 191). -/
def State.accessFail (s : State) (who : FabWho) (addr : Nat) (timeout : Bool) : State :=
  let queueFail (q : Nat) : State := if 2 ^ 32 ≤ q ∨ s.pfail then s else s.queueError q 18 addr
  let entry (c : Nat) : State := if s.pfail then s else s.entryFail c timeout
  match who with
  | .poll q => queueFail q
  | .fetch q _ => queueFail q
  | .post q => queueFail q
  | .table c _ => entry c
  | .tileIn c _ => entry c
  | .tileOut c _ => entry c
  | .statusArray c => entry c
  | .result c => entry c
  | .members c => entry c
  | .mover c => if s.pfail then s else s.mvFail c addr timeout false
  | .moverRecord c => if s.pfail then s else s.mvFail c addr timeout true
  | .cfsBuffer => if s.cfs.op.isSome then (s.fabAbandon (· == .cfsBuffer)).cfsEnd 4 else s
  | .pinRead key => { s with pf := { s.pf with unread := key :: s.pf.unread } }
  | .pin k => s.spoilBuffers 1 [k]
  | .fill _ => s
  | .pass _ => s
  | .writeback _ => s
  | .merge _ => s

/-- The requesters that wait on a line. -/
def State.waiters (s : State) (l : Nat) : List FabWho := ((s.fab.filter (fun r => r.cached && r.lines.contains l)).map (·.who)).eraseDups
/-- No line is allocated: every request that waits on it fails (DEDUCED, log entry 195). -/
def State.lineFail (s : State) (l : Nat) (timeout : Bool) : State :=
  let who := s.waiters l
  let s : State := { s with fab := s.fab.filter (fun r => !(r.cached && r.lines.contains l)) }
  let s := match s.missOf l with
    | some m => (if m.lock then s.countOp 0 F.LNR_MAINT_STAT.LOCK_FAILS else s).setMiss (s.lnBank l) none
    | none => s
  (who.foldl (fun s w => s.accessFail w (256 * l) timeout) s).lnRun

/-- A write-back failed: its data is lost (R477) (DEDUCED, log entry 194). -/
def State.writebackFail (s : State) (l : Nat) (timeout : Bool) : State :=
  match s.liner.wbuf.find? (fun w => w.line == l) with
  | none => s
  | some w =>
    let s := s.updLiner (fun n => { n with wbuf := n.wbuf.eraseP (fun w => w.line == l) })
    let s := (s.raise Ev.linerWritebackError).logWrite 0x21 4 (leBytes 8 (256 * l))
    let s := (s.uncorrected 3 w.key 0 true 0xFF).countSat F.LNR_ECC_CNT2.UNCORR_LOST 1
    let s := s.spoilPin l
    let s := match w.owner with
      | some o => if 2 ≤ o ∧ !s.pfail then s.mvFail (o - 2) (256 * l) timeout false else s
      | none => s
    s.lnRun
/-- A merge buffer entry was not written: every access that wrote into it fails. -/
def State.mergeFail (s : State) (l : Nat) (timeout : Bool) : State :=
  let whos := ((s.liner.merging.filter (fun m => m.line == l)).map (·.whos)).flatten.eraseDups
  let s := s.updLiner (fun n => { n with merging := n.merging.eraseP (fun w => w.line == l) })
  (whos.foldl (fun s w => s.accessFail w (256 * l) timeout) s).lnRun

/-- The requester that an entry of the log names: of a line or a merge buffer entry, the first it serves (DEDUCED, log entry 193). -/
def State.logWho (s : State) : FabWho → FabWho
  | .fill l => (s.waiters l).headD (.fill l)
  | .pass l => (s.waiters l).headD (.pass l)
  | .merge l => (((s.liner.merging.filter (fun m => m.line == l)).map (·.whos)).flatten).headD (.merge l)
  | w => w
/-- The context of an access, if it is an entry's. -/
def whoCtx : FabWho → Option Nat
  | .table c _ => some c
  | .tileIn c _ => some c
  | .tileOut c _ => some c
  | .statusArray c => some c
  | .result c => some c
  | .members c => some c
  | _ => none
/-- Writes a FABRIC entry. The queue and CID of an access that has none are not stated (DEDUCED, log entry 192). -/
def State.fabricLog (s : State) (who : FabWho) (addr port tag : Nat) (timeout write : Bool) : State :=
  if who.unit = 4 then s
  else
    let q := match s.whoQueue who with | some q => q % 2 ^ 16 | none => s.drawn % 2 ^ 16
    let s := s.draw
    let cid := match whoCtx who with | some c => entCid (s.ctx c).entry | none => s.drawn % 2 ^ 16
    (s.draw).logWrite 0x30 3 (leBytes 8 addr ++ leBytes 1 port ++ leBytes 1 who.unit ++ leBytes 1 (if timeout then 2 else 1) ++
      leBytes 1 (if write then 1 else 0) ++ leBytes 2 q ++ leBytes 2 cid ++ leBytes 2 tag)

/-- Do failed accesses matter: with power, before the seal of a brown-out sequence, and not fenced? (DEDUCED, log entry 23). -/
def State.fabLive (s : State) : Bool := s.phase == .on && !s.flag F.PWR_PFAIL_STAT.SEALED && s.getF F.PAIR_STAT.STATE != 6
/-- The request under a port's tag failed (R630). In the fatal state it is counted and logged, and nothing follows (R634) (DEDUCED, log entry 190). -/
def State.fabFail (s : State) (r : FabReq) (port tag : Nat) (timeout : Bool) : State :=
  let s := if timeout then (s.bumpEpoch port tag).countSat (F.GLB_FAB_STAT.TIMEOUTS port) 1 else s.countSat (F.GLB_FAB_STAT.ERRORS port) 1
  let s := s.raise (if timeout then Ev.fabricTimeout else Ev.fabricError)
  let s := s.fabricLog (s.logWho r.who) r.addr port tag timeout r.write
  let s : State := { s with fab := s.fab.filter (fun x => !x.holds port tag) }
  if s.fatal then s
  else
    let s := match r.who with
      | .fill l => s.lineFail l timeout
      | .pass l => s.lineFail l timeout
      | .writeback l => s.writebackFail l timeout
      | .merge l => s.mergeFail l timeout
      | w => s.accessFail w r.addr timeout
    s.fabPump

/-- The request issued under a port's tag. -/
def State.reqAt (s : State) (port tag : Nat) : Option FabReq := s.fab.find? (fun r => r.holds port tag)
/-- Has its time passed: does the tick count stand at the boundary of R629? -/
def FabReq.expired (r : FabReq) (now : Nat) : Bool := r.issued.any (fun t => decide (t.tick + t.limit ≤ now))
/-- Is it a write-back? -/
def FabReq.isWriteback (r : FabReq) : Bool := match r.who with | .writeback _ => true | _ => false

/-- FABRIC_ERROR: an error response to the request under a port's tag. -/
def execFabricError (port tag : Nat) (s : State) : Host.Outcome State Fault Refusal :=
  .next (match s.reqAt port tag with
    | some r => if s.fabLive then s.fabFail r port tag false else s
    | none => s)
/-- FABRIC_TIMEOUT: at a boundary the request under a port's tag has not been answered for its timeout. -/
def execFabricTimeout (port tag : Nat) (s : State) : Host.Outcome State Fault Refusal :=
  .next (match s.reqAt port tag with
    | some r => if s.fabLive && r.expired s.tickno then s.fabFail r port tag true else s
    | none => s)
/-- WRITEBACK_ERROR: an error response to a write-back, or its timeout (R477). -/
def execWritebackError (port tag : Nat) (timeout : Bool) (s : State) : Host.Outcome State Fault Refusal :=
  .next (match s.reqAt port tag with
    | some r => if s.fabLive && r.isWriteback && (!timeout || r.expired s.tickno) then s.fabFail r port tag timeout else s
    | none => s)
/-- LATE_RESPONSE: a response whose epoch is not the tag's. -/
def execLateResponse (port tag epoch : Nat) (s : State) : Host.Outcome State Fault Refusal :=
  .next (if s.fabLive && decide (port < s.build.ports) && decide (tag < 256) && epoch % 16 != s.epoch port tag then
      s.countSat (F.GLB_FAB_STAT.LATE port) 1
    else s)

/-! ## The policy-engine watchdog -/

/-- Codeword reads leave, with their helpers. -/
def State.dropCws (s : State) (own : List Nat) : State :=
  { s with cws := s.cws.filter (fun e => !own.contains e.1 && (match e.2.use with
      | .helper p _ => !own.contains p
      | _ => true)) }
/-- A burst ends as discarded, outcome 2; its die is free from the next tick. -/
def State.discardBurst (s : State) (n : Nat) : State :=
  let t := s.burst n
  let s := s.dropCws ((s.cws.filter (fun e => match e.2.use with | .burst k _ => k == n | _ => false)).map (·.1))
  let s := s.dropBurst n
  let s := if (s.die t.pdie).burst = some n then s.setDie t.pdie { s.die t.pdie with burst := none } else s
  let x := s.lev t.vdie t.spare
  let y := x.zone t.zone
  let s := s.setLev t.vdie t.spare (x.setZone t.zone { y with outcome := 2, due := !t.search })
  match t.ctx with
  | some c =>
    let targ := (List.range 15).map (fun i => offAt x.target t.zone i)
    (s.calZone c t.zone [] targ 2 false).calNext c
  | none => s
/-- The patrol reads under way are dropped; patrol goes on at the first page of the band it was in. -/
def State.restartBand (s : State) : State :=
  let l := s.cws.filter (fun e => e.2.use == .patrol)
  let bands := (l.map (fun e => bandKey (e.2.set.getD 0) e.2.band)).eraseDups
  let next := match s.patrol.left with
    | e :: _ => if bands = [] then [bandKey e.1 e.2.1] else []
    | [] => []
  let again := bands.mergeSort (fun a b => decide (a ≤ b)) ++ next
  let pages := (again.map (fun k => s.patrolPages (k / 16384) (k % 16384))).flatten
  let s := s.dropCws (l.map (·.1))
  { s with patrol := { s.patrol with left := pages ++ s.patrol.left.filter (fun e => !again.contains (bandKey e.1 e.2.1)) } }
/-- A rebuild goes on from what the spare holds; the page it was gathering is gathered anew, one being programmed is finished. -/
def State.peRebuild (s : State) (n : Nat) : State :=
  if s.progs.any (fun e => e.2.running && (match e.2.use with | .copy t => t == n | _ => false)) then s
  else ((s.stopTask n).updTask n (fun t => { t with page := [], left := 0, progs := [] })).taskPump n
/-- A checkpoint whose end is not on its way to the journal is started again (DEDUCED, log entry 135). -/
def State.restartCkpt (s : State) (ns : Nat) : State :=
  let j := s.journal ns
  let isEnd (i : JItem) : Bool := match i.eff with | .ckptEnd _ _ => true | _ => false
  if !j.inCkpt || j.flight.any isEnd then s
  else
    let s := s.setJournal ns { j with pend := j.pend.filter (fun i => !isEnd i), inCkpt := false }
    if s.peHalted then s else s.startCkpt ns
/-- The decoder under test returns to service untested. -/
def State.endDecTest (s : State) : State :=
  match s.decs.cur with
  | none => s
  | some d =>
    let s := { s with decs := { s.decs with cur := none, again := false } }.testOver d
    match s.decs.ctx with
    | some c => (s.selfNext c).selfPump
    | none => s.selfPump

/-- Resets the policy engine (R636, R637, Table 20-7); `wait` the time in µs that it waited for a NOR operation (DEDUCED, log entry 199). -/
def State.peReset (s : State) (wait : Nat) : State :=
  let recent := s.wdog.resets.filter (fun t => decide (s.tickno < t + 1048576)) ++ [s.tickno]
  let s : State := { s with wdog := { s.wdog with resets := recent, lastStep := s.tickno, wait := none } }
  let s := (s.countSat F.GLB_WDOG_STAT.RESETS 1).setF F.GLB_WDOG_STAT.RECENT recent.length
  let s := (s.raise Ev.watchdogReset).logWrite 0x50 6 (leBytes 1 s.wdog.activity ++ leBytes 1 recent.length ++ leBytes 2 0 ++ leBytes 4 wait)
  let s := s.setFlag F.GLB_WDOG_STAT.PE_HALTED (decide (3 ≤ recent.length))
  let s := ((storeKeys s.sets).foldl (fun s g => s.abandonRehomes g) s).restartBand
  let s := (storeKeys s.bursts).foldl (fun s n => s.discardBurst n) s
  let s := s.rebuilds.foldl (fun s e => s.peRebuild e.1) s
  let s := (storeKeys s.journals).foldl (fun s ns => s.restartCkpt ns) s
  s.endDecTest

/-- Does the port run a NOR operation of the policy engine? -/
def State.peNor (s : State) : Bool :=
  s.cfs.cur == some .append && s.cfs.appends.head?.any (fun a => a.use == .block || a.use == .copy)
/-- Watchdog expiry or FORCE: in stages 4 and 5 census restarts; elsewhere the reset comes once a NOR operation of the policy engine has
ended (DEDUCED, log entry 197). -/
def State.peExpire (s : State) : State :=
  if s.peHalted || s.wdog.wait.isSome || s.stage == 15 then s
  else if s.stage = 4 ∨ s.stage = 5 then s.peMark.restartCensus
  else if s.peNor then { s with wdog := { s.wdog with wait := some s.mtime } }
  else s.peReset 0
/-- A reset that waits comes at the boundary after its NOR operation ended; an operation that has run for 2 s is cut off (R564) (DEDUCED, log entry 198). -/
def State.wdogTick (s : State) : State :=
  let recent := s.wdog.resets.filter (fun t => decide (s.tickno < t + 1048576))
  let s : State := if recent.length = s.wdog.resets.length then s
    else { s.setF F.GLB_WDOG_STAT.RECENT recent.length with wdog := { s.wdog with resets := recent } }
  match s.wdog.wait with
  | none => s
  | some t =>
    if !s.peNor then s.peReset (s.mtime - t)
    else if s.cfs.started + 2000000 ≤ s.mtime then
      ((s.norTorn.raise Ev.norTimeout).updCfs (fun c => { c with appends := c.appends.drop 1 })).norPump.peReset (s.mtime - t)
    else s

/-- Does the watchdog run: from stage 4 on, not in Park and Mitten but for sample windows? -/
def State.wdogRuns (s : State) : Bool :=
  s.working && !s.pfail && decide (4 ≤ s.stage) && (!s.asleep || s.getF F.PWR_STAT.STATE == 4 || s.getF F.PWR_STAT.STATE == 5)
/-- WATCHDOG_EXPIRE: PERIOD ticks have passed without a step boundary. -/
def execWatchdogExpire (s : State) : Host.Outcome State Fault Refusal :=
  .next (if s.wdogRuns && decide (s.wdog.lastStep + max 1024 (s.getF F.GLB_WDOG_CFG.PERIOD) ≤ s.tickno) then s.peExpire else s)
/-- A write of 1 to FORCE. -/
def State.forceWdog (s : State) : State := if s.working && !s.pfail then s.peExpire else s
/-- WATCHDOG_FORCE: the write as firmware makes it. -/
def execWatchdogForce (s : State) : Host.Outcome State Fault Refusal :=
  .next (if !s.served then s
    else if s.asleep then s.holdWrite (HeldWrite.mk 0 0 0x460 4 (s.reg 0x460 ||| 0x80000000#64))
    else s.forceWdog)

end Sys2Proof.Machine
end

