-- ==== Sys2Proof/Machine/Tick.lean ====
section
/-! DEFINITION. What happens at a tick boundary (R129, R131, R135, R151, R244, R248, R385, R408, R612) and at an edge of the always-on clock
(R619, R621). -/

namespace Sys2Proof.Machine

/-- Does the timebase emit ticks: from census stage 2 on, not while CCLK or the ticks are stopped? (DEDUCED, log entry 16). -/
def State.ticking (s : State) : Bool :=
  s.phase == .on && decide (2 ≤ s.stage) && s.getF F.PWR_STAT.STATE != 2 && s.getF F.PWR_STAT.STATE != 3

/-! ## The tick that ended -/

/-- Adapts the factor of one rail group from the samples of the tick that ended (R151). -/
def State.adaptRail (s : State) (g : Nat) : State :=
  let l := storeGet (fun _ => []) s.pln.samples g
  let s := match l with
    | [] => s
    | v :: rest => s.setF (rgF F.PLN_RAIL_STAT.MIN_MV g) (min 0xFFFF (rest.foldl min v))
  let f := s.getF (rgF F.PLN_RAIL_STAT.FACTOR g)
  if l.any (fun v => decide (s.getF (rgF F.PLN_RAIL_CFG.DROOP_MV g) + v < s.getF (rgF F.PLN_RAIL_CFG.NOMINAL_MV g))) then
    let s := s.setF (rgF F.PLN_RAIL_STAT.FACTOR g) (max (min 1000 (max 250 (s.getF F.PLN_ADAPT.FLOOR))) (f - 100))
    (s.countSat (rgF F.PLN_RAIL_STAT.DROOPS g) 1).raise (Ev.railDroop g)
  else s.setF (rgF F.PLN_RAIL_STAT.FACTOR g) (min 1000 (f + 10))
/-- The rail groups whose channels the planner plans. -/
def State.railGroups (s : State) : List Nat := List.range (if s.fostering then 16 else 8)
/-- Every factor, and the samples are done with. -/
def State.adaptRails (s : State) : State := (s.railGroups.foldl (fun s g => s.adaptRail g) s).bumpPln (fun p => { p with samples := [] })

/-- Was a quad without work in the tick that ended: no item executed on its channels, and none of its dies counted against its rail group
(R612)? (DEDUCED, log entry 201). -/
def State.quadQuiet (s : State) (q : Nat) : Bool :=
  (List.range 4).all (fun k => cnt s.pln.runItems (4 * q + k) == 0) &&
    s.dies.all (fun e => quadOf (s.homeIx e.1) != q || s.dieMa e.1 == 0)
/-- Counts the ticks without work, the ticks in range of a held quad (R178), and takes over ZQ codes that wait (R199) (DEDUCED, log entry 114). -/
def State.quadTick (s : State) (q : Nat) : State :=
  let quiet := if s.quadQuiet q then cnt s.sleep.quiet q + 1 else 0
  let s : State := { s with sleep := { s.sleep with quiet := storePut (fun _ => 0) s.sleep.quiet q quiet } }
  let x := s.quad q
  let s := if x.held then
      s.setQuad q { x with good := if s.vccqOff q (storeGet (fun _ => 0) s.telem.vccqMv q) 6 then 0 else x.good + 1 }
    else s
  match (s.quad q).zqNew with
  | some (up, down) =>
    ((s.setQuad q { s.quad q with zqNew := none }).setF (qF F.CHU_QUAD_ZQ.PULLUP q) up).setF (qF F.CHU_QUAD_ZQ.PULLDOWN q) down
  | none => s
/-- The items and cycles of the tick that ended. -/
def State.closeTick (s : State) : State :=
  let s := ((List.range s.build.quads).foldl (fun s q => s.quadTick q) s).adaptRails
  s.bumpPln (fun p => { p with lastItems := p.runItems, lastCycles := p.runCycles, runItems := [], runCycles := [] })

/-! ## The tick that starts -/

/-- Does a missing plan count as an overrun: the planner is at work, and not asleep or in the fatal state (R136, R634)? -/
def State.planDue (s : State) : Bool := s.clocked && decide (4 ≤ s.stage) && decide (s.stage < 15)
/-- The registers of what is held now, and of the current planned (PLN_HOLD, USED_MA). -/
def State.planRegs (s : State) : State :=
  let s := (List.range 3).foldl (fun s k => s.setF (F.PLN_HOLD.HELD k)
    ((List.range 32).foldl (fun m i => if cnt s.pln.hold (32 * k + i) ≠ 0 then m + 2 ^ i else m) 0)) s
  s.railGroups.foldl (fun s g => s.setF (rgF F.PLN_RAIL_STAT.USED_MA g) (min 0xFFFF (cnt s.pln.railMa g))) s
/-- The plans committed for this tick go into execution; without them every channel is held (R131, R135, R136). What was not executed of the
tick before is dropped: its planner plans it again. -/
def State.takePlans (s : State) : State :=
  if s.pln.planTick = s.tickno && s.clocked then
    (s.bumpPln (fun p => { p with exec := p.plans, hold := p.nextHold, plans := [] })).planRegs
  else
    let due := s.planDue
    let holds := s.planChans.foldl (fun (m : Store Nat) h =>
      let c : Nat := if s.fatal then (if s.build.pair then 5 else 8) else if s.holdCause h ≠ 0 then s.holdCause h else if due then 1 else 0
      storePut (fun _ => 0) m h c) []
    let s := (s.bumpPln (fun p => { p with exec := [], plans := [], hold := holds, railMa := [] })).planRegs
    if due then (s.countSat F.PLN_OVERRUNS.COUNT 1).raise Ev.planOverrun else s

/-- The consecutive ticks of a channel held with cause 3; at 131,072 it is failed (R419). -/
def State.cause3Tick (s : State) (h : Nat) : State :=
  let ch := s.chanOf h
  let c := s.chan ch
  if !(s.quad (quadOf h)).held then (if c.cause3 = 0 then s else s.setChan ch { c with cause3 := 0 })
  else
    let n := c.cause3 + 1
    let s := s.setChan ch { c with cause3 := n }
    if 131072 ≤ n ∧ !s.peHalted then s.channelFailed ch else s

/-- The work of a tick in the units that run in every tick. -/
def State.unitTick (s : State) : State :=
  let s := s.planChans.foldl (fun s h => (s.cause3Tick h).driftTrain h) s
  let s := (if s.pfail then s else s.levelApply).pumpCws.scrubTick
  let s := if s.awake && !s.pfail then s.pollTick.farPolls else s
  s.patrolTick
/-- At the boundary phase 1 of a brown-out sequence is over (Table 12-1); census that met a power fail halts when nothing runs. -/
def State.pfailTick (s : State) : State :=
  (if s.getF F.PWR_PFAIL_STAT.PHASE = 1 then s.setF F.PWR_PFAIL_STAT.PHASE 2 else s).settleCheck

/-- The boundary itself: the tick that ended is closed, the next one starts, settings written before come into force and the plans for it are
taken. -/
def State.tickOpen (s : State) : State :=
  let us := s.periodUs
  let s := s.closeTick
  let s : State := { s.setF F.TCK_TICKNO.TICKNO (s.tickno + 1) with subUs := s.subUs + us }
  s.takeLatch.pfailTick.takePlans
/-- The work at the start of a tick, of an instance that works (DEDUCED, log entry 112). -/
def State.tickWork (s : State) : State :=
  if !s.clocked || s.pf.settle then s
  else
    let s := s.unitTick
    if s.pfail then s else s.giveBackStep.wdogTick
/-- The heartbeat of a boundary on DZ3-96P: also while the instance sleeps, with the TICKNO held (R614); not from a fenced instance. -/
def State.tickBeat (s : State) : State :=
  if s.phase = .on ∧ 2 ≤ s.stage ∧ s.getF F.PAIR_STAT.STATE ≠ 6 then s.sendBeat else s
/-- TICK. -/
def execTick (s : State) : Host.Outcome State Fault Refusal := .next (if s.ticking then s.tickOpen.tickWork else s).tickBeat

/-! ## The always-on clock -/

/-- AO_EDGE: the always-on count rises in every state but Off; awake, or in a sample window, MediaTime advances with it. -/
def execAoEdge (s : State) : Host.Outcome State Fault Refusal :=
  .next (if s.phase = .off then s
    else
      let s := s.countWrap F.TCK_AOCNT.COUNT 1
      if s.phase = .on ∧ s.getF F.PWR_STAT.STATE ≠ 2 ∧ s.getF F.PWR_STAT.STATE ≠ 3 then s.addCounts 1 else s)

end Sys2Proof.Machine
end

