-- ==== Sys2Proof/Machine/Reg.lean ====
section
/-! DEFINITION. Access to the windows and BARs (R9 to R13, R20, R243, R244, R255, R256, R513, R517, R569 to R572, R577, R593, R594, R644 to R651):
what a read returns, and what a write does to each field by its access type. -/

namespace Sys2Proof.Machine

/-! ## The windows: 0 the register window, 1 BAR0, 2 the scratchpad window, 3 BAR2 -/

/-- The register that starts at an offset of a window, with its row. In BAR0 the queue registers are those of host-owned queues (R571). -/
def State.keyAt (s : State) (win off : Nat) : Option (Nat × RegRow) :=
  let key : Option Nat :=
    if win = 0 then (if off < 2 ^ 24 then some off else none)
    else if win = 1 then
      (if off = 0x1000 ∨ off = 0x1008 ∨ off = 0x10000 ∨ off = 0x10008 then some (0x2000000 + off)
       else if 0x20000 ≤ off ∧ off < 0x20080 then some (0x2100 + off)
       else if 0x40000 ≤ off ∧ off < 0x50000 ∧ s.hostOwned ((off - 0x40000) / 0x40) then some off
       else none)
    else none
  match key with
  | none => none
  | some k => (regRow s.build k).map (fun r => (k, r))

/-- What four bytes of a window hold: a 32-bit register, a half of a 64-bit register, or nothing (R12). -/
inductive Part where
  | whole (key : Nat) (row : RegRow)
  | low (key : Nat) (row : RegRow)
  | high (key : Nat) (row : RegRow)
  | nothing
deriving DecidableEq, Repr

/-- The part at a 4-byte aligned offset. -/
def State.partAt (s : State) (win off : Nat) : Part :=
  match s.keyAt win off with
  | some (k, r) => if r.width = 64 then .low k r else .whole k r
  | none =>
    if off % 8 = 4 then
      (match s.keyAt win (off - 4) with
       | some (k, r) => if r.width = 64 then .high k r else .nothing
       | none => .nothing)
    else .nothing

/-! ## What a read returns -/

/-- GLB_STATUS (R649). -/
def State.glbStatus (s : State) : Word :=
  let one (b : Bool) : Nat := if b then 1 else 0
  BitVec.ofNat 64 (s.stage * 2 ^ 28 + s.getF F.PWR_CENSUS.READ_READY * 2 ^ 27 + s.getF F.PWR_CENSUS.WRITE_READY * 2 ^ 26 +
    s.getF F.GLB_FAULT_STAT.FATAL * 2 ^ 25 + s.getF F.GLB_WDOG_STAT.PE_HALTED * 2 ^ 24 + one s.pfail * 2 ^ 23 +
    s.getF F.PWR_PFAIL_STAT.SEALED * 2 ^ 22 + s.getF F.PWR_STAT.STATE * 2 ^ 19 + one s.linerOn * 2 ^ 18 +
    s.getF F.GNT_LOCK.LOCK * 2 ^ 17 + s.getF F.GLB_HFN_STATUS.READY * 2 ^ 16 +
    (if s.build.pair then s.getF F.PAIR_STAT.STATE else 0) * 2 ^ 12)
/-- EVC_PEND `k`: a level source reads as its condition (R514). -/
def State.pendWord (s : State) (k : Nat) : Word :=
  BitVec.ofNat 64 ((List.range 64).foldl (fun n i => if s.isPending (64 * k + i) then n + 2 ^ i else n) 0)
/-- EVC_TGT_STAT of a target. -/
def State.tgtStat (s : State) (t : Nat) : Word :=
  let st := s.stack t
  let top := match st with | [] => 0x1FF | e :: _ => e.src
  BitVec.ofNat 64 (s.getF (F.EVC_TGT_STAT.FAULT t) * 2 ^ 31 + top % 512 * 2 ^ 22 + st.length % 32 * 2 ^ 17 +
    s.getF (F.EVC_TGT_STAT.IDLE t) * 2 ^ 16 + (if s.line t then 2 ^ 15 else 0) + s.getF (F.EVC_TGT_STAT.FAULTS t) * 2 ^ 5 + s.running t % 32)
/-- EVC_TGT_STACK of a target: entry 0 is the bottom one. -/
def State.tgtStack (s : State) (t : Nat) : Word :=
  let st := (s.stack t).reverse
  BitVec.ofNat 64 ((List.range 16).foldl (fun n e => n + (match st[e]? with | some x => x.prio % 16 | none => 15) * 2 ^ (4 * e)) 0)
/-- PLN_HOLD `k`: in Park and Mitten every home channel is held (R135, cause 7). -/
def State.holdWord (s : State) (k : Nat) : Word :=
  if s.getF F.PWR_STAT.STATE = 2 ∨ s.getF F.PWR_STAT.STATE = 3 then BitVec.ofNat 64 (2 ^ (min 32 (s.build.channels - 32 * k)) - 1)
  else s.reg (0xD0300 + 4 * k)
/-- HF_STATUS (DESIGN CHOICE, log entry 13). -/
def State.hfStatus (s : State) : Word :=
  let fenced := s.getF F.PAIR_STAT.STATE == 6
  BitVec.ofNat 64 ((if fenced then 0 else s.getF F.GLB_HFN_STATUS.READY) * 2 ^ 31 + s.getF F.GLB_HFN_STATUS.LAST_RESET * 2 ^ 28 +
    s.hostMode * 2 ^ 26 + (if fenced then 0 else s.hostQueues.length))
/-- HF_IDENT. -/
def State.hfIdent (s : State) : Word :=
  let l := s.hostQueues
  BitVec.ofNat 64 (s.build.code * 2 ^ 56 + (if s.right then 2 ^ 48 else 0) + 0x0300 * 2 ^ 32 +
    (l.head?.getD 0xFFFF) * 2 ^ 16 + l.getLast?.getD 0xFFFF)

/-- What the registers that mirror other state read as. -/
def State.viewKey (s : State) (key : Nat) : Word :=
  if key = 0x10 then s.glbStatus
  else if key = 0x2001000 then s.hfStatus
  else if key = 0x2001008 then s.hfIdent
  else if key = 0xB0010 then BitVec.ofNat 64 s.mtime
  else if 0x20800 ≤ key ∧ key < 0x20840 then s.pendWord ((key - 0x20800) / 8)
  else if 0x21000 ≤ key ∧ key < 0x21400 ∧ key % 0x40 = 8 then s.tgtStat ((key - 0x21000) / 0x40)
  else if 0x21000 ≤ key ∧ key < 0x21400 ∧ key % 0x40 = 0x10 then s.tgtStack ((key - 0x21000) / 0x40)
  else if 0xD0300 ≤ key ∧ key < 0xD030C then s.holdWord ((key - 0xD0300) / 4)
  else if 0x400000 ≤ key ∧ key < 0x400200 ∧ !s.build.pair then 0#64
  else s.reg key

/-- The registers a fenced instance's window still shows (R594). -/
def fencedShown : List Nat := [0, 8, 0x400008, 0x400020, 0x400028, 0xB0108]
/-- Is a register shown in a window now (R577, R593, R594, R646)? -/
def State.shown (s : State) (win key : Nat) : Bool :=
  s.phase == .on && s.windowsOpen &&
    (if win = 0 then s.getF F.PAIR_STAT.STATE != 6 || fencedShown.contains key
     else s.flag F.GLB_HFN_STATUS.PRESENT && (s.flag F.GLB_HFN_STATUS.READY || key == 0x2001000 || key == 0x2001008))
/-- The value a read of a register returns; W1P and WO fields read 0 (R9). -/
def State.readReg (s : State) (win key : Nat) (r : RegRow) : Word :=
  if s.shown win key then s.viewKey key &&& ~~~ BitVec.ofNat 64 (r.w1p ||| r.wo) else 0#64

/-- The directory (R570). The VERSION of its entries is not stated (DESIGN CHOICE, log entries 9 and 67). -/
def barDirectory : List Byte :=
  leBytes 4 0x5249445A ++ leBytes 2 1 ++ leBytes 2 4 ++
    (([(1, 0x1000, 0x1000), (2, 0x40000, 0x10000), (3, 0x10000, 0x2000), (4, 0x20000, 0x80)] : List (Nat × Nat × Nat)).map (fun e =>
      leBytes 2 e.1 ++ leBytes 2 (Config.dirVersion e.1).toNat ++ leBytes 4 0 ++ leBytes 4 e.2.1 ++ leBytes 4 e.2.2)).flatten
/-- Four bytes of BAR0 that no register occupies: the directory, the query window's data (R572) (DEDUCED, log entry 66). -/
def State.barData (s : State) (off : Nat) : Nat :=
  if off < 0x1000 then field barDirectory off 4
  else if 0x11000 ≤ off ∧ off < 0x12000 ∧ s.flag F.GLB_HFN_STATUS.READY ∧ !s.flag F.HF_QCTL.BUSY then
    field (pageBytes 4096 s.host.window) (off - 0x11000) 4
  else 0
/-- Four bytes of BAR2: the MSI-X table and the PBA (R651). -/
def State.bar2Data (s : State) (off : Nat) : Nat :=
  if off < 0x4000 then
    (let e := s.msix (off / 16)
     if off % 16 = 0 then e.addr % 2 ^ 32 else if off % 16 = 4 then e.addr / 2 ^ 32 % 2 ^ 32 else if off % 16 = 8 then e.data % 2 ^ 32
     else if e.mask then 1 else 0)
  else if off < 0x4080 then
    (List.range 32).foldl (fun n i => if s.pbaBit ((off - 0x4000) * 8 + i) then n + 2 ^ i else n) 0
  else 0

/-! ## The shadow and the held half (R13) -/

/-- What R13 holds for a requester (DESIGN CHOICE, log entry 61). -/
def State.split (s : State) (rq : Nat) : Split := storeGet (fun _ => Split.none) s.splits rq
/-- Sets it. -/
def State.setSplit (s : State) (rq : Nat) (x : Split) : State := { s with splits := storePut (fun _ => Split.none) s.splits rq x }
/-- An access to a register discards what is held of another. -/
def State.touchReg (s : State) (rq key : Nat) : State :=
  let x := s.split rq
  s.setSplit rq (Split.mk (x.shadow.filter (fun p => p.1 == key)) (x.held.filter (fun p => p.1 == key)))
/-- What a 32-bit read of the high half of a register returns to a requester (DESIGN CHOICE, log entry 19). -/
def State.readHigh (s : State) (rq win key : Nat) (r : RegRow) : Nat :=
  match (s.split rq).shadow with
  | some (k, v) => if k = key then v else (s.readReg win key r).toNat / 2 ^ 32
  | none => (s.readReg win key r).toNat / 2 ^ 32

/-- A 32-bit read: the low half of a 64-bit register takes its high half into the shadow (DEDUCED, log entry 76). -/
def State.read32 (s : State) (win rq off : Nat) : State :=
  if win = 2 then
    (if s.served && decide (off < s.spEnd) then
       (let r := s.spBytes off 4
        { r.1 with readData := leNat r.2.1 })
     else { s with readData := 0 })
  else if win = 3 then { s with readData := if s.phase = .on then s.bar2Data off else 0 }
  else
    match s.partAt win off with
    | .nothing => { s with readData := if win = 1 ∧ s.phase = .on then s.barData off else 0 }
    | .whole k r =>
      let s := s.touchReg rq k
      if win = 0 ∧ s.served ∧ 0x21000 ≤ k ∧ k < 0x21400 ∧ k % 0x40 = 0 then s.evAck ((k - 0x21000) / 0x40)
      else { s with readData := (s.readReg win k r).toNat % 2 ^ 32 }
    | .low k r =>
      let s := s.touchReg rq k
      let v := (s.readReg win k r).toNat
      { s.setSplit rq { s.split rq with shadow := some (k, v / 2 ^ 32) } with readData := v % 2 ^ 32 }
    | .high k r =>
      let s := s.touchReg rq k
      { s with readData := s.readHigh rq win k r }

/-- The cause of the wake that an access makes (Table 19-5) (DEDUCED, log entry 71). -/
def winCause (win : Nat) : Nat := if win = 1 ∨ win = 3 then 2 else 1
/-- SPLIT_READ_LOW: a 32-bit read. In Mitten it waits until the wake it makes ends; in Park a BAR access wakes too (Table 19-5). A read that is not
aligned returns 0 (R12), and so does one while BLKRST_n is asserted (R646) (DESIGN CHOICE, log entry 74). -/
def execSplitReadLow (win requester offset : Nat) (s : State) : Host.Outcome State Fault Refusal :=
  .next (if s.phase = .off then s
    else if s.phase = .held then { s with readData := 0 }
    else if s.served && s.mitten then s.startWake (winCause win)
    else
      let s := if s.served && s.asleep && winCause win == 2 then s.startWake 2 else s
      if offset % 4 ≠ 0 then { s with readData := 0 } else s.read32 win requester offset)

/-! ## Which bits a write may change -/

/-- Is this the register of a queue, and of which? -/
def queueOfKey (key : Nat) : Option Nat := if 0x40000 ≤ key ∧ key < 0x50000 then some ((key - 0x40000) / 0x40) else none
/-- The bits of RW fields that a write changes now. Fields whose write is an action of its own are left to `act` (DEDUCED, log entry 65). -/
def State.rwBits (s : State) (key : Nat) (r : RegRow) : Word :=
  let m := BitVec.ofNat 64 r.rw
  if key = 0x80400 ∧ s.build = .dz48 then m &&& ~~~ 0xF8000#64
  else if 0x20000 ≤ key ∧ key < 0x20800 then
    (if !Ev.assigned s.build.pair ((key - 0x20000) / 4) then 0#64
     else if s.flag (F.EVC_SRC_CFG.ENABLE ((key - 0x20000) / 4)) then 0x80000000#64 else m)
  else if 0x20940 ≤ key ∧ key < 0x20980 then 0xFF#64
  else if 0x40000 ≤ key ∧ key < 0x50000 then
    (let o := key % 0x40
     if (o = 0 ∨ o = 8 ∨ o = 0x10 ∨ o = 0x18 ∨ o = 0x34) ∧ s.qState ((key - 0x40000) / 0x40) ≠ 0 then 0#64 else m)
  else if 0x90000 ≤ key ∧ key < 0x91000 then (if s.getF (F.MVR_STAT.STATE ((key - 0x90000) / 0x80)) = 0 then m else 0#64)
  else if key = 0x80000 then m &&& ~~~ 1#64
  else if key = 0xB0300 then m &&& ~~~ 3#64
  else if key = 0xA0020 then 0#64
  else m
/-- The bits of RWL fields; a write of 0b10 to OWNER of a lower queue leaves it as it is (R256). -/
def rwlBits (key : Nat) (r : RegRow) (v : Word) : Word :=
  let m := BitVec.ofNat 64 r.rwl
  if 0x10400 ≤ key ∧ key < 0x10600 ∧ key % 0x20 = 0x18 then m &&& ~~~ 0x8000000000000000#64
  else if 0x12000 ≤ key ∧ key < 0x16000 ∧ key % 0x10 = 8 then
    (let m := m &&& ~~~ 0x100000000#64
     if key < 0x12000 + 16 * 512 ∧ getBits v 9 8 = 2 then m &&& ~~~ 0x300#64 else m)
  else m
/-- Do RWL fields of the register take a write now (R9, R255)? (DEDUCED, log entry 64). -/
def State.rwlOpen (s : State) (key : Nat) : Bool := !s.locked && (!(decide (0x10000 ≤ key) && decide (key < 0x20000)) || s.stage == 2)
/-- May a write reach the register at all? Queue registers by R243, R441 and R571; BAR0 while READY (R577); PAIR_ registers on DZ3-96P alone
(R579). -/
def State.writeMay (s : State) (win key : Nat) : Bool :=
  s.served && (match queueOfKey key with
    | some q => s.qWriteOk (win == 1) (key % 0x40 == 0x28) q
    | none => true) &&
    (win != 1 || s.flag F.GLB_HFN_STATUS.READY) && (s.build.pair || !(decide (0x400000 ≤ key) && decide (key < 0x400200)))

/-! ## The actions of W1C, W1P and WO fields, and of RW fields that act -/

/-- A write to WQ_CTRL: one to a host-owned queue through the window reaches SHUTDOWN and DISCARD alone (R243). DISCARD holds for a shutdown
under way (R283), but for one by a function reset (R577) (DEDUCED, log entries 72 and 73). -/
def State.ctrlWrite (s : State) (bar : Bool) (q : Nat) (v : Word) : State :=
  let s := if s.qState q = 2 ∧ (s.host.resets = [] ∨ !s.hostOwned q) then
    s.setQueue q { s.queue q with discard := s.flag (F.WQ_CTRL.DISCARD q) } else s
  if s.qState q = 0 then (if v.getLsbD 0 && (bar || !s.hostOwned q) then s.enableQueue q else s)
  else if v.getLsbD 1 then s.stopQueue q 0x10 (s.flag (F.WQ_CTRL.DISCARD q)) else s
/-- A write to CFS_CMD (Table 16-8) (DEDUCED, log entry 69). -/
def State.cfsCmd (s : State) (v : Word) : State :=
  let a := v.getLsbD 8
  match getBits v 3 0 with
  | 1 => s.cfsCommit a
  | 2 => s.cfsReadrec a
  | 3 => s.cfsUpdate a
  | 4 => s.cfsActivate a
  | 5 => s.cfsAbort a
  | 6 => s.cfsFormat a
  | 7 => s.cfsRawRead a
  | 8 => s.cfsRawProg a
  | 9 => s.cfsRawErase a
  | _ =>
    let s := s.setFlag F.CFS_CMD.ACTIVATE a
    if s.flag F.CFS_CMD.BUSY || s.pfail || s.pf.settle then s else s.cfsNow 8
/-- A write to PAIR_CTRL, once KEY has its new value. -/
def State.pairCtrl (s : State) (v : Word) : State :=
  let s := if v.getLsbD 0 ∧ s.getF F.PAIR_CTRL.KEY = 0xA5 then s.selfFault 5 0 else s
  if v.getLsbD 1 && s.awake && !s.pfail then s.giveBack else s
/-- What a write does beyond storing RW and RWL fields; `v` has the bits of the access alone, `rwl` says whether RWL fields took it. -/
def State.act (s : State) (win key : Nat) (r : RegRow) (rwl : Bool) (v : Word) : State :=
  if key = 0x10000 then (if v.getLsbD 0 && rwl && !s.pf.settle then s.lockGauntlet else s)
  else if key = 0xB0100 then
    (if !rwl ∨ s.pf.settle then s else match getBits v 2 1 with | 1 => s.slotRequest false | 2 => s.slotRequest true | _ => s)
  else if 0x20800 ≤ key ∧ key < 0x20840 then s.pendClear ((key - 0x20800) / 8) v
  else if key = 0x20880 then s.raise (v.toNat % 512)
  else if 0x21000 ≤ key ∧ key < 0x21400 ∧ key % 0x40 = 4 then s.evEoi ((key - 0x21000) / 0x40) (v.toNat % 512)
  else if 0x40000 ≤ key ∧ key < 0x50000 ∧ key % 0x40 = 0x28 then s.ctrlWrite (win == 1) ((key - 0x40000) / 0x40) v
  else if key = 0x80000 then s.linerEnable (v.getLsbD 0)
  else if key = 0x80210 then s.maintWrite (v.toNat % 16)
  else if key = 0x80508 then (if v.getLsbD 0 then s.flipArm else s)
  else if key = 0x91000 then s.mvGo (v.toNat % 2 ^ 32)
  else if key = 0x91004 then (if s.pfail then s else s.mvAbort (v.toNat % 2 ^ 32))
  else if key = 0x91008 then (if v.getLsbD 0 then s.mvRestart else s)
  else if key = 0xA0020 then s.cfsCmd v
  else if key = 0xB0200 then (if v.getLsbD 1 then s.pfailAccept true else s)
  else if key = 0xB0300 then s.reqWrite (getBits v 1 0)
  else if 0x100000 ≤ key ∧ key < 0x118000 ∧ key % 0x400 = 0x40 then
    (if v.getLsbD 1 then s.askTrain ((key - 0x100000) / 0x400) F.CHU_TRAIN_STAT.PEND_FW else s)
  else if key = 0x460 then (if v.getLsbD 31 then s.forceWdog else s)
  else if key = 0x400000 then s.pairCtrl v
  else if key = 0x2010000 then (if v.getLsbD 16 then s.queryStart else s)
  else s.setReg key (s.reg key &&& ~~~ (v &&& BitVec.ofNat 64 r.w1c))

/-! ## Writes -/

/-- A write after lock that would have changed an RWL field (R11) (DESIGN CHOICE, log entry 63). -/
def State.lockedWrite (s : State) (off width : Nat) (value : Word) : State :=
  ((s.countSat F.GLB_FAULT_STAT.LOCKED_WRITES 1).raise Ev.lockedWrite).logWrite 0x0001 9
    (leBytes 4 off ++ leBytes 1 width ++ leBytes 3 0 ++ leBytes 8 value.toNat)
/-- A write of `v` to the bits `m` of a register takes effect; `off`, `width` and `value` are the access as its log entry gives it. -/
def State.regEffect (s : State) (win key : Nat) (r : RegRow) (v m : Word) (off width : Nat) (value : Word) : State :=
  if !s.writeMay win key then s
  else
    let old := s.reg key
    let l := rwlBits key r v &&& m
    let w := if win == 0 && (match queueOfKey key with | some q => s.hostOwned q | none => false) then 4#64 else s.rwBits key r &&& m
    let rwl := s.rwlOpen key
    let s := if !rwl && (old ^^^ v) &&& l != 0#64 then s.lockedWrite off width value else s
    let b := (if rwl && key != 0x10000 then w ||| l else w)
    (s.setReg key ((old &&& ~~~ b) ||| (v &&& b))).act win key r rwl (v &&& m)

/-- A write of four bytes to a part. The low half of a register with an RW or RWL field waits for its high half (R13) (DEDUCED, log entry 62). -/
def State.write32 (s : State) (win rq off : Nat) (value : Word) : State :=
  let v := value &&& 0xFFFFFFFF#64
  match s.partAt win off with
  | .nothing => s
  | .whole k r => (s.touchReg rq k).regEffect win k r v 0xFFFFFFFF#64 off 4 v
  | .low k r =>
    let s := s.touchReg rq k
    if r.rw ≠ 0 ∨ r.rwl ≠ 0 then s.setSplit rq { s.split rq with held := some (k, v.toNat) }
    else s.regEffect win k r v 0xFFFFFFFF#64 off 4 v
  | .high k r =>
    let s := s.touchReg rq k
    let hi := v <<< 32
    match (s.split rq).held with
    | some (_, lo) =>
      (s.setSplit rq { s.split rq with held := none }).regEffect win k r (hi ||| BitVec.ofNat 64 lo) (~~~ 0#64) k 8 (hi ||| BitVec.ofNat 64 lo)
    | none => s.regEffect win k r hi (~~~ 0xFFFFFFFF#64) off 4 v
/-- A write to BAR2: the MSI-X table; unmasking a vector sends what is pending (R532) (DESIGN CHOICE, log entry 68). -/
def State.bar2Write (s : State) (off width : Nat) (value : Word) : State :=
  if 0x4000 ≤ off ∨ !s.flag F.GLB_HFN_STATUS.PRESENT then s
  else
    let e := s.msix (off / 16)
    let w := BitVec.ofNat 64
    let e : MsixEntry :=
      if width = 8 then
        (if off % 16 = 0 then { e with addr := value.toNat } else { e with data := value.toNat % 2 ^ 32, mask := value.getLsbD 32 })
      else if off % 16 = 0 then { e with addr := (setBits (w e.addr) 31 0 value.toNat).toNat }
      else if off % 16 = 4 then { e with addr := (setBits (w e.addr) 63 32 value.toNat).toNat }
      else if off % 16 = 8 then { e with data := value.toNat % 2 ^ 32 }
      else { e with mask := value.getLsbD 0 }
    State.hostPump { s with host := { s.host with table := storePut (fun _ => MsixEntry.reset) s.host.table (off / 16) e } }
/-- A write of `width` bytes to a window, as served. -/
def State.windowWrite (s : State) (h : HeldWrite) : State :=
  if s.phase ≠ .on ∨ !(h.width == 4 || h.width == 8) ∨ h.offset % h.width ≠ 0 then s
  else if h.win = 2 then (if s.served then s.spWrite h.offset h.width h.value else s)
  else if h.win = 3 then (if s.phase = .on then s.bar2Write h.offset h.width h.value else s)
  else if h.width = 4 then s.write32 h.win h.requester h.offset h.value
  else
    match s.partAt h.win h.offset with
    | .low k r => (s.touchReg h.requester k).regEffect h.win k r h.value (~~~ 0#64) h.offset 8 h.value
    | _ => (s.write32 h.win h.requester h.offset h.value).write32 h.win h.requester (h.offset + 4) (h.value >>> 32)

/-- REG_WRITE: a write to a window or BAR. Asleep, it wakes the instance and is served after wake (Table 19-3); a write of 0 to PWR_CTRL.REQ does so with
cause 8, one through a BAR with cause 2. -/
def execRegWrite (win requester offset width : Nat) (value : Word) (s : State) : Host.Outcome State Fault Refusal :=
  .next (let h := HeldWrite.mk win requester offset width value
    if s.served && s.asleep then
      (if win = 0 ∧ offset = 0xB0300 ∧ getBits value 1 0 = 0 then s.startWake 8 else s.startWake (winCause win)).holdWrite h
    else s.windowWrite h)

end Sys2Proof.Machine
end

