-- ==== Sys2Proof/Machine/Wake.lean ====
section
/-! DEFINITION. The end of a wake (R128, R188, R194, R529, R616, R618 to R620). -/

namespace Sys2Proof.Machine

/-- TICKNO and MediaTime at the edge at which a wake ends. From a sample window the timebase runs already. At a wake from Park a requested period
takes effect: TICKNO advances by whole ticks of the old one and 1, and the partial tick is not resumed (R128, R620). -/
def State.wakeTime (s : State) : State :=
  let st := s.getF F.PWR_STAT.STATE
  if st = 4 then s
  else if st = 2 ∧ s.getF F.TCK_PERIOD.PERIOD ≠ s.getF F.TCK_PERIOD.ACTIVE then
    let n := aoDiff s.aocnt s.sleep.entryAo
    let tick := s.tickno + (s.getF F.TCK_FRAC.PHASE + n * 15625) / (s.periodUs * 512) + 1
    let p := s.getF F.TCK_PERIOD.PERIOD
    let s : State := { s with wdog := { s.wdog with lastStep := s.wdog.lastStep + (tick - s.tickno) } }
    let s := (s.addCounts n).setF F.TCK_TICKNO.TICKNO tick
    (s.setF F.TCK_PERIOD.ACTIVE p).setF F.TCK_PERIOD.CYCLES (4 * (p + 1) * s.cclkMhz)
  else s.resumeTime

/-- The quads run again: clocks on, a short ZQ calibration each, WP_n high unless a brown-out sequence has lowered it; volumes and loaded offsets are
unknown, every rail factor is 1000 (DEDUCED, log entry 202). -/
def State.wakeQuads (s : State) (zq : List (Nat × Nat)) : State :=
  let l := s.enabledQuads
  let s := (List.range s.build.quads).foldl (fun s q => if (s.quad q).gated then s.gateQuad q false else s) s
  let s := (List.range l.length).foldl (fun s i =>
    let q := l.getD i 0
    let s := s.setF (F.CHU_QUAD_CFG.WP_HIGH q) 1
    match zq[i]? with
    | some (up, down) => s.zqResult q up down
    | none => s) s
  let s := s.railGroups.foldl (fun s g => s.setF (rgF F.PLN_RAIL_STAT.FACTOR g) 1000) s
  let s := (storeKeys s.chans).foldl (fun s ch => s.setChan ch { s.chan ch with vol := none }) s
  (storeKeys s.dies).foldl (fun s p => s.setDie p { s.die p with kept := none }) s

/-- Every hold-off that fell due during the sleep is released (R529). -/
def State.wakeHoldoffs (s : State) : State :=
  let s := (storeKeys s.evc.mods).foldl (fun s src =>
    let m := s.mod src
    if m.count ≠ 0 ∧ m.first + s.getF (F.EVC_GRP_CFG.HOLDOFF (src / 16)) ≤ s.tickno then s.setMod src { m with released := true } else s) s
  let s := (storeKeys s.evc.hostMods).foldl (fun s v =>
    let m := s.hostMod v
    if m.count ≠ 0 ∧ ¬ m.released ∧ m.first + s.getF F.EVC_HOST_MOD.HOLDOFF ≤ s.tickno then
      (s.setHostMod v { m with released := true }).hostSignal v else s) s
  s.evc.ackTick.foldl (fun s e =>
    match e.2 with
    | some n => if n + s.getF (F.EVC_GRP_CFG.HOLDOFF (e.1 / 16)) ≤ s.tickno then s.setAckTick (e.1 / 16) (e.1 % 16) none else s
    | none => s) s

/-- A wake ends: the instance is Active, the request is cleared, woke is raised, an acceptance that waited begins its sequence, and the writes held
are served in their order. -/
def State.wakeUp (s : State) (zq : List (Nat × Nat)) : State :=
  let window := s.getF F.PWR_STAT.STATE == 4
  let s := s.wakeTime
  let s := s.setF F.TCK_LASTSLEEP.COUNTS (aoDiff s.aocnt s.sleep.firstAo)
  let s := if window then s.countWrap F.PWR_MITTEN_STAT.WINDOWS 1 else s
  let s := (s.setF F.PWR_STAT.STATE 0).setF F.PWR_STAT.PENDING 0
  let held := s.sleep.held
  let s : State := { s with sleep := { s.sleep with closing := false, wake := 0, held := [], left := 0, sentinels := [], reqPeriod := 0 } }
  let s := ((s.wakeQuads zq).wakeHoldoffs.raise Ev.woke).pfailAtWake
  held.foldl (fun s h => s.windowWrite h) s

/-- WAKE_COMPLETE: a wake source has been met, and the entry to sleep, if it met one, has ended. -/
def execWakeComplete (zq : List (Nat × Nat)) (s : State) : Host.Outcome State Fault Refusal :=
  .next (if s.working && s.asleep && s.getF F.PWR_STAT.STATE != 5 && s.sleep.wake != 0 then s.wakeUp zq else s)

end Sys2Proof.Machine
end

