-- ==== Sys2Proof/Machine/Dispatch.lean ====
section
/-! DEFINITION. One arm per command. -/

namespace Sys2Proof.Machine

def exec (i : Instr) (s : State) : Host.Outcome State Fault Refusal :=
  match i with
  | .regWrite win requester offset width value => Sys2Proof.Machine.execRegWrite win requester offset width value s
  | .splitReadLow win requester offset => Sys2Proof.Machine.execSplitReadLow win requester offset s
  | .blockReset => Sys2Proof.Machine.execBlockReset s
  | .blockResetRelease => Sys2Proof.Machine.execBlockResetRelease s
  | .imageLoad nor => Sys2Proof.Machine.execImageLoad nor s
  | .partnerWaitTimeout => Sys2Proof.Machine.execPartnerWaitTimeout s
  | .slotReload b => Sys2Proof.Machine.execSlotReload b s
  | .romEnumerate quad vccq up down channels => Sys2Proof.Machine.execRomEnumerate quad vccq up down channels s
  | .railIdleCheck => Sys2Proof.Machine.execRailIdleCheck s
  | .gauntletLock => Sys2Proof.Machine.execGauntletLock s
  | .censusBringup quads decoders => Sys2Proof.Machine.execCensusBringup quads decoders s
  | .railLoadStep => Sys2Proof.Machine.execRailLoadStep s
  | .censusJournal reads => Sys2Proof.Machine.execCensusJournal reads s
  | .censusRecovery reads => Sys2Proof.Machine.execCensusRecovery reads s
  | .recoveryRowClose => Sys2Proof.Machine.execRecoveryRowClose s
  | .writeReady => Sys2Proof.Machine.execWriteReady s
  | .holdupLimit => Sys2Proof.Machine.execHoldupLimit s
  | .holdupTimeout => Sys2Proof.Machine.execHoldupTimeout s
  | .holdupRemeasure vtop => Sys2Proof.Machine.execHoldupRemeasure vtop s
  | .gapAssumed => Sys2Proof.Machine.execGapAssumed s
  | .censusRecordCommit => Sys2Proof.Machine.execCensusRecordCommit s
  | .tick => Sys2Proof.Machine.execTick s
  | .aoEdge => Sys2Proof.Machine.execAoEdge s
  | .planCommit => Sys2Proof.Machine.execPlanCommit s
  | .cmdItem channel rdb waits => Sys2Proof.Machine.execCmdItem channel rdb waits s
  | .mseqOverrun channel rdb waits => Sys2Proof.Machine.execMseqOverrun channel rdb waits s
  | .statusItem channel rdb waits => Sys2Proof.Machine.execStatusItem channel rdb waits s
  | .doutItem channel data rdb waits => Sys2Proof.Machine.execDoutItem channel data rdb waits s
  | .dinItem channel rdb waits => Sys2Proof.Machine.execDinItem channel rdb waits s
  | .trainItem channel dies => Sys2Proof.Machine.execTrainItem channel dies s
  | .suspendAbandon pdie => Sys2Proof.Machine.execSuspendAbandon pdie s
  | .dieTimeout pdie => Sys2Proof.Machine.execDieTimeout pdie s
  | .dieUnresponsive pdie => Sys2Proof.Machine.execDieUnresponsive pdie s
  | .telemetrySample sensor value => Sys2Proof.Machine.execTelemetrySample sensor value s
  | .vccqHoldEnd quad => Sys2Proof.Machine.execVccqHoldEnd quad s
  | .zqShortCal quad up down => Sys2Proof.Machine.execZqShortCal quad up down s
  | .trainForce channel => Sys2Proof.Machine.execTrainForce channel s
  | .queueEnable bar q => Sys2Proof.Machine.execQueueEnable bar q s
  | .queueShutdown bar q => Sys2Proof.Machine.execQueueShutdown bar q s
  | .pollResult q word => Sys2Proof.Machine.execPollResult q word s
  | .arbGrant => Sys2Proof.Machine.execArbGrant s
  | .entryFetchDone q pos entry => Sys2Proof.Machine.execEntryFetchDone q pos entry s
  | .fragmentTableFetch ctx entries => Sys2Proof.Machine.execFragmentTableFetch ctx entries s
  | .entryAdmit ctx => Sys2Proof.Machine.execEntryAdmit ctx s
  | .completionPost ctx => Sys2Proof.Machine.execCompletionPost ctx s
  | .read ctx => Sys2Proof.Machine.execRead ctx s
  | .readResolve ctx => Sys2Proof.Machine.execReadResolve ctx s
  | .decodeDone cw iter out => Sys2Proof.Machine.execDecodeDone cw iter out s
  | .write ctx => Sys2Proof.Machine.execWrite ctx s
  | .tileIntakeDone ctx tiles => Sys2Proof.Machine.execTileIntakeDone ctx tiles s
  | .placement ctx => Sys2Proof.Machine.execPlacement ctx s
  | .substitution => Sys2Proof.Machine.execSubstitution s
  | .journalCheckpoint => Sys2Proof.Machine.execJournalCheckpoint s
  | .eraseBand ctx => Sys2Proof.Machine.execEraseBand ctx s
  | .eraseStart => Sys2Proof.Machine.execEraseStart s
  | .eraseSignatureCheck zeros => Sys2Proof.Machine.execEraseSignatureCheck zeros s
  | .copyMedia ctx => Sys2Proof.Machine.execCopyMedia ctx s
  | .copyMemory ctx => Sys2Proof.Machine.execCopyMemory ctx s
  | .readRawMode0 ctx => Sys2Proof.Machine.execReadRawMode0 ctx s
  | .readRawMode1 ctx => Sys2Proof.Machine.execReadRawMode1 ctx s
  | .readRawMode2 ctx => Sys2Proof.Machine.execReadRawMode2 ctx s
  | .scrubRange ctx => Sys2Proof.Machine.execScrubRange ctx s
  | .calibrateSample ctx => Sys2Proof.Machine.execCalibrateSample ctx s
  | .calibrateSearch ctx => Sys2Proof.Machine.execCalibrateSearch ctx s
  | .calibrateReset ctx => Sys2Proof.Machine.execCalibrateReset ctx s
  | .selfTestHard ctx => Sys2Proof.Machine.execSelfTestHard ctx s
  | .selfTestSoft ctx => Sys2Proof.Machine.execSelfTestSoft ctx s
  | .bandOpen ctx => Sys2Proof.Machine.execBandOpen ctx s
  | .bandClose ctx => Sys2Proof.Machine.execBandClose ctx s
  | .fenceQueue ctx => Sys2Proof.Machine.execFenceQueue ctx s
  | .fenceOwner ctx => Sys2Proof.Machine.execFenceOwner ctx s
  | .queryVdieMap ctx => Sys2Proof.Machine.execQueryVdieMap ctx s
  | .querySet ctx => Sys2Proof.Machine.execQuerySet ctx s
  | .queryBand ctx => Sys2Proof.Machine.execQueryBand ctx s
  | .querySpares ctx => Sys2Proof.Machine.execQuerySpares ctx s
  | .queryPlanner ctx => Sys2Proof.Machine.execQueryPlanner ctx s
  | .queryQueue ctx => Sys2Proof.Machine.execQueryQueue ctx s
  | .queryDecoder ctx => Sys2Proof.Machine.execQueryDecoder ctx s
  | .queryChannelRead ctx => Sys2Proof.Machine.execQueryChannelRead ctx s
  | .queryLevels ctx => Sys2Proof.Machine.execQueryLevels ctx s
  | .queryLlr ctx => Sys2Proof.Machine.execQueryLlr ctx s
  | .queryPatrol ctx => Sys2Proof.Machine.execQueryPatrol ctx s
  | .queryPartnerPlan ctx => Sys2Proof.Machine.execQueryPartnerPlan ctx s
  | .queryTelemetry ctx => Sys2Proof.Machine.execQueryTelemetry ctx s
  | .setTime ctx => Sys2Proof.Machine.execSetTime ctx s
  | .vdieRetire ctx => Sys2Proof.Machine.execVdieRetire ctx s
  | .vdieRebuild ctx => Sys2Proof.Machine.execVdieRebuild ctx s
  | .vdieAddSpare ctx => Sys2Proof.Machine.execVdieAddSpare ctx s
  | .setDefine ctx members => Sys2Proof.Machine.execSetDefine ctx members s
  | .setDelete ctx => Sys2Proof.Machine.execSetDelete ctx s
  | .powerCancel ctx => Sys2Proof.Machine.execPowerCancel ctx s
  | .powerPark ctx => Sys2Proof.Machine.execPowerPark ctx s
  | .powerMitten ctx => Sys2Proof.Machine.execPowerMitten ctx s
  | .reqCancel => Sys2Proof.Machine.execReqCancel s
  | .reqPark => Sys2Proof.Machine.execReqPark s
  | .reqMitten => Sys2Proof.Machine.execReqMitten s
  | .decoderTest => Sys2Proof.Machine.execDecoderTest s
  | .decoderTestDone pass => Sys2Proof.Machine.execDecoderTestDone pass s
  | .levelSample => Sys2Proof.Machine.execLevelSample s
  | .valleySearch => Sys2Proof.Machine.execValleySearch s
  | .tableScan => Sys2Proof.Machine.execTableScan s
  | .patrolPassEnd => Sys2Proof.Machine.execPatrolPassEnd s
  | .rehomeStart => Sys2Proof.Machine.execRehomeStart s
  | .rehomeRelease => Sys2Proof.Machine.execRehomeRelease s
  | .rebuildStart => Sys2Proof.Machine.execRebuildStart s
  | .powerFailAccept cycles => Sys2Proof.Machine.execPowerFailAccept cycles s
  | .pfailGlitch cycles => Sys2Proof.Machine.execPfailGlitch cycles s
  | .pfailDrill => Sys2Proof.Machine.execPfailDrill s
  | .brownoutDrainEnd => Sys2Proof.Machine.execBrownoutDrainEnd s
  | .brownoutShelterEnd => Sys2Proof.Machine.execBrownoutShelterEnd s
  | .powerRestored => Sys2Proof.Machine.execPowerRestored s
  | .thermAssert cycles => Sys2Proof.Machine.execThermAssert cycles s
  | .thermDeassert cycles => Sys2Proof.Machine.execThermDeassert cycles s
  | .thermGlitch cycles => Sys2Proof.Machine.execThermGlitch cycles s
  | .lineFillDone line bytes => Sys2Proof.Machine.execLineFillDone line bytes s
  | .prefetchFillDone line bytes => Sys2Proof.Machine.execPrefetchFillDone line bytes s
  | .writebackDone port tag => Sys2Proof.Machine.execWritebackDone port tag s
  | .writebackError port tag timeout => Sys2Proof.Machine.execWritebackError port tag timeout s
  | .mergeFlush line => Sys2Proof.Machine.execMergeFlush line s
  | .bucketLeak => Sys2Proof.Machine.execBucketLeak s
  | .scrubLine errs => Sys2Proof.Machine.execScrubLine errs s
  | .clean => Sys2Proof.Machine.execClean s
  | .inval => Sys2Proof.Machine.execInval s
  | .cleanInval => Sys2Proof.Machine.execCleanInval s
  | .zero => Sys2Proof.Machine.execZero s
  | .lock => Sys2Proof.Machine.execLock s
  | .unlock => Sys2Proof.Machine.execUnlock s
  | .cleanAll => Sys2Proof.Machine.execCleanAll s
  | .cleanInvalAll => Sys2Proof.Machine.execCleanInvalAll s
  | .unlockAll => Sys2Proof.Machine.execUnlockAll s
  | .scrub => Sys2Proof.Machine.execScrub s
  | .maintDone => Sys2Proof.Machine.execMaintDone s
  | .linerDisable => Sys2Proof.Machine.execLinerDisable s
  | .linerDisabled => Sys2Proof.Machine.execLinerDisabled s
  | .linerEnable => Sys2Proof.Machine.execLinerEnable s
  | .flipArm => Sys2Proof.Machine.execFlipArm s
  | .spWindowWrite offset width value => Sys2Proof.Machine.execSpWindowWrite offset width value s
  | .moverGo channels => Sys2Proof.Machine.execMoverGo channels s
  | .moverReserve channel => Sys2Proof.Machine.execMoverReserve channel s
  | .moverGroupDone channel data => Sys2Proof.Machine.execMoverGroupDone channel data s
  | .moverRecord channel => Sys2Proof.Machine.execMoverRecord channel s
  | .moverAbort channels => Sys2Proof.Machine.execMoverAbort channels s
  | .moverStopDone channel => Sys2Proof.Machine.execMoverStopDone channel s
  | .moverRestart => Sys2Proof.Machine.execMoverRestart s
  | .fabricError port tag => Sys2Proof.Machine.execFabricError port tag s
  | .fabricTimeout port tag => Sys2Proof.Machine.execFabricTimeout port tag s
  | .lateResponse port tag epoch => Sys2Proof.Machine.execLateResponse port tag epoch s
  | .eventAck target => Sys2Proof.Machine.execEventAck target s
  | .eventEoi target source => Sys2Proof.Machine.execEventEoi target source s
  | .evcSet source => Sys2Proof.Machine.execEvcSet source s
  | .evcPendClear k mask => Sys2Proof.Machine.execEvcPendClear k mask s
  | .moderationRelease host source => Sys2Proof.Machine.execModerationRelease host source s
  | .statusHoldoffEnd group target => Sys2Proof.Machine.execStatusHoldoffEnd group target s
  | .coreIdleAssert target => Sys2Proof.Machine.execCoreIdleAssert target s
  | .commit activate => Sys2Proof.Machine.execCommit activate s
  | .aheadErase fails => Sys2Proof.Machine.execAheadErase fails s
  | .readrec activate => Sys2Proof.Machine.execReadrec activate s
  | .update activate => Sys2Proof.Machine.execUpdate activate s
  | .activate activate => Sys2Proof.Machine.execActivate activate s
  | .abort activate => Sys2Proof.Machine.execAbort activate s
  | .format activate => Sys2Proof.Machine.execFormat activate s
  | .rawRead activate => Sys2Proof.Machine.execRawRead activate s
  | .rawProg activate => Sys2Proof.Machine.execRawProg activate s
  | .rawErase activate => Sys2Proof.Machine.execRawErase activate s
  | .norOpDone data ok => Sys2Proof.Machine.execNorOpDone data ok s
  | .norTimeout => Sys2Proof.Machine.execNorTimeout s
  | .functionLevelReset => Sys2Proof.Machine.execFunctionLevelReset s
  | .hotReset => Sys2Proof.Machine.execHotReset s
  | .linkDown => Sys2Proof.Machine.execLinkDown s
  | .functionResetDone => Sys2Proof.Machine.execFunctionResetDone s
  | .queryWindowStart => Sys2Proof.Machine.execQueryWindowStart s
  | .busMasterChange bme => Sys2Proof.Machine.execBusMasterChange bme s
  | .d3Transition d3 => Sys2Proof.Machine.execD3Transition d3 s
  | .interruptModeChange msixEnable functionMask intxDisable => Sys2Proof.Machine.execInterruptModeChange msixEnable functionMask intxDisable s
  | .msixUnmask vector => Sys2Proof.Machine.execMsixUnmask vector s
  | .heartbeat tickno mtime period stage flags ack => Sys2Proof.Machine.execHeartbeat tickno mtime period stage flags ack s
  | .journal mseq seq records => Sys2Proof.Machine.execJournal mseq seq records s
  | .levels mseq vdie target spare table => Sys2Proof.Machine.execLevels mseq vdie target spare table s
  | .qcfg mseq queue owner vector regs => Sys2Proof.Machine.execQcfg mseq queue owner vector regs s
  | .qidx mseq queue sqCi cqPi sqPhase cqPhase => Sys2Proof.Machine.execQidx mseq queue sqCi cqPi sqPhase cqPhase s
  | .ctxOpen mseq ctx queue pos cid op => Sys2Proof.Machine.execCtxOpen mseq ctx queue pos cid op s
  | .ctxDone mseq ctx kind => Sys2Proof.Machine.execCtxDone mseq ctx kind s
  | .place mseq ctx tiles set band boi fill => Sys2Proof.Machine.execPlace mseq ctx tiles set band boi fill s
  | .resync mseq part count item => Sys2Proof.Machine.execResync mseq part count item s
  | .cuffResend => Sys2Proof.Machine.execCuffResend s
  | .cuffRetrain pass => Sys2Proof.Machine.execCuffRetrain pass s
  | .heartbeatMissed us => Sys2Proof.Machine.execHeartbeatMissed us s
  | .selfCheckFault code unit => Sys2Proof.Machine.execSelfCheckFault code unit s
  | .yield => Sys2Proof.Machine.execYield s
  | .handoverDecision peer => Sys2Proof.Machine.execHandoverDecision peer s
  | .handoverAbort reads record vectors => Sys2Proof.Machine.execHandoverAbort reads record vectors s
  | .fosterWriteReady reads => Sys2Proof.Machine.execFosterWriteReady reads s
  | .partnerDrop ctx => Sys2Proof.Machine.execPartnerDrop ctx s
  | .giveBack => Sys2Proof.Machine.execGiveBack s
  | .quadGate quad => Sys2Proof.Machine.execQuadGate quad s
  | .sleepEntry cycles => Sys2Proof.Machine.execSleepEntry cycles s
  | .alarm => Sys2Proof.Machine.execAlarm s
  | .epwakeAssert => Sys2Proof.Machine.execEpwakeAssert s
  | .wakeComplete zq => Sys2Proof.Machine.execWakeComplete zq s
  | .mittenWindow => Sys2Proof.Machine.execMittenWindow s
  | .watchdogExpire => Sys2Proof.Machine.execWatchdogExpire s
  | .watchdogForce => Sys2Proof.Machine.execWatchdogForce s
  | .coreIdleDeassert target => Sys2Proof.Machine.execCoreIdleDeassert target s
  | .cuffBeatCrcError => Sys2Proof.Machine.execCuffBeatCrcError s
  | .partnerImageIdent hcrc generation => Sys2Proof.Machine.execPartnerImageIdent hcrc generation s
  | .windowAccessInMitten write => Sys2Proof.Machine.execWindowAccessInMitten write s
  | .powerLoss => Sys2Proof.Machine.execPowerLoss s
  | .powerOn => Sys2Proof.Machine.execPowerOn s

end Sys2Proof.Machine
end

