-- ==== Sys2Proof/Safety.lean ====
section
/-! DEFINITION. The terms in which claims are made: when the block is at work, its canonical forms, and what a step leaves unchanged. -/

namespace Sys2Proof.Machine

/-- The instance is at work: with power and out of reset, its windows open, awake, not fatal, not fenced, no power fail accepted. -/
def State.live (s : State) : Bool := s.served && s.awake && !s.pfail && !s.pf.settle && !s.pf.due

/-- The instance is in Park, with its windows served, no wake under way. -/
def State.parked (s : State) : Bool := s.served && s.working && s.getF F.PWR_STAT.STATE == 2 && s.sleep.wake == 0

/-- The canonical form of the registers: offsets strictly rising, none listed at its reset value. -/
def State.regsWf (s : State) : Bool := storeWf (regReset s.build s.right) s.regs

/-- The canonical form of the scratchpad. -/
def Memory.wf (m : Store (BitVec 64)) : Bool := storeWf (fun _ => 0#64) m

/-- Every register but those of the list is as before. -/
def regsKept (s t : State) (but : List Nat) : Prop := ∀ o, o ∉ but → t.reg o = s.reg o

/-- 32-bit registers of the register window whose RW fields are plain settings: offset and the bits of those fields. -/
def plainRegs : List (Nat × Word) :=
  [(0x410, 0xFFFF0000#64), (0x430, 0xFFFF#64), (0x470, 0xFFFF#64), (0x22000, 0xFF#64), (0x22010, 0x3FFF#64), (0xA0008, 0xFFF1F01#64),
   (0xB0000, 0x3#64), (0xB0310, 0xFFFFFFFF#64), (0xD0000, 0xFF3F02#64), (0xD0004, 0x3FF03FF#64), (0xD0400, 0xFFFFFFFF#64),
   (0xD0404, 0x7FFFF#64), (0xD040C, 0xFFFFFF00#64), (0xE0000, 0x8F0FFFFF#64), (0xE0100, 0xE0FFFFF0#64)]

/-- 64-bit registers of the Gauntlet whose RWL fields fill them: GNT_WIN_BASE and GNT_WIN_LIMIT of window `k`, GNT_QWIN of queue `q`; offset
and the bits of those fields. -/
def gauntletRegs (k q : Nat) : List (Nat × Word) :=
  [(0x11000 + 16 * k, 0xFFFFFFFFFFFFF001#64), (0x11008 + 16 * k, 0xFFFFFFFFFFFFF003#64), (0x12000 + 16 * q, 0xFFFFFFFFFFFFFFFF#64)]

/-- A queue entry is completed by this command: its context `c` is ready to be posted with the status, the detail and the result words, last in
the order of readiness; no other context changes, and nothing else. -/
def finished (s t : State) (c status detail r0 r1 r2 : Nat) : Prop :=
  t.ctx c = { s.ctx c with
    state := .ready, status := status, detail := detail, r0 := r0, r1 := r1, r2 := r2, readySeq := s.readySeq } ∧
  (∀ k, k ≠ c → t.ctx k = s.ctx k) ∧ t = { s with ctxs := t.ctxs, readySeq := s.readySeq + 1 }

/-- The Liner is disabled and holds nothing, no error is planted in it, and it has no operation to carry out: every access of the fabric passes it by. -/
def State.uncached (s : State) : Prop :=
  s.linerOn = false ∧ s.liner.lines = [] ∧ s.liner.merge = [] ∧ s.liner.merging = [] ∧ s.liner.ops = [] ∧ s.liner.flips = []

/-- The register write that a command of firmware is, and the cause of the wake it makes while the instance sleeps (Tables 19-3 and 19-5). -/
inductive AsWrite (s : State) : Instr → Nat → HeldWrite → Prop
  | regWrite (win rq off width : Nat) (v : Word) (h : ¬ (win = 0 ∧ off = 0xB0300 ∧ getBits v 1 0 = 0)) :
    AsWrite s (.regWrite win rq off width v) (winCause win) (HeldWrite.mk win rq off width v)
  | cancel (rq width : Nat) (v : Word) (h : getBits v 1 0 = 0) :
    AsWrite s (.regWrite 0 rq 0xB0300 width v) 8 (HeldWrite.mk 0 rq 0xB0300 width v)
  | trainForce (c : Nat) (h : c < s.build.channels) :
    AsWrite s (.trainForce c) 1 (HeldWrite.mk 0 0 (0x100040 + 0x400 * c) 4 (s.reg (0x100040 + 0x400 * c) ||| 2#64))
  | queueEnable (bar : Bool) (q : Nat) (h : s.qWriteOk bar false q = true) :
    AsWrite s (.queueEnable bar q) 1 (HeldWrite.mk (if bar then 1 else 0) 0 (0x40028 + 0x40 * q) 4 1#64)
  | queueShutdown (bar : Bool) (q : Nat) (h : s.qWriteOk bar true q = true) :
    AsWrite s (.queueShutdown bar q) 1 (HeldWrite.mk (if bar then 1 else 0) 0 (0x40028 + 0x40 * q) 4 2#64)
  | reqCancel : AsWrite s .reqCancel 8 (HeldWrite.mk 0 0 0xB0300 4 (setBits (s.reg 0xB0300) 1 0 0))
  | reqPark : AsWrite s .reqPark 1 (HeldWrite.mk 0 0 0xB0300 4 (setBits (s.reg 0xB0300) 1 0 1))
  | reqMitten : AsWrite s .reqMitten 1 (HeldWrite.mk 0 0 0xB0300 4 (setBits (s.reg 0xB0300) 1 0 2))
  | pfailDrill : AsWrite s .pfailDrill 1 (HeldWrite.mk 0 0 0xB0200 4 (s.reg 0xB0200 ||| 2#64))
  | clean : AsWrite s .clean 1 (HeldWrite.mk 0 0 0x80210 4 1#64)
  | inval : AsWrite s .inval 1 (HeldWrite.mk 0 0 0x80210 4 2#64)
  | cleanInval : AsWrite s .cleanInval 1 (HeldWrite.mk 0 0 0x80210 4 3#64)
  | zero : AsWrite s .zero 1 (HeldWrite.mk 0 0 0x80210 4 4#64)
  | lock : AsWrite s .lock 1 (HeldWrite.mk 0 0 0x80210 4 5#64)
  | unlock : AsWrite s .unlock 1 (HeldWrite.mk 0 0 0x80210 4 6#64)
  | cleanAll : AsWrite s .cleanAll 1 (HeldWrite.mk 0 0 0x80210 4 7#64)
  | cleanInvalAll : AsWrite s .cleanInvalAll 1 (HeldWrite.mk 0 0 0x80210 4 8#64)
  | unlockAll : AsWrite s .unlockAll 1 (HeldWrite.mk 0 0 0x80210 4 9#64)
  | scrub : AsWrite s .scrub 1 (HeldWrite.mk 0 0 0x80210 4 10#64)
  | linerDisable : AsWrite s .linerDisable 1 (HeldWrite.mk 0 0 0x80000 4 (setBits (s.reg 0x80000) 0 0 0))
  | linerEnable : AsWrite s .linerEnable 1 (HeldWrite.mk 0 0 0x80000 4 (setBits (s.reg 0x80000) 0 0 1))
  | flipArm : AsWrite s .flipArm 1 (HeldWrite.mk 0 0 0x80508 4 (s.reg 0x80508 ||| 1#64))
  | spWindowWrite (off width : Nat) (v : Word) (h : width = 4 ∨ width = 8) (ha : off % width = 0) :
    AsWrite s (.spWindowWrite off width v) 1 (HeldWrite.mk 2 0 off width v)
  | moverGo (m : Word) : AsWrite s (.moverGo m) 1 (HeldWrite.mk 0 0 0x91000 4 m)
  | moverAbort (m : Word) : AsWrite s (.moverAbort m) 1 (HeldWrite.mk 0 0 0x91004 4 m)
  | moverRestart : AsWrite s .moverRestart 1 (HeldWrite.mk 0 0 0x91008 4 1#64)
  | eventEoi (t src : Nat) (h : t < 16) :
    AsWrite s (.eventEoi t src) 1 (HeldWrite.mk 0 0 (0x21004 + 0x40 * t) 4 (BitVec.ofNat 64 (src % 512)))
  | evcSet (src : Nat) : AsWrite s (.evcSet src) 1 (HeldWrite.mk 0 0 0x20880 4 (BitVec.ofNat 64 (src % 512)))
  | evcPendClear (k : Nat) (m : Word) (h : k < 8) : AsWrite s (.evcPendClear k m) 1 (HeldWrite.mk 0 0 (0x20800 + 8 * k) 8 m)
  | watchdogForce : AsWrite s .watchdogForce 1 (HeldWrite.mk 0 0 0x460 4 (s.reg 0x460 ||| 0x80000000#64))
  | commit (a : Bool) : AsWrite s (.commit a) 1 (HeldWrite.mk 0 0 0xA0020 4 (BitVec.ofNat 64 (1 + if a then 256 else 0)))
  | readrec (a : Bool) : AsWrite s (.readrec a) 1 (HeldWrite.mk 0 0 0xA0020 4 (BitVec.ofNat 64 (2 + if a then 256 else 0)))
  | update (a : Bool) : AsWrite s (.update a) 1 (HeldWrite.mk 0 0 0xA0020 4 (BitVec.ofNat 64 (3 + if a then 256 else 0)))
  | activate (a : Bool) : AsWrite s (.activate a) 1 (HeldWrite.mk 0 0 0xA0020 4 (BitVec.ofNat 64 (4 + if a then 256 else 0)))
  | abort (a : Bool) : AsWrite s (.abort a) 1 (HeldWrite.mk 0 0 0xA0020 4 (BitVec.ofNat 64 (5 + if a then 256 else 0)))
  | format (a : Bool) : AsWrite s (.format a) 1 (HeldWrite.mk 0 0 0xA0020 4 (BitVec.ofNat 64 (6 + if a then 256 else 0)))
  | rawRead (a : Bool) : AsWrite s (.rawRead a) 1 (HeldWrite.mk 0 0 0xA0020 4 (BitVec.ofNat 64 (7 + if a then 256 else 0)))
  | rawProg (a : Bool) : AsWrite s (.rawProg a) 1 (HeldWrite.mk 0 0 0xA0020 4 (BitVec.ofNat 64 (8 + if a then 256 else 0)))
  | rawErase (a : Bool) : AsWrite s (.rawErase a) 1 (HeldWrite.mk 0 0 0xA0020 4 (BitVec.ofNat 64 (9 + if a then 256 else 0)))

/-- The commands that find something to do without power or while BLKRST_n is asserted: the power and reset pins, the always-on
clock, and a read, which then returns 0. -/
def actsUnpowered (c : Instr) : Prop :=
  c = .powerOn ∨ c = .powerLoss ∨ c = .blockReset ∨ c = .blockResetRelease ∨ c = .aoEdge ∨
    ∃ win requester offset, c = .splitReadLow win requester offset

/-- While BLKRST_n is asserted the windows are shut, and every register but the always-on count and the tokens of the pair
arbiter holds its reset value. -/
def State.heldWell (s : State) : Prop :=
  s.phase = .held → s.windowsOpen = false ∧
    ∀ o, o ≠ F.TCK_AOCNT.COUNT.reg → o ≠ F.PAIR_HOME.HOME.reg → s.reg o = regReset s.build s.right o

end Sys2Proof.Machine
end

