-- ==== Sys2Proof/Certificates/Slice0/Obligations.lean ====
section
/-! DEFINITION. The statements about the model: what each family of commands does, and what holds of every step. -/

open Sys2Proof Sys2Proof.Machine

/-! ## The machine -/

/-- A step runs the command at the front of the queue on the state with the queue's rest; on an empty queue the block idles (log entry 2). -/
def Obligations.StepRunsTheFrontCommand : Prop :=
  (∀ (s : State) (c : Instr) (rest : List Instr), s.pending = c :: rest → step s = exec c { s with pending := rest }) ∧
  (∀ s : State, s.pending = [] → step s = .next s)

/-- Without power and while BLKRST_n is asserted a step takes its command off the queue and changes nothing, unless the command is one of
`actsUnpowered`; and the unit comes to run by BLOCK_RESET_RELEASE alone. -/
def Obligations.NotPoweredIsInert : Prop :=
  ∀ (s t : State) (c : Instr) (rest : List Instr), s.phase ≠ .on → s.pending = c :: rest → step s = .next t →
    (¬ actsUnpowered c → t = { s with pending := rest }) ∧ (c ≠ .blockResetRelease → t.phase ≠ .on) ∧ t.pending = rest

/-- Every step of a unit without power or in reset, and every assertion of BLKRST_n, keeps this: while BLKRST_n is asserted the windows are
shut and the registers hold their reset values, but for the always-on count and the tokens (R610, R645, R646). -/
def Obligations.HeldRegistersKeepResetValues : Prop :=
  ∀ (s t : State) (c : Instr) (rest : List Instr), (s.phase ≠ .on ∨ c = .blockReset ∨ c = .powerLoss ∨ c = .powerOn) →
    s.heldWell → s.pending = c :: rest → step s = .next t → t.heldWell

/-- The state after reset has that form: BLKRST_n asserted, the windows shut, nothing queued. -/
def Obligations.ResetIsHeldWell : Prop :=
  State.reset.heldWell ∧ State.reset.phase = .held ∧ State.reset.pending = [] ∧ State.reset.regsWf = true

/-- GLB_ID and GLB_CAPS are fixed by the build and the instance (R648): each reads the value of its table on every build, in every state whose
window shows them, and no write through a window changes them. -/
def Obligations.IdentificationIsFixed : Prop :=
  (∀ b r, regReset b r 8 = (match b with
    | .dz48 => 0x300C180608220000#64
    | .dz96 => 0x6018300C10444000#64
    | .dz96P => 0x6018300C1044C000#64)) ∧
  (∀ b r, regReset b r 0 = (match b with
    | .dz48 => if r then 0x445A000330010300#64 else 0x445A000330000300#64
    | .dz96 => if r then 0x445A000360010300#64 else 0x445A000360000300#64
    | .dz96P => if r then 0x445A000361010300#64 else 0x445A000361000300#64)) ∧
  (∀ (s : State) (rq off width : Nat) (v : Word), off < 16 → s.phase = .on → s.asleep = false →
    ∃ t, exec (.regWrite 0 rq off width v) s = .next t ∧ t.reg 0 = s.reg 0 ∧ t.reg 8 = s.reg 8 ∧ t = { s with regs := t.regs, splits := t.splits })

/-- BLKRST_n and power (R610): what each leaves. -/
def Obligations.PowerAndResetCommands : Prop :=
  (∀ s : State, s.phase ≠ .off →
    ∃ t, exec .blockReset s = .next t ∧ t.phase = .held ∧ t.windowsOpen = false ∧ t.aocnt = s.aocnt ∧
      t.getF F.PAIR_HOME.HOME = (if s.tokensGone then 0 else if t.build.pair then t.ownQuads else 0) ∧
      t = { State.reset with
        build := s.build, right := s.right, pending := s.pending, out := s.out, draws := t.draws, regs := t.regs
        cfs := { Cfs.zero with mem := s.norTorn.cfs.mem } }) ∧
  (∀ s : State, s.phase = .held →
    ∃ t, exec .blockResetRelease s = .next t ∧ t.phase = .on ∧ t.windowsOpen = true ∧ t.stage = 1 ∧ regsKept s t [F.PWR_CENSUS.STAGE.reg] ∧
      t = { s with phase := .on, windowsOpen := true, regs := t.regs }) ∧
  (∀ s : State, s.phase ≠ .off →
    ∃ t, exec .powerLoss s = .next t ∧ t.phase = .off ∧ t.aocnt = 0 ∧ t.cfs.mem = s.norTorn.cfs.mem ∧ t.build = s.build ∧ t.right = s.right ∧
      t.pending = s.pending ∧ t.out = s.out) ∧
  (∀ s : State, s.phase = .off →
    ∃ t, exec .powerOn s = .next t ∧
      t = { State.reset with
        build := s.build, right := s.right, pending := s.pending, out := s.out, draws := s.draws
        cfs := { Cfs.zero with mem := s.cfs.mem } })

/-! ## Registers -/

/-- REG_WRITE of a register with plain settings, awake (R9 to R12): the RW bits take the value written, every other bit and every other register
is as before, whatever is written to read-only and reserved bits, and nothing else but the requester's shadow changes. -/
def Obligations.PlainRegisterWrite : Prop :=
  ∀ (s : State) (rq off : Nat) (mask v : Word), (off, mask) ∈ plainRegs → s.served = true → s.asleep = false →
    ∃ t, exec (.regWrite 0 rq off 4 v) s = .next t ∧ t.reg off = ((s.reg off &&& ~~~ mask) ||| (v &&& mask)) ∧ regsKept s t [off] ∧
      t = { s with regs := t.regs, splits := t.splits }

/-- A write after Gauntlet lock that would change an RWL field is ignored, counted in GLB_FAULT_STAT.LOCKED_WRITES and raises locked-write; one that
leaves every RWL field at its value makes no entry (R11). -/
def Obligations.LockedWriteIsRecorded : Prop :=
  ∀ (s : State) (rq k q off : Nat) (mask v : Word), k < 64 → q < 1024 → (off, mask) ∈ gauntletRegs k q → s.served = true → s.asleep = false →
    s.locked = true →
    ∃ t, exec (.regWrite 0 rq off 8 v) s = .next t ∧ t.reg off = s.reg off ∧
      ((s.reg off ^^^ v) &&& mask ≠ 0#64 →
        t.getF F.GLB_FAULT_STAT.LOCKED_WRITES = satAdd 16 (s.getF F.GLB_FAULT_STAT.LOCKED_WRITES) 1 ∧ t.isPending Ev.lockedWrite = true ∧
        (s.pfail = false → s.getF F.GLB_LOG_CFG.CAP ≠ 0 →
          (t.logAt ((s.getF F.GLB_LOG_HEAD.NEXT - 1) % s.getF F.GLB_LOG_CFG.CAP)).type = 0x0001 ∧
          (t.logAt ((s.getF F.GLB_LOG_HEAD.NEXT - 1) % s.getF F.GLB_LOG_CFG.CAP)).lseq = s.getF F.GLB_LOG_HEAD.NEXT)) ∧
      ((s.reg off ^^^ v) &&& mask = 0#64 → t = { s with regs := t.regs, splits := t.splits } ∧ regsKept s t [])

/-- An offset that no table assigns reads 0 and ignores writes, without a fault (R644). -/
def Obligations.UnassignedOffsetsReadZero : Prop :=
  ∀ (s : State) (rq off : Nat), s.served = true → s.asleep = false → off % 8 = 0 → s.keyAt 0 off = none → s.keyAt 0 (off + 4) = none →
    exec (.splitReadLow 0 rq off) s = .next { s with readData := 0 } ∧
    exec (.splitReadLow 0 rq (off + 4)) s = .next { s with readData := 0 } ∧
    ∀ v : Word, exec (.regWrite 0 rq off 8 v) s = .next s ∧ exec (.regWrite 0 rq off 4 v) s = .next s

/-- An access that is not naturally aligned is ignored for writes and returns 0 for reads (R12).
32-bit access to a 64-bit register (R13), with the Mover's MVR_MAP of a channel: reading the low half returns it and captures the high half into
the requester's shadow; the next read of the high half returns the shadow, whatever the register then holds; a write of the low half is held and
takes effect together with the next write of the high half. -/
def Obligations.MisalignedAndSplitAccess : Prop :=
  (∀ (s : State) (win rq off : Nat) (v : Word), s.served = true → s.asleep = false →
     (off % 4 ≠ 0 → exec (.splitReadLow win rq off) s = .next { s with readData := 0 } ∧ exec (.regWrite win rq off 4 v) s = .next s) ∧
     (off % 8 ≠ 0 → exec (.regWrite win rq off 8 v) s = .next s) ∧
     (∀ width, width ≠ 4 → width ≠ 8 → exec (.regWrite win rq off width v) s = .next s)) ∧
  (∀ (s : State) (rq c : Nat) (v : Word), c < 32 → s.served = true → s.asleep = false →
     (∃ t, exec (.splitReadLow 0 rq (0x90040 + 0x80 * c)) s = .next t ∧ t.readData = (s.reg (0x90040 + 0x80 * c)).toNat % 2 ^ 32 ∧
       (t.split rq).shadow = some (0x90040 + 0x80 * c, (s.reg (0x90040 + 0x80 * c)).toNat / 2 ^ 32) ∧
       t = { s with readData := t.readData, splits := t.splits }) ∧
     (∀ x, (s.split rq).shadow = some (0x90040 + 0x80 * c, x) →
       ∃ t, exec (.splitReadLow 0 rq (0x90044 + 0x80 * c)) s = .next t ∧ t.readData = x ∧
         t = { s with readData := t.readData, splits := t.splits }) ∧
     (∃ t, exec (.regWrite 0 rq (0x90040 + 0x80 * c) 4 v) s = .next t ∧
       (t.split rq).held = some (0x90040 + 0x80 * c, v.toNat % 2 ^ 32) ∧ t = { s with splits := t.splits }) ∧
     (∀ lo, lo < 2 ^ 32 → (s.split rq).held = some (0x90040 + 0x80 * c, lo) → s.getF (F.MVR_STAT.STATE c) = 0 →
       ∃ t, exec (.regWrite 0 rq (0x90044 + 0x80 * c) 4 v) s = .next t ∧
         t.reg (0x90040 + 0x80 * c) = BitVec.ofNat 64 (v.toNat % 2 ^ 32 * 2 ^ 32 + lo) ∧ regsKept s t [0x90040 + 0x80 * c] ∧
         t = { s with regs := t.regs, splits := t.splits }))

/-- In Park every register write wakes the instance, with the cause of Table 19-5, and is served after wake (Table 19-3): it joins the writes held,
and nothing else changes. Each command that firmware makes by a register write waits so. -/
def Obligations.WritesInParkAreHeld : Prop :=
  ∀ (s : State) (c : Instr) (cause : Nat) (w : HeldWrite), s.parked = true → AsWrite s c cause w →
    ∃ t, exec c s = .next t ∧ t.sleep = { s.sleep with wake := cause, held := s.sleep.held ++ [w] } ∧
      t.getF F.PWR_STAT.LAST_WAKE = cause % 8 ∧ regsKept s t [F.PWR_STAT.LAST_WAKE.reg] ∧ t = { s with regs := t.regs, sleep := t.sleep }

/-! ## The event concentrator -/

/-- A read of a target's EVC_ACK (R519): it returns the deliverable source with the lowest priority number, and among equal ones the lowest source
number; pushes it with its priority, puts it in service and clears the pending bit of an edge source. With none deliverable it returns 0x3FF and
changes nothing. -/
def Obligations.AcknowledgeTakesTheBestSource : Prop :=
  ∀ (s : State) (t : Nat), s.served = true → s.mitten = false → t < 16 →
    ((∀ src, src < 512 → s.deliverable t src = false) → exec (.eventAck t) s = .next { s with readData := 0x3FF }) ∧
    (∀ src, src < 512 → s.deliverable t src = true →
      (∀ x, x < 512 → s.deliverable t x = true → s.prio src < s.prio x ∨ (s.prio src = s.prio x ∧ src ≤ x)) →
      ∃ u, exec (.eventAck t) s = .next u ∧ u.readData = src ∧ u.stack t = StackEntry.mk src (s.prio src) :: s.stack t ∧
        (∀ x, x ≠ t → u.stack x = s.stack x) ∧ u.flag (insvcF src) = true ∧
        (Ev.level src = false → u.isPending src = false) ∧
        (src < 256 → u.mod src = Moderation.zero) ∧
        regsKept s u [(pendF src).reg, (insvcF src).reg] ∧ u = { s with regs := u.regs, evc := u.evc, readData := u.readData })

/-- A write to a target's EVC_EOI, awake: it pops the stack when it names the source of the top entry, which is then no longer in service, and the
running priority is that of the new top entry, 16 when none is left (R518, R521); a wrong source, or an empty stack, pops nothing, sets FAULT, adds 1
to FAULTS up to its largest value and raises eoi-fault (R524). -/
def Obligations.EndOfInterrupt : Prop :=
  ∀ (s : State) (t src : Nat), s.served = true → s.asleep = false → t < 16 → src < 512 →
    (∀ p rest, s.stack t = StackEntry.mk src p :: rest →
      ∃ u, exec (.eventEoi t src) s = .next u ∧ u.stack t = rest ∧ (∀ x, x ≠ t → u.stack x = s.stack x) ∧
        u.running t = (match rest with | [] => 16 | e :: _ => e.prio) ∧ u.flag (insvcF src) = false ∧
        regsKept s u [(insvcF src).reg] ∧ u = { s with regs := u.regs, evc := u.evc }) ∧
    ((∀ p rest, s.stack t ≠ StackEntry.mk src p :: rest) →
      ∃ u, exec (.eventEoi t src) s = .next u ∧ (∀ x, u.stack x = s.stack x) ∧ u.flag (F.EVC_TGT_STAT.FAULT t) = true ∧
        u.getF (F.EVC_TGT_STAT.FAULTS t) = satAdd 8 (s.getF (F.EVC_TGT_STAT.FAULTS t)) 1 ∧ u.isPending Ev.eoiFault = true ∧
        u = { s with regs := u.regs, evc := u.evc })

/-- EVC_SET raises an edge source once: it is pending after; a level or a reserved source is left as it is (R514, R516, EVC_SET). A write of 1 to a
PEND bit clears the pending bit of an edge source, and the count of a completion source; a level source's bit is ignored (R525).
One more raise of a moderated source (R525): the count grows by 1; the first raise since the acknowledge gives the tick the hold-off runs from; the
source is released once its count reaches COUNT_M1 + 1, once that tick plus HOLDOFF has begun, or while its target is idle, and stays released.
The ends of moderation and hold-off (R525 to R527): the hold-off of a pending completion source elapses, that of a status group towards a target
ends, a core's idle indication releases every counted completion source of its target, and its end holds none back again. -/
def Obligations.PendingModerationAndHoldoff : Prop :=
  ((∀ (s : State) (src : Nat), s.served = true → s.asleep = false → src < 512 →
     ((Ev.assigned s.build.pair src = false ∨ Ev.level src = true) → exec (.evcSet src) s = .next s) ∧
     (Ev.assigned s.build.pair src = true → Ev.level src = false →
       ∃ t, exec (.evcSet src) s = .next t ∧ t.isPending src = true ∧ regsKept s t [(pendF src).reg] ∧
         (∀ x, x ≠ src → t.mod x = s.mod x) ∧ t = { s with regs := t.regs, evc := t.evc })) ∧
   (∀ (s : State) (k i : Nat), s.served = true → s.asleep = false → k < 8 → i < 64 →
     ∃ t, exec (.evcPendClear k (1#64 <<< i)) s = .next t ∧
       (Ev.level (64 * k + i) = false → t.flag (pendF (64 * k + i)) = false) ∧ (64 * k + i < 256 → t.mod (64 * k + i) = Moderation.zero) ∧
       (Ev.level (64 * k + i) = true → t = s) ∧ regsKept s t [(pendF (64 * k + i)).reg] ∧ t = { s with regs := t.regs, evc := t.evc })) ∧
  (∀ (m : Moderation) (now countM1 holdoff : Nat) (idle : Bool),
     (m.raised now countM1 holdoff idle).count = m.count + 1 ∧
     (m.raised now countM1 holdoff idle).first = (if m.count = 0 then now else m.first) ∧
     ((m.raised now countM1 holdoff idle).released = true ↔
       m.released = true ∨ countM1 + 1 ≤ m.count + 1 ∨ (if m.count = 0 then now else m.first) + holdoff ≤ now ∨ idle = true)) ∧
  ((∀ (s : State) (src : Nat), s.phase = .on → s.asleep = false → src < 256 → (s.mod src).count ≠ 0 → (s.mod src).released = false →
     (s.mod src).first + s.getF (F.EVC_GRP_CFG.HOLDOFF (src / 16)) ≤ s.tickno →
     ∃ t, exec (.moderationRelease false src) s = .next t ∧ t.evReleased src = true ∧ (∀ x, x ≠ src → t.mod x = s.mod x) ∧
       t = { s with evc := { s.evc with mods := t.evc.mods } }) ∧
   (∀ (s : State) (g t n : Nat), s.phase = .on → s.asleep = false → s.ackTick g t = some n → n + s.getF (F.EVC_GRP_CFG.HOLDOFF g) ≤ s.tickno →
     ∃ u, exec (.statusHoldoffEnd g t) s = .next u ∧ u.ackTick g t = none ∧ u = { s with evc := { s.evc with ackTick := u.evc.ackTick } }) ∧
   (∀ (s : State) (t : Nat), s.phase = .on → t < 16 →
     ∃ u, exec (.coreIdleAssert t) s = .next u ∧ u.coreIdle t = true ∧
       (∀ src, s.target src = t → (s.mod src).count ≠ 0 → (u.mod src).released = true) ∧
       (∀ src, s.target src ≠ t → u.mod src = s.mod src) ∧ regsKept s u [(F.EVC_TGT_STAT.IDLE t).reg] ∧
       u = { s with regs := u.regs, evc := { s.evc with mods := u.evc.mods } }) ∧
   (∀ (s : State) (t : Nat), s.phase = .on → t < 16 →
     ∃ u, exec (.coreIdleDeassert t) s = .next u ∧ u.coreIdle t = false ∧ (∀ src, u.mod src = s.mod src) ∧
       regsKept s u [(F.EVC_TGT_STAT.IDLE t).reg] ∧ u = { s with regs := u.regs }))

/-! ## Time and power -/

/-- mt_advance and tick_advance neither lose nor gain, and two advances make one (R619, R620); AO_EDGE counts in every state but Off, modulo 2^48, and
while CCLK runs advances MediaTime by one count (R619, R621). -/
def Obligations.TimebaseIsExact : Prop :=
  (∀ mt acc n, 512 * (mtAdvance mt acc n).1 + (mtAdvance mt acc n).2 = 512 * mt + acc + 15625 * n ∧ (mtAdvance mt acc n).2 < 512) ∧
  (∀ mt acc m n, mtAdvance (mtAdvance mt acc m).1 (mtAdvance mt acc m).2 n = mtAdvance mt acc (m + n)) ∧
  (∀ k phase n per, 0 < per →
    512 * per * (tickAdvance k phase n per).1 + (tickAdvance k phase n per).2 = 512 * per * k + phase + 15625 * n ∧
      (tickAdvance k phase n per).2 < 512 * per) ∧
  (∀ k phase m n per, 0 < per → tickAdvance (tickAdvance k phase m per).1 (tickAdvance k phase m per).2 n per = tickAdvance k phase (m + n) per) ∧
  (∀ s : State, s.phase ≠ .off →
    ∃ t, exec .aoEdge s = .next t ∧ t.aocnt = (s.aocnt + 1) % 2 ^ 48 ∧
      ((s.phase = .on ∧ s.getF F.PWR_STAT.STATE ≠ 2 ∧ s.getF F.PWR_STAT.STATE ≠ 3) →
        t.getF F.TCK_MTIME.MEDIATIME = (mtAdvance (s.getF F.TCK_MTIME.MEDIATIME) (s.getF F.TCK_FRAC.ACC) 1).1 % 2 ^ 64 ∧
        t.getF F.TCK_FRAC.ACC = (mtAdvance (s.getF F.TCK_MTIME.MEDIATIME) (s.getF F.TCK_FRAC.ACC) 1).2 ∧
        t.getF F.TCK_FRAC.PHASE = s.getF F.TCK_FRAC.PHASE ∧
        regsKept s t [F.TCK_AOCNT.COUNT.reg, F.TCK_MTIME.MEDIATIME.reg, F.TCK_FRAC.ACC.reg] ∧ t = { s with regs := t.regs, subUs := 0 }) ∧
      (¬ (s.phase = .on ∧ s.getF F.PWR_STAT.STATE ≠ 2 ∧ s.getF F.PWR_STAT.STATE ≠ 3) →
        regsKept s t [F.TCK_AOCNT.COUNT.reg] ∧ t = { s with regs := t.regs }))

/-- TICK: from census stage 2 on, while the ticks are not stopped, the boundary adds 1 to TICKNO and brings the settings of CAL_CTRL, PTL_CTRL, DEC_CFG
and PLN_CTRL written before into force; the plans committed for the tick go into execution whole and in their order, and without them no item does
(R129, R131, R135). PLAN_COMMIT commits once for a tick. In the fatal state and after the seal the boundary is all there is. -/
def Obligations.TickAndCommit : Prop :=
  (∀ s : State, s.ticking = true →
    ∃ b t, exec .tick s = .next t ∧ t = b.tickWork.tickBeat ∧ b.tickno = (s.tickno + 1) % 2 ^ 64 ∧
      (∀ off, off ∈ [0xD0000, 0xD0400, 0xE0000, 0xE0100] → b.regL off = s.reg off) ∧
      b.pln.runItems = [] ∧ b.pln.runCycles = [] ∧
      (b.clocked = true → b.pln.planTick = b.tickno → b.pln.exec = s.pln.plans) ∧
      (b.pln.planTick ≠ b.tickno → b.pln.exec = [] ∧
        ∀ h ∈ b.planChans, b.fatal = false → b.holdCause h ≠ 0 → cnt b.pln.hold h = b.holdCause h) ∧
      (b.clocked = false → b.build.pair = false → t = b)) ∧
  (∀ s : State, s.ticking = false → s.build.pair = false → exec .tick s = .next s) ∧
  (∀ s : State, s.clocked = true → s.pln.planTick ≠ s.tickno + 1 →
    ∃ t, exec .planCommit s = .next t ∧ t.pln.planTick = s.tickno + 1 ∧
      (t.tickno = s.tickno → exec .planCommit t = .next t))

/-- Requests for sleep (R613): REQ_CANCEL, REQ_PARK and REQ_MITTEN write PWR_CTRL.REQ, POWER entries complete once their request is recorded, with the
state in result word 0; a Mitten request takes its period from ARG, or from PWR_MITTEN where ARG is 0.
SLEEP_ENTRY (R606, R614, R617, Table 19-4): with the conditions met entry begins; while a fabric request is unanswered the instance is entering,
else it sleeps: the phase of the tick is recorded in 1/512 µs, WP_n goes low on every quad, and sleep-entered is raised. -/
def Obligations.SleepRequestsAndEntry : Prop :=
  ((∀ (s : State) (c : Instr) (v : Nat), (c, v) ∈ [(Instr.reqCancel, 0), (Instr.reqPark, 1), (Instr.reqMitten, 2)] →
     s.served = true → s.asleep = false →
     ∃ t, exec c s = .next t ∧ t.getF F.PWR_CTRL.REQ = v ∧ t.getF F.PWR_STAT.PENDING = v ∧
       t.sleep.reqPeriod = (if v = 2 then max 1 (s.getF F.PWR_MITTEN.PERIOD_S) else 0) ∧
       regsKept s t [F.PWR_CTRL.REQ.reg, F.PWR_STAT.PENDING.reg] ∧
       t = { s with regs := t.regs, sleep := { s.sleep with reqPeriod := t.sleep.reqPeriod } }) ∧
   (∀ (s : State) (ctx : Nat) (c : Instr) (v : Nat), (c, v) ∈ [(Instr.powerCancel ctx, 0), (Instr.powerPark ctx, 1), (Instr.powerMitten ctx, 2)] →
     s.starts ctx opPOWER = true → ent (s.ctx ctx).entry 32 1 = v →
     ∃ u t, exec c s = .next t ∧ finished u t ctx 0 0 v 0 0 ∧ u.getF F.PWR_STAT.PENDING = v ∧
       u.sleep.reqPeriod = (if v = 2 then
         (if ent (s.ctx ctx).entry 36 4 = 0 then max 1 (s.getF F.PWR_MITTEN.PERIOD_S) else ent (s.ctx ctx).entry 36 4) else 0) ∧
       regsKept s u [F.PWR_STAT.PENDING.reg] ∧ u = { s with regs := u.regs, sleep := { s.sleep with reqPeriod := u.sleep.reqPeriod } })) ∧
  (∀ (s : State) (cycles : Nat), s.working = true → s.pfail = false → s.pf.due = false → s.getF F.PWR_STAT.PENDING ≠ 0 → s.liner.merge = [] →
     (s.getF F.PWR_STAT.STATE ≤ 1 → s.sleepMay (s.getF F.PWR_STAT.PENDING) = false → exec (.sleepEntry cycles) s = .next s) ∧
     ((s.getF F.PWR_STAT.STATE ≤ 1 ∧ s.sleepMay (s.getF F.PWR_STAT.PENDING) = true) ∨ s.getF F.PWR_STAT.STATE = 5 →
       ∃ t, exec (.sleepEntry cycles) s = .next t ∧
         (s.fab.all (fun r => r.issued.isNone) = false →
           t.getF F.PWR_STAT.STATE = 5 ∧ regsKept s t [F.PWR_STAT.STATE.reg] ∧ t = { s with regs := t.regs, sleep := t.sleep }) ∧
         (s.fab.all (fun r => r.issued.isNone) = true →
           t.getF F.PWR_STAT.STATE = (if s.getF F.PWR_STAT.PENDING = 2 then 3 else 2) ∧
           t.getF F.TCK_FRAC.PHASE = cycles * 512 / s.cclkMhz % 2 ^ 14 ∧ t.isPending Ev.sleepEntered = true ∧
           t.sleep.firstAo = s.aocnt ∧ t.sleep.entryAo = s.aocnt ∧
           (∀ q, q < s.build.quads → t.flag (F.CHU_QUAD_CFG.WP_HIGH q) = false) ∧
           (s.getF F.PWR_STAT.PENDING = 2 → t.sleep.period = max 1 s.sleep.reqPeriod ∧
             t.sleep.nextWindow = 32768 * max 1 s.sleep.reqPeriod ∧ t.getF F.PWR_MITTEN_STAT.SENTINELS = t.sleep.sentinels.length) ∧
           t = { s with regs := t.regs, sleep := t.sleep, evc := t.evc })))

/-- The sources of a wake (R615, Table 19-5): the first one met while asleep is recorded as the cause, later ones change nothing.
WAKE_COMPLETE (R616, R619, R620): the instance is Active, the request is cleared, the writes held are served in their order; both clocks have been
brought forward by the counts slept, TICKNO by whole ticks of a new period's predecessor and 1 where a requested period takes effect. -/
def Obligations.WakeAndItsTime : Prop :=
  (∀ (s : State) (c : Instr) (cause : Nat), s.phase = .on → s.asleep = true →
     (c = .epwakeAssert ∧ cause = 2 ∨
       c = .alarm ∧ cause = 4 ∧ s.getF F.PWR_ALARM.AT ≠ 0 ∧ s.aocnt = s.getF F.PWR_ALARM.AT ∨
       (∃ w, c = .windowAccessInMitten w ∧ cause = 1 ∧ s.served = true ∧ (s.mitten = true ∨ w = true)) ∨
       (∃ i, c = .eventAck i ∧ cause = 1 ∧ s.served = true ∧ i < 16 ∧ s.mitten = true)) →
     ∃ t, exec c s = .next t ∧
       (s.sleep.wake = 0 → t.getF F.PWR_STAT.LAST_WAKE = cause ∧ t.sleep = { s.sleep with wake := cause } ∧
         t.getF F.PWR_STAT.STATE = s.getF F.PWR_STAT.STATE ∧ regsKept s t [F.PWR_STAT.LAST_WAKE.reg] ∧ t = { s with regs := t.regs, sleep := t.sleep }) ∧
       (s.sleep.wake ≠ 0 → t = s)) ∧
  (∀ (s : State) (zq : List (Nat × Nat)), s.working = true → s.sleep.wake ≠ 0 → s.pf.due = false →
     2 ≤ s.getF F.PWR_STAT.STATE → s.getF F.PWR_STAT.STATE ≤ 4 →
     ∃ u t, exec (.wakeComplete zq) s = .next t ∧ t = s.sleep.held.foldl (fun x w => x.windowWrite w) u ∧
       u.getF F.PWR_STAT.STATE = 0 ∧ u.getF F.PWR_STAT.PENDING = 0 ∧ u.getF F.PWR_STAT.LAST_WAKE = s.getF F.PWR_STAT.LAST_WAKE ∧
       u.isPending Ev.woke = true ∧ u.sleep.wake = 0 ∧ u.sleep.held = [] ∧ u.aocnt = s.aocnt ∧
       u.getF F.TCK_LASTSLEEP.COUNTS = aoDiff s.aocnt s.sleep.firstAo ∧
       (s.getF F.PWR_STAT.STATE = 4 → u.tickno = s.tickno ∧ u.getF F.TCK_MTIME.MEDIATIME = s.getF F.TCK_MTIME.MEDIATIME ∧
         u.getF F.PWR_MITTEN_STAT.WINDOWS = (s.getF F.PWR_MITTEN_STAT.WINDOWS + 1) % 2 ^ 32) ∧
       (s.getF F.PWR_STAT.STATE ≠ 4 →
         u.getF F.TCK_MTIME.MEDIATIME =
           (mtAdvance (s.getF F.TCK_MTIME.MEDIATIME) (s.getF F.TCK_FRAC.ACC) (aoDiff s.aocnt s.sleep.entryAo)).1 % 2 ^ 64 ∧
         u.getF F.TCK_FRAC.ACC = (mtAdvance (s.getF F.TCK_MTIME.MEDIATIME) (s.getF F.TCK_FRAC.ACC) (aoDiff s.aocnt s.sleep.entryAo)).2 ∧
         (s.getF F.PWR_STAT.STATE = 3 ∨ s.getF F.TCK_PERIOD.PERIOD = s.getF F.TCK_PERIOD.ACTIVE →
           u.tickno = (tickAdvance s.tickno (s.getF F.TCK_FRAC.PHASE) (aoDiff s.aocnt s.sleep.entryAo) s.periodUs).1 % 2 ^ 64) ∧
         (s.getF F.PWR_STAT.STATE = 2 → s.getF F.TCK_PERIOD.PERIOD ≠ s.getF F.TCK_PERIOD.ACTIVE →
           u.tickno = ((tickAdvance s.tickno (s.getF F.TCK_FRAC.PHASE) (aoDiff s.aocnt s.sleep.entryAo) s.periodUs).1 + 1) % 2 ^ 64 ∧
           u.getF F.TCK_PERIOD.ACTIVE = s.getF F.TCK_PERIOD.PERIOD)))

/-- MITTEN_WINDOW (R617): not before the sample period has passed; then the timebase resumes and the next window is due a period later. With nothing
to sample the window is over at once; with the Liner disabled every enabled queue is polled and the window stays open.
QUAD_GATE (R612): a quad without work for IDLE_TICKS ticks, 0 acting as 1, is gated; the instance is Idle once every enabled quad is. -/
def Obligations.MittenWindowAndQuadGate : Prop :=
  (∀ s : State, s.working = true → s.getF F.PWR_STAT.STATE = 3 → s.sleep.wake = 0 →
     (aoDiff s.aocnt s.sleep.firstAo < s.sleep.nextWindow → exec .mittenWindow s = .next s) ∧
     (s.sleep.nextWindow ≤ aoDiff s.aocnt s.sleep.firstAo →
       (s.sleep.sentinels = [] → s.fab = [] → (∀ q, s.qState q ≠ 1) →
         ∃ t, exec .mittenWindow s = .next t ∧ t.getF F.PWR_STAT.STATE = 3 ∧ t.isPending Ev.mittenWindowDone = true ∧
           t.getF F.PWR_MITTEN_STAT.WINDOWS = (s.getF F.PWR_MITTEN_STAT.WINDOWS + 1) % 2 ^ 32 ∧ t.getF F.PWR_MITTEN_STAT.WORST = 0 ∧
           t.sleep = { s.sleep with nextWindow := s.sleep.nextWindow + 32768 * s.sleep.period, left := 0, entryAo := s.aocnt } ∧
           t.getF F.TCK_MTIME.MEDIATIME =
             (mtAdvance (s.getF F.TCK_MTIME.MEDIATIME) (s.getF F.TCK_FRAC.ACC) (aoDiff s.aocnt s.sleep.entryAo)).1 % 2 ^ 64) ∧
       (s.linerOn = false → s.liner.lines = [] → s.liner.merge = [] → (∃ q ∈ storeKeys s.queues, s.qState q = 1) →
         ∃ t, exec .mittenWindow s = .next t ∧ t.getF F.PWR_STAT.STATE = 4 ∧
           (∀ q ∈ storeKeys s.queues, s.qState q = 1 → t.fab.any (fun r => r.who == .poll q) = true) ∧
           t.sleep = { s.sleep with nextWindow := s.sleep.nextWindow + 32768 * s.sleep.period, left := s.sleep.sentinels.length }))) ∧
  (∀ (s : State) (q : Nat), s.awake = true → s.flag F.PWR_CTRL.IDLE_EN = true → q ∈ s.enabledQuads → q < 24 → (s.quad q).gated = false →
     max 1 (s.getF F.PWR_CTRL.IDLE_TICKS) ≤ cnt s.sleep.quiet q →
     ∃ t, exec (.quadGate q) s = .next t ∧ (t.quad q).gated = true ∧ (∀ k, k ≠ q → t.quad k = s.quad k) ∧
       getBits (t.reg F.PWR_STAT.GATED.reg) q q = 1 ∧
       (s.getF F.PWR_STAT.STATE = 0 → t.getF F.PWR_STAT.STATE = if ∀ k ∈ s.enabledQuads, k ≠ q → (s.quad k).gated = true then 1 else 0) ∧
       regsKept s t [F.PWR_STAT.GATED.reg] ∧ t = { s with regs := t.regs, quads := t.quads })

/-- The policy-engine watchdog (R635 to R637): it expires once no step boundary has been met for the larger of PERIOD and 1024 ticks, firmware can force
it; the reset counts, and the third within 1,048,576 ticks stops the policy engine. A stopped one is reset no more. -/
def Obligations.PolicyEngineWatchdog : Prop :=
  ∀ (s : State) (c : Instr), s.stage ≠ 15 → s.wdog.wait = none →
    (c = .watchdogForce ∧ s.served = true ∧ s.asleep = false ∧ s.working = true ∧ s.pfail = false ∨
      c = .watchdogExpire ∧ s.wdogRuns = true ∧ s.wdog.lastStep + max 1024 (s.getF F.GLB_WDOG_CFG.PERIOD) ≤ s.tickno) →
    (s.peHalted = true → exec c s = .next s) ∧
    (s.peHalted = false → s.stage ≠ 4 → s.stage ≠ 5 → s.peNor = false → s.sets = [] → s.cws = [] → s.bursts = [] → s.rebuilds = [] → s.journals = [] →
      s.decs.cur = none →
      ∃ t, exec c s = .next t ∧
        t.getF F.GLB_WDOG_STAT.RESETS = satAdd 16 (s.getF F.GLB_WDOG_STAT.RESETS) 1 ∧ t.isPending Ev.watchdogReset = true ∧
        t.wdog.resets = s.wdog.resets.filter (fun k => decide (s.tickno < k + 1048576)) ++ [s.tickno] ∧ t.wdog.lastStep = s.tickno ∧
        t.flag F.GLB_WDOG_STAT.PE_HALTED = decide (3 ≤ t.wdog.resets.length)) ∧
    (s.peNor = true → s.peHalted = false → s.stage ≠ 4 → s.stage ≠ 5 → exec c s = .next { s with wdog := { s.wdog with wait := some s.mtime } })

/-! ## Power fail, the hold-up bank and the sensors -/

/-- Acceptance of a power fail and of a drill (R438, R439, R440): PFAIL_n low for the filter's length, or a write of 1 to DRILL, raises
power-fail-accepted; from census stage 6 on, awake, phase 1 begins, no codeword read goes on, and a plan made for the next tick is made anew; asleep,
the sequence waits for the wake it causes. A shorter pulse adds 1 to GLITCHES and has no other effect.
The phases of a brown-out sequence (Table 12-1, R440, R443 to R446): phase 2 does not end while a program runs; phases 3 and 4 follow where no tile
must come from the pin region; phase 5 does not end while a shelter program runs, then each namespace's seal is written in phase 6; power back after
phase 7 raises power-restored alone. -/
def Obligations.PowerFailAndBrownout : Prop :=
  ((∀ (s : State) (c : Instr) (drill : Bool),
     (∃ n, c = .powerFailAccept n ∧ drill = false ∧ s.pfailLen ≤ n) ∨ (c = .pfailDrill ∧ drill = true ∧ s.served = true ∧ s.asleep = false) →
     s.phase = .on → s.fatal = false → s.getF F.PAIR_STAT.STATE ≠ 6 → 6 ≤ s.stage → s.stage < 15 →
     (s.pfail = true ∨ s.pf.settle = true ∨ s.pf.due = true → exec c s = .next s) ∧
     (s.pfail = false → s.pf.settle = false → s.pf.due = false →
       (s.asleep = false → ∃ u t, exec c s = .next t ∧ t = (if u.pln.planTick = u.tickno + 1 then u.commitPlans else u) ∧
         u.getF F.PWR_PFAIL_STAT.PHASE = 1 ∧ u.isPending Ev.powerFailAccepted = true ∧
         u.getF F.PWR_PFAIL_STAT.DRILL = (if drill then 1 else s.getF F.PWR_PFAIL_STAT.DRILL) ∧
         u.pf.start = s.mtime ∧ u.cws = [] ∧ u.bursts = [] ∧ u.erases = [] ∧
         (∀ e ∈ u.dies, ∀ o, e.2.op = some o → o.kind ≠ .erase ∧ o.cls = 0)) ∧
       (s.asleep = true → s.sleep.wake = 0 → ∃ t, exec c s = .next t ∧ t.pf = { s.pf with due := true, drill := drill } ∧ t.sleep.wake = 3 ∧
         t.getF F.PWR_STAT.LAST_WAKE = 3 ∧ t.isPending Ev.powerFailAccepted = true ∧
         t = { s with regs := t.regs, evc := t.evc, pf := t.pf, sleep := { s.sleep with wake := 3 } }))) ∧
   (∀ (s : State) (n : Nat), s.phase = .on → s.getF F.PWR_STAT.STATE ≠ 3 → 0 < n → n < max 1 (s.getF F.PWR_PFAIL_CFG.FILTER) →
     ∃ t, exec (.pfailGlitch n) s = .next t ∧ t.getF F.PWR_PFAIL_STAT.GLITCHES = satAdd 16 (s.getF F.PWR_PFAIL_STAT.GLITCHES) 1 ∧
       t.getF F.PWR_PFAIL_STAT.PHASE = s.getF F.PWR_PFAIL_STAT.PHASE ∧ regsKept s t [F.PWR_PFAIL_STAT.GLITCHES.reg] ∧ t = { s with regs := t.regs })) ∧
  ((∀ s : State, s.phase = .on → s.getF F.PWR_PFAIL_STAT.PHASE = 2 →
     (s.progs ≠ [] → exec .brownoutDrainEnd s = .next s) ∧
     (s.progs = [] → s.dies.all (fun e => e.2.op.isNone) = true → s.fab = [] →
       (s.pinReads = [] → ∃ t, exec .brownoutDrainEnd s = .next t ∧ t.getF F.PWR_PFAIL_STAT.PHASE = 4 ∧ t.progs.all (fun e => !e.2.running) = true ∧
         regsKept s t [F.PWR_PFAIL_STAT.PHASE.reg]) ∧
       (s.pinReads = [] → s.residentRows = [] → s.journals = [] →
         ∃ t, exec .brownoutDrainEnd s = .next t ∧ t.getF F.PWR_PFAIL_STAT.PHASE = 4 ∧
           t.getF F.PWR_PFAIL_STAT.FOLDED = s.getF F.PWR_PFAIL_STAT.FOLDED ∧ regsKept s t [F.PWR_PFAIL_STAT.PHASE.reg] ∧
           t = { s with regs := t.regs, pf := { s.pf with wait := 0, dir := [] } }))) ∧
   (∀ s : State, s.phase = .on → s.getF F.PWR_PFAIL_STAT.PHASE = 5 →
     (s.progs.any (fun e => match e.2.use with | .shelter _ => true | _ => false) = true → exec .brownoutShelterEnd s = .next s) ∧
     (s.progs.any (fun e => match e.2.use with | .shelter _ => true | _ => false) = false →
       ∃ t, exec .brownoutShelterEnd s = .next t ∧ t.getF F.PWR_PFAIL_STAT.PHASE = 6 ∧ t.pf = { s.pf with wait := s.journalNs.length } ∧
         regsKept s t [F.PWR_PFAIL_STAT.PHASE.reg])) ∧
   (∀ s : State, s.phase = .on → s.getF F.PWR_PFAIL_STAT.PHASE = 7 →
     ∃ t, exec .powerRestored s = .next t ∧ t.isPending Ev.powerRestored = true ∧ regsKept s t [(pendF Ev.powerRestored).reg] ∧
       t = { s with regs := t.regs, evc := t.evc }))

/-- The open-stripe limit (R222 to R224): no more than 64 rows, none from a bank that holds no more than the fixed energy, and as many as fit:
one row more would exceed what is available. HOLDUP_LIMIT fixes it once, 0 for a faulty bank; HOLDUP_TIMEOUT declares the fault; a new plateau more
than 2 % below the one LIMIT was computed from raises hold-up-low and can only lower it. -/
def Obligations.HoldUpLimit : Prop :=
  (∀ av fix row, holdupLimit av fix row ≤ 64 ∧ (av ≤ fix → holdupLimit av fix row = 0) ∧
    (0 < row → fix < av → fix + row * holdupLimit av fix row ≤ av ∧
      (holdupLimit av fix row < 64 → av < fix + row * (holdupLimit av fix row + 1)))) ∧
  (∀ s : State, s.working = true → 5 ≤ s.stage → s.stage ≤ 7 → s.flag F.PWR_HOLDUP.HU_DONE = false →
    (s.flag F.PWR_HOLDUP.FAULT = true → ∃ t, exec .holdupLimit s = .next t ∧ t.limit = 0 ∧ t.flag F.PWR_HOLDUP.HU_DONE = true ∧
      t.flag F.PWR_CENSUS.HU_DONE = true ∧ t.census.hu = { s.census.hu with lastTick := s.tickno } ∧
      regsKept s t [F.PWR_HOLDUP.LIMIT.reg, F.PWR_CENSUS.HU_DONE.reg]) ∧
    (s.flag F.PWR_HOLDUP.FAULT = false → s.census.hu.vTop = none → exec .holdupLimit s = .next s) ∧
    (∀ v, s.flag F.PWR_HOLDUP.FAULT = false → s.census.hu.vTop = some v →
      ∃ t, exec .holdupLimit s = .next t ∧ t.flag F.PWR_HOLDUP.HU_DONE = true ∧ t.flag F.PWR_CENSUS.HU_DONE = true ∧ t.limit ≤ 64 ∧
        t.getF F.PWR_HOLDUP.VTOP_MV = v % 2 ^ 16 ∧ t.getF F.PWR_HOLDUP.SOURCE = s.holdupCap.2 ∧
        t.census.hu = { s.census.hu with lastTick := s.tickno } ∧
        (v ≤ s.gp "V_MIN" 0 0 → t.limit = 0))) ∧
  (∀ s : State, s.working = true → s.windowsOpen = true → s.census.hu.tHi = none → s.flag F.PWR_HOLDUP.FAULT = false →
    s.flag F.PWR_HOLDUP.HU_DONE = false → 1000 * s.gp "HU_TIMEOUT" 0 500 ≤ s.sinceReset →
    ∃ t, exec .holdupTimeout s = .next t ∧ t.flag F.PWR_HOLDUP.FAULT = true ∧ t.limit = 0 ∧ t.isPending Ev.holdUpFault = true ∧
      regsKept s t [F.PWR_HOLDUP.LIMIT.reg, (pendF Ev.holdUpFault).reg] ∧ t = { s with regs := t.regs, evc := t.evc }) ∧
  (∀ (s : State) (v : Nat), s.awake = true → s.pfail = false → s.flag F.GLB_WDOG_STAT.PE_HALTED = false → 6 ≤ s.stage → s.stage ≤ 7 →
    s.flag F.PWR_HOLDUP.HU_DONE = true → s.census.hu.lastTick + 65536 ≤ s.tickno →
    ∃ t, exec (.holdupRemeasure v) s = .next t ∧ t.limit ≤ s.limit ∧ t.census.hu = { s.census.hu with lastTick := s.tickno } ∧
      (98 * s.getF F.PWR_HOLDUP.VTOP_MV ≤ 100 * min v (s.gp "V_TOP_MAX" 0 0) → regsKept s t [] ∧ t = { s with wdog := t.wdog, census := t.census }) ∧
      (100 * min v (s.gp "V_TOP_MAX" 0 0) < 98 * s.getF F.PWR_HOLDUP.VTOP_MV → t.isPending Ev.holdUpLow = true ∧
        (t.limit < s.limit → t.getF F.PWR_HOLDUP.VTOP_MV = min v (s.gp "V_TOP_MAX" 0 0) % 2 ^ 16)))

/-- The THERM_n filter (R528): the output takes a level that the input has held for LEN cycles, 0 acting as 1, and THERM_ACTIVE follows it; a shorter
excursion leaves it and is counted, up to the largest value.
TELEMETRY_SAMPLE counts the sample; a rail sample joins those of the tick (R151); the second VCCQ sample in sequence more than 6 % off holds the
quad and raises vccq-fault, one within clears the sequence (R178); a bank sample is kept (R221); a temperature is kept, raises the highest since reset and
decides junction-high with its hysteresis (R641). -/
def Obligations.ThermalFilterAndSensors : Prop :=
  (∀ (s : State) (n : Nat), s.phase = .on → s.mitten = false →
     (max 1 (s.getF F.EVC_FILTER.LEN) ≤ n → s.flag F.EVC_FILTER.THERM = false →
       ∃ t, exec (.thermAssert n) s = .next t ∧ t.flag F.EVC_FILTER.THERM = true ∧ t.flag F.PLN_CTRL.THERM_ACTIVE = true ∧
         t.isPending Ev.thermalAlert = true ∧ regsKept s t [F.EVC_FILTER.THERM.reg, F.PLN_CTRL.THERM_ACTIVE.reg] ∧ t = { s with regs := t.regs }) ∧
     (max 1 (s.getF F.EVC_FILTER.LEN) ≤ n → s.flag F.EVC_FILTER.THERM = true →
       ∃ t, exec (.thermDeassert n) s = .next t ∧ t.flag F.EVC_FILTER.THERM = false ∧ t.flag F.PLN_CTRL.THERM_ACTIVE = false ∧
         t.isPending Ev.thermalAlert = false ∧ regsKept s t [F.EVC_FILTER.THERM.reg, F.PLN_CTRL.THERM_ACTIVE.reg] ∧
         t = { s with regs := t.regs, pln := t.pln }) ∧
     (n < max 1 (s.getF F.EVC_FILTER.LEN) →
       ∃ t, exec (.thermGlitch n) s = .next t ∧ t.flag F.EVC_FILTER.THERM = s.flag F.EVC_FILTER.THERM ∧
         t.getF F.EVC_FILTER.GLITCHES = satAdd 16 (s.getF F.EVC_FILTER.GLITCHES) 1 ∧ t = { s with regs := t.regs, evc := t.evc })) ∧
  (∀ (s : State) (v : Int), s.clocked = true → s.windowsOpen = true →
     (∀ g, g < 8 → ∃ t, exec (.telemetrySample (.rail g) v) s = .next t ∧
       storeGet (fun _ => []) t.pln.samples g = storeGet (fun _ => []) s.pln.samples g ++ [v.toNat] ∧ t.telem.samples = (s.telem.samples + 1) % 2 ^ 32 ∧
       t = { s with telem := t.telem, pln := t.pln, census := t.census }) ∧
     (∀ q, q < s.build.quads → s.flag (qF F.CHU_QUAD_CFG.ENABLED q) = true → s.vccqOff q v.toNat 6 = true →
       ∃ t, exec (.telemetrySample (.vccq q) v) s = .next t ∧ (t.quad q).bad = (s.quad q).bad + 1 ∧ (t.quad q).good = 0 ∧
         (1 ≤ (s.quad q).bad → (t.quad q).held = true ∧ ((s.quad q).held = false → t.isPending Ev.vccqFault = true)) ∧
         ((s.quad q).bad = 0 → (t.quad q).held = (s.quad q).held ∧ t = { s with telem := t.telem, quads := t.quads })) ∧
     (∀ q, q < s.build.quads → s.flag (qF F.CHU_QUAD_CFG.ENABLED q) = true → s.vccqOff q v.toNat 6 = false →
       ∃ t, exec (.telemetrySample (.vccq q) v) s = .next t ∧ t.quad q = { s.quad q with bad := 0 } ∧ t = { s with telem := t.telem, quads := t.quads }) ∧
     (∃ t, exec (.telemetrySample .bank v) s = .next t ∧ t.telem.bankMv = v.toNat ∧ t = { s with telem := t.telem, census := t.census }) ∧
     (∀ x, x = Sensor.coreTemp ∨ (∃ q, x = Sensor.quadTemp q ∧ q < s.build.quads) →
       ∃ t, exec (.telemetrySample x v) s = .next t ∧ (∀ q, x = .quadTemp q → t.quadTempOf q = v) ∧ (x = .coreTemp → t.telem.coreTemp = v) ∧
         t.telem.maxTemp = some (max v (s.telem.maxTemp.getD v)) ∧
         (s.getF F.GLB_TEMP_CFG.HIGH ≤ v → t.isPending Ev.junctionHigh = true) ∧
         ((∀ j ∈ t.junctions, j < s.getF F.GLB_TEMP_CFG.HIGH) → s.isPending Ev.junctionHigh = false → t.isPending Ev.junctionHigh = false) ∧
         t = { s with telem := t.telem, evc := { s.evc with junction := t.evc.junction } }))

/-! ## Census -/

/-- Stage 1 (R212, R582): IMAGE_LOAD ends it on a build without a pair and where the partner's image is known, else it waits for the partner;
without a NOR device, and no reload stored, no slot verifies and HALT is 1. PARTNER_WAIT_TIMEOUT ends the wait in MISMATCH; PARTNER_IMAGE_IDENT tells
the partner's image, which must be this instance's.
Stage 2 (R213, R215, R255): a reload asked for before Gauntlet lock is stored, and in stage 2 loads its slot; after lock it does nothing. The lock
ends the stage: census halts with the code HALT holds, with code 2 when boot code rejected the image, else stage 3 begins; the Gauntlet is locked in
each case. -/
def Obligations.ImageAndBootStages : Prop :=
  ((∀ (s : State) (nor : Option NorSfdp), s.working = true → s.stage = 1 → s.pf.settle = false → s.flag F.CFS_DEV.SFDP_OK = false →
     s.pair.waiting = false →
     (s.build.pair = false ∨ s.pair.image ≠ none → ∃ t, exec (.imageLoad nor) s = .next t ∧ t.stage = 2 ∧ t.locked = s.locked) ∧
     (s.build.pair = true → s.pair.image = none → ∃ t, exec (.imageLoad nor) s = .next t ∧ t.stage = 1 ∧ t.pair.waiting = true) ∧
     (s.build.pair = false → s.flag F.CFS_DEV.FORMATTED = false → s.record 0 = none → s.getF F.PWR_BOOT_CTRL.SLOT_REQ = 0 →
       ∃ t, exec (.imageLoad none) s = .next t ∧ t.stage = 2 ∧ t.getF F.PWR_CENSUS.HALT = 1 ∧ regsKept s t [F.PWR_CENSUS.STAGE.reg] ∧
         t = { s with regs := t.regs })) ∧
   (∀ s : State, s.working = true → s.build.pair = true → s.stage = 1 → s.pair.waiting = true → s.pf.settle = false → s.pair.image = none →
     ∃ t, exec .partnerWaitTimeout s = .next t ∧ t.stage = 2 ∧ t.getF F.PAIR_STAT.STATE = 3) ∧
   (∀ (s : State) (h g : Nat), s.working = true → s.build.pair = true → s.stage ≠ 1 → s.fostering = false →
     (s.census.ident = some (h, g) → s.getF F.PAIR_STAT.STATE = 0 →
       ∃ t, exec (.partnerImageIdent h g) s = .next t ∧ t.getF F.PAIR_STAT.STATE = 2 ∧ t.pair.image = some (h, g) ∧
         regsKept s t [F.PAIR_STAT.STATE.reg] ∧ t = { s with regs := t.regs, pair := t.pair }) ∧
     (∀ x, s.census.ident = some x → x ≠ (h, g) → s.getF F.PAIR_STAT.STATE ≠ 3 →
       ∃ t, exec (.partnerImageIdent h g) s = .next t ∧ t.getF F.PAIR_STAT.STATE = 3 ∧ t.pair.image = some (h, g) ∧ t.isPending Ev.pairMismatch = true ∧
         regsKept s t [F.PAIR_STAT.STATE.reg, (pendF Ev.pairMismatch).reg] ∧ t = { s with regs := t.regs, pair := t.pair, evc := t.evc }))) ∧
  ((∀ (s : State) (b : Bool), s.served = true → s.pf.settle = false →
     (s.locked = true → exec (.slotReload b) s = .next s) ∧
     (s.locked = false → s.stage ≠ 2 → ∃ t, exec (.slotReload b) s = .next t ∧ t.getF F.PWR_BOOT_CTRL.SLOT_REQ = (if b then 2 else 1) ∧
       regsKept s t [F.PWR_BOOT_CTRL.SLOT_REQ.reg] ∧ t = { s with regs := t.regs }) ∧
     (s.locked = false → s.stage = 2 → s.cfs.op = none → ∃ t, exec (.slotReload b) s = .next t ∧
       t.getF F.PWR_BOOT_CTRL.SLOT_REQ = (if b then 2 else 1) ∧ t.flag F.PWR_CENSUS.SLOT_B = b ∧
       t.getF F.PWR_CENSUS.HALT = (if t.slotOk b then 0 else 1) ∧ t.stage = 2)) ∧
   (∀ s : State, s.served = true → s.stage = 2 → s.locked = false → s.pf.settle = false → s.flag F.CFS_DEV.SFDP_OK = false →
     (s.getF F.PWR_CENSUS.HALT ≠ 0 → ∃ t, exec .gauntletLock s = .next t ∧ t.locked = true ∧ t.stage = 15 ∧
       t.getF F.PWR_CENSUS.HALT = s.getF F.PWR_CENSUS.HALT ∧ t.isPending Ev.censusHalted = true) ∧
     (s.getF F.PWR_CENSUS.HALT = 0 → s.getF F.PWR_BOOT_CTRL.SLOT_REQ = 3 → ∃ t, exec .gauntletLock s = .next t ∧ t.locked = true ∧ t.stage = 15 ∧
       t.getF F.PWR_CENSUS.HALT = 2 ∧ t.isPending Ev.censusHalted = true) ∧
     (s.getF F.PWR_CENSUS.HALT = 0 → s.getF F.PWR_BOOT_CTRL.SLOT_REQ ≠ 3 → ∃ t, exec .gauntletLock s = .next t ∧ t.locked = true ∧ t.stage = 3 ∧
       t.flag F.PWR_CENSUS.FIRST = (s.census.record == [] || s.getF F.PWR_BOOT_CTRL.FRESH_KEY == 0xC3) ∧
       regsKept s t [F.GNT_LOCK.LOCK.reg, F.PWR_CENSUS.STAGE.reg, F.PAIR_STAT.STATE.reg] ∧ t = { s with regs := t.regs })))

/-- Enumeration of a quad (R178, R199) and the idle check of a rail group (R219): a VCCQ reading more than 5 % off leaves the quad out; a calibration that
ends within its range gives the codes, one that ends at a limit sets LIMITED, counts on the quad's channels and raises zq-fault. A rail group whose 64
idle samples lie more than 10 % off leaves its quads out and raises rail-fault. -/
def Obligations.EnumerationOfQuads : Prop :=
  (∀ (s : State) (q mv up down : Nat) (l : List (List RomVolume)), s.working = true → s.pf.settle = false → (s.stage = 2 ∨ s.stage = 3) →
    s.census.imaged = true → s.quadWanted q = true → q ∉ s.census.roms → s.census.brought = false →
    (s.vccqOff q mv 5 = true → ∃ t, exec (.romEnumerate q mv up down l) s = .next t ∧ t.census = { s.census with
        roms := s.census.roms ++ [q], out := s.census.out ++ [q] } ∧ t = { s with census := t.census, telem := t.telem }) ∧
    (s.vccqOff q mv 5 = false → ∃ t, exec (.romEnumerate q mv up down l) s = .next t ∧ q ∈ t.census.roms ∧ t.census.out = s.census.out ∧
      storeGet (fun _ => []) t.census.rom q = l ∧ t.getF (F.CHU_QUAD_ZQ.CALS q) = (s.getF (F.CHU_QUAD_ZQ.CALS q) + 1) % 2 ^ 15 ∧
      (t.quad q).zqTick = s.tickno ∧
      (0 < up → up < 63 → 0 < down → down < 63 → t.getF (F.CHU_QUAD_ZQ.PULLUP q) = up ∧ t.getF (F.CHU_QUAD_ZQ.PULLDOWN q) = down ∧
        regsKept s t [(F.CHU_QUAD_ZQ.CALS q).reg]) ∧
      (up = 0 ∨ 63 ≤ up ∨ down = 0 ∨ 63 ≤ down → t.flag (F.CHU_QUAD_ZQ.LIMITED q) = true ∧ t.isPending Ev.zqFault = true ∧
        ∀ k, k < 4 → t.getF (F.CHU_ERR.ZQ_FAILS (4 * q + k)) = satAdd 16 (s.getF (F.CHU_ERR.ZQ_FAILS (4 * q + k))) 1))) ∧
  (∀ (s : State) (g : Nat) (l : List Nat), s.working = true → s.stage = 2 → s.census.imaged = true → s.pf.settle = false → s.railsInUse = [g] →
    storeGet (fun _ => []) s.census.idle g = l → g ∉ s.census.idleDone →
    (l.length < 64 → exec .railIdleCheck s = .next s) ∧
    (64 ≤ l.length → ∀ d, d = (if l.sum / 64 ≤ s.getF (F.PLN_RAIL_CFG.NOMINAL_MV g) then s.getF (F.PLN_RAIL_CFG.NOMINAL_MV g) - l.sum / 64
        else l.sum / 64 - s.getF (F.PLN_RAIL_CFG.NOMINAL_MV g)) →
      (10 * d ≤ s.getF (F.PLN_RAIL_CFG.NOMINAL_MV g) → ∃ t, exec .railIdleCheck s = .next t ∧
        t = { s with census := { s.census with idleDone := s.census.idleDone ++ [g] } }) ∧
      (s.getF (F.PLN_RAIL_CFG.NOMINAL_MV g) < 10 * d → ∃ t, exec .railIdleCheck s = .next t ∧ t.isPending Ev.railFault = true ∧
        (∀ q, q < s.build.quads → s.railOf q = some g → q ∈ t.census.out) ∧ t = { s with regs := t.regs, evc := t.evc, census := t.census })))

/-- Stage 3 (R216, R220): bring-up is done once, and with no die in use census halts with code 5. Each load step is an eighth more than the one
before; a droop sets the envelope back to the step before and raises rail-weak, and the next group follows; after the last group stage 4 begins. -/
def Obligations.BringUpStage : Prop :=
  (∀ (s : State) (l : List BringQuad) (d : List Nat), s.working = true → s.stage = 3 → s.pf.settle = false → s.census.brought = false →
    s.getF F.PAIR_STAT.STATE ≠ 7 → (∀ q, s.quadWanted q = true → q ∈ s.census.roms) →
    ∃ t, exec (.censusBringup l d) s = .next t ∧ t.census.brought = true ∧
      (t.census.found.any (fun f => f.used) = true → t.stage = 3) ∧
      (t.census.found.any (fun f => f.used) = false → t.stage = 15 ∧ t.getF F.PWR_CENSUS.HALT = 5 ∧ t.isPending Ev.censusHalted = true)) ∧
  (∀ s : State, s.working = true → s.stage = 3 → s.census.brought = true → s.pf.settle = false →
    (∀ g k l, s.census.load = some (g, k, l, false) → k < 8 → ∃ t l', exec .railLoadStep s = .next t ∧
      t = { s with census := { s.census with load := some (g, k + 1, l', false) } }) ∧
    (∀ g k l, g < 8 → s.census.load = some (g, k, l, true) → 1 ≤ k → k ≤ 8 → ∃ t, exec .railLoadStep s = .next t ∧ t.isPending Ev.railWeak = true ∧
      t.getF (F.PLN_RAIL_CFG.ENV_MA g) = s.getF (F.PLN_RAIL_CFG.ENV_MA g) * (k - 1) / 8) ∧
    ((∀ g, s.railDies g = []) → (s.census.load = none ∨ ∃ g l, s.census.load = some (g, 8, l, false)) →
      ∃ t, exec .railLoadStep s = .next t ∧ t.stage = 4 ∧ t.census.load = none ∧ regsKept s t [F.PWR_CENSUS.STAGE.reg]))

/-- Stages 4 and 5 (R226, Table 6-5): a census record whose journal cannot be loaded halts census with code 3; a first census with no four journal
members with code 10; its stage 4 ends when its first checkpoint is written. Recovery runs its steps in order, no step while the journal writes or
recovery erases; at their end stage 6 begins with READ_READY. -/
def Obligations.JournalAndRecoveryStages : Prop :=
  (∀ (s : State) (l : List MediaRead), s.censusRuns 4 = true →
    (s.census.phase = 0 → s.flag F.PWR_CENSUS.FIRST = false →
      s.peMark.setAreas.loadJournal l 0 (s.peMark.setAreas.recordFamily (field s.census.record 8 2)) s.census.record = none →
      ∃ t, exec (.censusJournal l) s = .next t ∧ t.stage = 15 ∧ t.getF F.PWR_CENSUS.HALT = 3 ∧ t.isPending Ev.censusHalted = true) ∧
    (s.census.phase = 0 → s.flag F.PWR_CENSUS.FIRST = true → s.peMark.setAreas.firstCensusMap.journalMembers.length < 4 →
      ∃ t, exec (.censusJournal l) s = .next t ∧ t.stage = 15 ∧ t.getF F.PWR_CENSUS.HALT = 10 ∧ t.isPending Ev.censusHalted = true) ∧
    (2 ≤ s.census.phase → s.journalIdle = false → exec (.censusJournal l) s = .next s) ∧
    (2 ≤ s.census.phase → s.journalIdle = true → ∃ t, exec (.censusJournal l) s = .next t ∧ t.stage = 5 ∧ t.wdog.lastStep = s.tickno ∧
      regsKept s t [F.PWR_CENSUS.STAGE.reg] ∧ t = { s with regs := t.regs, wdog := t.wdog })) ∧
  (∀ (s : State) (l : List MediaRead), s.censusRuns 5 = true →
    (s.journalIdle = false ∨ s.recoveryErasing = true → exec (.censusRecovery l) s = .next s) ∧
    (s.journalIdle = true → s.recoveryErasing = false →
      (s.census.step = 1 → ∃ t, exec (.censusRecovery l) s = .next t ∧ t.census.step = 2 ∧ t.stage = 5 ∧
        t.getF F.PWR_RECOVERY.SOURCE = s.recoverySource % 4) ∧
      (8 < s.census.step → ∃ t, exec (.censusRecovery l) s = .next t ∧ t.stage = 6 ∧ t.flag F.PWR_CENSUS.READ_READY = true ∧
        t.isPending Ev.readReady = true ∧ t.getF F.PWR_CENSUS_TIME.READY_US = min (2 ^ 32 - 1) s.sinceReset ∧ t.census.recDue = true)))

/-- From stage 6 to WRITE_READY, the assumed gap and the census record (R225, R234, R236): open rows are closed first; WRITE_READY takes the hold-up
limit, no row left to close and no band closing, and makes the host function ready. Without an anchor for 1,048,576 ticks MediaTime advances by the
worst-case gap, never at a first census. A record that is due is handed to the configuration store. -/
def Obligations.WriteReadyAndRecord : Prop :=
  (∀ s : State, s.censusRuns 6 = true →
    (s.census.close = [] → exec .recoveryRowClose s = .next s) ∧
    (∀ g b, s.census.close = [(g, b)] → (s.wband g b).rows = [] → ¬ (s.puOf (s.sset g).family (s.sset g).mode = 1 ∧ s.laOf (s.sset g).family (s.sset g).mode = 0) →
      ∃ t, exec .recoveryRowClose s = .next t ∧ t.census.close = [] ∧ t.stage = 6)) ∧
  (∀ s : State, s.censusRuns 6 = true → s.flag F.PWR_CENSUS.HU_DONE = true → s.census.close = [] → s.openRows = [] →
    s.wbands.any (fun e => e.2.closing) = false →
    ∃ t, exec .writeReady s = .next t ∧ t.stage = 7 ∧ t.flag F.PWR_CENSUS.WRITE_READY = true ∧ t.isPending Ev.writeReady = true ∧
      (s.flag F.GLB_HFN_STATUS.PRESENT = true → s.host.resets = [] → t.flag F.GLB_HFN_STATUS.READY = true) ∧
      regsKept s t [F.PWR_CENSUS.STAGE.reg, (pendF Ev.writeReady).reg, F.GLB_HFN_STATUS.READY.reg] ∧ t = { s with regs := t.regs, evc := t.evc }) ∧
  (∀ s : State, s.awake = true → s.flag F.PWR_CENSUS.GAP_ASSUMED = false → s.census.anchor = none → 4 ≤ s.stage → s.stage ≠ 15 →
    (s.flag F.PWR_CENSUS.FIRST = true ∨ s.tickno < 1048576 → exec .gapAssumed s = .next s) ∧
    (s.flag F.PWR_CENSUS.FIRST = false → 1048576 ≤ s.tickno → ∃ t, exec .gapAssumed s = .next t ∧ t.flag F.PWR_CENSUS.GAP_ASSUMED = true ∧
      t.getF F.TCK_MTIME.MEDIATIME = (s.getF F.TCK_MTIME.MEDIATIME + s.gp "worst-case gap" 0 7776000000000) % 2 ^ 64 ∧
      t.census.gap = s.gp "worst-case gap" 0 7776000000000 ∧ t.isPending Ev.gapAssumed = true ∧ t.getF F.TCK_FRAC.ACC = s.getF F.TCK_FRAC.ACC)) ∧
  (∀ s : State, s.awake = true → s.pfail = false → s.pf.settle = false → 4 ≤ s.stage → s.stage ≤ 7 →
    (s.census.recDue = false → s.stage < 6 ∨ s.tickno < s.census.lastRecord + 1048576 → exec .censusRecordCommit s = .next s) ∧
    (s.census.recDue = true ∨ 6 ≤ s.stage ∧ s.census.lastRecord + 1048576 ≤ s.tickno →
      s.flag F.CFS_DEV.FORMATTED = true → s.cfs.cur ≠ none → ∃ t, exec .censusRecordCommit s = .next t ∧
        t.cfs.appends = s.cfs.appends ++ [Sys2Proof.Machine.Append.mk .block (s.censusPayload 0)] ∧ t.census = { s.census with recDue := false, lastRecord := s.tickno } ∧
        t = { s with cfs := t.cfs, census := t.census }))

/-! ## Channel units -/

/-- CMD_ITEM (R132, R134): the item at the front of a channel's plan runs its routine; with no fault a sense, a program, an erase or a reset is then
under way on its die from this tick on, the codewords of a sense are sensing, a reset is no longer asked for, and no other die is touched.
MSEQ_OVERRUN (R192, R193): a routine that reaches its declared cost faults with code 1; the item is taken from the plan, the offsets loaded on the die
are no longer known, and a sense is repeated once. -/
def Obligations.CommandItemsAndOverrun : Prop :=
  (∀ (s : State) (h : Nat) (it : Item) (rest : List Item) (rdb : List Byte) (waits : List Nat) (x : Nat), s.clocked = true →
     s.exItems h = it :: rest → s.itemAlive it = true → ((s.setExec h rest).runItem h it rdb waits).2.1 = some x →
     it.act ∈ [Act.read, .prog, .erase, .resetLun] →
     ∃ t, exec (.cmdItem h rdb waits) s = .next t ∧ t.exItems h = rest ∧ (∀ p, p ≠ it.pdie → t.die p = s.die p) ∧
       (it.act = .read → (∃ o, (t.die it.pdie).read = some o ∧ o.kind = .read ∧ o.lastRun = s.tickno ∧ o.cls = it.cls) ∧
         (t.die it.pdie).op = (s.die it.pdie).op ∧ (t.die it.pdie).senses = ((s.die it.pdie).senses + 1) % 2 ^ 32 ∧
         (∀ i ∈ it.jobs, s.cws.any (fun e => e.1 == i && e.2.stage == .want && e.2.need != [] && e.2.pdie == it.pdie) = true →
           (t.cw i).stage = .sensing)) ∧
       (it.act = .prog → (∃ o, (t.die it.pdie).op = some o ∧ o.kind = .prog ∧ o.job = it.jobs.headD 0 ∧ o.lastRun = s.tickno) ∧
         (t.prog (it.jobs.headD 0)).running = true) ∧
       (it.act = .erase → (∃ o, (t.die it.pdie).op = some o ∧ o.kind = .erase ∧ o.job = it.jobs.headD 0 ∧ o.lastRun = s.tickno) ∧
         (t.eraseJob (it.jobs.headD 0)).running = true) ∧
       (it.act = .resetLun → (∃ o, (t.die it.pdie).op = some o ∧ o.kind = .reset) ∧ (t.die it.pdie).resetPend = false ∧
         (t.die it.pdie).susp = none)) ∧
  (∀ (s : State) (h : Nat) (it : Item) (rest : List Item) (rdb : List Byte) (waits : List Nat) (j : Nat), s.clocked = true →
     s.exItems h = it :: rest → s.itemAlive it = true → (s.runItem h it rdb waits).2.2 = some 1 → it.act = .read → it.jobs = [j] →
     s.cws.any (fun e => e.1 == j) = true → (s.cw j).faults = 0 →
     ∃ t, exec (.mseqOverrun h rdb waits) s = .next t ∧ t.cw j = { s.cw j with faults := 1 } ∧ (∀ i, i ≠ j → t.cw i = s.cw i) ∧ t.exItems h = rest ∧
       t.die it.pdie = { s.die it.pdie with kept := none } ∧ (∀ p, p ≠ it.pdie → t.die p = s.die p))

/-- STATUS_ITEM (R134, R355): with the status the family expects, RDY ends the sense under way and its codewords are in the page register; without it
what is under way goes on and the die's other items of the tick are dropped.
DOUT_ITEM and DIN_ITEM move codewords in parts, in order (R134, R139): what a read has put out so far joins its part; what a program takes in is the
next piece of the stream of its codeword. -/
def Obligations.StatusAndDataItems : Prop :=
  (∀ (s : State) (h : Nat) (it : Item) (rest : List Item) (rdb : List Byte) (waits : List Nat) (x : Nat), s.clocked = true →
     s.exItems h = it :: rest → it.act = .status → ((s.setExec h rest).runItem h it rdb waits).2.1 = some x →
     x % 256 &&& s.fp (s.famOf it.pdie) "STATUS_EXPECT" 1 0 =
       s.fp (s.famOf it.pdie) "STATUS_EXPECT" 0 0 &&& s.fp (s.famOf it.pdie) "STATUS_EXPECT" 1 0 →
     ∀ o, (s.die it.pdie).op = none → (s.die it.pdie).read = some o →
       (x.testBit 6 = true → ∃ t, exec (.statusItem h rdb waits) s = .next t ∧ (t.die it.pdie).read = none ∧ t.exItems h = rest ∧
         (∀ e ∈ t.cws, e.2.pdie = it.pdie → e.2.stage ≠ .sensing) ∧ (∀ p, p ≠ it.pdie → t.die p = s.die p)) ∧
       (x.testBit 6 = false → ∃ t o', exec (.statusItem h rdb waits) s = .next t ∧ (t.die it.pdie).read = some o' ∧ o'.kind = o.kind ∧
         (o'.late = true ↔ o.late = true ∨ o.est ≤ s.tickno) ∧ t.exItems h = rest.filter (fun i => i.pdie != it.pdie) ∧ t.cws = s.cws ∧
         (∀ p, p ≠ it.pdie → t.die p = s.die p))) ∧
  (∀ (s : State) (h : Nat) (it : Item) (rest : List Item) (data rdb : List Byte) (waits : List Nat) (x : Nat), s.clocked = true →
     s.exItems h = it :: rest → s.itemAlive it = true → ((s.setExec h rest).runItem h it rdb waits).2.1 = some x →
     (it.act = .dout → data.length = it.len → (s.cw (it.jobs.headD 0)).part.length + it.len < s.cwBytes (s.famOf it.pdie) →
       ∃ t, exec (.doutItem h data rdb waits) s = .next t ∧ (t.cw (it.jobs.headD 0)).part = (s.cw (it.jobs.headD 0)).part ++ data ∧
         (t.cw (it.jobs.headD 0)).stage = (s.cw (it.jobs.headD 0)).stage ∧ (∀ i, i ≠ it.jobs.headD 0 → t.cw i = s.cw i) ∧ t.exItems h = rest ∧
         t.dies = s.dies) ∧
     (it.act = .din → ∃ t b, exec (.dinItem h rdb waits) s = .next t ∧ t.out = b ++
         [Out.din (s.chanOf h) (slice (s.dinStream (s.prog (it.jobs.headD 0)) (it.jobs.getD 1 0)) it.off it.len)] ∧
       (s.progLen (s.prog (it.jobs.headD 0)) (it.jobs.getD 1 0) ≤ it.off + it.len →
         (t.prog (it.jobs.headD 0)).input = it.jobs.getD 1 0 + 1 ∧ (t.prog (it.jobs.headD 0)).part = 0) ∧
       (it.off + it.len < s.progLen (s.prog (it.jobs.headD 0)) (it.jobs.getD 1 0) →
         (t.prog (it.jobs.headD 0)).input = (s.prog (it.jobs.headD 0)).input ∧ (t.prog (it.jobs.headD 0)).part = it.off + it.len) ∧
       (∀ j, j ≠ it.jobs.headD 0 → t.prog j = s.prog j) ∧ t.exItems h = rest ∧ t.dies = s.dies))

/-- Retraining and calibration (R178, R199, R205 to R207): TRAIN_FORCE asks for it, unless the channel has failed; a retraining tick takes the channel whole,
counts, records its tick and clears every request; the edges it accepts keep a margin of 4 at least. A short calibration with codes inside
their range waits for the next boundary, one at an end is counted on each channel and raises zq-fault; the end of a VCCQ hold asks for retraining. -/
def Obligations.RetrainingAndCalibration : Prop :=
  (∀ e low high a b, newEdges e low high = some (a, b) → a ≤ b ∧ 4 ≤ margin (a, b)) ∧
  (∀ (s : State) (c : Nat), s.served = true → s.asleep = false → c < s.build.channels →
    ((s.chan (s.chanOf c)).failed = true → exec (.trainForce c) s = .next s) ∧
    ((s.chan (s.chanOf c)).failed = false → ∃ t, exec (.trainForce c) s = .next t ∧ t.flag (F.CHU_TRAIN_STAT.PEND_FW c) = true ∧
      regsKept s t [(F.CHU_TRAIN_STAT.PEND_FW c).reg] ∧ t = { s with regs := t.regs })) ∧
  (∀ (s : State) (h : Nat) (dies : List TrainDie), h < 96 → s.frontIs h (· == .train) = true → (s.chan (s.chanOf h)).badTrains = 0 →
    ∃ t, exec (.trainItem h dies) s = .next t ∧ t.exItems h = [] ∧
      t.getF (F.CHU_TRAIN_STAT.COUNT h) = (s.getF (F.CHU_TRAIN_STAT.COUNT h) + 1) % 2 ^ 16 ∧ t.getF (F.CHU_TRAIN_TICK.TICK h) = s.tickno ∧
      (∀ f ∈ [F.CHU_TRAIN_STAT.PEND_ERROR h, F.CHU_TRAIN_STAT.PEND_FW h, F.CHU_TRAIN_STAT.PEND_TEMP h, F.CHU_TRAIN_STAT.PEND_MARGIN h,
        F.CHU_TRAIN_STAT.PEND_VCCQ h], t.flag f = false) ∧
      (t.chan (s.chanOf h)).vol = none ∧ 1 ≤ t.getF (F.CHU_TRAIN_STAT.RESULT h) ∧ t.dies = s.dies) ∧
  (∀ (s : State) (q up down : Nat), q < 24 → s.clocked = true → s.flag (F.CHU_QUAD_CFG.ENABLED q) = true →
    (s.quad q).zqTick + s.gp "ZQ_PERIOD" 0 131072 ≤ s.tickno →
    ∃ t, exec (.zqShortCal q up down) s = .next t ∧ (t.quad q).zqTick = s.tickno ∧ (t.quad q).zqTemp = s.quadTempOf q ∧
      t.getF (F.CHU_QUAD_ZQ.CALS q) = (s.getF (F.CHU_QUAD_ZQ.CALS q) + 1) % 2 ^ 15 ∧
      (0 < up → up < 63 → 0 < down → down < 63 → (t.quad q).zqNew = some (up, down) ∧ regsKept s t [(F.CHU_QUAD_ZQ.CALS q).reg]) ∧
      (up = 0 ∨ 63 ≤ up ∨ down = 0 ∨ 63 ≤ down → t.isPending Ev.zqFault = true ∧ (t.quad q).zqNew = (s.quad q).zqNew ∧
        ∀ k, k < 4 → t.getF (F.CHU_ERR.ZQ_FAILS (4 * q + k)) = satAdd 16 (s.getF (F.CHU_ERR.ZQ_FAILS (4 * q + k))) 1)) ∧
  (∀ (s : State) (q : Nat), q < 24 → s.clocked = true → (s.quad q).held = true → 16 ≤ (s.quad q).good →
    ∃ t, exec (.vccqHoldEnd q) s = .next t ∧ t.quad q = { s.quad q with held := false, good := 0 } ∧ (∀ k, k ≠ q → t.quad k = s.quad k) ∧
      (∀ k, k < 4 → (s.chan (s.chanOf (4 * q + k))).failed = false → t.flag (F.CHU_TRAIN_STAT.PEND_VCCQ (4 * q + k)) = true) ∧
      t = { s with regs := t.regs, quads := t.quads })

/-- A die that does not answer (R356, R361, R362): a suspension not taken after 4 ticks is given up and counted; an operation that runs on past its bound
is timed out: the die is to be reset, its timeouts are counted and die-timeout is raised; a reset that does not end makes the die
unresponsive, and die-unresponsive is raised. -/
def Obligations.DiesThatDoNotAnswer : Prop :=
  (∀ (s : State) (p : Nat) (o : ArrayOp) (u : Susp), s.clocked = true → (s.die p).op = some o → (s.die p).susp = some u → u.taken = false →
    u.gone = false → u.start + 4 ≤ s.tickno →
    ∃ t, exec (.suspendAbandon p) s = .next t ∧ (t.die p).notTaken = satAdd 32 (s.die p).notTaken 1 ∧
      (t.die p).susp = some { u with gone := true, fixed := true, joined := [] } ∧ (t.die p).op = some { o with susps := o.susps + 1 } ∧
      (∀ k, k ≠ p → t.die k = s.die k) ∧ t = { s with dies := t.dies, regs := t.regs, evc := t.evc }) ∧
  (∀ (s : State) (p : Nat) (o : ArrayOp), s.clocked = true → (s.die p).op = none → (s.die p).read = some o → s.timedOut p o = true →
    (∀ e ∈ s.cws, e.2.pdie ≠ p) →
    ∃ (u t : State), exec (.dieTimeout p) s = .next t ∧ t = u.noteTimeout p ∧ (u.die p).timeouts = satAdd 32 (s.die p).timeouts 1 ∧
      (u.die p).resetPend = true ∧ (u.die p).resetCls = o.cls ∧ (u.die p).read = none ∧ u.isPending Ev.dieTimeout = true ∧
      (∀ k, k ≠ p → u.die k = s.die k)) ∧
  (∀ (s : State) (p : Nat) (o : ArrayOp), s.clocked = true → (s.die p).op = some o → o.kind = .reset → o.late = true →
    (s.die p).resetTill ≤ s.tickno → (∀ e ∈ s.cws, e.2.pdie ≠ p) → (∀ e ∈ s.progs, e.2.pdie ≠ p) →
    ∃ (u t : State), exec (.dieUnresponsive p) s = .next t ∧ t = u.dieFails p false 1 ∧ (u.die p).unresp = true ∧ (u.die p).op = none ∧
      (u.die p).read = none ∧ u.isPending Ev.dieUnresponsive = true ∧ (∀ k, k ≠ p → u.die k = s.die k))

/-! ## Work queues -/

/-- A write of 1 to ENABLE, and of 1 to SHUTDOWN (R245, R281, R282, Table 7-1): an enable acts on a DISABLED queue alone; the first check that fails gives
CAUSE, else the queue is ENABLED with its indices at 0; a shutdown of an ENABLED or ERROR queue ends every entry that waits with 0x0010, and a queue
without entries is DISABLED at once. -/
def Obligations.QueueEnableAndShutdown : Prop :=
  ∀ (s : State) (bar : Bool) (q : Nat), s.asleep = false →
    (s.qWriteOk bar false q = true →
      (s.qState q ≠ 0 → exec (.queueEnable bar q) s = .next s) ∧
      (s.qState q = 0 → s.enableCause q ≠ 0 → ∃ t, exec (.queueEnable bar q) s = .next t ∧ t.getF (F.WQ_STATUS.CAUSE q) = s.enableCause q ∧
        t.qState q = 0 ∧ regsKept s t [(F.WQ_STATUS.CAUSE q).reg] ∧ t = { s with regs := t.regs }) ∧
      (s.qState q = 0 → s.enableCause q = 0 → s.build.pair = false → ∃ t, exec (.queueEnable bar q) s = .next t ∧ t.qState q = 1 ∧
        t.getF (F.WQ_STATUS.CAUSE q) = 0 ∧ t.getF (F.WQ_STATUS.SQ_CI q) = 0 ∧ t.getF (F.WQ_OUT.CQ_PI q) = 0 ∧
        (t.queue q).piSeen = 0 ∧ (t.queue q).fetchPos = 0 ∧ (t.queue q).copies = [] ∧ (∀ k, k ≠ q → t.queue k = s.queue k) ∧
        regsKept s t [(F.WQ_STATUS.STATE q).reg, (F.WQ_OUT.CQ_PI q).reg] ∧ t = { s with regs := t.regs, queues := t.queues })) ∧
    (s.qWriteOk bar true q = true →
      (s.qState q = 0 ∨ s.qState q = 2 → exec (.queueShutdown bar q) s = .next s) ∧
      (s.qState q = 1 ∨ s.qState q = 3 →
        (s.ctxsOf q = [] → ∃ t, exec (.queueShutdown bar q) s = .next t ∧ t.qState q = 0 ∧ (t.queue q).copies = [] ∧
          (t.queue q).abort = 0x10 ∧ (∀ r ∈ t.fab, r.who ≠ .poll q ∧ ∀ p, r.who ≠ .fetch q p)) ∧
        (s.ctxsOf q ≠ [] → s.ctxsOf q = s.ctxs → (∀ e ∈ s.ctxs, e.2.state = .waiting) → storeWf (fun _ => Ctx.zero) s.ctxs = true →
          ∃ t, exec (.queueShutdown bar q) s = .next t ∧ t.qState q = 2 ∧
            ∀ e ∈ s.ctxs, (t.ctx e.1).state = .ready ∧ (t.ctx e.1).status = 0x10 ∧ (t.ctx e.1).entry = e.2.entry)))

/-- POLL_RESULT (R247, R248, R271, R284): indices inside the ring and consistent take effect; an index beyond the ring puts the queue in ERROR with cause 16
and raises queue-error; a queue that is not ENABLED takes the consumer index alone.
Arbitration (R252 to R254): a grant names a queue with entries available, for no more of them than its burst allows; an urgent queue goes before every
other, and the others spend credit. ARB_GRANT takes the positions: the fetch position moves past them and each is fetched. With nothing available
the credits are loaded anew and nothing else changes. -/
def Obligations.PollAndArbitration : Prop :=
  (∀ (s : State) (q : Nat) (w : Word), q < 1024 → s.working = true → s.fabOpen (.poll q) = true → s.getF F.PWR_STAT.STATE ≠ 4 →
     (s.qState q = 1 → getBits w 15 0 < s.depth q → getBits w 31 16 < s.depth q →
       ringDist (s.depth q) (s.queue q).fetchPos (s.queue q).piSeen ≤ ringDist (s.depth q) (s.queue q).fetchPos (getBits w 15 0) →
       ringDist (s.depth q) (s.queue q).fetchPos (getBits w 15 0) + ringDist (s.depth q) (s.getF (F.WQ_STATUS.SQ_CI q)) (s.queue q).fetchPos ≤
         s.depth q - 1 - s.getF (F.WQ_OUT.OUTSTANDING q) →
       ∃ t, exec (.pollResult q w) s = .next t ∧ t.queue q = { s.queue q with piSeen := getBits w 15 0, ciSeen := getBits w 31 16 } ∧
         t.qState q = 1 ∧ regsKept s t [] ∧ (∀ k, k ≠ q → t.queue k = s.queue k)) ∧
     (s.qState q = 1 → s.depth q ≤ getBits w 15 0 ∨ s.depth q ≤ getBits w 31 16 →
       ∃ t, exec (.pollResult q w) s = .next t ∧ t.qState q = 3 ∧ t.getF (F.WQ_STATUS.CAUSE q) = 16 ∧ t.isPending Ev.queueError = true ∧
         t.queues = s.queues) ∧
     (s.qState q ≠ 1 → ∃ t, exec (.pollResult q w) s = .next t ∧ regsKept s t [] ∧
       t.queue q = { s.queue q with ciSeen := if getBits w 31 16 < s.depth q then getBits w 31 16 else (s.queue q).ciSeen })) ∧
  ((∀ (s : State) (q n : Nat) (u : State), s.grant = (some (q, n), u) →
     0 < n ∧ n ≤ s.avail q ∧ n ≤ (s.queue q).burst ∧
       (s.urgent q = false → (∀ k ∈ storeKeys s.queues, s.urgent k = true → s.avail k = 0) ∧ n ≤ max (s.queue q).credit (s.queue q).weight) ∧
       (s.urgent q = true → u = { s with lastU := q })) ∧
   (∀ s : State, s.awake = true → s.locked = true → s.pfail = false → s.grant.1 = none →
     ∃ t, exec .arbGrant s = .next t ∧ (∀ q ∈ storeKeys s.queues, t.queue q = { s.queue q with credit := (s.queue q).weight }) ∧
       t = { s with queues := t.queues }) ∧
   (∀ (s : State) (q n : Nat), s.awake = true → s.locked = true → s.pfail = false → s.grant.1 = some (q, n) → s.mirror = false → s.uncached →
     s.fab = [] → (s.queue q).copies = [] → (s.queue q).fetchPos < s.depth q → getBits (s.queue q).poll 11 8 = 0 →
     ∃ t, exec .arbGrant s = .next t ∧ (t.queue q).fetchPos = ((s.queue q).fetchPos + n) % s.depth q ∧
       (∀ i, i < n → t.fab.any (fun r => r.who == .fetch q (((s.queue q).fetchPos + i) % s.depth q)) = true) ∧ t.ctxs = s.ctxs ∧ regsKept s t []))

/-- ENTRY_FETCH_DONE (R249, R250, R266): a copy that arrives ahead of its grant is kept; the next one granted takes the lowest free context and leaves the
ring, and its checks are run: an opcode that does not exist is refused with 0x0041.
FRAGMENT_TABLE_FETCH of a last table without a fault of form (R263 to R266): fragments outside the queue's windows end the entry with 0x0030 detail 4; else,
when they make up the data length, the entry waits for admission with them, and when they do not it ends with 0x0042 detail 2. -/
def Obligations.FetchedEntryAndItsFragments : Prop :=
  (∀ (s : State) (q pos : Nat) (e : BitVec 512), q < 1024 → s.working = true → s.pfail = false → s.fabOpen (.fetch q pos) = true → s.mirror = false →
     s.build.pair = false → s.qState q = 1 → (s.queue q).copies = [] →
     (s.getF (F.WQ_STATUS.SQ_CI q) = (s.queue q).fetchPos ∨ pos ≠ s.getF (F.WQ_STATUS.SQ_CI q) →
       ∃ t, exec (.entryFetchDone q pos e) s = .next t ∧ t.queue q = { s.queue q with copies := [(pos, e)] } ∧ t.ctxs = s.ctxs ∧ regsKept s t []) ∧
     (s.getF (F.WQ_STATUS.SQ_CI q) ≠ (s.queue q).fetchPos → pos = s.getF (F.WQ_STATUS.SQ_CI q) → entFrag e = false →
       ∃ t, exec (.entryFetchDone q pos e) s = .next t ∧ t.getF (F.WQ_STATUS.SQ_CI q) = (pos + 1) % s.depth q ∧
         t.getF (F.WQ_OUT.OUTSTANDING q) = (s.getF (F.WQ_OUT.OUTSTANDING q) + 1) % 2 ^ 16 ∧ (t.queue q).copies = [] ∧
         (t.queue q).fetched = ((s.queue q).fetched + 1) % 2 ^ 32 ∧ (t.ctx (leastFree 0 s.ctxs)).entry = e ∧
         (t.ctx (leastFree 0 s.ctxs)).queue = q ∧ (t.ctx (leastFree 0 s.ctxs)).seq = s.fetchSeq ∧
         ((t.ctx (leastFree 0 s.ctxs)).state = .waiting ∨
           (t.ctx (leastFree 0 s.ctxs)).state = .ready ∧ (t.ctx (leastFree 0 s.ctxs)).status ∈ [0x30, 0x40, 0x41, 0x42]) ∧
         (entOp e = 0 ∨ 0x0F < entOp e → (t.ctx (leastFree 0 s.ctxs)).state = .ready ∧ (t.ctx (leastFree 0 s.ctxs)).status = 0x41) ∧
         regsKept s t [(F.WQ_STATUS.SQ_CI q).reg, (F.WQ_OUT.OUTSTANDING q).reg])) ∧
  (∀ (s : State) (c : Nat) (l : List (BitVec 128)), s.working = true → s.pfail = false → (s.ctx c).state = .tables →
     s.fabOpen (.table c ((s.ctx c).nTables - 1)) = true → (s.ctx c).nextTable.map (·.2) = some l.length → (s.ctx c).detail = 0 →
     tableErr l = 0 → l.all (fun f => !fragChain f) = true → (s.ctx c).nEntries + l.length ≤ 4096 →
     (l.all (fun f => s.inWindows (s.ctx c).queue (fragAddr f) (fragLen f) (!entReads (s.ctx c).entry)) = false →
       ∃ t, exec (.fragmentTableFetch c l) s = .next t ∧ (t.ctx c).state = .ready ∧ (t.ctx c).status = 0x30 ∧ (t.ctx c).detail = 4) ∧
     (l.all (fun f => s.inWindows (s.ctx c).queue (fragAddr f) (fragLen f) (!entReads (s.ctx c).entry)) = true →
       ∃ t, exec (.fragmentTableFetch c l) s = .next t ∧ (∀ k, k ≠ c → t.ctx k = s.ctx k) ∧ regsKept s t [] ∧
         (s.dataLen (s.qNs (s.ctx c).queue) (s.ctx c).entry = some (((s.ctx c).frags ++ l.map (fun f => Frag.mk (fragAddr f) (fragLen f))).foldl (fun a f => a + f.len) 0) →
           (t.ctx c).state = .waiting ∧ (t.ctx c).frags = (s.ctx c).frags ++ l.map (fun f => Frag.mk (fragAddr f) (fragLen f))) ∧
         (s.dataLen (s.qNs (s.ctx c).queue) (s.ctx c).entry ≠ some (((s.ctx c).frags ++ l.map (fun f => Frag.mk (fragAddr f) (fragLen f))).foldl (fun a f => a + f.len) 0) →
           (t.ctx c).state = .ready ∧ (t.ctx c).status = 0x42 ∧ (t.ctx c).detail = 2)))

/-- ENTRY_ADMIT (R237, R258, R259, R266, R267): the next entry of a queue whose readiness has been reached runs the checks of steps 6 and 7; one that fails ends
the entry with its status, else the entry is admitted, next in the order of admissions, at this tick. In stage 15 an entry that needs readiness
ends with 0x0020. -/
def Obligations.EntryAdmission : Prop :=
  ∀ (s : State) (c : Nat), s.awake = true → s.pfail = false → s.sleep.closing = false → s.nextToAdmit c = true →
    (s.stage = 15 → needsReady (entOp (s.ctx c).entry) ≠ 0 →
      ∃ u t, exec (.entryAdmit c) s = .next t ∧ finished u t c 0x20 0 0 0 0 ∧ (u.queue (s.ctx c).queue).halted = true ∧ u = { s with queues := u.queues }) ∧
    (s.stage ≠ 15 → s.readyFor (s.ctx c).queue (entOp (s.ctx c).entry) = true → s.mirror = false →
      (∀ st d, s.check67 (s.qNs (s.ctx c).queue) (s.ctx c).entry = some (st, d) → ∃ t, exec (.entryAdmit c) s = .next t ∧ finished s t c st d 0 0 0) ∧
      (s.check67 (s.qNs (s.ctx c).queue) (s.ctx c).entry = none → entOp (s.ctx c).entry ≠ opVDIE →
        ∃ t, exec (.entryAdmit c) s = .next t ∧ (t.ctx c).state = .admitted ∧ (t.ctx c).admSeq = s.admSeq + 1 ∧ (t.ctx c).admTick = s.tickno ∧
          (t.ctx c).ceil ≤ 6 ∧ (t.ctx c).entry = (s.ctx c).entry ∧ (∀ k, k ≠ c → t.ctx k = s.ctx k) ∧
          t = { s with ctxs := t.ctxs, admSeq := s.admSeq + 1 }))

/-- COMPLETION_POST (R268 to R272, R283): the completion of the queue that became ready first is written to the ring at CQ_PI while the ring has room, and its
context is freed; the phase turns over at the ring's end. In a shutdown with DISCARD nothing is written; on a full ring it waits. -/
def Obligations.CompletionIsWritten : Prop :=
  ∀ (s : State) (c q : Nat), q < 1024 → s.working = true → s.pfail = false → s.firstReady c = true → (s.ctx c).queue = q → s.fab = [] → s.uncached →
    s.mirror = false →
    ((s.queue q).discard = false → s.ringFull q = true → exec (.completionPost c) s = .next s) ∧
    ((s.queue q).discard = false → s.ringFull q = false → (s.hostOwned q = true → s.hostBlocked = false) →
      ∃ t m, exec (.completionPost c) s = .next t ∧
        t.out = s.out ++ Out.completion q (s.cqBase q + 32 * s.getF (F.WQ_OUT.CQ_PI q)) (s.completionEntry c) :: m ∧
        t.getF (F.WQ_OUT.CQ_PI q) = (s.getF (F.WQ_OUT.CQ_PI q) + 1) % s.depth q ∧
        t.getF (F.WQ_OUT.OUTSTANDING q) = s.getF (F.WQ_OUT.OUTSTANDING q) - 1 ∧ t.ctx c = Ctx.zero ∧
        (t.queue q).completed = ((s.queue q).completed + 1) % 2 ^ 32 ∧
        ((t.queue q).cqPhase = (s.queue q).cqPhase ↔ s.getF (F.WQ_OUT.CQ_PI q) + 1 ≠ s.depth q)) ∧
    ((s.queue q).discard = true → ∃ t, exec (.completionPost c) s = .next t ∧ t.ctx c = Ctx.zero ∧ t.out = s.out ∧
      t.getF (F.WQ_OUT.CQ_PI q) = s.getF (F.WQ_OUT.CQ_PI q) ∧ t.getF (F.WQ_OUT.OUTSTANDING q) = s.getF (F.WQ_OUT.OUTSTANDING q) - 1)

/-! ## Queue entries -/

/-- Records join the journal of a namespace in order and none is lost: what is in flight, then what waits, is what it was with the new records behind
it; a row in flight is not disturbed (R449, R450). -/
def Obligations.JournalKeepsOrder : Prop :=
  ∀ (s : State) (ns : Nat) (l : List JItem),
    ((s.journalAdd ns l).journal ns).flight ++ ((s.journalAdd ns l).journal ns).pend = (s.journal ns).flight ++ (s.journal ns).pend ++ l ∧
    (∀ k, k ≠ ns → (s.journalAdd ns l).journal k = s.journal k) ∧ ((s.journal ns).flight ≠ [] → (s.journalAdd ns l).progs = s.progs)

/-- Entries that move data start so (R259, R260, R300, R326, R371): READ and SCRUB_RANGE run, the scrub with its own ceiling where it names one; WRITE and
both forms of COPY end at once with the reason for which their band takes no tile, else they join its order of placement; a raw read beyond its page ends
with 0x0040 detail 28, else each of its codewords is sensed. -/
def Obligations.DataEntriesStart : Prop :=
  (∀ (s : State) (c : Nat), s.starts c opREAD = true → ∃ t, exec (.read c) s = .next t ∧ t.ctx c = { s.ctx c with state := .running } ∧
    (∀ k, k ≠ c → t.ctx k = s.ctx k) ∧ t = { s with ctxs := t.ctxs }) ∧
  (∀ (s : State) (c : Nat), s.starts c opSCRUB = true → ∃ t n, exec (.scrubRange c) s = .next t ∧ n ≤ 6 ∧
    ((ent (s.ctx c).entry 36 4).testBit 11 = false → n = min 6 (s.ctx c).ceil) ∧
    ((ent (s.ctx c).entry 36 4).testBit 11 = true → n = min 6 (min (s.ctx c).ceil (ent (s.ctx c).entry 36 4 / 256 % 8))) ∧
    t.ctx c = { s.ctx c with state := .running, ceil := n, deadline := 0 } ∧ (∀ k, k ≠ c → t.ctx k = s.ctx k) ∧ t = { s with ctxs := t.ctxs }) ∧
  (∀ (s : State) (c : Nat) (i : Instr), (i = .write c ∧ s.starts c opWRITE = true) ∨
      (i = .copyMedia c ∧ s.starts c opCOPY = true ∧ entSrcMem (s.ctx c).entry = false) ∨
      (i = .copyMemory c ∧ s.starts c opCOPY = true ∧ entSrcMem (s.ctx c).entry = true) →
    (∀ st d, s.destRefusal c = some (st, d) → ∃ t, exec i s = .next t ∧ finished s t c st d 0 0 0) ∧
    (s.destRefusal c = none → s.uncached → ∃ t, exec i s = .next t ∧ (t.ctx c).state = .running ∧
      (t.ctx c).entry = (s.ctx c).entry ∧
      (t.wband (s.destSet c) (s.destBand c)).entries = (s.wband (s.destSet c) (s.destBand c)).entries ++ [c])) ∧
  (∀ (s : State) (c : Nat) (i : Instr) (m : Nat), (i, m) ∈ [(Instr.readRawMode0 c, 0), (.readRawMode1 c, 1), (.readRawMode2 c, 2)] →
    s.starts c opREADRAW = true → ent (s.ctx c).entry 32 1 = m →
    (s.famSlots (s.vdie (nsVdie (s.qNs (s.ctx c).queue) (addrVdie (entMaddr (s.ctx c).entry)))).family <
        addrSlot (entMaddr (s.ctx c).entry) + entCount (s.ctx c).entry → ∃ t, exec i s = .next t ∧ finished s t c 0x40 28 0 0 0) ∧
    (addrSlot (entMaddr (s.ctx c).entry) + entCount (s.ctx c).entry ≤
        s.famSlots (s.vdie (nsVdie (s.qNs (s.ctx c).queue) (addrVdie (entMaddr (s.ctx c).entry)))).family →
      ∃ (u t : State) (w : Nat → Cw), exec i s = .next t ∧ t = (List.range (entCount (s.ctx c).entry)).foldl (fun x k => x.beginCw (w k)) u ∧
        (∀ k, (w k).use = .raw c k ∧ (w k).slot = addrSlot (entMaddr (s.ctx c).entry) + k ∧ (w k).page = addrPage (entMaddr (s.ctx c).entry) ∧
          (w k).block = addrBlock (entMaddr (s.ctx c).entry) ∧ (w k).plane = addrPlane (entMaddr (s.ctx c).entry) ∧ (w k).cls = 1 ∧ (w k).ceil = 1) ∧
        (u.ctx c).state = .running ∧ (u.ctx c).tiles.length = entCount (s.ctx c).entry ∧ (∀ k, k ≠ c → u.ctx k = s.ctx k) ∧
        u = { s with ctxs := u.ctxs }))

/-- Entries on bands (R296, R323 to R325): OPEN and CLOSE and ERASE answer at once for a band in a state that refuses them; an OPEN that the limit does not
allow ends with 0x0032, else it takes its reserve and is journaled; a CLOSE of a band being closed joins; an ERASE of a closed band is told to the
journal and asks an erase of every block the band has. -/
def Obligations.BandEntries : Prop :=
  ∀ (s : State) (c g b : Nat), g = s.srcSet c → b = s.srcBand c →
    (s.starts c opOPEN = true →
      ((s.band g b).state ≠ 2 → ∃ t, exec (.bandOpen c) s = .next t ∧ finished s t c 0x31 (s.band g b).state 0 0 0) ∧
      ((s.band g b).state = 2 → (s.wband g b).reserved = false → s.setWritable (s.sset g) = false →
        ∃ t, exec (.bandOpen c) s = .next t ∧ finished s t c 0x31 0xFF 0 0 0) ∧
      ((s.band g b).state = 2 → (s.wband g b).reserved = false → s.setWritable (s.sset g) = true → s.resFits (s.sset g) = false →
        ∃ t, exec (.bandOpen c) s = .next t ∧ finished s t c 0x32 0 0 0 0) ∧
      ((s.band g b).state = 2 → (s.wband g b).reserved = false → s.setWritable (s.sset g) = true → s.resFits (s.sset g) = true →
        ∃ (u t : State), exec (.bandOpen c) s = .next t ∧ t = u.journalAdd (nsOf g) [jBand g b 3 0 0 0 (.band g b 3 0 0), jFinish c 0 0 0] ∧
          (u.ctx c).state = .running ∧ (u.wband g b).reserved = true ∧ u.journals = s.journals ∧ u.bands = s.bands)) ∧
    (s.starts c opCLOSE = true →
      ((s.band g b).state = 4 → ∃ t, exec (.bandClose c) s = .next t ∧ finished s t c 0 0 0 0 0) ∧
      ((s.band g b).state ≠ 3 → (s.band g b).state ≠ 4 → ∃ t, exec (.bandClose c) s = .next t ∧ finished s t c 0x31 (s.band g b).state 0 0 0) ∧
      ((s.band g b).state = 3 → (s.wband g b).closing = true → ∃ t, exec (.bandClose c) s = .next t ∧ (t.ctx c).state = .running ∧
        t.wband g b = { s.wband g b with closers := (s.wband g b).closers ++ [c] } ∧ t = { s with ctxs := t.ctxs, wbands := t.wbands })) ∧
    (s.starts c opERASE = true →
      ((s.band g b).state = 2 → ∃ t, exec (.eraseBand c) s = .next t ∧ finished s t c 0 0 0 0 0) ∧
      ((s.band g b).state = 1 ∨ (s.band g b).state = 3 → ∃ t, exec (.eraseBand c) s = .next t ∧ finished s t c 0x31 (s.band g b).state 0 0 0) ∧
      ((s.band g b).state = 4 → s.unresolvedBefore g b (s.ctx c).admSeq = true → exec (.eraseBand c) s = .next s) ∧
      ((s.band g b).state = 4 → s.unresolvedBefore g b (s.ctx c).admSeq = false → s.erasesBand g b = false → s.tasks = [] →
        ∃ t, exec (.eraseBand c) s = .next t ∧ (t.ctx c).state = .running ∧ (∀ e ∈ t.requeue, ¬ (e.set = g ∧ e.band = b)) ∧
          (∀ pos, pos < (s.sset g).w → ∀ l, s.eraseLoc g b pos = some l →
            t.erases.any (fun e => e.2.use == .band g b pos && e.2.pdie == l.pdie && e.2.block == l.block) = true)))

/-- FENCE (R277): with no earlier admitted entry of its queue, or of its owner, it is ready at once; else it waits for exactly those.
SET_TIME (R233, R235): every one answers with MediaTime and the host's time; only the first is the anchor; at a first census it applies no gap;
after one with a host time recorded MediaTime advances by the part of the gap not assumed before, never backward, and a negative gap is a time
anomaly. -/
def Obligations.FenceAndSetTime : Prop :=
  (∀ (s : State) (c : Nat) (i : Instr) (owner : Bool), (i, owner) ∈ [(Instr.fenceQueue c, false), (.fenceOwner c, true)] → s.starts c opFENCE = true →
     ent (s.ctx c).entry 32 1 = (if owner then 1 else 0) →
     ∃ t, exec i s = .next t ∧
       ((t.ctx c).state = .ready ↔ ∀ e ∈ s.ctxs, e.1 ≠ c → e.2.admitted = true → e.2.admSeq < (s.ctx c).admSeq →
         ¬ (if owner then s.getF (F.GNT_QATTR.OWNER e.2.queue) = s.getF (F.GNT_QATTR.OWNER (s.ctx c).queue) else e.2.queue = (s.ctx c).queue)) ∧
       ((t.ctx c).state ≠ .ready → (t.ctx c).state = .running ∧ ∀ k, k ∈ (t.ctx c).waitsFor → k ≠ c) ∧
       ((t.ctx c).state = .ready → finished s t c (s.queue (s.ctx c).queue).abort 0 0 0 0) ∧ (∀ k, k ≠ c → t.ctx k = s.ctx k)) ∧
  (∀ (s : State) (c h : Nat), s.starts c opSETTIME = true → ent (s.ctx c).entry 32 8 = h →
     (s.census.anchor.isSome = true → ∃ t, exec (.setTime c) s = .next t ∧ finished s t c 0 0 s.mtime h 0) ∧
     (s.census.anchor = none → s.flag F.PWR_CENSUS.FIRST = true → ∃ u t, exec (.setTime c) s = .next t ∧ finished u t c 0 0 s.mtime h 0 ∧
       u = { s with census := { s.census with anchor := some (h, s.mtime) } }) ∧
     (s.census.anchor = none → s.flag F.PWR_CENSUS.FIRST = false → field s.census.record 44 8 ≠ 0 →
       ∀ gap : Int, gap = (h : Int) - field s.census.record 44 8 - ((s.mtime : Int) - s.census.gap - field s.census.record 36 8) →
         gap.toNat - s.census.gap ≤ dayUs →
       ∃ u t, exec (.setTime c) s = .next t ∧ finished u t c 0 0 u.mtime h 0 ∧ u.flag F.PWR_CENSUS.ANCHORED = true ∧
         u.getF F.TCK_MTIME.MEDIATIME = (s.getF F.TCK_MTIME.MEDIATIME + (gap.toNat - s.census.gap)) % 2 ^ 64 ∧
         u.census.anchor = some (h, u.mtime) ∧ (gap < 0 → u.isPending Ev.timeAnomaly = true)))

/-- QUERY (R262): the entry of each page ends with status 0 and the tick number in result word 0; a buffer of one fragment gets the page's fields,
written once. -/
def Obligations.QueriesAnswerTheirPage : Prop :=
  ∀ (s : State) (c : Nat) (i : Instr) (page : Nat),
    (i, page) ∈ [(Instr.queryVdieMap c, 0x0100), (.querySet c, 0x0101), (.queryBand c, 0x0102), (.querySpares c, 0x0103), (.queryPlanner c, 0x0200),
      (.queryQueue c, 0x0700), (.queryDecoder c, 0x0900), (.queryChannelRead c, 0x0901), (.queryLevels c, 0x0A00), (.queryLlr c, 0x0A01),
      (.queryPatrol c, 0x0B00), (.queryPartnerPlan c, 0x1200), (.queryTelemetry c, 0x1400)] →
    s.starts c opQUERY = true → ent (s.ctx c).entry 32 2 = page →
    ((s.ctx c).frags = [] → ∃ t, exec i s = .next t ∧ finished s t c 0 0 s.tickno 0 0) ∧
    (∀ a, (s.ctx c).frags = [Frag.mk a 4096] → s.uncached → ∃ u t m, exec i s = .next t ∧ finished u t c 0 0 s.tickno 0 0 ∧ u.ctxs = s.ctxs ∧
      t.out = s.out ++ m ++ [Out.page a 4096
        ((s.queryPage page (ent (s.ctx c).entry 40 8) (s.qNs (s.ctx c).queue)).filter (fun e => decide (e.1 < 4096)))] ∧ regsKept s t [])


/-! ## Calibration, self test, vdies and sets -/

/-- CALIBRATE (R399, R403 to R405): an entry its checks refuse ends with the status and detail of the check; kinds 0 and 1 withdraw the searches that wait
for the zones and begin with the first zone; kind 2 gives each zone the offsets of INIT, clears SUSPECT and the run, and ends. -/
def Obligations.CalibrationEntries : Prop :=
  ∀ (s : State) (c k : Nat) (i : Instr), (i, k) ∈ [(Instr.calibrateSample c, 0), (.calibrateSearch c, 1), (.calibrateReset c, 2)] →
    s.starts c opCALIBRATE = true → ent (s.ctx c).entry 32 1 = k → ∀ (v : Nat) (sp : Bool) (zones : List Nat), v = s.calVdie c → sp = s.calSpare v →
    zones = (if ent (s.ctx c).entry 33 1 = 255 then List.range 16 else [ent (s.ctx c).entry 33 1]) →
    (ent (s.ctx c).entry 33 1 ≠ 255 → 15 < ent (s.ctx c).entry 33 1 → ∃ t, exec i s = .next t ∧ finished s t c 0x40 33 0 0 0) ∧
    (∀ st d, s.calCheck c = some (st, d) → ∃ t, exec i s = .next t ∧ finished s t c st d 0 0 0) ∧
    (s.calCheck c = none → ∃ (u t : State), exec i s = .next t ∧ t = (if k = 2 then u.calEnd c else u.calNext c) ∧ (u.ctx c).state = .running ∧
      (u.ctx c).groups = zones ∧ u.dies = s.dies ∧ (∀ z, z ∉ zones → (u.lev v sp).zone z = (s.lev v sp).zone z) ∧
      (k = 2 → ∀ z ∈ zones, ((u.lev v sp).zone z).suspect = false ∧ ((u.lev v sp).zone z).run = 0 ∧
        ∀ j, j < 15 → offAt (u.lev v sp).target z j = offAt (s.initTable (s.vdie v).family (s.vdieMode v)) z j) ∧
      (k ≠ 2 → (u.lev v sp).target = (s.lev v sp).target ∧ ∀ z ∈ zones, (u.lev v sp).zone z = { (s.lev v sp).zone z with search := false }))

/-- SELF_TEST (R370): an index past the pool or of a retired decoder ends with 0x0040 detail 33; else, while a test runs, the entry waits with the
decoders it names that may be tested; with nothing to test and nothing in its way it ends at once with three results of zero. -/
def Obligations.SelfTestEntries : Prop :=
  ∀ (s : State) (c k lo n ix : Nat) (i : Instr), (i, k, lo, n) ∈ [(Instr.selfTestHard c, 1, 0, s.hardNo), (.selfTestSoft c, 2, s.hardNo, s.softNo)] →
    s.starts c opSELFTEST = true → ent (s.ctx c).entry 32 1 = k → ix = ent (s.ctx c).entry 33 1 →
    (ix ≠ 255 → n ≤ ix ∨ s.decRetired (lo + ix) = true → ∃ t, exec i s = .next t ∧ finished s t c 0x40 33 0 0 0) ∧
    (¬ (ix ≠ 255 ∧ (n ≤ ix ∨ s.decRetired (lo + ix) = true)) →
      (s.decs.cur ≠ none → ∃ t, exec i s = .next t ∧ t = { s with ctxs := t.ctxs } ∧ (∀ k, k ≠ c → t.ctx k = s.ctx k) ∧
        t.ctx c = { s.ctx c with
          state := .running
          waitsFor := if ix = 255 then ((List.range n).map (· + lo)).filter s.mayTest else [lo + ix].filter s.mayTest }) ∧
      (s.decs.cur = none → s.decs.ctx = none → (∀ e ∈ s.ctxs, e.2.state ≠ .running) → (∀ d, d < n → s.mayTest (lo + d) = false) →
        ∃ t, exec i s = .next t ∧ (t.ctx c).state = .ready ∧ (t.ctx c).status = 0 ∧ (t.ctx c).r0 = 0 ∧ (t.ctx c).r1 = 0 ∧ (t.ctx c).r2 = 0))

/-- The actions on vdies (R54, R421, R423): each answers at once where the vdie is unmapped or its state or the set's protection does not allow it; a retired
vdie is told to the journal, as FAILED, or rebuilt on the spare the block chooses, or, while it is already rebuilding, reads no more from the old die; a
new spare loses its vdie in the journal.
The actions on sets (R55, R56, R59): SET_DEFINE waits for its member list; a defined set, members or a mode or a band count that do not fit end it
in that order; else the journal gets the descriptor, one binding for each band of each member, the members and the end of the entry, in that order;
SET_DELETE of a set with an open or erasing band or a rebuilding member ends with 0x0031, else the journal gets the empty set, its members and the
end. -/
def Obligations.VdieAndSetEntries : Prop :=
  (∀ (s : State) (c v r : Nat), v = s.ctlVdie c → r = ent (s.ctx c).entry 34 2 →
     (s.startsCtl c 0 = true →
       ((s.vdie v).mapped = false → ∃ t, exec (.vdieRetire c) s = .next t ∧ finished s t c 0x40 34 0 0 0) ∧
       ((s.vdie v).mapped = true → (s.vdie v).state = 2 → ∃ t, exec (.vdieRetire c) s = .next t ∧ finished s t c 0 0 r 0 0) ∧
       ((s.vdie v).mapped = true → (s.vdie v).state = 1 → (s.vdie v).oldPdie ≠ noPdie → ∃ t, exec (.vdieRetire c) s = .next t ∧
         t = (s.runCtx c).journalAdd (vdieNs v) [jVdie v { s.vdie v with oldPdie := noPdie }, jFinish c 0 0 r]) ∧
       ((s.vdie v).mapped = true → (s.vdie v).state = 0 → s.retireOutcome v (s.dieReadable (s.vdie v).pdie) = 1 →
         ∃ t, exec (.vdieRetire c) s = .next t ∧ finished s t c 0x31 0xFF 0 0 0) ∧
       ((s.vdie v).mapped = true → (s.vdie v).state = 0 → s.retireOutcome v (s.dieReadable (s.vdie v).pdie) ≠ 1 →
         ∃ (u t : State), exec (.vdieRetire c) s = .next t ∧ t = u.retireVdie v (s.dieReadable (s.vdie v).pdie) [jFinish c 0 0 r] ∧
           (u.die (s.vdie v).pdie).toRetire = true ∧ (u.ctx c).state = .running ∧ u.patCounts.dies = satAdd 32 s.patCounts.dies 1 ∧
           u.vdies = s.vdies ∧ u.sets = s.sets)) ∧
     (s.startsCtl c 1 = true →
       ((s.vdie v).mapped = false → ∃ t, exec (.vdieRebuild c) s = .next t ∧ finished s t c 0x40 34 0 0 0) ∧
       ((s.vdie v).mapped = true → s.canRebuild v = false → ∃ t, exec (.vdieRebuild c) s = .next t ∧ finished s t c 0x31 0xFF 0 0 0) ∧
       (s.canRebuild v = true → ∃ (u t : State) (sp : Nat), s.chooseSpare v = some sp ∧ exec (.vdieRebuild c) s = .next t ∧
         t = u.startRebuild v sp [jFinish c 0 0 r] ∧ (u.ctx c).state = .running ∧ u = { s with ctxs := u.ctxs })) ∧
     (s.startsCtl c 2 = true →
       ((s.vdie v).mapped = false ∨ (s.vdie v).state ≠ 0 → ∃ t, exec (.vdieAddSpare c) s = .next t ∧ finished s t c 0x40 34 0 0 0) ∧
       ((s.vdie v).mapped = true → (s.vdie v).state = 0 → (s.vdie v).member = true ∨ (s.vdie v).journal = true →
         ∃ t, exec (.vdieAddSpare c) s = .next t ∧ finished s t c 0x31 0xFF 0 0 0) ∧
       ((s.vdie v).mapped = true → (s.vdie v).state = 0 → (s.vdie v).member = false → (s.vdie v).journal = false →
         ∃ t, exec (.vdieAddSpare c) s = .next t ∧ t = (s.runCtx c).journalAdd (vdieNs v) [jVdie v Vdie.unmapped, jFinish c 0 0 r]))) ∧
  ((∀ (s : State) (c : Nat) (l : List Nat), s.startsCtl c 3 = true → l.length = ent (s.ctx c).entry 36 1 →
     (s.fabOpen (.members c) = false → exec (.setDefine c l) s = .next s) ∧
     (s.fabOpen (.members c) = true → ∀ (u : State) (got : List Byte) (ms : List Nat) (ns g fam : Nat),
       u = State.fabPump { s with fab := s.fab.filter (fun r => r.who != FabWho.members c) } →
       got = s.readBytes (.members c) ((l.map (leBytes 2)).flatten) → ms = (List.range l.length).map (fun i => field got (2 * i) 2) →
       ns = u.qNs (u.ctx c).queue → g = nsSet ns (ent (u.ctx c).entry 33 1) → fam = (u.vdie (nsVdie ns (ms.headD 0))).family →
       ∀ (bad : Bool), bad = ms.any (fun v => decide (u.bandLimit ns (u.vdie (nsVdie ns v)).pdie < ent (u.ctx c).entry 40 2)) →
       ((u.sset g).defined = true → ∃ t, exec (.setDefine c l) s = .next t ∧ finished u t c 0x31 0xFF 0 0 0) ∧
       ((u.sset g).defined = false → u.membersOk ns ms = false → ∃ t, exec (.setDefine c l) s = .next t ∧ finished u t c 0x40 16 0 0 0) ∧
       ((u.sset g).defined = false → u.membersOk ns ms = true → u.modeOk fam (ent (u.ctx c).entry 38 1) = false →
         ∃ t, exec (.setDefine c l) s = .next t ∧ finished u t c 0x40 38 0 0 0) ∧
       ((u.sset g).defined = false → u.membersOk ns ms = true → u.modeOk fam (ent (u.ctx c).entry 38 1) = true → bad = true →
         ∃ t, exec (.setDefine c l) s = .next t ∧ finished u t c 0x40 40 0 0 0) ∧
       ((u.sset g).defined = false → u.membersOk ns ms = true → u.modeOk fam (ent (u.ctx c).entry 38 1) = true → bad = false →
         ∃ t d r binds vs, exec (.setDefine c l) s = .next t ∧ t = (u.runCtx c).journalAdd ns ([r] ++ binds ++ vs ++ [jFinish c 0 0 (ent (u.ctx c).entry 34 2)]) ∧
           r.eff = .setDef g d ∧ d.w = ent (u.ctx c).entry 36 1 ∧ d.bands = ent (u.ctx c).entry 40 2 ∧ d.members = ms ∧
           binds.length = ms.length * ent (u.ctx c).entry 40 2 ∧ vs.length = ms.length))) ∧
   (∀ (s : State) (c ns g : Nat), s.startsCtl c 4 = true → ns = s.qNs (s.ctx c).queue → g = nsSet ns (ent (s.ctx c).entry 33 1) → ∀ (busy : Bool),
     busy = (s.bands.any (fun k => k.1 / 16384 == g && (k.2.state == 3 || k.2.state == 1 || k.2.rehoming)) || decide (0 < s.setRebuilding (s.sset g))) →
     (busy = true → ∃ t, exec (.setDelete c) s = .next t ∧ finished s t c 0x31 0xFF 0 0 0) ∧
     (busy = false → ∃ t r vs, exec (.setDelete c) s = .next t ∧
       t = (s.runCtx c).journalAdd ns ([r] ++ vs ++ [jFinish c 0 0 (ent (s.ctx c).entry 34 2)]) ∧ r.eff = .setDel g ∧
       vs.length = (s.sset g).members.length)))


/-! ## Reading, decoding, writing and keeping data -/

/-- The reads of an entry (R276, R328) and what a decoder answers (R332 to R340): a READ whose tiles are all void or unwritten ends without a
media access; a codeword a decoder could not decode, or of which the tile's check word does not match, goes on up the ladder, the second counted as a
miscorrection; one whose check words match is delivered, one whose address check does not match is not; a first decode of a calibration burst that
fails is repeated with the iterations of step 1. -/
def Obligations.ReadsResolveAndDecode : Prop :=
  (∀ (s : State) (c : Nat), s.awake = true → s.pfail = false → (s.ctx c).state = .running → entOp (s.ctx c).entry = opREAD → (s.ctx c).tiles = [] →
    (s.ctx c).ended = false → (s.ctx c).aborting = 0 →
    ∀ (jobs : List TileJob), jobs = (List.range (entCount (s.ctx c).entry)).map (fun i =>
        s.resolveOne (s.srcSet c) (s.srcBand c) (addrBoi (entMaddr (s.ctx c).entry) + i)) → (∀ j ∈ jobs, j.src = 2 ∨ j.src = 3) →
      ∃ (u t : State), exec (.readResolve c) s = .next t ∧ t = u.finishRead c ∧ (u.ctx c).tiles = jobs ∧ (u.ctx c).entry = (s.ctx c).entry ∧
        (∀ k, k ≠ c → u.ctx k = s.ctx k) ∧ u = { s with ctxs := u.ctxs }) ∧
  (∀ (s : State) (n iter : Nat) (out : Option (List Byte)), s.clocked = true → s.cws.any (fun e => e.1 == n) = true → (s.cw n).stage = .decode →
    0 < iter → iter ≤ (s.cw n).limit →
    (out = none →
      (∀ m j, (s.cw n).use = .burst m j → (s.cw n).step = 0 → ∃ t, exec (.decodeDone n iter out) s = .next t ∧
        t.cw n = { s.cw n with
          step := 1
          limit := s.iterLimit 1 }) ∧
      ((∀ m j, (s.cw n).use ≠ .burst m j) → ∃ (u t : State), exec (.decodeDone n iter out) s = .next t ∧ t = u.cwOn n true ∧
        u.decs.miscorrect = s.decs.miscorrect ∧ u.ctxs = s.ctxs)) ∧
    (∀ m img tile, out = some m → m.length = s.cwBytes (s.cwFam (s.cw n)) → img = m.take tileBytes →
      ldpcCodeword img (s.profile (s.cwFam (s.cw n))) = m → tile = scramble (s.cw n).block (s.cw n).page (s.cw n).slot img →
      s.noTile (s.cw n) = false → (∀ k j, (s.cw n).use ≠ .burst k j) → (∀ k j, (s.cw n).use ≠ .raw k j) →
      (tileCrcOk tile = false → ∃ (u t : State), exec (.decodeDone n iter out) s = .next t ∧ t = u.cwOn n true ∧
        u.decs.miscorrect = satAdd 32 s.decs.miscorrect 1 ∧ u.ctxs = s.ctxs) ∧
      (tileCrcOk tile = true → ∃ (u t : State) (bits : Nat), exec (.decodeDone n iter out) s = .next t ∧ u.ctxs = s.ctxs ∧
        u.decs.miscorrect = s.decs.miscorrect ∧
        t = (if tileAchkOk tile (bandAddr ((s.cw n).set.getD 0 % 256) (s.cw n).band (s.cw n).boi) then u.cwGood n bits img tile
          else u.cwAchk n))))

/-- What the policy engine measures (R366 to R368, R381, R386, R398): the first zone due a sample, or allowed a search, gets its burst, a sample in the next
plane; a scan of the tables, every 65,536 ticks, leaves no table whose check word does not match; the decoder whose turn it is is tested, a first
failure repeats the test, a second retires the decoder. -/
def Obligations.MeasurementsOfThePolicyEngine : Prop :=
  (∀ (s : State) (v z g b w : Nat) (sp : Bool) (l : Loc), s.peRuns = true → s.flagL F.CAL_CTRL.HOLD = false → s.zoneLoc v sp z = some (g, b, w, l) →
    (s.allZones.find? (fun e => s.sampleDue e.1 e.2.1 e.2.2) = some (v, sp, z) →
      ∃ (u t : State), exec .levelSample s = .next t ∧ u.wdog.activity = 5 ∧ u.dies = s.dies ∧
        ((u.lev v sp).zone z).plane = ((s.lev v sp).zone z).plane % max 1 (s.sset g).planes + 1 ∧
        t = u.startBurst v sp z false none g b w (((s.lev v sp).zone z).plane % max 1 (s.sset g).planes) l) ∧
    (s.allZones.find? (fun e => s.searchOk e.1 e.2.1 e.2.2) = some (v, sp, z) →
      ∃ t, exec .valleySearch s = .next t ∧ t = (s.peStep 5).startBurst v sp z true none g b w 0 l)) ∧
  (∀ s : State, s.awake = true → ∃ t, exec .tableScan s = .next t ∧ (s.tickno % 65536 ≠ 0 → t = s) ∧
    (s.tickno % 65536 = 0 → ∀ v sp, (t.lev v sp).applied = [] ∨
      (tableCrc (t.lev v sp).applied = (t.lev v sp).crcA ∧ tableCrc (t.lev v sp).target = (t.lev v sp).crcT))) ∧
  (∀ (s : State) (d : Nat), s.awake = true → s.pfail = false → s.peHalted = false → s.decs.cur = none → s.getF F.DEC_TEST.PERIOD ≠ 0 →
    s.decs.lastTick + s.getF F.DEC_TEST.PERIOD ≤ s.tickno →
    ((s.testOrder.drop s.decs.nextUp) ++ s.testOrder.take s.decs.nextUp).find? s.mayTest = some d →
    ∃ t, exec .decoderTest s = .next t ∧ t.decs.cur = some d ∧ t.decs.again = false ∧ t.decs.lastTick = s.tickno ∧
      t.decs.tests = (s.decs.tests + 1) % 2 ^ 32 ∧ t.flag F.DEC_TEST.BUSY = true) ∧
  (∀ (s : State) (d : Nat) (pass : Bool), s.awake = true → s.decs.cur = some d →
    (pass = false → s.decs.again = false → ∃ t, exec (.decoderTestDone pass) s = .next t ∧ t.decs.cur = some d ∧ t.decs.again = true ∧
      t.decs.testFails = satAdd 32 s.decs.testFails 1) ∧
    (pass = true ∨ s.decs.again = true → s.decs.ctx = none → ∃ (u t : State), exec (.decoderTestDone pass) s = .next t ∧ u.decs.cur = none ∧
      u.flag F.DEC_TEST.BUSY = false ∧ u.decs.testFails = (if pass then s.decs.testFails else satAdd 32 s.decs.testFails 1) ∧
      t = (if pass then u else u.retireDecoder d).selfPump))

/-- Writing (R93, R300, R304 to R307, R318, R451): the tiles of an entry are taken once all have come, or end it with 0x0021 and the index of the first whose check word does
not match; the entry at the head of its band places its tiles, once the partner has been told and has answered where there is a mirror; one tile placed
raises FILL and the stamp by one; a substitution takes the first task that has no block; a checkpoint begins for each
namespace that is due one. -/
def Obligations.TilesArePlaced : Prop :=
  (∀ (s : State) (c : Nat) (l tl : List (List Byte)), s.awake = true → s.pfail = false → (s.ctx c).state = .running → (s.ctx c).bufs ≠ 0 →
    (s.ctx c).taken = false → entIntake (s.ctx c).entry = true → (s.ctx c).ended = false → l.length = entCount (s.ctx c).entry →
    s.fab.any (fun r => match r.who with | .tileIn k _ => k == c | _ => false) = true →
    s.fab.any (fun r => (match r.who with | .tileIn k _ => k == c | _ => false) && !r.under) = false →
    tl = l.mapIdx (fun i t => s.readBytes (.tileIn c i) t) →
    (∀ i, tl.findIdx? (fun t => !tileCrcOk t) = some i → ∃ t, exec (.tileIntakeDone c l) s = .next t ∧ (t.ctx c).state = .ready ∧
      (t.ctx c).status = 0x21 ∧ (t.ctx c).detail = min i 255) ∧
    (tl.all tileCrcOk = true → ∃ t, exec (.tileIntakeDone c l) s = .next t ∧ (t.ctx c).state = .running ∧ (t.ctx c).taken = true ∧
      (t.ctx c).tiles.map (·.data) = tl ∧ (∀ k, k ≠ c → t.ctx k = s.ctx k))) ∧
  (∀ (s : State) (c g b : Nat), g = s.destSet c → b = s.destBand c → s.awake = true → s.pfail = false → (s.ctx c).state = .running →
    (s.ctx c).taken = true → (s.ctx c).ended = false → (s.wband g b).entries.head? = some c →
    (s.mirror = true → (s.ctx c).openMsg = none → ∃ t, exec (.placement c) s = .next t ∧ (t.ctx c).openMsg ≠ none ∧ t.bands = s.bands) ∧
    (s.mirror = false ∨ ((s.ctx c).openMsg ≠ none ∧ s.acked (s.ctx c).openMsg = true) → ∃ (u t : State), exec (.placement c) s = .next t ∧
      t = (u.placeRun c ((s.sset g).tiles + (s.ctx c).tiles.length + 2)).writePump g b ∧ u.ctx c = { s.ctx c with openMsg := none } ∧
      u = { s with ctxs := u.ctxs })) ∧
  (∀ (s : State) (c g b : Nat) (r : ORow), g = s.destSet c → b = s.destBand c →
    (s.wband g b).rowAt ((s.sset g).rowOf (s.band g b).fill) = some r → s.memberFailed g ((s.sset g).boiPos (s.band g b).fill) = false →
    ((s.placeOne c).band g b).fill = (s.band g b).fill + 1 ∧ ((s.placeOne c).band g b).voids = (s.band g b).voids ∧
    (nsOf g ≠ 0 → (s.placeOne c).stamp (nsOf g) = s.stamp (nsOf g) + 1) ∧
    (nsOf g = 0 → (s.placeOne c).stamp 0 = (s.stamp 0 + 1) % 2 ^ 64) ∧ ((s.placeOne c).ctx c).placed = (s.ctx c).placed + 1) ∧
  (∀ (s : State) (n : Nat) (t : Task), s.awake = true → s.pfail = false →
    s.tasks.find? (fun e => e.2.kind == .subst && e.2.blocks == []) = some (n, t) → exec .substitution s = .next (s.substChoose n)) ∧
  (∀ (s : State) (n : Nat), s.progLoc (s.task n).set (s.task n).band (s.task n).pos = none → s.substChoose n = s.dropTask n) ∧
  (∀ s : State, s.awake = true → s.pfail = false → s.peHalted = false → ∃ t, exec .journalCheckpoint s = .next t ∧ ∀ ns,
    ((ns ∉ storeKeys s.journals ∨ (s.journal ns).inCkpt = true ∨ ((s.journal ns).rowsSince < 4096 ∧ (s.journal ns).bandsSince < 48)) →
      t.journal ns = s.journal ns) ∧
    (ns ∈ storeKeys s.journals → (s.journal ns).inCkpt = false → 4096 ≤ (s.journal ns).rowsSince ∨ 48 ≤ (s.journal ns).bandsSince →
      (t.journal ns).inCkpt = true ∧ (t.journal ns).rowsSince = 0 ∧ (t.journal ns).bandsSince = 0))

/-- Keeping data (R325, R408, R412, R413, R422, R455): an erase of a band becomes ready exactly when it has its intent, no row of the band is open and no
earlier reader is left; an erase signature within its bound marks the block checked, a second miss marks it bad, a first asks one more erase; the next
pass over the media begins when one ends; a re-home takes its blocks and marks the band; the old blocks are released after the last reader; a pending
rebuild starts on the spare chosen. -/
def Obligations.ErasesPatrolAndRehoming : Prop :=
  (∀ s : State, s.awake = true → s.pfail = false → ∃ t, exec .eraseStart s = .next t ∧ t = { s with erases := t.erases } ∧
    t.erases.map (·.1) = s.erases.map (·.1) ∧ (∀ e ∈ s.erases, (∀ g b pos, e.2.use ≠ .band g b pos) → e ∈ t.erases) ∧
    (∀ e ∈ s.erases, ∀ g b pos, e.2.use = .band g b pos → e.2.ready = false → e.2.intent = true → (s.wband g b).rows = [] →
      (∀ k, s.readersBefore g b k = false) → (e.1, { e.2 with ready := true }) ∈ t.erases) ∧
    (∀ e ∈ s.erases, ∀ g b pos, e.2.use = .band g b pos → e.2.intent = false ∨ (s.wband g b).rows ≠ [] → e ∈ t.erases)) ∧
  (∀ (s : State) (zeros : List Nat) (p : Prog) (n : Nat), s.awake = true → s.pfail = false →
    s.progs.find? (fun e => s.needsCheck e.2 && !s.erases.any (fun k => k.2.pdie == e.2.pdie && k.2.block == e.2.block)) = some (n, p) →
    ∃ t, exec (.eraseSignatureCheck zeros) s = .next t ∧
      ((∀ z ∈ zeros, z ≤ s.gp "ERASE_SIG_BITS" 0 64) → (t.pdie p.pdie).checked = (s.pdie p.pdie).checked ++ [p.block] ∧ t = { s with pdies := t.pdies }) ∧
      ((∃ z ∈ zeros, s.gp "ERASE_SIG_BITS" 0 64 < z) → p.block ∉ (s.pdie p.pdie).sigFails → t.erases.any (fun e =>
        e.2.use == .recovery && e.2.pdie == p.pdie && e.2.block == p.block) = true ∧ p.block ∈ (t.pdie p.pdie).sigFails ∧
        t.getF F.PWR_RECOVERY.REERASED = min 255 (s.getF F.PWR_RECOVERY.REERASED + 1)) ∧
      ((∃ z ∈ zeros, s.gp "ERASE_SIG_BITS" 0 64 < z) → p.block ∈ (s.pdie p.pdie).sigFails → p.block ∈ (t.pdie p.pdie).bad)) ∧
  (∀ s : State, s.peRuns = true → s.patrol.running = true → s.patrol.left = [] → (∀ e ∈ s.cws, e.2.use ≠ .patrol) →
    ∃ t, exec .patrolPassEnd s = .next t ∧ t.patrol.pass = s.patrol.pass + 1 ∧ t.patrol.accel = false ∧ t.patrol.running = true ∧
      t.getF F.PTL_STAT.PASSES = (s.getF F.PTL_STAT.PASSES + 1) % 2 ^ 32 ∧ t.isPending Ev.patrolPassDone = true ∧ t.wdog.activity = 1) ∧
  (∀ (s : State) (e : Requeue) (blocks : List Nat), s.peRuns = true →
    (s.requeue.filter (·.active)).length < max 1 (s.getL F.PTL_CTRL.REHOME_MAX) → s.requeueOrder.find? s.rehomeOk = some e →
    s.rehomeBlocks e.set e.reason = some blocks → ∃ t, exec .rehomeStart s = .next t ∧ (t.band e.set e.band).rehoming = true ∧
      (t.task s.nextJob).blocks = blocks ∧ (t.task s.nextJob).set = e.set ∧ (t.task s.nextJob).band = e.band ∧ t.wdog.activity = 2 ∧
      (∀ x ∈ t.requeue, x.set = e.set → x.band = e.band → x.active = true)) ∧
  (∀ (s : State) (n : Nat) (k : Task), s.peRuns = true →
    s.tasks.find? (fun e => e.2.stage == 3 && !s.readersBefore e.2.set e.2.band e.2.adm) = some (n, k) →
    ∃ t, exec .rehomeRelease s = .next t ∧ t.tasks = storeDel n s.tasks ∧ t.bands = s.bands ∧ t.wdog.activity = 2) ∧
  (∀ (s : State) (v sp : Nat), s.peRuns = true → s.rebuildOrder.find? (fun v => s.canRebuild v) = some v → s.chooseSpare v = some sp →
    ∃ (u t : State), exec .rebuildStart s = .next t ∧ u = (s.peStep 4).startRebuild v sp [] ∧
      (t = u ∨ ∃ w, t = u.startRebuild w ((u.chooseSpare w).getD noPdie) [] ∧ u.canRebuild w = true ∧
        (u.setsOf w).headD 0 = (u.setsOf v).headD 0))

/-! ## The Liner -/

/-- Maintenance (R482, R483, R485, R489): a write to OP while an operation runs or after a power fail was accepted changes nothing; a refused operation sets
RESULT to 2 and nothing else; a range of no lines ends at once with RESULT 1; any other sets BUSY and begins with exactly its lines; it ends with RESULT 1
once every line is processed and every write-back it caused is acknowledged, and not before.
ENABLE (R487 to R489, R493, R495): 1 while disabled enables at once, 0 while enabled begins the disable with every line held; the disable ends, when its
last write-back is acknowledged, with no tree left, and enabled where a 1 was written meanwhile; the flip test arms only while it is allowed; every
bucket leaks one, down to 0. -/
def Obligations.LinerMaintenanceAndEnable : Prop :=
  ((∀ (s : State) (i : Instr) (code : Nat), (i, code) ∈ [(Instr.clean, 1), (.inval, 2), (.cleanInval, 3), (.zero, 4), (.lock, 5), (.unlock, 6),
       (.cleanAll, 7), (.cleanInvalAll, 8), (.unlockAll, 9), (.scrub, 10)] → s.served = true → s.asleep = false →
     (s.pfail = true ∨ s.flag F.LNR_MAINT_OP.BUSY = true → exec i s = .next s) ∧
     (s.pfail = false → s.flag F.LNR_MAINT_OP.BUSY = false →
       (s.maintRefused code = true → exec i s = .next (s.setF F.LNR_MAINT_OP.RESULT 2)) ∧
       (s.maintRefused code = false → code < 7 → s.getF F.LNR_MAINT_LEN.LINES = 0 → ∃ t, exec i s = .next t ∧ t.getF F.LNR_MAINT_OP.RESULT = 1 ∧
         t.flag F.LNR_MAINT_OP.BUSY = false ∧ t = { s with regs := t.regs }) ∧
       (s.maintRefused code = false → (code < 7 → s.getF F.LNR_MAINT_LEN.LINES ≠ 0) → ∃ (u t : State), exec i s = .next t ∧
         t = u.startMaint 0 code (s.maintLines code) ∧ u.flag F.LNR_MAINT_OP.BUSY = true ∧ u.liner.lines = s.liner.lines ∧ u.fab = s.fab ∧
         (code ≠ 10 → u = { s with regs := u.regs }) ∧
         (code = 10 → ∀ b, b < s.build.banks → storeGet (fun _ => 0) u.liner.trig b ≠ 0)))) ∧
   (∀ s : State, s.working = true → s.flag F.LNR_MAINT_OP.BUSY = true →
     (s.maintOver 0 = true → ∃ t, exec .maintDone s = .next t ∧ t.flag F.LNR_MAINT_OP.BUSY = false ∧ t.getF F.LNR_MAINT_OP.RESULT = 1 ∧
       (∀ m ∈ t.liner.ops, m.owner ≠ 0) ∧ t.liner.lines = s.liner.lines) ∧
     (s.maintOver 0 = false → exec .maintDone s = .next s))) ∧
  ((∀ s : State, s.served = true → s.asleep = false →
     (s.pfail = true → exec .linerEnable s = .next s ∧ exec .linerDisable s = .next s) ∧
     (s.pfail = false →
       (s.getF F.LNR_CTRL.STATE = 0 → exec .linerDisable s = .next s ∧ ∃ t, exec .linerEnable s = .next t ∧ t.getF F.LNR_CTRL.STATE = 1 ∧
         t.flag F.LNR_CTRL.ENABLE = true ∧ t = { s with regs := t.regs }) ∧
       (s.getF F.LNR_CTRL.STATE = 1 → exec .linerEnable s = .next s ∧ ∃ (u t : State), exec .linerDisable s = .next t ∧
         t = u.startMaint 1 8 s.heldLines ∧ u.getF F.LNR_CTRL.STATE = 2 ∧ u.flag F.LNR_CTRL.ENABLE = false ∧ u = { s with regs := u.regs }) ∧
       (s.getF F.LNR_CTRL.STATE = 2 → exec .linerDisable s = .next s ∧ exec .linerEnable s = .next (s.setF F.LNR_CTRL.ENABLE 1))) ∧
     (s.flag F.LNR_FLIP_CTRL.TEST_EN = false → exec .flipArm s = .next s) ∧
     (s.flag F.LNR_FLIP_CTRL.TEST_EN = true → exec .flipArm s = .next (s.setF F.LNR_FLIP_CTRL.ARMED 1))) ∧
   (∀ s : State, s.working = true → s.getF F.LNR_CTRL.STATE = 2 → s.maintOver 1 = true → ∃ t, exec .linerDisabled s = .next t ∧
     t.getF F.LNR_CTRL.STATE = s.getF F.LNR_CTRL.ENABLE ∧ t.liner.plru = [] ∧ (∀ m ∈ t.liner.ops, m.owner ≠ 1) ∧ t.liner.lines = s.liner.lines) ∧
   (∀ s : State, s.awake = true → ∃ t, exec .bucketLeak s = .next t ∧
     (∀ b, t.getF (bucketF b) = if b < s.build.banks then s.getF (bucketF b) - 1 else s.getF (bucketF b)) ∧
     t = { s with regs := t.regs, liner := { s.liner with rated := t.liner.rated } } ∧
     (∀ b, b ∈ t.liner.rated ↔ b ∈ s.liner.rated ∧ max 1 (s.getF F.LNR_ECC_CFG.THRESH) / 2 < t.getF (bucketF b))))

/-- Lines (R474, R478, R490, R494): a fill keeps the words already valid and makes the line whole, a demand fill served to those who wait and a prefetch
installed or, where it was withdrawn, dropped; an acknowledged write-back leaves its buffer; an entry of the merge buffer is written out; a scrub pass
moves on by one line in each bank it runs in; and the way a full set gives up is one that may be given up, and not the one used last. -/
def Obligations.LinesAreFilledAndWritten : Prop :=
  (∀ (s : State) (l : Nat) (m : Miss) (bytes : List Byte), s.working = true → bytes.length = 256 → s.missOf l = some m → s.fabOpen (.fill l) = true →
    ∀ (data : List Byte), data = (match s.lineAt (32 * s.lnSet l + m.way) with
        | some x => if x.tag = l then x.data.mapIdx (fun i b => if x.has (i / 8) then b else bytes.getD i 0#8)
          else bytes
        | none => bytes) →
    (m.prefetch = false → ∃ (u t : State), exec (.lineFillDone l bytes) s = .next t ∧ t = (u.giveAll l data).lnRun ∧ u.missAt (s.lnBank l) = none ∧
      (∃ x, u.lineAt (32 * s.lnSet l + m.way) = some x ∧ x.tag = l ∧ x.wv = allWords ∧ x.data = data) ∧
      (∀ k, k ≠ 32 * s.lnSet l + m.way → u.lineAt k = s.lineAt k)) ∧
    (m.prefetch = true → ∃ (u t : State), exec (.prefetchFillDone l bytes) s = .next t ∧ t = u.lnRun ∧ u.missAt (s.lnBank l) = none ∧
      u.liner.plru = s.liner.plru ∧ (∀ k, k ≠ 32 * s.lnSet l + m.way → u.lineAt k = s.lineAt k) ∧ (m.drop = true → u.liner.lines = s.liner.lines) ∧
      (m.drop = false → ∃ x, u.lineAt (32 * s.lnSet l + m.way) = some x ∧ x.tag = l ∧ x.wv = allWords ∧ x.data = data))) ∧
  (∀ (s : State) (port tag l : Nat) (r : FabReq), s.working = true → s.fab.find? (fun r => r.holds port tag) = some r → r.who = .writeback l →
    ∃ (u t : State), exec (.writebackDone port tag) s = .next t ∧ t = u.lnRun ∧ u.liner.wbuf = s.liner.wbuf.eraseP (fun w => w.line == l) ∧
      u.liner.lines = s.liner.lines) ∧
  (∀ (s : State) (l : Nat), s.working = true → ∃ (u t : State), exec (.mergeFlush l) s = .next t ∧ t = u.lnRun ∧
    u.liner.merge = s.liner.merge.filter (fun x => x.line != l) ∧
    (∀ m, s.liner.merge.find? (fun x => x.line == l) = some m → u.liner.merging = s.liner.merging ++ [m]) ∧
    u.liner.lines = s.liner.lines) ∧
  (∀ (s : State), s.awake = true → s.liner.flips = [] → ∃ (u t : State), exec (.scrubLine []) s = .next t ∧ t = u.lnRun ∧
    u.liner.lines = s.liner.lines ∧ u.liner.sp = s.liner.sp ∧ ∀ b, b < s.build.banks → storeGet (fun _ => 0) u.liner.trig b =
      (if storeGet (fun _ => 0) s.liner.trig b = 0 ∨ storeGet (fun _ => 0) s.liner.trig b = 12288 then 0 else storeGet (fun _ => 0) s.liner.trig b + 1)) ∧
  (∀ (t v : Nat) (allowed : Nat → Bool), plruVictim t allowed = some v → v < 32 ∧ allowed v = true) ∧
  (∀ (t w : Nat), w < 32 → plruVictim (plruTouch w 5 t 1) (fun _ => true) ≠ some w)

/-- The scratchpad window (R469, R490): a word written whole to an area that takes it reads back, half a word keeps the other half where the word holds no
error, every other word of the scratchpad is as it was, and its store keeps its canonical form; a write elsewhere, or before READ_READY, changes
nothing. -/
def Obligations.ScratchpadWindowWrites : Prop :=
  ∀ (s : State) (off w : Nat) (v : Word), s.served = true → s.asleep = false → w = 4 ∨ w = 8 → off % w = 0 →
    (s.rdReady = false ∨ s.spEnd ≤ off ∨ (s.areaOf off ≠ some 0 ∧ s.areaOf off ≠ some 7) → exec (.spWindowWrite off w v) s = .next s) ∧
    (s.rdReady = true → off < s.spEnd → s.areaOf off = some 7 → w = 4 → s.flipsAt (33 * s.spKey off + off / 8 % 32) = (0, 0) →
      ∃ t, exec (.spWindowWrite off w v) s = .next t ∧
        t.spWord off = (if off % 8 = 4 then setBits (s.spWord off) 63 32 v.toNat else setBits (s.spWord off) 31 0 v.toNat)) ∧
    (s.rdReady = true → off < s.spEnd → s.areaOf off = some 7 → w = 8 →
      ∃ t, exec (.spWindowWrite off w v) s = .next t ∧ t.spWord off = v ∧ t.staging = s.staging ∧
        (∀ k, k ≠ off / 8 → storeGet (fun _ => 0#64) t.liner.sp k = storeGet (fun _ => 0#64) s.liner.sp k) ∧
        (storeWf (fun _ => 0#64) s.liner.sp = true → storeWf (fun _ => 0#64) t.liner.sp = true) ∧
        (s.flag F.LNR_FLIP_CTRL.ARMED = true → s.flag F.LNR_FLIP_CTRL.TARGET = false → t.flag F.LNR_FLIP_CTRL.ARMED = false ∧
          t.flipsAt (33 * s.spKey off + off / 8 % 32) = (s.getF F.LNR_FLIP_DATA.MASK, s.getF F.LNR_FLIP_CTRL.CHECK)) ∧
        t = { s with regs := t.regs, liner := { s.liner with sp := t.liner.sp, flips := t.liner.flips } })

/-! ## The Mover and the fabric -/

/-- A transfer (R497, R502, R504, R505, R508 to R511): GO queues an idle channel whose checks pass and ends one whose checks fail with their status; the channel
queued first takes its reservation when that much is free; a group read is transformed and written, and the next follows when its writes are
acknowledged; then the record, bytes 0 to 14 before OWN; an abort ends a queued channel and stops a running one; RESTART waits for channels that run;
DEINTERLEAVE undoes INTERLEAVE. -/
def Obligations.MoverTransfers : Prop :=
  (∀ (s : State) (c : Nat), c < 32 → s.served = true → s.asleep = false →
    (s.pfail = true ∨ s.getF (F.MVR_STAT.STATE c) ≠ 0 ∨ s.flag F.MVR_GLOBAL.STOPPED = true →
      exec (.moverGo (BitVec.ofNat 64 (2 ^ c))) s = .next s) ∧
    (s.pfail = false → s.getF (F.MVR_STAT.STATE c) = 0 → s.flag F.MVR_GLOBAL.STOPPED = false → ∀ (u : State),
      u = (s.setF (F.MVR_DONE.BYTES c) 0).setMv c (MvCh.mk .idle 0 0 false) →
      (u.mvCheck c = 0 → ∃ t, exec (.moverGo (BitVec.ofNat 64 (2 ^ c))) s = .next t ∧ t.getF (F.MVR_STAT.STATE c) = 1 ∧
        t.moverQ = s.moverQ ++ [c] ∧ t.getF (F.MVR_DONE.BYTES c) = 0) ∧
      (u.mvCheck c ≠ 0 → ∃ t, exec (.moverGo (BitVec.ofNat 64 (2 ^ c))) s = .next t ∧ t = u.mvNone c (u.mvCheck c))) ∧
    ((∀ k, k < 32 → s.getF (F.MVR_STAT.STATE k) < 2) → exec .moverRestart s = .next (s.setF F.MVR_GLOBAL.STOPPED 0)) ∧
    (2 ≤ s.getF (F.MVR_STAT.STATE c) → exec .moverRestart s = .next s) ∧
    (s.pfail = false → s.getF (F.MVR_STAT.STATE c) = 0 ∨ s.getF (F.MVR_STAT.STATE c) = 3 →
      exec (.moverAbort (BitVec.ofNat 64 (2 ^ c))) s = .next s) ∧
    (s.pfail = false → s.getF (F.MVR_STAT.STATE c) = 1 → ∃ t, exec (.moverAbort (BitVec.ofNat 64 (2 ^ c))) s = .next t ∧
      t = State.mvNone { s with moverQ := s.moverQ.filter (· != c) } c 1) ∧
    (s.pfail = false → s.getF (F.MVR_STAT.STATE c) = 2 → (s.mv c).stage ≠ .record → (s.mv c).stage ≠ .first →
      ∃ t, exec (.moverAbort (BitVec.ofNat 64 (2 ^ c))) s = .next t ∧ t.getF (F.MVR_STAT.STATE c) = 3 ∧ (t.mv c).stage = .stopping ∧
        (t.mv c).status = 1 ∧ (∀ r ∈ t.fab, r.who = .mover c → r.issued.isSome = true))) ∧
  (∀ (s : State) (c : Nat), c < 32 → s.awake = true → s.pfail = false →
    (s.getF (F.MVR_STAT.STATE c) = 1 → s.moverQ.head? = some c → s.flag F.MVR_GLOBAL.STOPPED = false → s.mvBufq c ≤ s.getF F.MVR_BUF.FREE →
      s.flag (F.MVR_MODE.PRE_INVAL c) = false ∨ s.flag (F.MVR_MODE.SRC_SP c) = true ∨ s.linerOn = false →
      ∃ (u t : State), exec (.moverReserve c) s = .next t ∧ t = u.mvRead c ∧ u.getF (F.MVR_STAT.STATE c) = 2 ∧ u.moverQ = s.moverQ.drop 1 ∧
        u.getF F.MVR_BUF.FREE = s.getF F.MVR_BUF.FREE - s.mvBufq c ∧ (u.mv c).held = true ∧ (u.mv c).group = 0) ∧
    (s.getF (F.MVR_STAT.STATE c) = 1 → s.moverQ.head? ≠ some c ∨ s.getF F.MVR_BUF.FREE < s.mvBufq c → exec (.moverReserve c) s = .next s) ∧
    (∀ m, s.getF (F.MVR_STAT.STATE c) = 2 → s.mvQuiet c = true → (s.mv c).stage = .reading → s.flag (F.MVR_MODE.SRC_SP c) = false →
      s.flag (F.MVR_MODE.DST_SP c) = false → ∃ (u t : State), exec (.moverGroupDone c (some m)) s = .next t ∧
        t = u.mvWrite c (u.mvApply c (s.readBytes (.mover c) m)) ∧ (u.mv c).stage = .writing ∧ (u.mv c).group = (s.mv c).group ∧ u.regs = s.regs) ∧
    (s.getF (F.MVR_STAT.STATE c) = 2 → s.mvQuiet c = true → (s.mv c).stage = .writing → exec (.moverGroupDone c none) s = .next (s.mvNext c)) ∧
    ((s.mv c).stage = .clean → s.maintOver (2 + c) = true → exec (.moverRecord c) s = .next (s.mvEnd c 0)) ∧
    (∀ a, (s.mv c).stage = .record → s.mvRec c = some (false, a) → s.liner.merge = [] → s.liner.merging = [] →
      ∃ (u t : State), exec (.moverRecord c) s = .next t ∧ (t.mv c).stage = .first ∧ t.regs = u.regs ∧
        u = State.fabWrite { s with fab := s.fab.filter (fun r => r.who != FabWho.moverRecord c) } (.moverRecord c) a ((s.mvRecord c 0).take 15)) ∧
    (∀ b a, (s.mv c).stage = .first → s.mvRec c = some (b, a) → s.fabOpen (.moverRecord c) = true → ∃ t, exec (.moverRecord c) s = .next t ∧
      (t.mv c).stage = .idle ∧ t = ((s.fabAnswered (.moverRecord c)).fabWrite (.moverRecord c) (a + 15) [0#8]).mvIdle c true) ∧
    ((s.mv c).stage = .stopping → (∀ w ∈ s.liner.wbuf, w.owner ≠ some (2 + c)) → ∃ (u t : State), exec (.moverStopDone c) s = .next t ∧
      t = u.mvEnd c (s.mv c).status ∧ u.regs = s.regs ∧ u.mover = s.mover)) ∧
  (∀ (k n g : Nat) (m : List Byte), 0 < g → g ∣ n → m.length = k * n → deinterleave k n g (interleave k n g m) = m)

/-- Failed accesses (R477, R629, R630, R634): an error response, or a request not answered when its time has passed, removes the request, is counted at its
port and has the outcome of its requester; in the fatal state nothing follows; a failed write-back loses its line's data; a response whose epoch is
not the tag's is counted and does nothing else. -/
def Obligations.FabricFailures : Prop :=
  ∀ (s : State) (port tag : Nat), port < 4 → s.fabLive = true →
    (∀ r, s.reqAt port tag = some r →
      (r.expired s.tickno = false → exec (.fabricTimeout port tag) s = .next s) ∧
      (∀ (i : Instr) (late : Bool), (i = .fabricError port tag ∧ late = false) ∨
          (i = .fabricTimeout port tag ∧ late = true ∧ r.expired s.tickno = true) ∨
          (i = .writebackError port tag late ∧ r.isWriteback = true ∧ (late = true → r.expired s.tickno = true)) →
        ∃ (u t : State), exec i s = .next t ∧ u.ctxs = s.ctxs ∧ u.fab = s.fab.filter (fun x => !x.holds port tag) ∧
          u.getF (F.GLB_FAB_STAT.ERRORS port) = (if late then s.getF (F.GLB_FAB_STAT.ERRORS port)
            else satAdd 16 (s.getF (F.GLB_FAB_STAT.ERRORS port)) 1) ∧
          u.getF (F.GLB_FAB_STAT.TIMEOUTS port) = (if late then satAdd 16 (s.getF (F.GLB_FAB_STAT.TIMEOUTS port)) 1
            else s.getF (F.GLB_FAB_STAT.TIMEOUTS port)) ∧
          u.epoch port tag = (if late then (s.epoch port tag + 1) % 16 else s.epoch port tag) ∧
          (s.fatal = true → t = u) ∧
          (∀ l, s.fatal = false → r.who = .writeback l → t = (u.writebackFail l late).fabPump) ∧
          (s.fatal = false → r.who.plain = true → t = (u.accessFail r.who r.addr late).fabPump)) ∧
      (∀ late, r.isWriteback = false → exec (.writebackError port tag late) s = .next s)) ∧
    (∀ e, port < s.build.ports → tag < 256 →
      (e % 16 = s.epoch port tag → exec (.lateResponse port tag e) s = .next s) ∧
      (e % 16 ≠ s.epoch port tag → ∃ t, exec (.lateResponse port tag e) s = .next t ∧
        t.getF (F.GLB_FAB_STAT.LATE port) = satAdd 32 (s.getF (F.GLB_FAB_STAT.LATE port)) 1 ∧ t.fab = s.fab ∧ t.ctxs = s.ctxs ∧ t.liner = s.liner))

/-! ## The config store -/

/-- A write to CFS_CMD (R553, R554, R557, Table 16-8): it records ACTIVATE and starts nothing while an operation runs or after a power fail; an operation that the
level refuses ends with RESULT 2; else each of the operations of the table starts, or ends at once with the RESULT its arguments give; ABORT with nothing
to abort ends with 1, stops an UPDATE with 7, now or after its NOR operation, and leaves other operations alone. -/
def Obligations.StoreOperationsStart : Prop :=
  ∀ (s : State) (a : Bool) (n off len : Nat) (u : State), s.served = true → s.asleep = false → u = s.setFlag F.CFS_CMD.ACTIVATE a →
    n = 16 * s.getF F.CFS_ADDR.ADDR → off = s.getF F.CFS_ARG.OFFSET → len = s.getF F.CFS_ARG.LEN →
    (∀ i ∈ [Instr.commit a, .readrec a, .update a, .activate a, .format a, .rawRead a, .rawProg a, .rawErase a],
      (s.flag F.CFS_CMD.BUSY = true ∨ s.pfail = true ∨ s.pf.settle = true → exec i s = .next u)) ∧
    (s.flag F.CFS_CMD.BUSY = false → s.pfail = false → s.pf.settle = false →
      (∀ r, (u.cfsNow r).getF F.CFS_CMD.RESULT = r % 16 ∧ (u.cfsNow r).cfs = s.cfs ∧ (u.cfsNow r).flag F.CFS_CMD.BUSY = false) ∧
      (s.updAllowed = false → exec (.update a) s = .next (u.cfsNow 2) ∧ exec (.activate a) s = .next (u.cfsNow 2)) ∧
      (s.cfsLevel ≠ 0 → exec (.format a) s = .next (u.cfsNow 2) ∧ exec (.rawRead a) s = .next (u.cfsNow 2) ∧
        exec (.rawProg a) s = .next (u.cfsNow 2) ∧ exec (.rawErase a) s = .next (u.cfsNow 2)) ∧
      (s.flag F.CFS_DEV.SFDP_OK = true → s.flag F.CFS_DEV.FORMATTED = true →
        (∃ (v t : State), exec (.commit a) s = .next t ∧ t = v.fabRead .cfsBuffer n 236 ∧ v.flag F.CFS_CMD.BUSY = true ∧
          v.cfs = { s.cfs with op := some (CfsOp.mk 1 a n off len [] false false) }) ∧
        (s.cfs.recs.find? (fun e => e.1 == off % 256) = none → exec (.readrec a) s = .next (u.cfsNow 6)) ∧
        (∀ e, s.cfs.recs.find? (fun e => e.1 == off % 256) = some e →
          (match recordRead (s.recordAt (e.2 / 16) (e.2 % 16)) with
           | some (p, _) => ∃ (v t : State), exec (.readrec a) s = .next t ∧ t = v.fabWrite .cfsBuffer n p ∧ v.flag F.CFS_CMD.BUSY = true ∧
               v.cfs.op = some (CfsOp.mk 2 a n off len [] false false)
           | none => exec (.readrec a) s = .next (u.badRecord.cfsNow 6))) ∧
        (s.updAllowed = true → s.slotBytes < len → exec (.update a) s = .next (u.cfsNow 3)) ∧
        (s.updAllowed = true → len ≤ s.slotBytes → ∃ (v t : State), exec (.update a) s = .next t ∧ t = v.fabRead .cfsBuffer n len ∧
          v.flag F.CFS_CMD.BUSY = true ∧ v.cfs = { s.cfs with op := some (CfsOp.mk 3 a n off len [] false false) }) ∧
        (s.updAllowed = true →
          if s.slotOk s.idleSlot = true then ∃ (v t : State), exec (.activate a) s = .next t ∧ t = v.appendSlot s.idleSlot ∧
            v.flag F.CFS_CMD.BUSY = true ∧ v.cfs = { s.cfs with op := some (CfsOp.mk 4 a 0 0 0 [] true false) }
          else exec (.activate a) s = .next (u.cfsNow 3))) ∧
      (s.flag F.CFS_DEV.SFDP_OK = true → s.cfsLevel = 0 → ∀ mib, mib = s.getF F.CFS_DEV.SIZE_MIB →
        (∃ (v t : State), exec (.format a) s = .next t ∧ t = v.opNext ∧ v.flag F.CFS_CMD.BUSY = true ∧ v.cfs = { s.cfs with
          op := some (CfsOp.mk 6 a n off len (.erase 0 0 0 false :: (List.range (mib * 256 - 2)).map (fun k => NorStep.erase (4096 * (k + 2)) 0 0 false) ++
            [.prog 0 (layoutBytes mib)]) true false) }) ∧
        (mib * 0x100000 < off + len → exec (.rawRead a) s = .next (u.cfsNow 8) ∧ exec (.rawProg a) s = .next (u.cfsNow 8)) ∧
        (off + len ≤ mib * 0x100000 → ∃ (v t : State), exec (.rawRead a) s = .next t ∧ t = v.fabWrite .cfsBuffer n (s.norRead off len) ∧
          v.flag F.CFS_CMD.BUSY = true ∧ v.cfs = { s.cfs with op := some (CfsOp.mk 7 a n off len [] false false) }) ∧
        (off + len ≤ mib * 0x100000 → off % 256 = 0 → len % 256 = 0 → ∃ (v t : State), exec (.rawProg a) s = .next t ∧
          t = v.fabRead .cfsBuffer n len ∧ v.flag F.CFS_CMD.BUSY = true ∧
          v.cfs = { s.cfs with op := some (CfsOp.mk 8 a n off len [] false false) }) ∧
        (mib * 0x100000 ≤ off → exec (.rawErase a) s = .next (u.cfsNow 8)) ∧
        (off < mib * 0x100000 → ∃ (v t : State), exec (.rawErase a) s = .next t ∧ t = v.opNext ∧ v.flag F.CFS_CMD.BUSY = true ∧
          v.cfs = { s.cfs with op := some (CfsOp.mk 9 a n off len [.erase (off / 4096 * 4096) 0 0 false] true false) }))) ∧
    (s.cfs.op = none → exec (.abort a) s = .next (u.cfsNow 1)) ∧
    (∀ op, s.cfs.op = some op →
      (op.code ≠ 3 → exec (.abort a) s = .next u) ∧
      (op.code = 3 → s.cfs.cur = none → ∃ (v t : State), exec (.abort a) s = .next t ∧ t = v.cfsEnd 7 ∧
        (∀ x ∈ v.cfs.appends, x.use ≠ .slot)) ∧
      (op.code = 3 → ∀ st, s.cfs.cur = some st → st ≠ .append → exec (.abort a) s = .next { u with cfs := { s.cfs with op := some { op with aborted := true } } }))

/-- NOR operations (R541 to R549, R558, R564): a record read back good becomes the current one of its kind, one that was not is appended again; an erase leaves every byte
of its sector 0xFF, a second failure of one under the ledger ends the operation with RESULT 5; a program clears bits only; the ahead sector is erased under
the ledger; past its time an operation is interrupted and ends with RESULT 5; the buffer of a COMMIT with a kind of firmware is appended, any other kind ends
with RESULT 8. -/
def Obligations.NorOperations : Prop :=
  (∀ (s : State) (x : Append) (rest : List Append), s.phase = .on → s.cfs.cur = some .append → s.cfs.appends = x :: rest →
    (∃ (u t : State), exec (.norOpDone none true) s = .next t ∧ t = (if x.use = .firmware ∨ x.use = .slot then u.cfsEnd 1 else u.norPump) ∧
      u.cfs.appends = rest ∧ u.cfs.cur = none ∧ u.cfs.pos = s.cfs.pos + 1 ∧
      storeGet (fun _ => 0) u.cfs.recs (payloadKind x.payload) = 16 * s.headSec + s.cfs.pos ∧
      u.cfs.mem = norPut s.cfs.mem (s.recordBase + 4096 * s.headSec + 256 * s.cfs.pos) (recordBytes x.payload)) ∧
    (∃ (u t : State), exec (.norOpDone none false) s = .next t ∧ t = u.norPump ∧ u.cfs.appends = s.cfs.appends ∧ u.cfs.cur = none ∧
      u.cfs.pos = s.cfs.pos + 1 ∧ u.cfs.recs = s.cfs.recs)) ∧
  (∀ (s : State) (o r k : Nat) (led : Bool), s.phase = .on → s.cfs.cur = some (.erase o r k led) →
    (∃ (u t : State), exec (.norOpDone none true) s = .next t ∧ t = u.opNext ∧ u.cfs.cur = none ∧ u.cfs.op = s.cfs.op ∧
      (led = false → u.cfs.mem = norWipe s.cfs.mem o)) ∧
    (led = true → s.cfs.tries = 0 → ∃ t, exec (.norOpDone none false) s = .next t ∧ t.cfs.tries = 1 ∧ t.cfs.cur = s.cfs.cur ∧ t.regs = s.regs) ∧
    (led = true → s.cfs.tries ≠ 0 → ∃ (u t : State), exec (.norOpDone none false) s = .next t ∧ t = u.cfsEnd 5 ∧ u.cfs.cur = none ∧
      u.isPending Ev.norEraseFault = true)) ∧
  (∀ (s : State) (o : Nat) (m : List Byte) (ok : Bool), s.phase = .on → s.cfs.cur = some (.prog o m) → ∃ (u t : State),
    exec (.norOpDone none ok) s = .next t ∧ t = u.opNext ∧ u.cfs = { s.cfs with mem := norClear s.cfs.mem o m, cur := none } ∧
      u = { s with cfs := u.cfs }) ∧
  (∀ (s : State) (op : CfsOp) (m : List Byte) (ok : Bool), s.phase = .on → s.cfs.op = some op → op.code = 1 → s.fabOpen .cfsBuffer = true →
    m.length = 236 → ∀ (d : List Byte), d = s.readBytes .cfsBuffer m →
    (0x80 ≤ payloadKind d → payloadKind d ≤ 0x8F → ∃ (u t : State), exec (.norOpDone (some m) ok) s = .next t ∧ t = u.norPump ∧
      u.cfs = { s.cfs with op := some { op with fetched := true }, appends := s.cfs.appends ++ [Sys2Proof.Machine.Append.mk .firmware d] }) ∧
    (payloadKind d < 0x80 ∨ 0x8F < payloadKind d → ∃ (u t : State), exec (.norOpDone (some m) ok) s = .next t ∧ t = u.cfsEnd 8 ∧
      u.cfs.appends = s.cfs.appends)) ∧
  (∀ (s : State) (n : Nat), s.norMay = true → s.cfs.aheadDue = true → s.cfs.cur = none → s.ring ≠ 0 → n < 2 → ∃ (u t : State),
    exec (.aheadErase n) s = .next t ∧ t = u.opNext ∧ u.cfs.aheadDue = false ∧ u.cfs.recs = s.cfs.recs ∧ u.cfs.op = s.cfs.op) ∧
  (∀ (s : State) (st : NorStep), s.phase = .on → s.cfs.cur = some st → st ≠ .append → ∃ (u t : State), exec .norTimeout s = .next t ∧ t = u.cfsEnd 5 ∧
    u.cfs.cur = none ∧ u.isPending Ev.norTimeout = true ∧ u.cfs.recs = s.cfs.recs)

/-! ## The host function and the pair -/

/-- The host function (R571 to R577): a reset takes READY and names itself, the first ends every host-owned queue, and it is done when those are DISABLED,
leaving configuration, tables and moderation as at reset; the query window answers the pages it serves with RESULT 1 and any other with 2; what changes bus
mastering, power state, the interrupt mode or a mask takes effect at once, signals held back follow, and a change of mode drops what belongs to the mode
left. -/
def Obligations.HostFunctionCommands : Prop :=
  (∀ (s : State) (i : Instr) (k : FnReset), (i, k) ∈ [(Instr.functionLevelReset, .flr), (.hotReset, .hot), (.linkDown, .linkDown)] →
    s.phase = .on → s.flag F.GLB_HFN_STATUS.PRESENT = true → s.getF F.PAIR_STAT.STATE ≠ 6 →
    ∃ (u t : State), exec i s = .next t ∧ u.flag F.GLB_HFN_STATUS.READY = false ∧ u.getF F.GLB_HFN_STATUS.LAST_RESET = k.code ∧
      u.host = { s.host with resets := s.host.resets ++ [k] } ∧ u.queues = s.queues ∧ u.ctxs = s.ctxs ∧
      (s.host.resets ≠ [] → t = u) ∧
      (s.host.resets = [] → t = s.hostQueues.foldl (fun x q => x.resetQueue q)
        (u.fabAbandon (fun w => match u.whoQueue w with | some q => u.hostOwned q | none => false)))) ∧
  (∀ s : State, s.phase = .on → s.host.resets ≠ [] →
    ((∃ q ∈ s.hostQueues, s.qState q ≠ 0) → exec .functionResetDone s = .next s) ∧
    ((∀ q ∈ s.hostQueues, s.qState q = 0) → ∃ t, exec .functionResetDone s = .next t ∧ t.host = HostFn.zero ∧ t.evc.hostMods = [] ∧
      t.flag F.GLB_HFN_STATUS.READY = s.flag F.PWR_CENSUS.WRITE_READY ∧ t.flag F.GLB_HFN_STATUS.BME = false ∧ t.flag F.GLB_HFN_STATUS.D3 = false ∧
      t.getF F.GLB_HFN_STATUS.RESETS = (s.getF F.GLB_HFN_STATUS.RESETS + s.host.resets.length) % 256 ∧ t.ctxs = s.ctxs ∧
      (∀ q ∈ s.hostQueues, t.queue q = Queue.zero) ∧ (∀ q, q ∉ s.hostQueues → t.queue q = s.queue q))) ∧
  (∀ (s : State) (page param : Nat), s.served = true → s.flag F.GLB_HFN_STATUS.READY = true → s.fatal = false → s.asleep = false →
    s.flag F.HF_QCTL.BUSY = false → page = s.getF F.HF_QCTL.PAGE → param = s.getF F.HF_QPARAM.PARAM →
    ∃ t, exec .queryWindowStart s = .next t ∧ t = { s with regs := t.regs, host := { s.host with window := t.host.window } } ∧
      (s.windowServes page param = true → t.getF F.HF_QCTL.RESULT = 1 ∧ t.host.window = s.queryPage page param 0) ∧
      (s.windowServes page param = false → t.getF F.HF_QCTL.RESULT = 2 ∧ t.host.window = [])) ∧
  (∀ (s : State) (b : Bool), s.phase = .on →
    (∃ (u t : State), exec (.busMasterChange b) s = .next t ∧ u.flag F.GLB_HFN_STATUS.BME = b ∧ u = { s with regs := u.regs } ∧ t = u.fabPump.hostPump) ∧
    (∃ (u t : State), exec (.d3Transition b) s = .next t ∧ u.flag F.GLB_HFN_STATUS.D3 = b ∧ u = { s with regs := u.regs } ∧ t = u.fabPump.hostPump) ∧
    (s.hostBlocked = true → s.hostPump = s)) ∧
  (∀ (s : State) (e m x : Bool) (u : State), s.phase = .on → u = { s with host := { s.host with msixEn := e, fnMask := m, intxDis := x } } →
    ∃ t, exec (.interruptModeChange e m x) s = .next t ∧ (u.hostMode = s.hostMode → t = u.hostPump) ∧
      (u.hostMode ≠ s.hostMode → t.evc.hostMods = [] ∧ t.host.msixEn = e ∧ t.host.fnMask = m ∧ t.host.intxDis = x ∧ t.out = s.out ∧
        (s.hostMode = 1 → t.host.pba = [] ∧ t.regs = s.regs) ∧
        (s.hostMode = 2 → t.host.pba = s.host.pba ∧ ∀ k, k < 16 → t.reg (0x22100 + 8 * k) = 0#64))) ∧
  (∀ (s : State) (v : Nat), s.phase = .on → v < 1024 → s.flag F.GLB_HFN_STATUS.PRESENT = true → ∃ (u t : State), exec (.msixUnmask v) s = .next t ∧
    t = u.hostPump ∧ u.msix v = { s.msix v with mask := false } ∧ (∀ k, k ≠ v → u.msix k = s.msix k) ∧ u.regs = s.regs ∧ u.host.pba = s.host.pba)

/-- The cuff and the shadow (R583 to R589): a heartbeat tells of the partner and covers what it acknowledges, four missed in a row raise partner-suspect;
a message with the next MSEQ enters the shadow and is acknowledged, any other changes nothing; the last slice of a resync makes the mirror valid; what is
not covered in 64 µs is sent again; the third resend, or 16 CRC errors in time, takes the cuff down; a retrain that passes brings it up with a resync. -/
def Obligations.CuffAndShadow : Prop :=
  (∀ (s : State) (n mt p st fl ack : Nat), s.build.pair = true → s.phase = .on → s.tokensGone = false ∨ fl.testBit 3 = true →
    ∃ (u t : State), exec (.heartbeat n mt p st fl ack) s = .next t ∧ t = u.releaseHeld ∧ u.getF F.PAIR_PEER.TICKNO = n % 2 ^ 64 ∧
      u.getF F.PAIR_STAT.MISSED = 0 ∧ u.flag F.PAIR_STAT.PARTNER_CORE_OK = !fl.testBit 0 ∧ u.flag F.PAIR_STAT.PARTNER_PFAIL = fl.testBit 1 ∧
      u.pair.peerStage = st ∧ u.pair.peerPeriod = some (p % 4) ∧ u = { s with regs := u.regs, pair := u.pair } ∧
      (∀ m, m ∈ u.pair.sent ↔ m ∈ s.pair.sent ∧ 2 ^ 31 ≤ (ack + 2 ^ 32 - m.mseq) % 2 ^ 32)) ∧
  (∀ (s : State) (us p : Nat), s.build.pair = true → s.phase = .on → s.pair.peerPeriod = some p → 4 * (p + 1) + 2 ≤ us →
    ∃ t, exec (.heartbeatMissed us) s = .next t ∧ t.getF F.PAIR_STAT.MISSED = min (s.getF F.PAIR_STAT.MISSED + 1) 255 ∧
      (s.getF F.PAIR_STAT.MISSED = 3 → t.isPending Ev.partnerSuspect = true) ∧ t.pair = s.pair) ∧
  (∀ (s : State) (n : Nat) (i : Instr) (x : ShadowItem),
    ((∃ seq r, i = .journal n seq r ∧ x = .journal seq r) ∨ (∃ v a b m, i = .levels n v a b m ∧ x = .levels v a b m) ∨
      (∃ q o v r, i = .qcfg n q o v r ∧ x = .qcfg q o v r) ∨ (∃ q c p a b, i = .qidx n q c p a b ∧ x = .qidx q c p a b) ∨
      (∃ c q p d o, i = .ctxOpen n c q p d o ∧ x = .ctxOpen c q p d o) ∨ (∃ c k, i = .ctxDone n c k ∧ x = .ctxDone c k) ∨
      (∃ c k g b y f, i = .place n c k g b y f ∧ x = .place c k g b y f)) →
    s.build.pair = true → s.phase = .on → s.flag F.PAIR_STAT.CUFF_UP = true → s.getF F.PAIR_STAT.STATE ≠ 6 → s.getF F.PAIR_STAT.STATE ≠ 3 →
    (n % 2 ^ 32 ≠ (s.pair.rx + 1) % 2 ^ 32 → exec i s = .next s) ∧
    (n % 2 ^ 32 = (s.pair.rx + 1) % 2 ^ 32 → ∃ (u t : State), exec i s = .next t ∧ t = u.sendBeat ∧
      u = { s with pair := Sys2Proof.Machine.Pair.take { s.pair with rx := n % 2 ^ 32 } x } ∧ u.pair.rx = n % 2 ^ 32)) ∧
  (∀ (s : State) (n part count : Nat) (x : ShadowItem), s.build.pair = true → s.phase = .on → s.flag F.PAIR_STAT.CUFF_UP = true →
    s.getF F.PAIR_STAT.STATE ≠ 6 → s.getF F.PAIR_STAT.STATE ≠ 3 → n % 2 ^ 32 = (s.pair.rx + 1) % 2 ^ 32 →
    ∃ (u t : State), exec (.resync n part count x) s = .next t ∧ t = u.sendBeat ∧ (part + 1 ≠ count → u = { s with pair := u.pair }) ∧
      (part + 1 = count → u.flag F.PAIR_STAT.MIRROR_VALID = true ∧ u.getF F.PAIR_STAT.RESYNCS = (s.getF F.PAIR_STAT.RESYNCS + 1) % 2 ^ 16 ∧
        (s.getF F.PAIR_STAT.STATE = 2 → u.getF F.PAIR_STAT.STATE = 1) ∧ u.isPending Ev.cuffUp = true)) ∧
  (∀ s : State, s.build.pair = true → s.phase = .on → s.flag F.PAIR_STAT.CUFF_UP = true → ∃ (u t : State), exec .cuffResend s = .next t ∧
    u.getF F.PAIR_CUFF.RETRANS = (s.getF F.PAIR_CUFF.RETRANS + (s.pair.sent.filter (fun m => decide (m.sent + 64 ≤ s.mtime))).length) % 2 ^ 32 ∧
    u.pair.sent = s.pair.sent.map (fun m => if m.sent + 64 ≤ s.mtime then { m with sent := s.mtime, resends := m.resends + 1 } else m) ∧
    ((∃ m ∈ s.pair.sent, m.sent + 64 ≤ s.mtime ∧ 2 ≤ m.resends) → t = u.cuffFails) ∧
    ((∀ m ∈ s.pair.sent, m.sent + 64 ≤ s.mtime → m.resends < 2) → t = u)) ∧
  (∀ s : State, s.build.pair = true → s.phase = .on → ∃ (u t : State), exec .cuffBeatCrcError s = .next t ∧
    u.getF F.PAIR_CUFF.CRC_ERRORS = min (s.getF F.PAIR_CUFF.CRC_ERRORS + 1) 65535 ∧ u = { s with regs := u.regs, pair := u.pair } ∧
    t = (if 16 ≤ (s.pair.crcTicks.filter (fun k => decide (s.tickno < k + 1048576))).length + 1 then u.cuffFails else u)) ∧
  (∀ s : State, s.flag F.PAIR_STAT.CUFF_UP = true → ∃ u : State, s.cuffFails = u.releaseHeld ∧ u.flag F.PAIR_STAT.CUFF_UP = false ∧
    u.flag F.PAIR_STAT.MIRROR_VALID = false ∧ (s.getF F.PAIR_STAT.STATE = 1 → u.getF F.PAIR_STAT.STATE = 2) ∧ u.pair.sent = []) ∧
  (∀ (s : State), s.build.pair = true → s.phase = .on → s.flag F.PAIR_STAT.CUFF_UP = false → s.pair.upOnce = false ∨ s.pair.downTick + 65536 ≤ s.tickno →
    exec (.cuffRetrain false) s = .next { s with pair := { s.pair with upOnce := true, downTick := s.tickno } } ∧
    ∃ (u t : State), exec (.cuffRetrain true) s = .next t ∧ t = u.sendResync ∧ u.flag F.PAIR_STAT.CUFF_UP = true ∧ u.pair.tx = 0 ∧ u.pair.rx = 0 ∧
      u.pair.sent = [])

/-- The hand-over and the return (R588 to R601, R634): a self-check fault deasserts CORE_OK where there is a partner and is fatal elsewhere; at the decision
the survivor takes over, the failed instance is fenced with no token, or, where no hand-over follows, is in the fatal state; each step of the hand-over
waits for the journal, and the last posts what the partner owed; write-ready follows when no partner band is open; a partner completion is dropped after
65,536 ticks; and a give-back is refused, with the reason, while a partner queue runs or the partner does not wait. -/
def Obligations.HandOverAndReturn : Prop :=
  (∀ (s : State) (code unit : Nat), 1 ≤ code → code ≤ 4 → s.phase = .on → s.fatal = false → s.pair.coreOk = true → s.getF F.PAIR_STAT.STATE ≠ 6 →
    (s.build.pair = true → ∃ (u t : State), exec (.selfCheckFault code unit) s = .next t ∧ t = u.sendBeat ∧
      u = { s with pair := { s.pair with coreOk := false, cause := code } }) ∧
    (s.build.pair = false → ∃ t, exec (.selfCheckFault code unit) s = .next t ∧ t.fatal = true ∧ t.getF F.GLB_FAULT_STAT.FATAL_CAUSE = code ∧
      t.pln.plans = [])) ∧
  (∀ s : State, s.build.pair = true → s.served = true →
    (s.getF F.PAIR_CTRL.KEY ≠ 0xA5 → exec .yield s = .next s) ∧
    (s.getF F.PAIR_CTRL.KEY = 0xA5 → s.phase = .on → s.fatal = false → s.pair.coreOk = true → s.getF F.PAIR_STAT.STATE ≠ 6 → ∃ (u t : State),
      exec .yield s = .next t ∧ t = u.sendBeat ∧ u = { s with pair := { s.pair with coreOk := false, cause := 5 } })) ∧
  (∀ (s : State) (v : PeerView), s.build.pair = true → s.phase = .on → s.getF F.PAIR_STAT.STATE ≠ 6 →
    (s.mayFoster v = true → ∃ (u t : State), exec (.handoverDecision v) s = .next t ∧ t = u.adoptDies.releaseHeld) ∧
    (s.pair.coreOk = true → s.mayFoster v = false → exec (.handoverDecision v) s = .next s) ∧
    (s.pair.coreOk = false → v.coreOk = true → v.pfail = false → v.ready = true → s.pfail = false → s.pf.settle = false → s.pf.due = false →
      s.getF F.PAIR_STAT.STATE ≠ 3 → s.fostering = false → ∃ t, exec (.handoverDecision v) s = .next t ∧ t.getF F.PAIR_STAT.STATE = 6 ∧
        t.getF F.PAIR_HOME.HOME = 0 ∧ t.flag F.GLB_HFN_STATUS.READY = false ∧ t.flag F.PAIR_STAT.CUFF_UP = false ∧ t.ctxs = [] ∧ t.fab = [] ∧
        t.bands = [] ∧ t.cfs = s.cfs ∧ t.pending = s.pending) ∧
    (s.pair.coreOk = false → v.coreOk = false ∨ v.ready = false ∨ v.pfail = true →
      (s.pair.cause ≤ 4 → ∃ t, exec (.handoverDecision v) s = .next t ∧ t.fatal = true) ∧
      (4 < s.pair.cause → exec (.handoverDecision v) s = .next s))) ∧
  (∀ (s : State) (reads : List MediaRead) (m : List Byte) (l : List Nat), s.build.pair = true → s.phase = .on →
    (s.getF F.PAIR_STAT.STATE = 6 → exec (.handoverAbort reads m l) s = .next (l.foldl (fun s v => s.hostSignal (v % 1024)) s)) ∧
    (s.getF F.PAIR_STAT.STATE = 4 → s.awake = true → s.pfail = false →
      (s.pair.step = 1 → s.flag F.PAIR_STAT.LAST_COLD = false → ∃ (u t : State), exec (.handoverAbort reads m l) s = .next t ∧ u = s.catchUp reads ∧
        t = { u with pair := { u.pair with step := 2 } }) ∧
      (2 ≤ s.pair.step → s.pair.step ≤ 4 → s.farIdle = false → exec (.handoverAbort reads m l) s = .next s) ∧
      (s.pair.step = 4 → s.farIdle = true → ∃ t, exec (.handoverAbort reads m l) s = .next t ∧ t.getF F.PAIR_STAT.STATE = 5 ∧
        t.isPending Ev.handoverDone = true))) ∧
  (∀ (s : State) (reads : List MediaRead), s.build.pair = true → s.getF F.PAIR_STAT.STATE = 5 → s.awake = true → s.pfail = false →
    s.pair.step = 6 → s.openBands 1 = [] → s.farIdle = true → ∃ t, exec (.fosterWriteReady reads) s = .next t ∧ t.pair.step = 0 ∧
      t.pair.fosterWrites = true ∧ t.isPending Ev.fosterWriteReady = true ∧ t.bands = s.bands) ∧
  (∀ (s : State) (c : Nat) (x : ShadowCtx), s.pair.shadowC.find? (fun e => e.1 == c) = some (c, x) → s.awake = true → s.pfail = false →
    (x.ready = false ∨ s.tickno < s.pair.abortTick + 65536 → exec (.partnerDrop c) s = .next s) ∧
    (x.ready = true → s.pair.abortTick + 65536 ≤ s.tickno → s.build.pair = true → ∃ t, exec (.partnerDrop c) s = .next t ∧
      t.pair.shadowC = storeDel c s.pair.shadowC ∧ t.isPending Ev.partnerDropped = true)) ∧
  (∀ s : State, s.served = true → s.awake = true → s.pfail = false → s.build.pair = true → s.getF F.PAIR_STAT.STATE = 5 →
    ∀ (busy : Bool), busy = (storeKeys s.queues).any (fun q => s.fosterQ q && s.qState q != 0) →
    (busy = true → exec .giveBack s = .next (s.setF F.PAIR_STAT.GB_RESULT 2)) ∧
    (busy = false → s.peerWaits = false → exec .giveBack s = .next (s.setF F.PAIR_STAT.GB_RESULT 3)) ∧
    (busy = false → s.peerWaits = true → s.pair.step ≠ 0 → exec .giveBack s = .next (s.setF F.PAIR_STAT.STATE 8)) ∧
    (busy = false → s.peerWaits = true → s.pair.step = 0 → ∃ (u t : State), exec .giveBack s = .next t ∧
      t = (s.openBands 1).foldl (fun x e => x.startClose e.1 e.2 []) u ∧ u.getF F.PAIR_STAT.STATE = 8 ∧ u.pair.step = 10))

/-! ## What is stored -/

/-- The encodings (R79, R94, R100): a scrambled image scrambled again is the image; placing a tile writes its stamp and address check, keeps its DATA and
TAG, and leaves a check word that holds where the tile's held; a position found for a BOI is the position that has that BOI, and lies inside the row. -/
def Obligations.StoredEncodingsRoundTrip : Prop :=
  (∀ (block page slot : Nat) (m : List Byte), scramble block page slot (scramble block page slot m) = m) ∧
  (∀ (t : List Byte) (stamp addr : Nat), tileCrcOk t = true → tileCrcOk (patchTile t stamp addr) = true ∧ tileAchkOk (patchTile t stamp addr) addr = true ∧
    tileStamp (patchTile t stamp addr) = stamp % 2 ^ 64 ∧ (patchTile t stamp addr).take 4112 = t.take 4112) ∧
  (∀ (w planes slots boi : Nat), 0 < w → 0 < planes → 0 < slots → boiOf w planes slots (rowPos w planes slots boi) = boi ∧
    (rowPos w planes slots boi).d < w ∧ (rowPos w planes slots boi).plane < planes ∧ (rowPos w planes slots boi).slot < slots)
end

