-- ==== Sys2Proof/Laws/State.lean ====
section
/-! SUPPORT. What each shared update leaves unchanged: one lemma per field of State per update. -/

namespace Sys2Proof.Machine

/-! ## setReg -/

@[simp] theorem State.setReg_build (s : State) (o : Nat) (w : Word) : (s.setReg o w).build = s.build := rfl
@[simp] theorem State.setReg_right (s : State) (o : Nat) (w : Word) : (s.setReg o w).right = s.right := rfl
@[simp] theorem State.setReg_pending (s : State) (o : Nat) (w : Word) : (s.setReg o w).pending = s.pending := rfl
@[simp] theorem State.setReg_phase (s : State) (o : Nat) (w : Word) : (s.setReg o w).phase = s.phase := rfl
@[simp] theorem State.setReg_windowsOpen (s : State) (o : Nat) (w : Word) : (s.setReg o w).windowsOpen = s.windowsOpen := rfl
@[simp] theorem State.setReg_latch (s : State) (o : Nat) (w : Word) : (s.setReg o w).latch = s.latch := rfl
@[simp] theorem State.setReg_splits (s : State) (o : Nat) (w : Word) : (s.setReg o w).splits = s.splits := rfl
@[simp] theorem State.setReg_readData (s : State) (o : Nat) (w : Word) : (s.setReg o w).readData = s.readData := rfl
@[simp] theorem State.setReg_out (s : State) (o : Nat) (w : Word) : (s.setReg o w).out = s.out := rfl
@[simp] theorem State.setReg_draws (s : State) (o : Nat) (w : Word) : (s.setReg o w).draws = s.draws := rfl
@[simp] theorem State.setReg_subUs (s : State) (o : Nat) (w : Word) : (s.setReg o w).subUs = s.subUs := rfl
@[simp] theorem State.setReg_evc (s : State) (o : Nat) (w : Word) : (s.setReg o w).evc = s.evc := rfl
@[simp] theorem State.setReg_log (s : State) (o : Nat) (w : Word) : (s.setReg o w).log = s.log := rfl
@[simp] theorem State.setReg_fab (s : State) (o : Nat) (w : Word) : (s.setReg o w).fab = s.fab := rfl
@[simp] theorem State.setReg_epochs (s : State) (o : Nat) (w : Word) : (s.setReg o w).epochs = s.epochs := rfl
@[simp] theorem State.setReg_queues (s : State) (o : Nat) (w : Word) : (s.setReg o w).queues = s.queues := rfl
@[simp] theorem State.setReg_ctxs (s : State) (o : Nat) (w : Word) : (s.setReg o w).ctxs = s.ctxs := rfl
@[simp] theorem State.setReg_lastU (s : State) (o : Nat) (w : Word) : (s.setReg o w).lastU = s.lastU := rfl
@[simp] theorem State.setReg_lastW (s : State) (o : Nat) (w : Word) : (s.setReg o w).lastW = s.lastW := rfl
@[simp] theorem State.setReg_fetchSeq (s : State) (o : Nat) (w : Word) : (s.setReg o w).fetchSeq = s.fetchSeq := rfl
@[simp] theorem State.setReg_admSeq (s : State) (o : Nat) (w : Word) : (s.setReg o w).admSeq = s.admSeq := rfl
@[simp] theorem State.setReg_readySeq (s : State) (o : Nat) (w : Word) : (s.setReg o w).readySeq = s.readySeq := rfl
@[simp] theorem State.setReg_sleep (s : State) (o : Nat) (w : Word) : (s.setReg o w).sleep = s.sleep := rfl
@[simp] theorem State.setReg_wdog (s : State) (o : Nat) (w : Word) : (s.setReg o w).wdog = s.wdog := rfl
@[simp] theorem State.setReg_telem (s : State) (o : Nat) (w : Word) : (s.setReg o w).telem = s.telem := rfl
@[simp] theorem State.setReg_host (s : State) (o : Nat) (w : Word) : (s.setReg o w).host = s.host := rfl
@[simp] theorem State.setReg_vdies (s : State) (o : Nat) (w : Word) : (s.setReg o w).vdies = s.vdies := rfl
@[simp] theorem State.setReg_pdies (s : State) (o : Nat) (w : Word) : (s.setReg o w).pdies = s.pdies := rfl
@[simp] theorem State.setReg_sets (s : State) (o : Nat) (w : Word) : (s.setReg o w).sets = s.sets := rfl
@[simp] theorem State.setReg_bands (s : State) (o : Nat) (w : Word) : (s.setReg o w).bands = s.bands := rfl
@[simp] theorem State.setReg_params (s : State) (o : Nat) (w : Word) : (s.setReg o w).params = s.params := rfl
@[simp] theorem State.setReg_dies (s : State) (o : Nat) (w : Word) : (s.setReg o w).dies = s.dies := rfl
@[simp] theorem State.setReg_cws (s : State) (o : Nat) (w : Word) : (s.setReg o w).cws = s.cws := rfl
@[simp] theorem State.setReg_progs (s : State) (o : Nat) (w : Word) : (s.setReg o w).progs = s.progs := rfl
@[simp] theorem State.setReg_erases (s : State) (o : Nat) (w : Word) : (s.setReg o w).erases = s.erases := rfl
@[simp] theorem State.setReg_nextJob (s : State) (o : Nat) (w : Word) : (s.setReg o w).nextJob = s.nextJob := rfl
@[simp] theorem State.setReg_pln (s : State) (o : Nat) (w : Word) : (s.setReg o w).pln = s.pln := rfl
@[simp] theorem State.setReg_chans (s : State) (o : Nat) (w : Word) : (s.setReg o w).chans = s.chans := rfl
@[simp] theorem State.setReg_quads (s : State) (o : Nat) (w : Word) : (s.setReg o w).quads = s.quads := rfl
@[simp] theorem State.setReg_wbands (s : State) (o : Nat) (w : Word) : (s.setReg o w).wbands = s.wbands := rfl
@[simp] theorem State.setReg_journals (s : State) (o : Nat) (w : Word) : (s.setReg o w).journals = s.journals := rfl
@[simp] theorem State.setReg_pf (s : State) (o : Nat) (w : Word) : (s.setReg o w).pf = s.pf := rfl
@[simp] theorem State.setReg_tasks (s : State) (o : Nat) (w : Word) : (s.setReg o w).tasks = s.tasks := rfl
@[simp] theorem State.setReg_requeue (s : State) (o : Nat) (w : Word) : (s.setReg o w).requeue = s.requeue := rfl
@[simp] theorem State.setReg_rebuildPend (s : State) (o : Nat) (w : Word) : (s.setReg o w).rebuildPend = s.rebuildPend := rfl
@[simp] theorem State.setReg_patrol (s : State) (o : Nat) (w : Word) : (s.setReg o w).patrol = s.patrol := rfl
@[simp] theorem State.setReg_patCounts (s : State) (o : Nat) (w : Word) : (s.setReg o w).patCounts = s.patCounts := rfl
@[simp] theorem State.setReg_levels (s : State) (o : Nat) (w : Word) : (s.setReg o w).levels = s.levels := rfl
@[simp] theorem State.setReg_bursts (s : State) (o : Nat) (w : Word) : (s.setReg o w).bursts = s.bursts := rfl
@[simp] theorem State.setReg_llrs (s : State) (o : Nat) (w : Word) : (s.setReg o w).llrs = s.llrs := rfl
@[simp] theorem State.setReg_decs (s : State) (o : Nat) (w : Word) : (s.setReg o w).decs = s.decs := rfl
@[simp] theorem State.setReg_pair (s : State) (o : Nat) (w : Word) : (s.setReg o w).pair = s.pair := rfl
@[simp] theorem State.setReg_cfs (s : State) (o : Nat) (w : Word) : (s.setReg o w).cfs = s.cfs := rfl
@[simp] theorem State.setReg_staging (s : State) (o : Nat) (w : Word) : (s.setReg o w).staging = s.staging := rfl
@[simp] theorem State.setReg_liner (s : State) (o : Nat) (w : Word) : (s.setReg o w).liner = s.liner := rfl
@[simp] theorem State.setReg_mover (s : State) (o : Nat) (w : Word) : (s.setReg o w).mover = s.mover := rfl
@[simp] theorem State.setReg_moverQ (s : State) (o : Nat) (w : Word) : (s.setReg o w).moverQ = s.moverQ := rfl
@[simp] theorem State.setReg_census (s : State) (o : Nat) (w : Word) : (s.setReg o w).census = s.census := rfl

/-! ## setF -/

@[simp] theorem State.setF_build (s : State) (f : Field) (v : Nat) : (s.setF f v).build = s.build := rfl
@[simp] theorem State.setF_right (s : State) (f : Field) (v : Nat) : (s.setF f v).right = s.right := rfl
@[simp] theorem State.setF_pending (s : State) (f : Field) (v : Nat) : (s.setF f v).pending = s.pending := rfl
@[simp] theorem State.setF_phase (s : State) (f : Field) (v : Nat) : (s.setF f v).phase = s.phase := rfl
@[simp] theorem State.setF_windowsOpen (s : State) (f : Field) (v : Nat) : (s.setF f v).windowsOpen = s.windowsOpen := rfl
@[simp] theorem State.setF_latch (s : State) (f : Field) (v : Nat) : (s.setF f v).latch = s.latch := rfl
@[simp] theorem State.setF_splits (s : State) (f : Field) (v : Nat) : (s.setF f v).splits = s.splits := rfl
@[simp] theorem State.setF_readData (s : State) (f : Field) (v : Nat) : (s.setF f v).readData = s.readData := rfl
@[simp] theorem State.setF_out (s : State) (f : Field) (v : Nat) : (s.setF f v).out = s.out := rfl
@[simp] theorem State.setF_draws (s : State) (f : Field) (v : Nat) : (s.setF f v).draws = s.draws := rfl
@[simp] theorem State.setF_subUs (s : State) (f : Field) (v : Nat) : (s.setF f v).subUs = s.subUs := rfl
@[simp] theorem State.setF_evc (s : State) (f : Field) (v : Nat) : (s.setF f v).evc = s.evc := rfl
@[simp] theorem State.setF_log (s : State) (f : Field) (v : Nat) : (s.setF f v).log = s.log := rfl
@[simp] theorem State.setF_fab (s : State) (f : Field) (v : Nat) : (s.setF f v).fab = s.fab := rfl
@[simp] theorem State.setF_epochs (s : State) (f : Field) (v : Nat) : (s.setF f v).epochs = s.epochs := rfl
@[simp] theorem State.setF_queues (s : State) (f : Field) (v : Nat) : (s.setF f v).queues = s.queues := rfl
@[simp] theorem State.setF_ctxs (s : State) (f : Field) (v : Nat) : (s.setF f v).ctxs = s.ctxs := rfl
@[simp] theorem State.setF_lastU (s : State) (f : Field) (v : Nat) : (s.setF f v).lastU = s.lastU := rfl
@[simp] theorem State.setF_lastW (s : State) (f : Field) (v : Nat) : (s.setF f v).lastW = s.lastW := rfl
@[simp] theorem State.setF_fetchSeq (s : State) (f : Field) (v : Nat) : (s.setF f v).fetchSeq = s.fetchSeq := rfl
@[simp] theorem State.setF_admSeq (s : State) (f : Field) (v : Nat) : (s.setF f v).admSeq = s.admSeq := rfl
@[simp] theorem State.setF_readySeq (s : State) (f : Field) (v : Nat) : (s.setF f v).readySeq = s.readySeq := rfl
@[simp] theorem State.setF_sleep (s : State) (f : Field) (v : Nat) : (s.setF f v).sleep = s.sleep := rfl
@[simp] theorem State.setF_wdog (s : State) (f : Field) (v : Nat) : (s.setF f v).wdog = s.wdog := rfl
@[simp] theorem State.setF_telem (s : State) (f : Field) (v : Nat) : (s.setF f v).telem = s.telem := rfl
@[simp] theorem State.setF_host (s : State) (f : Field) (v : Nat) : (s.setF f v).host = s.host := rfl
@[simp] theorem State.setF_vdies (s : State) (f : Field) (v : Nat) : (s.setF f v).vdies = s.vdies := rfl
@[simp] theorem State.setF_pdies (s : State) (f : Field) (v : Nat) : (s.setF f v).pdies = s.pdies := rfl
@[simp] theorem State.setF_sets (s : State) (f : Field) (v : Nat) : (s.setF f v).sets = s.sets := rfl
@[simp] theorem State.setF_bands (s : State) (f : Field) (v : Nat) : (s.setF f v).bands = s.bands := rfl
@[simp] theorem State.setF_params (s : State) (f : Field) (v : Nat) : (s.setF f v).params = s.params := rfl
@[simp] theorem State.setF_dies (s : State) (f : Field) (v : Nat) : (s.setF f v).dies = s.dies := rfl
@[simp] theorem State.setF_cws (s : State) (f : Field) (v : Nat) : (s.setF f v).cws = s.cws := rfl
@[simp] theorem State.setF_progs (s : State) (f : Field) (v : Nat) : (s.setF f v).progs = s.progs := rfl
@[simp] theorem State.setF_erases (s : State) (f : Field) (v : Nat) : (s.setF f v).erases = s.erases := rfl
@[simp] theorem State.setF_nextJob (s : State) (f : Field) (v : Nat) : (s.setF f v).nextJob = s.nextJob := rfl
@[simp] theorem State.setF_pln (s : State) (f : Field) (v : Nat) : (s.setF f v).pln = s.pln := rfl
@[simp] theorem State.setF_chans (s : State) (f : Field) (v : Nat) : (s.setF f v).chans = s.chans := rfl
@[simp] theorem State.setF_quads (s : State) (f : Field) (v : Nat) : (s.setF f v).quads = s.quads := rfl
@[simp] theorem State.setF_wbands (s : State) (f : Field) (v : Nat) : (s.setF f v).wbands = s.wbands := rfl
@[simp] theorem State.setF_journals (s : State) (f : Field) (v : Nat) : (s.setF f v).journals = s.journals := rfl
@[simp] theorem State.setF_pf (s : State) (f : Field) (v : Nat) : (s.setF f v).pf = s.pf := rfl
@[simp] theorem State.setF_tasks (s : State) (f : Field) (v : Nat) : (s.setF f v).tasks = s.tasks := rfl
@[simp] theorem State.setF_requeue (s : State) (f : Field) (v : Nat) : (s.setF f v).requeue = s.requeue := rfl
@[simp] theorem State.setF_rebuildPend (s : State) (f : Field) (v : Nat) : (s.setF f v).rebuildPend = s.rebuildPend := rfl
@[simp] theorem State.setF_patrol (s : State) (f : Field) (v : Nat) : (s.setF f v).patrol = s.patrol := rfl
@[simp] theorem State.setF_patCounts (s : State) (f : Field) (v : Nat) : (s.setF f v).patCounts = s.patCounts := rfl
@[simp] theorem State.setF_levels (s : State) (f : Field) (v : Nat) : (s.setF f v).levels = s.levels := rfl
@[simp] theorem State.setF_bursts (s : State) (f : Field) (v : Nat) : (s.setF f v).bursts = s.bursts := rfl
@[simp] theorem State.setF_llrs (s : State) (f : Field) (v : Nat) : (s.setF f v).llrs = s.llrs := rfl
@[simp] theorem State.setF_decs (s : State) (f : Field) (v : Nat) : (s.setF f v).decs = s.decs := rfl
@[simp] theorem State.setF_pair (s : State) (f : Field) (v : Nat) : (s.setF f v).pair = s.pair := rfl
@[simp] theorem State.setF_cfs (s : State) (f : Field) (v : Nat) : (s.setF f v).cfs = s.cfs := rfl
@[simp] theorem State.setF_staging (s : State) (f : Field) (v : Nat) : (s.setF f v).staging = s.staging := rfl
@[simp] theorem State.setF_liner (s : State) (f : Field) (v : Nat) : (s.setF f v).liner = s.liner := rfl
@[simp] theorem State.setF_mover (s : State) (f : Field) (v : Nat) : (s.setF f v).mover = s.mover := rfl
@[simp] theorem State.setF_moverQ (s : State) (f : Field) (v : Nat) : (s.setF f v).moverQ = s.moverQ := rfl
@[simp] theorem State.setF_census (s : State) (f : Field) (v : Nat) : (s.setF f v).census = s.census := rfl

/-! ## setFlag -/

@[simp] theorem State.setFlag_build (s : State) (f : Field) (b : Bool) : (s.setFlag f b).build = s.build := rfl
@[simp] theorem State.setFlag_right (s : State) (f : Field) (b : Bool) : (s.setFlag f b).right = s.right := rfl
@[simp] theorem State.setFlag_pending (s : State) (f : Field) (b : Bool) : (s.setFlag f b).pending = s.pending := rfl
@[simp] theorem State.setFlag_phase (s : State) (f : Field) (b : Bool) : (s.setFlag f b).phase = s.phase := rfl
@[simp] theorem State.setFlag_windowsOpen (s : State) (f : Field) (b : Bool) : (s.setFlag f b).windowsOpen = s.windowsOpen := rfl
@[simp] theorem State.setFlag_latch (s : State) (f : Field) (b : Bool) : (s.setFlag f b).latch = s.latch := rfl
@[simp] theorem State.setFlag_splits (s : State) (f : Field) (b : Bool) : (s.setFlag f b).splits = s.splits := rfl
@[simp] theorem State.setFlag_readData (s : State) (f : Field) (b : Bool) : (s.setFlag f b).readData = s.readData := rfl
@[simp] theorem State.setFlag_out (s : State) (f : Field) (b : Bool) : (s.setFlag f b).out = s.out := rfl
@[simp] theorem State.setFlag_draws (s : State) (f : Field) (b : Bool) : (s.setFlag f b).draws = s.draws := rfl
@[simp] theorem State.setFlag_subUs (s : State) (f : Field) (b : Bool) : (s.setFlag f b).subUs = s.subUs := rfl
@[simp] theorem State.setFlag_evc (s : State) (f : Field) (b : Bool) : (s.setFlag f b).evc = s.evc := rfl
@[simp] theorem State.setFlag_log (s : State) (f : Field) (b : Bool) : (s.setFlag f b).log = s.log := rfl
@[simp] theorem State.setFlag_fab (s : State) (f : Field) (b : Bool) : (s.setFlag f b).fab = s.fab := rfl
@[simp] theorem State.setFlag_epochs (s : State) (f : Field) (b : Bool) : (s.setFlag f b).epochs = s.epochs := rfl
@[simp] theorem State.setFlag_queues (s : State) (f : Field) (b : Bool) : (s.setFlag f b).queues = s.queues := rfl
@[simp] theorem State.setFlag_ctxs (s : State) (f : Field) (b : Bool) : (s.setFlag f b).ctxs = s.ctxs := rfl
@[simp] theorem State.setFlag_lastU (s : State) (f : Field) (b : Bool) : (s.setFlag f b).lastU = s.lastU := rfl
@[simp] theorem State.setFlag_lastW (s : State) (f : Field) (b : Bool) : (s.setFlag f b).lastW = s.lastW := rfl
@[simp] theorem State.setFlag_fetchSeq (s : State) (f : Field) (b : Bool) : (s.setFlag f b).fetchSeq = s.fetchSeq := rfl
@[simp] theorem State.setFlag_admSeq (s : State) (f : Field) (b : Bool) : (s.setFlag f b).admSeq = s.admSeq := rfl
@[simp] theorem State.setFlag_readySeq (s : State) (f : Field) (b : Bool) : (s.setFlag f b).readySeq = s.readySeq := rfl
@[simp] theorem State.setFlag_sleep (s : State) (f : Field) (b : Bool) : (s.setFlag f b).sleep = s.sleep := rfl
@[simp] theorem State.setFlag_wdog (s : State) (f : Field) (b : Bool) : (s.setFlag f b).wdog = s.wdog := rfl
@[simp] theorem State.setFlag_telem (s : State) (f : Field) (b : Bool) : (s.setFlag f b).telem = s.telem := rfl
@[simp] theorem State.setFlag_host (s : State) (f : Field) (b : Bool) : (s.setFlag f b).host = s.host := rfl
@[simp] theorem State.setFlag_vdies (s : State) (f : Field) (b : Bool) : (s.setFlag f b).vdies = s.vdies := rfl
@[simp] theorem State.setFlag_pdies (s : State) (f : Field) (b : Bool) : (s.setFlag f b).pdies = s.pdies := rfl
@[simp] theorem State.setFlag_sets (s : State) (f : Field) (b : Bool) : (s.setFlag f b).sets = s.sets := rfl
@[simp] theorem State.setFlag_bands (s : State) (f : Field) (b : Bool) : (s.setFlag f b).bands = s.bands := rfl
@[simp] theorem State.setFlag_params (s : State) (f : Field) (b : Bool) : (s.setFlag f b).params = s.params := rfl
@[simp] theorem State.setFlag_dies (s : State) (f : Field) (b : Bool) : (s.setFlag f b).dies = s.dies := rfl
@[simp] theorem State.setFlag_cws (s : State) (f : Field) (b : Bool) : (s.setFlag f b).cws = s.cws := rfl
@[simp] theorem State.setFlag_progs (s : State) (f : Field) (b : Bool) : (s.setFlag f b).progs = s.progs := rfl
@[simp] theorem State.setFlag_erases (s : State) (f : Field) (b : Bool) : (s.setFlag f b).erases = s.erases := rfl
@[simp] theorem State.setFlag_nextJob (s : State) (f : Field) (b : Bool) : (s.setFlag f b).nextJob = s.nextJob := rfl
@[simp] theorem State.setFlag_pln (s : State) (f : Field) (b : Bool) : (s.setFlag f b).pln = s.pln := rfl
@[simp] theorem State.setFlag_chans (s : State) (f : Field) (b : Bool) : (s.setFlag f b).chans = s.chans := rfl
@[simp] theorem State.setFlag_quads (s : State) (f : Field) (b : Bool) : (s.setFlag f b).quads = s.quads := rfl
@[simp] theorem State.setFlag_wbands (s : State) (f : Field) (b : Bool) : (s.setFlag f b).wbands = s.wbands := rfl
@[simp] theorem State.setFlag_journals (s : State) (f : Field) (b : Bool) : (s.setFlag f b).journals = s.journals := rfl
@[simp] theorem State.setFlag_pf (s : State) (f : Field) (b : Bool) : (s.setFlag f b).pf = s.pf := rfl
@[simp] theorem State.setFlag_tasks (s : State) (f : Field) (b : Bool) : (s.setFlag f b).tasks = s.tasks := rfl
@[simp] theorem State.setFlag_requeue (s : State) (f : Field) (b : Bool) : (s.setFlag f b).requeue = s.requeue := rfl
@[simp] theorem State.setFlag_rebuildPend (s : State) (f : Field) (b : Bool) : (s.setFlag f b).rebuildPend = s.rebuildPend := rfl
@[simp] theorem State.setFlag_patrol (s : State) (f : Field) (b : Bool) : (s.setFlag f b).patrol = s.patrol := rfl
@[simp] theorem State.setFlag_patCounts (s : State) (f : Field) (b : Bool) : (s.setFlag f b).patCounts = s.patCounts := rfl
@[simp] theorem State.setFlag_levels (s : State) (f : Field) (b : Bool) : (s.setFlag f b).levels = s.levels := rfl
@[simp] theorem State.setFlag_bursts (s : State) (f : Field) (b : Bool) : (s.setFlag f b).bursts = s.bursts := rfl
@[simp] theorem State.setFlag_llrs (s : State) (f : Field) (b : Bool) : (s.setFlag f b).llrs = s.llrs := rfl
@[simp] theorem State.setFlag_decs (s : State) (f : Field) (b : Bool) : (s.setFlag f b).decs = s.decs := rfl
@[simp] theorem State.setFlag_pair (s : State) (f : Field) (b : Bool) : (s.setFlag f b).pair = s.pair := rfl
@[simp] theorem State.setFlag_cfs (s : State) (f : Field) (b : Bool) : (s.setFlag f b).cfs = s.cfs := rfl
@[simp] theorem State.setFlag_staging (s : State) (f : Field) (b : Bool) : (s.setFlag f b).staging = s.staging := rfl
@[simp] theorem State.setFlag_liner (s : State) (f : Field) (b : Bool) : (s.setFlag f b).liner = s.liner := rfl
@[simp] theorem State.setFlag_mover (s : State) (f : Field) (b : Bool) : (s.setFlag f b).mover = s.mover := rfl
@[simp] theorem State.setFlag_moverQ (s : State) (f : Field) (b : Bool) : (s.setFlag f b).moverQ = s.moverQ := rfl
@[simp] theorem State.setFlag_census (s : State) (f : Field) (b : Bool) : (s.setFlag f b).census = s.census := rfl

/-! ## countWrap -/

@[simp] theorem State.countWrap_build (s : State) (f : Field) (n : Nat) : (s.countWrap f n).build = s.build := rfl
@[simp] theorem State.countWrap_right (s : State) (f : Field) (n : Nat) : (s.countWrap f n).right = s.right := rfl
@[simp] theorem State.countWrap_pending (s : State) (f : Field) (n : Nat) : (s.countWrap f n).pending = s.pending := rfl
@[simp] theorem State.countWrap_phase (s : State) (f : Field) (n : Nat) : (s.countWrap f n).phase = s.phase := rfl
@[simp] theorem State.countWrap_windowsOpen (s : State) (f : Field) (n : Nat) : (s.countWrap f n).windowsOpen = s.windowsOpen := rfl
@[simp] theorem State.countWrap_latch (s : State) (f : Field) (n : Nat) : (s.countWrap f n).latch = s.latch := rfl
@[simp] theorem State.countWrap_splits (s : State) (f : Field) (n : Nat) : (s.countWrap f n).splits = s.splits := rfl
@[simp] theorem State.countWrap_readData (s : State) (f : Field) (n : Nat) : (s.countWrap f n).readData = s.readData := rfl
@[simp] theorem State.countWrap_out (s : State) (f : Field) (n : Nat) : (s.countWrap f n).out = s.out := rfl
@[simp] theorem State.countWrap_draws (s : State) (f : Field) (n : Nat) : (s.countWrap f n).draws = s.draws := rfl
@[simp] theorem State.countWrap_subUs (s : State) (f : Field) (n : Nat) : (s.countWrap f n).subUs = s.subUs := rfl
@[simp] theorem State.countWrap_evc (s : State) (f : Field) (n : Nat) : (s.countWrap f n).evc = s.evc := rfl
@[simp] theorem State.countWrap_log (s : State) (f : Field) (n : Nat) : (s.countWrap f n).log = s.log := rfl
@[simp] theorem State.countWrap_fab (s : State) (f : Field) (n : Nat) : (s.countWrap f n).fab = s.fab := rfl
@[simp] theorem State.countWrap_epochs (s : State) (f : Field) (n : Nat) : (s.countWrap f n).epochs = s.epochs := rfl
@[simp] theorem State.countWrap_queues (s : State) (f : Field) (n : Nat) : (s.countWrap f n).queues = s.queues := rfl
@[simp] theorem State.countWrap_ctxs (s : State) (f : Field) (n : Nat) : (s.countWrap f n).ctxs = s.ctxs := rfl
@[simp] theorem State.countWrap_lastU (s : State) (f : Field) (n : Nat) : (s.countWrap f n).lastU = s.lastU := rfl
@[simp] theorem State.countWrap_lastW (s : State) (f : Field) (n : Nat) : (s.countWrap f n).lastW = s.lastW := rfl
@[simp] theorem State.countWrap_fetchSeq (s : State) (f : Field) (n : Nat) : (s.countWrap f n).fetchSeq = s.fetchSeq := rfl
@[simp] theorem State.countWrap_admSeq (s : State) (f : Field) (n : Nat) : (s.countWrap f n).admSeq = s.admSeq := rfl
@[simp] theorem State.countWrap_readySeq (s : State) (f : Field) (n : Nat) : (s.countWrap f n).readySeq = s.readySeq := rfl
@[simp] theorem State.countWrap_sleep (s : State) (f : Field) (n : Nat) : (s.countWrap f n).sleep = s.sleep := rfl
@[simp] theorem State.countWrap_wdog (s : State) (f : Field) (n : Nat) : (s.countWrap f n).wdog = s.wdog := rfl
@[simp] theorem State.countWrap_telem (s : State) (f : Field) (n : Nat) : (s.countWrap f n).telem = s.telem := rfl
@[simp] theorem State.countWrap_host (s : State) (f : Field) (n : Nat) : (s.countWrap f n).host = s.host := rfl
@[simp] theorem State.countWrap_vdies (s : State) (f : Field) (n : Nat) : (s.countWrap f n).vdies = s.vdies := rfl
@[simp] theorem State.countWrap_pdies (s : State) (f : Field) (n : Nat) : (s.countWrap f n).pdies = s.pdies := rfl
@[simp] theorem State.countWrap_sets (s : State) (f : Field) (n : Nat) : (s.countWrap f n).sets = s.sets := rfl
@[simp] theorem State.countWrap_bands (s : State) (f : Field) (n : Nat) : (s.countWrap f n).bands = s.bands := rfl
@[simp] theorem State.countWrap_params (s : State) (f : Field) (n : Nat) : (s.countWrap f n).params = s.params := rfl
@[simp] theorem State.countWrap_dies (s : State) (f : Field) (n : Nat) : (s.countWrap f n).dies = s.dies := rfl
@[simp] theorem State.countWrap_cws (s : State) (f : Field) (n : Nat) : (s.countWrap f n).cws = s.cws := rfl
@[simp] theorem State.countWrap_progs (s : State) (f : Field) (n : Nat) : (s.countWrap f n).progs = s.progs := rfl
@[simp] theorem State.countWrap_erases (s : State) (f : Field) (n : Nat) : (s.countWrap f n).erases = s.erases := rfl
@[simp] theorem State.countWrap_nextJob (s : State) (f : Field) (n : Nat) : (s.countWrap f n).nextJob = s.nextJob := rfl
@[simp] theorem State.countWrap_pln (s : State) (f : Field) (n : Nat) : (s.countWrap f n).pln = s.pln := rfl
@[simp] theorem State.countWrap_chans (s : State) (f : Field) (n : Nat) : (s.countWrap f n).chans = s.chans := rfl
@[simp] theorem State.countWrap_quads (s : State) (f : Field) (n : Nat) : (s.countWrap f n).quads = s.quads := rfl
@[simp] theorem State.countWrap_wbands (s : State) (f : Field) (n : Nat) : (s.countWrap f n).wbands = s.wbands := rfl
@[simp] theorem State.countWrap_journals (s : State) (f : Field) (n : Nat) : (s.countWrap f n).journals = s.journals := rfl
@[simp] theorem State.countWrap_pf (s : State) (f : Field) (n : Nat) : (s.countWrap f n).pf = s.pf := rfl
@[simp] theorem State.countWrap_tasks (s : State) (f : Field) (n : Nat) : (s.countWrap f n).tasks = s.tasks := rfl
@[simp] theorem State.countWrap_requeue (s : State) (f : Field) (n : Nat) : (s.countWrap f n).requeue = s.requeue := rfl
@[simp] theorem State.countWrap_rebuildPend (s : State) (f : Field) (n : Nat) : (s.countWrap f n).rebuildPend = s.rebuildPend := rfl
@[simp] theorem State.countWrap_patrol (s : State) (f : Field) (n : Nat) : (s.countWrap f n).patrol = s.patrol := rfl
@[simp] theorem State.countWrap_patCounts (s : State) (f : Field) (n : Nat) : (s.countWrap f n).patCounts = s.patCounts := rfl
@[simp] theorem State.countWrap_levels (s : State) (f : Field) (n : Nat) : (s.countWrap f n).levels = s.levels := rfl
@[simp] theorem State.countWrap_bursts (s : State) (f : Field) (n : Nat) : (s.countWrap f n).bursts = s.bursts := rfl
@[simp] theorem State.countWrap_llrs (s : State) (f : Field) (n : Nat) : (s.countWrap f n).llrs = s.llrs := rfl
@[simp] theorem State.countWrap_decs (s : State) (f : Field) (n : Nat) : (s.countWrap f n).decs = s.decs := rfl
@[simp] theorem State.countWrap_pair (s : State) (f : Field) (n : Nat) : (s.countWrap f n).pair = s.pair := rfl
@[simp] theorem State.countWrap_cfs (s : State) (f : Field) (n : Nat) : (s.countWrap f n).cfs = s.cfs := rfl
@[simp] theorem State.countWrap_staging (s : State) (f : Field) (n : Nat) : (s.countWrap f n).staging = s.staging := rfl
@[simp] theorem State.countWrap_liner (s : State) (f : Field) (n : Nat) : (s.countWrap f n).liner = s.liner := rfl
@[simp] theorem State.countWrap_mover (s : State) (f : Field) (n : Nat) : (s.countWrap f n).mover = s.mover := rfl
@[simp] theorem State.countWrap_moverQ (s : State) (f : Field) (n : Nat) : (s.countWrap f n).moverQ = s.moverQ := rfl
@[simp] theorem State.countWrap_census (s : State) (f : Field) (n : Nat) : (s.countWrap f n).census = s.census := rfl

/-! ## emit -/

@[simp] theorem State.emit_build (s : State) (o : Out) : (s.emit o).build = s.build := rfl
@[simp] theorem State.emit_right (s : State) (o : Out) : (s.emit o).right = s.right := rfl
@[simp] theorem State.emit_pending (s : State) (o : Out) : (s.emit o).pending = s.pending := rfl
@[simp] theorem State.emit_phase (s : State) (o : Out) : (s.emit o).phase = s.phase := rfl
@[simp] theorem State.emit_windowsOpen (s : State) (o : Out) : (s.emit o).windowsOpen = s.windowsOpen := rfl
@[simp] theorem State.emit_regs (s : State) (o : Out) : (s.emit o).regs = s.regs := rfl
@[simp] theorem State.emit_latch (s : State) (o : Out) : (s.emit o).latch = s.latch := rfl
@[simp] theorem State.emit_splits (s : State) (o : Out) : (s.emit o).splits = s.splits := rfl
@[simp] theorem State.emit_readData (s : State) (o : Out) : (s.emit o).readData = s.readData := rfl
@[simp] theorem State.emit_draws (s : State) (o : Out) : (s.emit o).draws = s.draws := rfl
@[simp] theorem State.emit_subUs (s : State) (o : Out) : (s.emit o).subUs = s.subUs := rfl
@[simp] theorem State.emit_evc (s : State) (o : Out) : (s.emit o).evc = s.evc := rfl
@[simp] theorem State.emit_log (s : State) (o : Out) : (s.emit o).log = s.log := rfl
@[simp] theorem State.emit_fab (s : State) (o : Out) : (s.emit o).fab = s.fab := rfl
@[simp] theorem State.emit_epochs (s : State) (o : Out) : (s.emit o).epochs = s.epochs := rfl
@[simp] theorem State.emit_queues (s : State) (o : Out) : (s.emit o).queues = s.queues := rfl
@[simp] theorem State.emit_ctxs (s : State) (o : Out) : (s.emit o).ctxs = s.ctxs := rfl
@[simp] theorem State.emit_lastU (s : State) (o : Out) : (s.emit o).lastU = s.lastU := rfl
@[simp] theorem State.emit_lastW (s : State) (o : Out) : (s.emit o).lastW = s.lastW := rfl
@[simp] theorem State.emit_fetchSeq (s : State) (o : Out) : (s.emit o).fetchSeq = s.fetchSeq := rfl
@[simp] theorem State.emit_admSeq (s : State) (o : Out) : (s.emit o).admSeq = s.admSeq := rfl
@[simp] theorem State.emit_readySeq (s : State) (o : Out) : (s.emit o).readySeq = s.readySeq := rfl
@[simp] theorem State.emit_sleep (s : State) (o : Out) : (s.emit o).sleep = s.sleep := rfl
@[simp] theorem State.emit_wdog (s : State) (o : Out) : (s.emit o).wdog = s.wdog := rfl
@[simp] theorem State.emit_telem (s : State) (o : Out) : (s.emit o).telem = s.telem := rfl
@[simp] theorem State.emit_host (s : State) (o : Out) : (s.emit o).host = s.host := rfl
@[simp] theorem State.emit_vdies (s : State) (o : Out) : (s.emit o).vdies = s.vdies := rfl
@[simp] theorem State.emit_pdies (s : State) (o : Out) : (s.emit o).pdies = s.pdies := rfl
@[simp] theorem State.emit_sets (s : State) (o : Out) : (s.emit o).sets = s.sets := rfl
@[simp] theorem State.emit_bands (s : State) (o : Out) : (s.emit o).bands = s.bands := rfl
@[simp] theorem State.emit_params (s : State) (o : Out) : (s.emit o).params = s.params := rfl
@[simp] theorem State.emit_dies (s : State) (o : Out) : (s.emit o).dies = s.dies := rfl
@[simp] theorem State.emit_cws (s : State) (o : Out) : (s.emit o).cws = s.cws := rfl
@[simp] theorem State.emit_progs (s : State) (o : Out) : (s.emit o).progs = s.progs := rfl
@[simp] theorem State.emit_erases (s : State) (o : Out) : (s.emit o).erases = s.erases := rfl
@[simp] theorem State.emit_nextJob (s : State) (o : Out) : (s.emit o).nextJob = s.nextJob := rfl
@[simp] theorem State.emit_pln (s : State) (o : Out) : (s.emit o).pln = s.pln := rfl
@[simp] theorem State.emit_chans (s : State) (o : Out) : (s.emit o).chans = s.chans := rfl
@[simp] theorem State.emit_quads (s : State) (o : Out) : (s.emit o).quads = s.quads := rfl
@[simp] theorem State.emit_wbands (s : State) (o : Out) : (s.emit o).wbands = s.wbands := rfl
@[simp] theorem State.emit_journals (s : State) (o : Out) : (s.emit o).journals = s.journals := rfl
@[simp] theorem State.emit_pf (s : State) (o : Out) : (s.emit o).pf = s.pf := rfl
@[simp] theorem State.emit_tasks (s : State) (o : Out) : (s.emit o).tasks = s.tasks := rfl
@[simp] theorem State.emit_requeue (s : State) (o : Out) : (s.emit o).requeue = s.requeue := rfl
@[simp] theorem State.emit_rebuildPend (s : State) (o : Out) : (s.emit o).rebuildPend = s.rebuildPend := rfl
@[simp] theorem State.emit_patrol (s : State) (o : Out) : (s.emit o).patrol = s.patrol := rfl
@[simp] theorem State.emit_patCounts (s : State) (o : Out) : (s.emit o).patCounts = s.patCounts := rfl
@[simp] theorem State.emit_levels (s : State) (o : Out) : (s.emit o).levels = s.levels := rfl
@[simp] theorem State.emit_bursts (s : State) (o : Out) : (s.emit o).bursts = s.bursts := rfl
@[simp] theorem State.emit_llrs (s : State) (o : Out) : (s.emit o).llrs = s.llrs := rfl
@[simp] theorem State.emit_decs (s : State) (o : Out) : (s.emit o).decs = s.decs := rfl
@[simp] theorem State.emit_pair (s : State) (o : Out) : (s.emit o).pair = s.pair := rfl
@[simp] theorem State.emit_cfs (s : State) (o : Out) : (s.emit o).cfs = s.cfs := rfl
@[simp] theorem State.emit_staging (s : State) (o : Out) : (s.emit o).staging = s.staging := rfl
@[simp] theorem State.emit_liner (s : State) (o : Out) : (s.emit o).liner = s.liner := rfl
@[simp] theorem State.emit_mover (s : State) (o : Out) : (s.emit o).mover = s.mover := rfl
@[simp] theorem State.emit_moverQ (s : State) (o : Out) : (s.emit o).moverQ = s.moverQ := rfl
@[simp] theorem State.emit_census (s : State) (o : Out) : (s.emit o).census = s.census := rfl

/-! ## draw -/

@[simp] theorem State.draw_build (s : State) : (s.draw).build = s.build := rfl
@[simp] theorem State.draw_right (s : State) : (s.draw).right = s.right := rfl
@[simp] theorem State.draw_pending (s : State) : (s.draw).pending = s.pending := rfl
@[simp] theorem State.draw_phase (s : State) : (s.draw).phase = s.phase := rfl
@[simp] theorem State.draw_windowsOpen (s : State) : (s.draw).windowsOpen = s.windowsOpen := rfl
@[simp] theorem State.draw_regs (s : State) : (s.draw).regs = s.regs := rfl
@[simp] theorem State.draw_latch (s : State) : (s.draw).latch = s.latch := rfl
@[simp] theorem State.draw_splits (s : State) : (s.draw).splits = s.splits := rfl
@[simp] theorem State.draw_readData (s : State) : (s.draw).readData = s.readData := rfl
@[simp] theorem State.draw_out (s : State) : (s.draw).out = s.out := rfl
@[simp] theorem State.draw_subUs (s : State) : (s.draw).subUs = s.subUs := rfl
@[simp] theorem State.draw_evc (s : State) : (s.draw).evc = s.evc := rfl
@[simp] theorem State.draw_log (s : State) : (s.draw).log = s.log := rfl
@[simp] theorem State.draw_fab (s : State) : (s.draw).fab = s.fab := rfl
@[simp] theorem State.draw_epochs (s : State) : (s.draw).epochs = s.epochs := rfl
@[simp] theorem State.draw_queues (s : State) : (s.draw).queues = s.queues := rfl
@[simp] theorem State.draw_ctxs (s : State) : (s.draw).ctxs = s.ctxs := rfl
@[simp] theorem State.draw_lastU (s : State) : (s.draw).lastU = s.lastU := rfl
@[simp] theorem State.draw_lastW (s : State) : (s.draw).lastW = s.lastW := rfl
@[simp] theorem State.draw_fetchSeq (s : State) : (s.draw).fetchSeq = s.fetchSeq := rfl
@[simp] theorem State.draw_admSeq (s : State) : (s.draw).admSeq = s.admSeq := rfl
@[simp] theorem State.draw_readySeq (s : State) : (s.draw).readySeq = s.readySeq := rfl
@[simp] theorem State.draw_sleep (s : State) : (s.draw).sleep = s.sleep := rfl
@[simp] theorem State.draw_wdog (s : State) : (s.draw).wdog = s.wdog := rfl
@[simp] theorem State.draw_telem (s : State) : (s.draw).telem = s.telem := rfl
@[simp] theorem State.draw_host (s : State) : (s.draw).host = s.host := rfl
@[simp] theorem State.draw_vdies (s : State) : (s.draw).vdies = s.vdies := rfl
@[simp] theorem State.draw_pdies (s : State) : (s.draw).pdies = s.pdies := rfl
@[simp] theorem State.draw_sets (s : State) : (s.draw).sets = s.sets := rfl
@[simp] theorem State.draw_bands (s : State) : (s.draw).bands = s.bands := rfl
@[simp] theorem State.draw_params (s : State) : (s.draw).params = s.params := rfl
@[simp] theorem State.draw_dies (s : State) : (s.draw).dies = s.dies := rfl
@[simp] theorem State.draw_cws (s : State) : (s.draw).cws = s.cws := rfl
@[simp] theorem State.draw_progs (s : State) : (s.draw).progs = s.progs := rfl
@[simp] theorem State.draw_erases (s : State) : (s.draw).erases = s.erases := rfl
@[simp] theorem State.draw_nextJob (s : State) : (s.draw).nextJob = s.nextJob := rfl
@[simp] theorem State.draw_pln (s : State) : (s.draw).pln = s.pln := rfl
@[simp] theorem State.draw_chans (s : State) : (s.draw).chans = s.chans := rfl
@[simp] theorem State.draw_quads (s : State) : (s.draw).quads = s.quads := rfl
@[simp] theorem State.draw_wbands (s : State) : (s.draw).wbands = s.wbands := rfl
@[simp] theorem State.draw_journals (s : State) : (s.draw).journals = s.journals := rfl
@[simp] theorem State.draw_pf (s : State) : (s.draw).pf = s.pf := rfl
@[simp] theorem State.draw_tasks (s : State) : (s.draw).tasks = s.tasks := rfl
@[simp] theorem State.draw_requeue (s : State) : (s.draw).requeue = s.requeue := rfl
@[simp] theorem State.draw_rebuildPend (s : State) : (s.draw).rebuildPend = s.rebuildPend := rfl
@[simp] theorem State.draw_patrol (s : State) : (s.draw).patrol = s.patrol := rfl
@[simp] theorem State.draw_patCounts (s : State) : (s.draw).patCounts = s.patCounts := rfl
@[simp] theorem State.draw_levels (s : State) : (s.draw).levels = s.levels := rfl
@[simp] theorem State.draw_bursts (s : State) : (s.draw).bursts = s.bursts := rfl
@[simp] theorem State.draw_llrs (s : State) : (s.draw).llrs = s.llrs := rfl
@[simp] theorem State.draw_decs (s : State) : (s.draw).decs = s.decs := rfl
@[simp] theorem State.draw_pair (s : State) : (s.draw).pair = s.pair := rfl
@[simp] theorem State.draw_cfs (s : State) : (s.draw).cfs = s.cfs := rfl
@[simp] theorem State.draw_staging (s : State) : (s.draw).staging = s.staging := rfl
@[simp] theorem State.draw_liner (s : State) : (s.draw).liner = s.liner := rfl
@[simp] theorem State.draw_mover (s : State) : (s.draw).mover = s.mover := rfl
@[simp] theorem State.draw_moverQ (s : State) : (s.draw).moverQ = s.moverQ := rfl
@[simp] theorem State.draw_census (s : State) : (s.draw).census = s.census := rfl

/-! ## setMod -/

@[simp] theorem State.setMod_build (s : State) (k : Nat) (m : Moderation) : (s.setMod k m).build = s.build := rfl
@[simp] theorem State.setMod_right (s : State) (k : Nat) (m : Moderation) : (s.setMod k m).right = s.right := rfl
@[simp] theorem State.setMod_pending (s : State) (k : Nat) (m : Moderation) : (s.setMod k m).pending = s.pending := rfl
@[simp] theorem State.setMod_phase (s : State) (k : Nat) (m : Moderation) : (s.setMod k m).phase = s.phase := rfl
@[simp] theorem State.setMod_windowsOpen (s : State) (k : Nat) (m : Moderation) : (s.setMod k m).windowsOpen = s.windowsOpen := rfl
@[simp] theorem State.setMod_regs (s : State) (k : Nat) (m : Moderation) : (s.setMod k m).regs = s.regs := rfl
@[simp] theorem State.setMod_latch (s : State) (k : Nat) (m : Moderation) : (s.setMod k m).latch = s.latch := rfl
@[simp] theorem State.setMod_splits (s : State) (k : Nat) (m : Moderation) : (s.setMod k m).splits = s.splits := rfl
@[simp] theorem State.setMod_readData (s : State) (k : Nat) (m : Moderation) : (s.setMod k m).readData = s.readData := rfl
@[simp] theorem State.setMod_out (s : State) (k : Nat) (m : Moderation) : (s.setMod k m).out = s.out := rfl
@[simp] theorem State.setMod_draws (s : State) (k : Nat) (m : Moderation) : (s.setMod k m).draws = s.draws := rfl
@[simp] theorem State.setMod_subUs (s : State) (k : Nat) (m : Moderation) : (s.setMod k m).subUs = s.subUs := rfl
@[simp] theorem State.setMod_log (s : State) (k : Nat) (m : Moderation) : (s.setMod k m).log = s.log := rfl
@[simp] theorem State.setMod_fab (s : State) (k : Nat) (m : Moderation) : (s.setMod k m).fab = s.fab := rfl
@[simp] theorem State.setMod_epochs (s : State) (k : Nat) (m : Moderation) : (s.setMod k m).epochs = s.epochs := rfl
@[simp] theorem State.setMod_queues (s : State) (k : Nat) (m : Moderation) : (s.setMod k m).queues = s.queues := rfl
@[simp] theorem State.setMod_ctxs (s : State) (k : Nat) (m : Moderation) : (s.setMod k m).ctxs = s.ctxs := rfl
@[simp] theorem State.setMod_lastU (s : State) (k : Nat) (m : Moderation) : (s.setMod k m).lastU = s.lastU := rfl
@[simp] theorem State.setMod_lastW (s : State) (k : Nat) (m : Moderation) : (s.setMod k m).lastW = s.lastW := rfl
@[simp] theorem State.setMod_fetchSeq (s : State) (k : Nat) (m : Moderation) : (s.setMod k m).fetchSeq = s.fetchSeq := rfl
@[simp] theorem State.setMod_admSeq (s : State) (k : Nat) (m : Moderation) : (s.setMod k m).admSeq = s.admSeq := rfl
@[simp] theorem State.setMod_readySeq (s : State) (k : Nat) (m : Moderation) : (s.setMod k m).readySeq = s.readySeq := rfl
@[simp] theorem State.setMod_sleep (s : State) (k : Nat) (m : Moderation) : (s.setMod k m).sleep = s.sleep := rfl
@[simp] theorem State.setMod_wdog (s : State) (k : Nat) (m : Moderation) : (s.setMod k m).wdog = s.wdog := rfl
@[simp] theorem State.setMod_telem (s : State) (k : Nat) (m : Moderation) : (s.setMod k m).telem = s.telem := rfl
@[simp] theorem State.setMod_host (s : State) (k : Nat) (m : Moderation) : (s.setMod k m).host = s.host := rfl
@[simp] theorem State.setMod_vdies (s : State) (k : Nat) (m : Moderation) : (s.setMod k m).vdies = s.vdies := rfl
@[simp] theorem State.setMod_pdies (s : State) (k : Nat) (m : Moderation) : (s.setMod k m).pdies = s.pdies := rfl
@[simp] theorem State.setMod_sets (s : State) (k : Nat) (m : Moderation) : (s.setMod k m).sets = s.sets := rfl
@[simp] theorem State.setMod_bands (s : State) (k : Nat) (m : Moderation) : (s.setMod k m).bands = s.bands := rfl
@[simp] theorem State.setMod_params (s : State) (k : Nat) (m : Moderation) : (s.setMod k m).params = s.params := rfl
@[simp] theorem State.setMod_dies (s : State) (k : Nat) (m : Moderation) : (s.setMod k m).dies = s.dies := rfl
@[simp] theorem State.setMod_cws (s : State) (k : Nat) (m : Moderation) : (s.setMod k m).cws = s.cws := rfl
@[simp] theorem State.setMod_progs (s : State) (k : Nat) (m : Moderation) : (s.setMod k m).progs = s.progs := rfl
@[simp] theorem State.setMod_erases (s : State) (k : Nat) (m : Moderation) : (s.setMod k m).erases = s.erases := rfl
@[simp] theorem State.setMod_nextJob (s : State) (k : Nat) (m : Moderation) : (s.setMod k m).nextJob = s.nextJob := rfl
@[simp] theorem State.setMod_pln (s : State) (k : Nat) (m : Moderation) : (s.setMod k m).pln = s.pln := rfl
@[simp] theorem State.setMod_chans (s : State) (k : Nat) (m : Moderation) : (s.setMod k m).chans = s.chans := rfl
@[simp] theorem State.setMod_quads (s : State) (k : Nat) (m : Moderation) : (s.setMod k m).quads = s.quads := rfl
@[simp] theorem State.setMod_wbands (s : State) (k : Nat) (m : Moderation) : (s.setMod k m).wbands = s.wbands := rfl
@[simp] theorem State.setMod_journals (s : State) (k : Nat) (m : Moderation) : (s.setMod k m).journals = s.journals := rfl
@[simp] theorem State.setMod_pf (s : State) (k : Nat) (m : Moderation) : (s.setMod k m).pf = s.pf := rfl
@[simp] theorem State.setMod_tasks (s : State) (k : Nat) (m : Moderation) : (s.setMod k m).tasks = s.tasks := rfl
@[simp] theorem State.setMod_requeue (s : State) (k : Nat) (m : Moderation) : (s.setMod k m).requeue = s.requeue := rfl
@[simp] theorem State.setMod_rebuildPend (s : State) (k : Nat) (m : Moderation) : (s.setMod k m).rebuildPend = s.rebuildPend := rfl
@[simp] theorem State.setMod_patrol (s : State) (k : Nat) (m : Moderation) : (s.setMod k m).patrol = s.patrol := rfl
@[simp] theorem State.setMod_patCounts (s : State) (k : Nat) (m : Moderation) : (s.setMod k m).patCounts = s.patCounts := rfl
@[simp] theorem State.setMod_levels (s : State) (k : Nat) (m : Moderation) : (s.setMod k m).levels = s.levels := rfl
@[simp] theorem State.setMod_bursts (s : State) (k : Nat) (m : Moderation) : (s.setMod k m).bursts = s.bursts := rfl
@[simp] theorem State.setMod_llrs (s : State) (k : Nat) (m : Moderation) : (s.setMod k m).llrs = s.llrs := rfl
@[simp] theorem State.setMod_decs (s : State) (k : Nat) (m : Moderation) : (s.setMod k m).decs = s.decs := rfl
@[simp] theorem State.setMod_pair (s : State) (k : Nat) (m : Moderation) : (s.setMod k m).pair = s.pair := rfl
@[simp] theorem State.setMod_cfs (s : State) (k : Nat) (m : Moderation) : (s.setMod k m).cfs = s.cfs := rfl
@[simp] theorem State.setMod_staging (s : State) (k : Nat) (m : Moderation) : (s.setMod k m).staging = s.staging := rfl
@[simp] theorem State.setMod_liner (s : State) (k : Nat) (m : Moderation) : (s.setMod k m).liner = s.liner := rfl
@[simp] theorem State.setMod_mover (s : State) (k : Nat) (m : Moderation) : (s.setMod k m).mover = s.mover := rfl
@[simp] theorem State.setMod_moverQ (s : State) (k : Nat) (m : Moderation) : (s.setMod k m).moverQ = s.moverQ := rfl
@[simp] theorem State.setMod_census (s : State) (k : Nat) (m : Moderation) : (s.setMod k m).census = s.census := rfl

/-! ## setHostMod -/

@[simp] theorem State.setHostMod_build (s : State) (k : Nat) (m : Moderation) : (s.setHostMod k m).build = s.build := rfl
@[simp] theorem State.setHostMod_right (s : State) (k : Nat) (m : Moderation) : (s.setHostMod k m).right = s.right := rfl
@[simp] theorem State.setHostMod_pending (s : State) (k : Nat) (m : Moderation) : (s.setHostMod k m).pending = s.pending := rfl
@[simp] theorem State.setHostMod_phase (s : State) (k : Nat) (m : Moderation) : (s.setHostMod k m).phase = s.phase := rfl
@[simp] theorem State.setHostMod_windowsOpen (s : State) (k : Nat) (m : Moderation) : (s.setHostMod k m).windowsOpen = s.windowsOpen := rfl
@[simp] theorem State.setHostMod_regs (s : State) (k : Nat) (m : Moderation) : (s.setHostMod k m).regs = s.regs := rfl
@[simp] theorem State.setHostMod_latch (s : State) (k : Nat) (m : Moderation) : (s.setHostMod k m).latch = s.latch := rfl
@[simp] theorem State.setHostMod_splits (s : State) (k : Nat) (m : Moderation) : (s.setHostMod k m).splits = s.splits := rfl
@[simp] theorem State.setHostMod_readData (s : State) (k : Nat) (m : Moderation) : (s.setHostMod k m).readData = s.readData := rfl
@[simp] theorem State.setHostMod_out (s : State) (k : Nat) (m : Moderation) : (s.setHostMod k m).out = s.out := rfl
@[simp] theorem State.setHostMod_draws (s : State) (k : Nat) (m : Moderation) : (s.setHostMod k m).draws = s.draws := rfl
@[simp] theorem State.setHostMod_subUs (s : State) (k : Nat) (m : Moderation) : (s.setHostMod k m).subUs = s.subUs := rfl
@[simp] theorem State.setHostMod_log (s : State) (k : Nat) (m : Moderation) : (s.setHostMod k m).log = s.log := rfl
@[simp] theorem State.setHostMod_fab (s : State) (k : Nat) (m : Moderation) : (s.setHostMod k m).fab = s.fab := rfl
@[simp] theorem State.setHostMod_epochs (s : State) (k : Nat) (m : Moderation) : (s.setHostMod k m).epochs = s.epochs := rfl
@[simp] theorem State.setHostMod_queues (s : State) (k : Nat) (m : Moderation) : (s.setHostMod k m).queues = s.queues := rfl
@[simp] theorem State.setHostMod_ctxs (s : State) (k : Nat) (m : Moderation) : (s.setHostMod k m).ctxs = s.ctxs := rfl
@[simp] theorem State.setHostMod_lastU (s : State) (k : Nat) (m : Moderation) : (s.setHostMod k m).lastU = s.lastU := rfl
@[simp] theorem State.setHostMod_lastW (s : State) (k : Nat) (m : Moderation) : (s.setHostMod k m).lastW = s.lastW := rfl
@[simp] theorem State.setHostMod_fetchSeq (s : State) (k : Nat) (m : Moderation) : (s.setHostMod k m).fetchSeq = s.fetchSeq := rfl
@[simp] theorem State.setHostMod_admSeq (s : State) (k : Nat) (m : Moderation) : (s.setHostMod k m).admSeq = s.admSeq := rfl
@[simp] theorem State.setHostMod_readySeq (s : State) (k : Nat) (m : Moderation) : (s.setHostMod k m).readySeq = s.readySeq := rfl
@[simp] theorem State.setHostMod_sleep (s : State) (k : Nat) (m : Moderation) : (s.setHostMod k m).sleep = s.sleep := rfl
@[simp] theorem State.setHostMod_wdog (s : State) (k : Nat) (m : Moderation) : (s.setHostMod k m).wdog = s.wdog := rfl
@[simp] theorem State.setHostMod_telem (s : State) (k : Nat) (m : Moderation) : (s.setHostMod k m).telem = s.telem := rfl
@[simp] theorem State.setHostMod_host (s : State) (k : Nat) (m : Moderation) : (s.setHostMod k m).host = s.host := rfl
@[simp] theorem State.setHostMod_vdies (s : State) (k : Nat) (m : Moderation) : (s.setHostMod k m).vdies = s.vdies := rfl
@[simp] theorem State.setHostMod_pdies (s : State) (k : Nat) (m : Moderation) : (s.setHostMod k m).pdies = s.pdies := rfl
@[simp] theorem State.setHostMod_sets (s : State) (k : Nat) (m : Moderation) : (s.setHostMod k m).sets = s.sets := rfl
@[simp] theorem State.setHostMod_bands (s : State) (k : Nat) (m : Moderation) : (s.setHostMod k m).bands = s.bands := rfl
@[simp] theorem State.setHostMod_params (s : State) (k : Nat) (m : Moderation) : (s.setHostMod k m).params = s.params := rfl
@[simp] theorem State.setHostMod_dies (s : State) (k : Nat) (m : Moderation) : (s.setHostMod k m).dies = s.dies := rfl
@[simp] theorem State.setHostMod_cws (s : State) (k : Nat) (m : Moderation) : (s.setHostMod k m).cws = s.cws := rfl
@[simp] theorem State.setHostMod_progs (s : State) (k : Nat) (m : Moderation) : (s.setHostMod k m).progs = s.progs := rfl
@[simp] theorem State.setHostMod_erases (s : State) (k : Nat) (m : Moderation) : (s.setHostMod k m).erases = s.erases := rfl
@[simp] theorem State.setHostMod_nextJob (s : State) (k : Nat) (m : Moderation) : (s.setHostMod k m).nextJob = s.nextJob := rfl
@[simp] theorem State.setHostMod_pln (s : State) (k : Nat) (m : Moderation) : (s.setHostMod k m).pln = s.pln := rfl
@[simp] theorem State.setHostMod_chans (s : State) (k : Nat) (m : Moderation) : (s.setHostMod k m).chans = s.chans := rfl
@[simp] theorem State.setHostMod_quads (s : State) (k : Nat) (m : Moderation) : (s.setHostMod k m).quads = s.quads := rfl
@[simp] theorem State.setHostMod_wbands (s : State) (k : Nat) (m : Moderation) : (s.setHostMod k m).wbands = s.wbands := rfl
@[simp] theorem State.setHostMod_journals (s : State) (k : Nat) (m : Moderation) : (s.setHostMod k m).journals = s.journals := rfl
@[simp] theorem State.setHostMod_pf (s : State) (k : Nat) (m : Moderation) : (s.setHostMod k m).pf = s.pf := rfl
@[simp] theorem State.setHostMod_tasks (s : State) (k : Nat) (m : Moderation) : (s.setHostMod k m).tasks = s.tasks := rfl
@[simp] theorem State.setHostMod_requeue (s : State) (k : Nat) (m : Moderation) : (s.setHostMod k m).requeue = s.requeue := rfl
@[simp] theorem State.setHostMod_rebuildPend (s : State) (k : Nat) (m : Moderation) : (s.setHostMod k m).rebuildPend = s.rebuildPend := rfl
@[simp] theorem State.setHostMod_patrol (s : State) (k : Nat) (m : Moderation) : (s.setHostMod k m).patrol = s.patrol := rfl
@[simp] theorem State.setHostMod_patCounts (s : State) (k : Nat) (m : Moderation) : (s.setHostMod k m).patCounts = s.patCounts := rfl
@[simp] theorem State.setHostMod_levels (s : State) (k : Nat) (m : Moderation) : (s.setHostMod k m).levels = s.levels := rfl
@[simp] theorem State.setHostMod_bursts (s : State) (k : Nat) (m : Moderation) : (s.setHostMod k m).bursts = s.bursts := rfl
@[simp] theorem State.setHostMod_llrs (s : State) (k : Nat) (m : Moderation) : (s.setHostMod k m).llrs = s.llrs := rfl
@[simp] theorem State.setHostMod_decs (s : State) (k : Nat) (m : Moderation) : (s.setHostMod k m).decs = s.decs := rfl
@[simp] theorem State.setHostMod_pair (s : State) (k : Nat) (m : Moderation) : (s.setHostMod k m).pair = s.pair := rfl
@[simp] theorem State.setHostMod_cfs (s : State) (k : Nat) (m : Moderation) : (s.setHostMod k m).cfs = s.cfs := rfl
@[simp] theorem State.setHostMod_staging (s : State) (k : Nat) (m : Moderation) : (s.setHostMod k m).staging = s.staging := rfl
@[simp] theorem State.setHostMod_liner (s : State) (k : Nat) (m : Moderation) : (s.setHostMod k m).liner = s.liner := rfl
@[simp] theorem State.setHostMod_mover (s : State) (k : Nat) (m : Moderation) : (s.setHostMod k m).mover = s.mover := rfl
@[simp] theorem State.setHostMod_moverQ (s : State) (k : Nat) (m : Moderation) : (s.setHostMod k m).moverQ = s.moverQ := rfl
@[simp] theorem State.setHostMod_census (s : State) (k : Nat) (m : Moderation) : (s.setHostMod k m).census = s.census := rfl

/-! ## peStep -/

@[simp] theorem State.peStep_build (s : State) (a : Nat) : (s.peStep a).build = s.build := rfl
@[simp] theorem State.peStep_right (s : State) (a : Nat) : (s.peStep a).right = s.right := rfl
@[simp] theorem State.peStep_pending (s : State) (a : Nat) : (s.peStep a).pending = s.pending := rfl
@[simp] theorem State.peStep_phase (s : State) (a : Nat) : (s.peStep a).phase = s.phase := rfl
@[simp] theorem State.peStep_windowsOpen (s : State) (a : Nat) : (s.peStep a).windowsOpen = s.windowsOpen := rfl
@[simp] theorem State.peStep_regs (s : State) (a : Nat) : (s.peStep a).regs = s.regs := rfl
@[simp] theorem State.peStep_latch (s : State) (a : Nat) : (s.peStep a).latch = s.latch := rfl
@[simp] theorem State.peStep_splits (s : State) (a : Nat) : (s.peStep a).splits = s.splits := rfl
@[simp] theorem State.peStep_readData (s : State) (a : Nat) : (s.peStep a).readData = s.readData := rfl
@[simp] theorem State.peStep_out (s : State) (a : Nat) : (s.peStep a).out = s.out := rfl
@[simp] theorem State.peStep_draws (s : State) (a : Nat) : (s.peStep a).draws = s.draws := rfl
@[simp] theorem State.peStep_subUs (s : State) (a : Nat) : (s.peStep a).subUs = s.subUs := rfl
@[simp] theorem State.peStep_evc (s : State) (a : Nat) : (s.peStep a).evc = s.evc := rfl
@[simp] theorem State.peStep_log (s : State) (a : Nat) : (s.peStep a).log = s.log := rfl
@[simp] theorem State.peStep_fab (s : State) (a : Nat) : (s.peStep a).fab = s.fab := rfl
@[simp] theorem State.peStep_epochs (s : State) (a : Nat) : (s.peStep a).epochs = s.epochs := rfl
@[simp] theorem State.peStep_queues (s : State) (a : Nat) : (s.peStep a).queues = s.queues := rfl
@[simp] theorem State.peStep_ctxs (s : State) (a : Nat) : (s.peStep a).ctxs = s.ctxs := rfl
@[simp] theorem State.peStep_lastU (s : State) (a : Nat) : (s.peStep a).lastU = s.lastU := rfl
@[simp] theorem State.peStep_lastW (s : State) (a : Nat) : (s.peStep a).lastW = s.lastW := rfl
@[simp] theorem State.peStep_fetchSeq (s : State) (a : Nat) : (s.peStep a).fetchSeq = s.fetchSeq := rfl
@[simp] theorem State.peStep_admSeq (s : State) (a : Nat) : (s.peStep a).admSeq = s.admSeq := rfl
@[simp] theorem State.peStep_readySeq (s : State) (a : Nat) : (s.peStep a).readySeq = s.readySeq := rfl
@[simp] theorem State.peStep_sleep (s : State) (a : Nat) : (s.peStep a).sleep = s.sleep := rfl
@[simp] theorem State.peStep_telem (s : State) (a : Nat) : (s.peStep a).telem = s.telem := rfl
@[simp] theorem State.peStep_host (s : State) (a : Nat) : (s.peStep a).host = s.host := rfl
@[simp] theorem State.peStep_vdies (s : State) (a : Nat) : (s.peStep a).vdies = s.vdies := rfl
@[simp] theorem State.peStep_pdies (s : State) (a : Nat) : (s.peStep a).pdies = s.pdies := rfl
@[simp] theorem State.peStep_sets (s : State) (a : Nat) : (s.peStep a).sets = s.sets := rfl
@[simp] theorem State.peStep_bands (s : State) (a : Nat) : (s.peStep a).bands = s.bands := rfl
@[simp] theorem State.peStep_params (s : State) (a : Nat) : (s.peStep a).params = s.params := rfl
@[simp] theorem State.peStep_dies (s : State) (a : Nat) : (s.peStep a).dies = s.dies := rfl
@[simp] theorem State.peStep_cws (s : State) (a : Nat) : (s.peStep a).cws = s.cws := rfl
@[simp] theorem State.peStep_progs (s : State) (a : Nat) : (s.peStep a).progs = s.progs := rfl
@[simp] theorem State.peStep_erases (s : State) (a : Nat) : (s.peStep a).erases = s.erases := rfl
@[simp] theorem State.peStep_nextJob (s : State) (a : Nat) : (s.peStep a).nextJob = s.nextJob := rfl
@[simp] theorem State.peStep_pln (s : State) (a : Nat) : (s.peStep a).pln = s.pln := rfl
@[simp] theorem State.peStep_chans (s : State) (a : Nat) : (s.peStep a).chans = s.chans := rfl
@[simp] theorem State.peStep_quads (s : State) (a : Nat) : (s.peStep a).quads = s.quads := rfl
@[simp] theorem State.peStep_wbands (s : State) (a : Nat) : (s.peStep a).wbands = s.wbands := rfl
@[simp] theorem State.peStep_journals (s : State) (a : Nat) : (s.peStep a).journals = s.journals := rfl
@[simp] theorem State.peStep_pf (s : State) (a : Nat) : (s.peStep a).pf = s.pf := rfl
@[simp] theorem State.peStep_tasks (s : State) (a : Nat) : (s.peStep a).tasks = s.tasks := rfl
@[simp] theorem State.peStep_requeue (s : State) (a : Nat) : (s.peStep a).requeue = s.requeue := rfl
@[simp] theorem State.peStep_rebuildPend (s : State) (a : Nat) : (s.peStep a).rebuildPend = s.rebuildPend := rfl
@[simp] theorem State.peStep_patrol (s : State) (a : Nat) : (s.peStep a).patrol = s.patrol := rfl
@[simp] theorem State.peStep_patCounts (s : State) (a : Nat) : (s.peStep a).patCounts = s.patCounts := rfl
@[simp] theorem State.peStep_levels (s : State) (a : Nat) : (s.peStep a).levels = s.levels := rfl
@[simp] theorem State.peStep_bursts (s : State) (a : Nat) : (s.peStep a).bursts = s.bursts := rfl
@[simp] theorem State.peStep_llrs (s : State) (a : Nat) : (s.peStep a).llrs = s.llrs := rfl
@[simp] theorem State.peStep_decs (s : State) (a : Nat) : (s.peStep a).decs = s.decs := rfl
@[simp] theorem State.peStep_pair (s : State) (a : Nat) : (s.peStep a).pair = s.pair := rfl
@[simp] theorem State.peStep_cfs (s : State) (a : Nat) : (s.peStep a).cfs = s.cfs := rfl
@[simp] theorem State.peStep_staging (s : State) (a : Nat) : (s.peStep a).staging = s.staging := rfl
@[simp] theorem State.peStep_liner (s : State) (a : Nat) : (s.peStep a).liner = s.liner := rfl
@[simp] theorem State.peStep_mover (s : State) (a : Nat) : (s.peStep a).mover = s.mover := rfl
@[simp] theorem State.peStep_moverQ (s : State) (a : Nat) : (s.peStep a).moverQ = s.moverQ := rfl
@[simp] theorem State.peStep_census (s : State) (a : Nat) : (s.peStep a).census = s.census := rfl

/-! ## setCtx -/

@[simp] theorem State.setCtx_build (s : State) (k : Nat) (x : Ctx) : (s.setCtx k x).build = s.build := rfl
@[simp] theorem State.setCtx_right (s : State) (k : Nat) (x : Ctx) : (s.setCtx k x).right = s.right := rfl
@[simp] theorem State.setCtx_pending (s : State) (k : Nat) (x : Ctx) : (s.setCtx k x).pending = s.pending := rfl
@[simp] theorem State.setCtx_phase (s : State) (k : Nat) (x : Ctx) : (s.setCtx k x).phase = s.phase := rfl
@[simp] theorem State.setCtx_windowsOpen (s : State) (k : Nat) (x : Ctx) : (s.setCtx k x).windowsOpen = s.windowsOpen := rfl
@[simp] theorem State.setCtx_regs (s : State) (k : Nat) (x : Ctx) : (s.setCtx k x).regs = s.regs := rfl
@[simp] theorem State.setCtx_latch (s : State) (k : Nat) (x : Ctx) : (s.setCtx k x).latch = s.latch := rfl
@[simp] theorem State.setCtx_splits (s : State) (k : Nat) (x : Ctx) : (s.setCtx k x).splits = s.splits := rfl
@[simp] theorem State.setCtx_readData (s : State) (k : Nat) (x : Ctx) : (s.setCtx k x).readData = s.readData := rfl
@[simp] theorem State.setCtx_out (s : State) (k : Nat) (x : Ctx) : (s.setCtx k x).out = s.out := rfl
@[simp] theorem State.setCtx_draws (s : State) (k : Nat) (x : Ctx) : (s.setCtx k x).draws = s.draws := rfl
@[simp] theorem State.setCtx_subUs (s : State) (k : Nat) (x : Ctx) : (s.setCtx k x).subUs = s.subUs := rfl
@[simp] theorem State.setCtx_evc (s : State) (k : Nat) (x : Ctx) : (s.setCtx k x).evc = s.evc := rfl
@[simp] theorem State.setCtx_log (s : State) (k : Nat) (x : Ctx) : (s.setCtx k x).log = s.log := rfl
@[simp] theorem State.setCtx_fab (s : State) (k : Nat) (x : Ctx) : (s.setCtx k x).fab = s.fab := rfl
@[simp] theorem State.setCtx_epochs (s : State) (k : Nat) (x : Ctx) : (s.setCtx k x).epochs = s.epochs := rfl
@[simp] theorem State.setCtx_queues (s : State) (k : Nat) (x : Ctx) : (s.setCtx k x).queues = s.queues := rfl
@[simp] theorem State.setCtx_lastU (s : State) (k : Nat) (x : Ctx) : (s.setCtx k x).lastU = s.lastU := rfl
@[simp] theorem State.setCtx_lastW (s : State) (k : Nat) (x : Ctx) : (s.setCtx k x).lastW = s.lastW := rfl
@[simp] theorem State.setCtx_fetchSeq (s : State) (k : Nat) (x : Ctx) : (s.setCtx k x).fetchSeq = s.fetchSeq := rfl
@[simp] theorem State.setCtx_admSeq (s : State) (k : Nat) (x : Ctx) : (s.setCtx k x).admSeq = s.admSeq := rfl
@[simp] theorem State.setCtx_readySeq (s : State) (k : Nat) (x : Ctx) : (s.setCtx k x).readySeq = s.readySeq := rfl
@[simp] theorem State.setCtx_sleep (s : State) (k : Nat) (x : Ctx) : (s.setCtx k x).sleep = s.sleep := rfl
@[simp] theorem State.setCtx_wdog (s : State) (k : Nat) (x : Ctx) : (s.setCtx k x).wdog = s.wdog := rfl
@[simp] theorem State.setCtx_telem (s : State) (k : Nat) (x : Ctx) : (s.setCtx k x).telem = s.telem := rfl
@[simp] theorem State.setCtx_host (s : State) (k : Nat) (x : Ctx) : (s.setCtx k x).host = s.host := rfl
@[simp] theorem State.setCtx_vdies (s : State) (k : Nat) (x : Ctx) : (s.setCtx k x).vdies = s.vdies := rfl
@[simp] theorem State.setCtx_pdies (s : State) (k : Nat) (x : Ctx) : (s.setCtx k x).pdies = s.pdies := rfl
@[simp] theorem State.setCtx_sets (s : State) (k : Nat) (x : Ctx) : (s.setCtx k x).sets = s.sets := rfl
@[simp] theorem State.setCtx_bands (s : State) (k : Nat) (x : Ctx) : (s.setCtx k x).bands = s.bands := rfl
@[simp] theorem State.setCtx_params (s : State) (k : Nat) (x : Ctx) : (s.setCtx k x).params = s.params := rfl
@[simp] theorem State.setCtx_dies (s : State) (k : Nat) (x : Ctx) : (s.setCtx k x).dies = s.dies := rfl
@[simp] theorem State.setCtx_cws (s : State) (k : Nat) (x : Ctx) : (s.setCtx k x).cws = s.cws := rfl
@[simp] theorem State.setCtx_progs (s : State) (k : Nat) (x : Ctx) : (s.setCtx k x).progs = s.progs := rfl
@[simp] theorem State.setCtx_erases (s : State) (k : Nat) (x : Ctx) : (s.setCtx k x).erases = s.erases := rfl
@[simp] theorem State.setCtx_nextJob (s : State) (k : Nat) (x : Ctx) : (s.setCtx k x).nextJob = s.nextJob := rfl
@[simp] theorem State.setCtx_pln (s : State) (k : Nat) (x : Ctx) : (s.setCtx k x).pln = s.pln := rfl
@[simp] theorem State.setCtx_chans (s : State) (k : Nat) (x : Ctx) : (s.setCtx k x).chans = s.chans := rfl
@[simp] theorem State.setCtx_quads (s : State) (k : Nat) (x : Ctx) : (s.setCtx k x).quads = s.quads := rfl
@[simp] theorem State.setCtx_wbands (s : State) (k : Nat) (x : Ctx) : (s.setCtx k x).wbands = s.wbands := rfl
@[simp] theorem State.setCtx_journals (s : State) (k : Nat) (x : Ctx) : (s.setCtx k x).journals = s.journals := rfl
@[simp] theorem State.setCtx_pf (s : State) (k : Nat) (x : Ctx) : (s.setCtx k x).pf = s.pf := rfl
@[simp] theorem State.setCtx_tasks (s : State) (k : Nat) (x : Ctx) : (s.setCtx k x).tasks = s.tasks := rfl
@[simp] theorem State.setCtx_requeue (s : State) (k : Nat) (x : Ctx) : (s.setCtx k x).requeue = s.requeue := rfl
@[simp] theorem State.setCtx_rebuildPend (s : State) (k : Nat) (x : Ctx) : (s.setCtx k x).rebuildPend = s.rebuildPend := rfl
@[simp] theorem State.setCtx_patrol (s : State) (k : Nat) (x : Ctx) : (s.setCtx k x).patrol = s.patrol := rfl
@[simp] theorem State.setCtx_patCounts (s : State) (k : Nat) (x : Ctx) : (s.setCtx k x).patCounts = s.patCounts := rfl
@[simp] theorem State.setCtx_levels (s : State) (k : Nat) (x : Ctx) : (s.setCtx k x).levels = s.levels := rfl
@[simp] theorem State.setCtx_bursts (s : State) (k : Nat) (x : Ctx) : (s.setCtx k x).bursts = s.bursts := rfl
@[simp] theorem State.setCtx_llrs (s : State) (k : Nat) (x : Ctx) : (s.setCtx k x).llrs = s.llrs := rfl
@[simp] theorem State.setCtx_decs (s : State) (k : Nat) (x : Ctx) : (s.setCtx k x).decs = s.decs := rfl
@[simp] theorem State.setCtx_pair (s : State) (k : Nat) (x : Ctx) : (s.setCtx k x).pair = s.pair := rfl
@[simp] theorem State.setCtx_cfs (s : State) (k : Nat) (x : Ctx) : (s.setCtx k x).cfs = s.cfs := rfl
@[simp] theorem State.setCtx_staging (s : State) (k : Nat) (x : Ctx) : (s.setCtx k x).staging = s.staging := rfl
@[simp] theorem State.setCtx_liner (s : State) (k : Nat) (x : Ctx) : (s.setCtx k x).liner = s.liner := rfl
@[simp] theorem State.setCtx_mover (s : State) (k : Nat) (x : Ctx) : (s.setCtx k x).mover = s.mover := rfl
@[simp] theorem State.setCtx_moverQ (s : State) (k : Nat) (x : Ctx) : (s.setCtx k x).moverQ = s.moverQ := rfl
@[simp] theorem State.setCtx_census (s : State) (k : Nat) (x : Ctx) : (s.setCtx k x).census = s.census := rfl

/-! ## setQueue -/

@[simp] theorem State.setQueue_build (s : State) (k : Nat) (x : Queue) : (s.setQueue k x).build = s.build := rfl
@[simp] theorem State.setQueue_right (s : State) (k : Nat) (x : Queue) : (s.setQueue k x).right = s.right := rfl
@[simp] theorem State.setQueue_pending (s : State) (k : Nat) (x : Queue) : (s.setQueue k x).pending = s.pending := rfl
@[simp] theorem State.setQueue_phase (s : State) (k : Nat) (x : Queue) : (s.setQueue k x).phase = s.phase := rfl
@[simp] theorem State.setQueue_windowsOpen (s : State) (k : Nat) (x : Queue) : (s.setQueue k x).windowsOpen = s.windowsOpen := rfl
@[simp] theorem State.setQueue_regs (s : State) (k : Nat) (x : Queue) : (s.setQueue k x).regs = s.regs := rfl
@[simp] theorem State.setQueue_latch (s : State) (k : Nat) (x : Queue) : (s.setQueue k x).latch = s.latch := rfl
@[simp] theorem State.setQueue_splits (s : State) (k : Nat) (x : Queue) : (s.setQueue k x).splits = s.splits := rfl
@[simp] theorem State.setQueue_readData (s : State) (k : Nat) (x : Queue) : (s.setQueue k x).readData = s.readData := rfl
@[simp] theorem State.setQueue_out (s : State) (k : Nat) (x : Queue) : (s.setQueue k x).out = s.out := rfl
@[simp] theorem State.setQueue_draws (s : State) (k : Nat) (x : Queue) : (s.setQueue k x).draws = s.draws := rfl
@[simp] theorem State.setQueue_subUs (s : State) (k : Nat) (x : Queue) : (s.setQueue k x).subUs = s.subUs := rfl
@[simp] theorem State.setQueue_evc (s : State) (k : Nat) (x : Queue) : (s.setQueue k x).evc = s.evc := rfl
@[simp] theorem State.setQueue_log (s : State) (k : Nat) (x : Queue) : (s.setQueue k x).log = s.log := rfl
@[simp] theorem State.setQueue_fab (s : State) (k : Nat) (x : Queue) : (s.setQueue k x).fab = s.fab := rfl
@[simp] theorem State.setQueue_epochs (s : State) (k : Nat) (x : Queue) : (s.setQueue k x).epochs = s.epochs := rfl
@[simp] theorem State.setQueue_ctxs (s : State) (k : Nat) (x : Queue) : (s.setQueue k x).ctxs = s.ctxs := rfl
@[simp] theorem State.setQueue_lastU (s : State) (k : Nat) (x : Queue) : (s.setQueue k x).lastU = s.lastU := rfl
@[simp] theorem State.setQueue_lastW (s : State) (k : Nat) (x : Queue) : (s.setQueue k x).lastW = s.lastW := rfl
@[simp] theorem State.setQueue_fetchSeq (s : State) (k : Nat) (x : Queue) : (s.setQueue k x).fetchSeq = s.fetchSeq := rfl
@[simp] theorem State.setQueue_admSeq (s : State) (k : Nat) (x : Queue) : (s.setQueue k x).admSeq = s.admSeq := rfl
@[simp] theorem State.setQueue_readySeq (s : State) (k : Nat) (x : Queue) : (s.setQueue k x).readySeq = s.readySeq := rfl
@[simp] theorem State.setQueue_sleep (s : State) (k : Nat) (x : Queue) : (s.setQueue k x).sleep = s.sleep := rfl
@[simp] theorem State.setQueue_wdog (s : State) (k : Nat) (x : Queue) : (s.setQueue k x).wdog = s.wdog := rfl
@[simp] theorem State.setQueue_telem (s : State) (k : Nat) (x : Queue) : (s.setQueue k x).telem = s.telem := rfl
@[simp] theorem State.setQueue_host (s : State) (k : Nat) (x : Queue) : (s.setQueue k x).host = s.host := rfl
@[simp] theorem State.setQueue_vdies (s : State) (k : Nat) (x : Queue) : (s.setQueue k x).vdies = s.vdies := rfl
@[simp] theorem State.setQueue_pdies (s : State) (k : Nat) (x : Queue) : (s.setQueue k x).pdies = s.pdies := rfl
@[simp] theorem State.setQueue_sets (s : State) (k : Nat) (x : Queue) : (s.setQueue k x).sets = s.sets := rfl
@[simp] theorem State.setQueue_bands (s : State) (k : Nat) (x : Queue) : (s.setQueue k x).bands = s.bands := rfl
@[simp] theorem State.setQueue_params (s : State) (k : Nat) (x : Queue) : (s.setQueue k x).params = s.params := rfl
@[simp] theorem State.setQueue_dies (s : State) (k : Nat) (x : Queue) : (s.setQueue k x).dies = s.dies := rfl
@[simp] theorem State.setQueue_cws (s : State) (k : Nat) (x : Queue) : (s.setQueue k x).cws = s.cws := rfl
@[simp] theorem State.setQueue_progs (s : State) (k : Nat) (x : Queue) : (s.setQueue k x).progs = s.progs := rfl
@[simp] theorem State.setQueue_erases (s : State) (k : Nat) (x : Queue) : (s.setQueue k x).erases = s.erases := rfl
@[simp] theorem State.setQueue_nextJob (s : State) (k : Nat) (x : Queue) : (s.setQueue k x).nextJob = s.nextJob := rfl
@[simp] theorem State.setQueue_pln (s : State) (k : Nat) (x : Queue) : (s.setQueue k x).pln = s.pln := rfl
@[simp] theorem State.setQueue_chans (s : State) (k : Nat) (x : Queue) : (s.setQueue k x).chans = s.chans := rfl
@[simp] theorem State.setQueue_quads (s : State) (k : Nat) (x : Queue) : (s.setQueue k x).quads = s.quads := rfl
@[simp] theorem State.setQueue_wbands (s : State) (k : Nat) (x : Queue) : (s.setQueue k x).wbands = s.wbands := rfl
@[simp] theorem State.setQueue_journals (s : State) (k : Nat) (x : Queue) : (s.setQueue k x).journals = s.journals := rfl
@[simp] theorem State.setQueue_pf (s : State) (k : Nat) (x : Queue) : (s.setQueue k x).pf = s.pf := rfl
@[simp] theorem State.setQueue_tasks (s : State) (k : Nat) (x : Queue) : (s.setQueue k x).tasks = s.tasks := rfl
@[simp] theorem State.setQueue_requeue (s : State) (k : Nat) (x : Queue) : (s.setQueue k x).requeue = s.requeue := rfl
@[simp] theorem State.setQueue_rebuildPend (s : State) (k : Nat) (x : Queue) : (s.setQueue k x).rebuildPend = s.rebuildPend := rfl
@[simp] theorem State.setQueue_patrol (s : State) (k : Nat) (x : Queue) : (s.setQueue k x).patrol = s.patrol := rfl
@[simp] theorem State.setQueue_patCounts (s : State) (k : Nat) (x : Queue) : (s.setQueue k x).patCounts = s.patCounts := rfl
@[simp] theorem State.setQueue_levels (s : State) (k : Nat) (x : Queue) : (s.setQueue k x).levels = s.levels := rfl
@[simp] theorem State.setQueue_bursts (s : State) (k : Nat) (x : Queue) : (s.setQueue k x).bursts = s.bursts := rfl
@[simp] theorem State.setQueue_llrs (s : State) (k : Nat) (x : Queue) : (s.setQueue k x).llrs = s.llrs := rfl
@[simp] theorem State.setQueue_decs (s : State) (k : Nat) (x : Queue) : (s.setQueue k x).decs = s.decs := rfl
@[simp] theorem State.setQueue_pair (s : State) (k : Nat) (x : Queue) : (s.setQueue k x).pair = s.pair := rfl
@[simp] theorem State.setQueue_cfs (s : State) (k : Nat) (x : Queue) : (s.setQueue k x).cfs = s.cfs := rfl
@[simp] theorem State.setQueue_staging (s : State) (k : Nat) (x : Queue) : (s.setQueue k x).staging = s.staging := rfl
@[simp] theorem State.setQueue_liner (s : State) (k : Nat) (x : Queue) : (s.setQueue k x).liner = s.liner := rfl
@[simp] theorem State.setQueue_mover (s : State) (k : Nat) (x : Queue) : (s.setQueue k x).mover = s.mover := rfl
@[simp] theorem State.setQueue_moverQ (s : State) (k : Nat) (x : Queue) : (s.setQueue k x).moverQ = s.moverQ := rfl
@[simp] theorem State.setQueue_census (s : State) (k : Nat) (x : Queue) : (s.setQueue k x).census = s.census := rfl

/-! ## raise -/

@[simp] theorem State.raise_build (s : State) (src : Nat) : (s.raise src).build = s.build := by unfold State.raise; repeat (first | rfl | split)
@[simp] theorem State.raise_right (s : State) (src : Nat) : (s.raise src).right = s.right := by unfold State.raise; repeat (first | rfl | split)
@[simp] theorem State.raise_pending (s : State) (src : Nat) : (s.raise src).pending = s.pending := by unfold State.raise; repeat (first | rfl | split)
@[simp] theorem State.raise_phase (s : State) (src : Nat) : (s.raise src).phase = s.phase := by unfold State.raise; repeat (first | rfl | split)
@[simp] theorem State.raise_windowsOpen (s : State) (src : Nat) : (s.raise src).windowsOpen = s.windowsOpen := by unfold State.raise; repeat (first | rfl | split)
@[simp] theorem State.raise_latch (s : State) (src : Nat) : (s.raise src).latch = s.latch := by unfold State.raise; repeat (first | rfl | split)
@[simp] theorem State.raise_splits (s : State) (src : Nat) : (s.raise src).splits = s.splits := by unfold State.raise; repeat (first | rfl | split)
@[simp] theorem State.raise_readData (s : State) (src : Nat) : (s.raise src).readData = s.readData := by unfold State.raise; repeat (first | rfl | split)
@[simp] theorem State.raise_out (s : State) (src : Nat) : (s.raise src).out = s.out := by unfold State.raise; repeat (first | rfl | split)
@[simp] theorem State.raise_draws (s : State) (src : Nat) : (s.raise src).draws = s.draws := by unfold State.raise; repeat (first | rfl | split)
@[simp] theorem State.raise_subUs (s : State) (src : Nat) : (s.raise src).subUs = s.subUs := by unfold State.raise; repeat (first | rfl | split)
@[simp] theorem State.raise_log (s : State) (src : Nat) : (s.raise src).log = s.log := by unfold State.raise; repeat (first | rfl | split)
@[simp] theorem State.raise_fab (s : State) (src : Nat) : (s.raise src).fab = s.fab := by unfold State.raise; repeat (first | rfl | split)
@[simp] theorem State.raise_epochs (s : State) (src : Nat) : (s.raise src).epochs = s.epochs := by unfold State.raise; repeat (first | rfl | split)
@[simp] theorem State.raise_queues (s : State) (src : Nat) : (s.raise src).queues = s.queues := by unfold State.raise; repeat (first | rfl | split)
@[simp] theorem State.raise_ctxs (s : State) (src : Nat) : (s.raise src).ctxs = s.ctxs := by unfold State.raise; repeat (first | rfl | split)
@[simp] theorem State.raise_lastU (s : State) (src : Nat) : (s.raise src).lastU = s.lastU := by unfold State.raise; repeat (first | rfl | split)
@[simp] theorem State.raise_lastW (s : State) (src : Nat) : (s.raise src).lastW = s.lastW := by unfold State.raise; repeat (first | rfl | split)
@[simp] theorem State.raise_fetchSeq (s : State) (src : Nat) : (s.raise src).fetchSeq = s.fetchSeq := by unfold State.raise; repeat (first | rfl | split)
@[simp] theorem State.raise_admSeq (s : State) (src : Nat) : (s.raise src).admSeq = s.admSeq := by unfold State.raise; repeat (first | rfl | split)
@[simp] theorem State.raise_readySeq (s : State) (src : Nat) : (s.raise src).readySeq = s.readySeq := by unfold State.raise; repeat (first | rfl | split)
@[simp] theorem State.raise_sleep (s : State) (src : Nat) : (s.raise src).sleep = s.sleep := by unfold State.raise; repeat (first | rfl | split)
@[simp] theorem State.raise_wdog (s : State) (src : Nat) : (s.raise src).wdog = s.wdog := by unfold State.raise; repeat (first | rfl | split)
@[simp] theorem State.raise_telem (s : State) (src : Nat) : (s.raise src).telem = s.telem := by unfold State.raise; repeat (first | rfl | split)
@[simp] theorem State.raise_host (s : State) (src : Nat) : (s.raise src).host = s.host := by unfold State.raise; repeat (first | rfl | split)
@[simp] theorem State.raise_vdies (s : State) (src : Nat) : (s.raise src).vdies = s.vdies := by unfold State.raise; repeat (first | rfl | split)
@[simp] theorem State.raise_pdies (s : State) (src : Nat) : (s.raise src).pdies = s.pdies := by unfold State.raise; repeat (first | rfl | split)
@[simp] theorem State.raise_sets (s : State) (src : Nat) : (s.raise src).sets = s.sets := by unfold State.raise; repeat (first | rfl | split)
@[simp] theorem State.raise_bands (s : State) (src : Nat) : (s.raise src).bands = s.bands := by unfold State.raise; repeat (first | rfl | split)
@[simp] theorem State.raise_params (s : State) (src : Nat) : (s.raise src).params = s.params := by unfold State.raise; repeat (first | rfl | split)
@[simp] theorem State.raise_dies (s : State) (src : Nat) : (s.raise src).dies = s.dies := by unfold State.raise; repeat (first | rfl | split)
@[simp] theorem State.raise_cws (s : State) (src : Nat) : (s.raise src).cws = s.cws := by unfold State.raise; repeat (first | rfl | split)
@[simp] theorem State.raise_progs (s : State) (src : Nat) : (s.raise src).progs = s.progs := by unfold State.raise; repeat (first | rfl | split)
@[simp] theorem State.raise_erases (s : State) (src : Nat) : (s.raise src).erases = s.erases := by unfold State.raise; repeat (first | rfl | split)
@[simp] theorem State.raise_nextJob (s : State) (src : Nat) : (s.raise src).nextJob = s.nextJob := by unfold State.raise; repeat (first | rfl | split)
@[simp] theorem State.raise_pln (s : State) (src : Nat) : (s.raise src).pln = s.pln := by unfold State.raise; repeat (first | rfl | split)
@[simp] theorem State.raise_chans (s : State) (src : Nat) : (s.raise src).chans = s.chans := by unfold State.raise; repeat (first | rfl | split)
@[simp] theorem State.raise_quads (s : State) (src : Nat) : (s.raise src).quads = s.quads := by unfold State.raise; repeat (first | rfl | split)
@[simp] theorem State.raise_wbands (s : State) (src : Nat) : (s.raise src).wbands = s.wbands := by unfold State.raise; repeat (first | rfl | split)
@[simp] theorem State.raise_journals (s : State) (src : Nat) : (s.raise src).journals = s.journals := by unfold State.raise; repeat (first | rfl | split)
@[simp] theorem State.raise_pf (s : State) (src : Nat) : (s.raise src).pf = s.pf := by unfold State.raise; repeat (first | rfl | split)
@[simp] theorem State.raise_tasks (s : State) (src : Nat) : (s.raise src).tasks = s.tasks := by unfold State.raise; repeat (first | rfl | split)
@[simp] theorem State.raise_requeue (s : State) (src : Nat) : (s.raise src).requeue = s.requeue := by unfold State.raise; repeat (first | rfl | split)
@[simp] theorem State.raise_rebuildPend (s : State) (src : Nat) : (s.raise src).rebuildPend = s.rebuildPend := by unfold State.raise; repeat (first | rfl | split)
@[simp] theorem State.raise_patrol (s : State) (src : Nat) : (s.raise src).patrol = s.patrol := by unfold State.raise; repeat (first | rfl | split)
@[simp] theorem State.raise_patCounts (s : State) (src : Nat) : (s.raise src).patCounts = s.patCounts := by unfold State.raise; repeat (first | rfl | split)
@[simp] theorem State.raise_levels (s : State) (src : Nat) : (s.raise src).levels = s.levels := by unfold State.raise; repeat (first | rfl | split)
@[simp] theorem State.raise_bursts (s : State) (src : Nat) : (s.raise src).bursts = s.bursts := by unfold State.raise; repeat (first | rfl | split)
@[simp] theorem State.raise_llrs (s : State) (src : Nat) : (s.raise src).llrs = s.llrs := by unfold State.raise; repeat (first | rfl | split)
@[simp] theorem State.raise_decs (s : State) (src : Nat) : (s.raise src).decs = s.decs := by unfold State.raise; repeat (first | rfl | split)
@[simp] theorem State.raise_pair (s : State) (src : Nat) : (s.raise src).pair = s.pair := by unfold State.raise; repeat (first | rfl | split)
@[simp] theorem State.raise_cfs (s : State) (src : Nat) : (s.raise src).cfs = s.cfs := by unfold State.raise; repeat (first | rfl | split)
@[simp] theorem State.raise_staging (s : State) (src : Nat) : (s.raise src).staging = s.staging := by unfold State.raise; repeat (first | rfl | split)
@[simp] theorem State.raise_liner (s : State) (src : Nat) : (s.raise src).liner = s.liner := by unfold State.raise; repeat (first | rfl | split)
@[simp] theorem State.raise_mover (s : State) (src : Nat) : (s.raise src).mover = s.mover := by unfold State.raise; repeat (first | rfl | split)
@[simp] theorem State.raise_moverQ (s : State) (src : Nat) : (s.raise src).moverQ = s.moverQ := by unfold State.raise; repeat (first | rfl | split)
@[simp] theorem State.raise_census (s : State) (src : Nat) : (s.raise src).census = s.census := by unfold State.raise; repeat (first | rfl | split)

/-! ## noteSat -/

@[simp] theorem State.noteSat_build (s : State) (v v' m : Nat) : (s.noteSat v v' m).build = s.build := by unfold State.noteSat; split <;> simp
@[simp] theorem State.noteSat_right (s : State) (v v' m : Nat) : (s.noteSat v v' m).right = s.right := by unfold State.noteSat; split <;> simp
@[simp] theorem State.noteSat_pending (s : State) (v v' m : Nat) : (s.noteSat v v' m).pending = s.pending := by unfold State.noteSat; split <;> simp
@[simp] theorem State.noteSat_phase (s : State) (v v' m : Nat) : (s.noteSat v v' m).phase = s.phase := by unfold State.noteSat; split <;> simp
@[simp] theorem State.noteSat_windowsOpen (s : State) (v v' m : Nat) : (s.noteSat v v' m).windowsOpen = s.windowsOpen := by unfold State.noteSat; split <;> simp
@[simp] theorem State.noteSat_latch (s : State) (v v' m : Nat) : (s.noteSat v v' m).latch = s.latch := by unfold State.noteSat; split <;> simp
@[simp] theorem State.noteSat_splits (s : State) (v v' m : Nat) : (s.noteSat v v' m).splits = s.splits := by unfold State.noteSat; split <;> simp
@[simp] theorem State.noteSat_readData (s : State) (v v' m : Nat) : (s.noteSat v v' m).readData = s.readData := by unfold State.noteSat; split <;> simp
@[simp] theorem State.noteSat_out (s : State) (v v' m : Nat) : (s.noteSat v v' m).out = s.out := by unfold State.noteSat; split <;> simp
@[simp] theorem State.noteSat_draws (s : State) (v v' m : Nat) : (s.noteSat v v' m).draws = s.draws := by unfold State.noteSat; split <;> simp
@[simp] theorem State.noteSat_subUs (s : State) (v v' m : Nat) : (s.noteSat v v' m).subUs = s.subUs := by unfold State.noteSat; split <;> simp
@[simp] theorem State.noteSat_log (s : State) (v v' m : Nat) : (s.noteSat v v' m).log = s.log := by unfold State.noteSat; split <;> simp
@[simp] theorem State.noteSat_fab (s : State) (v v' m : Nat) : (s.noteSat v v' m).fab = s.fab := by unfold State.noteSat; split <;> simp
@[simp] theorem State.noteSat_epochs (s : State) (v v' m : Nat) : (s.noteSat v v' m).epochs = s.epochs := by unfold State.noteSat; split <;> simp
@[simp] theorem State.noteSat_queues (s : State) (v v' m : Nat) : (s.noteSat v v' m).queues = s.queues := by unfold State.noteSat; split <;> simp
@[simp] theorem State.noteSat_ctxs (s : State) (v v' m : Nat) : (s.noteSat v v' m).ctxs = s.ctxs := by unfold State.noteSat; split <;> simp
@[simp] theorem State.noteSat_lastU (s : State) (v v' m : Nat) : (s.noteSat v v' m).lastU = s.lastU := by unfold State.noteSat; split <;> simp
@[simp] theorem State.noteSat_lastW (s : State) (v v' m : Nat) : (s.noteSat v v' m).lastW = s.lastW := by unfold State.noteSat; split <;> simp
@[simp] theorem State.noteSat_fetchSeq (s : State) (v v' m : Nat) : (s.noteSat v v' m).fetchSeq = s.fetchSeq := by unfold State.noteSat; split <;> simp
@[simp] theorem State.noteSat_admSeq (s : State) (v v' m : Nat) : (s.noteSat v v' m).admSeq = s.admSeq := by unfold State.noteSat; split <;> simp
@[simp] theorem State.noteSat_readySeq (s : State) (v v' m : Nat) : (s.noteSat v v' m).readySeq = s.readySeq := by unfold State.noteSat; split <;> simp
@[simp] theorem State.noteSat_sleep (s : State) (v v' m : Nat) : (s.noteSat v v' m).sleep = s.sleep := by unfold State.noteSat; split <;> simp
@[simp] theorem State.noteSat_wdog (s : State) (v v' m : Nat) : (s.noteSat v v' m).wdog = s.wdog := by unfold State.noteSat; split <;> simp
@[simp] theorem State.noteSat_telem (s : State) (v v' m : Nat) : (s.noteSat v v' m).telem = s.telem := by unfold State.noteSat; split <;> simp
@[simp] theorem State.noteSat_host (s : State) (v v' m : Nat) : (s.noteSat v v' m).host = s.host := by unfold State.noteSat; split <;> simp
@[simp] theorem State.noteSat_vdies (s : State) (v v' m : Nat) : (s.noteSat v v' m).vdies = s.vdies := by unfold State.noteSat; split <;> simp
@[simp] theorem State.noteSat_pdies (s : State) (v v' m : Nat) : (s.noteSat v v' m).pdies = s.pdies := by unfold State.noteSat; split <;> simp
@[simp] theorem State.noteSat_sets (s : State) (v v' m : Nat) : (s.noteSat v v' m).sets = s.sets := by unfold State.noteSat; split <;> simp
@[simp] theorem State.noteSat_bands (s : State) (v v' m : Nat) : (s.noteSat v v' m).bands = s.bands := by unfold State.noteSat; split <;> simp
@[simp] theorem State.noteSat_params (s : State) (v v' m : Nat) : (s.noteSat v v' m).params = s.params := by unfold State.noteSat; split <;> simp
@[simp] theorem State.noteSat_dies (s : State) (v v' m : Nat) : (s.noteSat v v' m).dies = s.dies := by unfold State.noteSat; split <;> simp
@[simp] theorem State.noteSat_cws (s : State) (v v' m : Nat) : (s.noteSat v v' m).cws = s.cws := by unfold State.noteSat; split <;> simp
@[simp] theorem State.noteSat_progs (s : State) (v v' m : Nat) : (s.noteSat v v' m).progs = s.progs := by unfold State.noteSat; split <;> simp
@[simp] theorem State.noteSat_erases (s : State) (v v' m : Nat) : (s.noteSat v v' m).erases = s.erases := by unfold State.noteSat; split <;> simp
@[simp] theorem State.noteSat_nextJob (s : State) (v v' m : Nat) : (s.noteSat v v' m).nextJob = s.nextJob := by unfold State.noteSat; split <;> simp
@[simp] theorem State.noteSat_pln (s : State) (v v' m : Nat) : (s.noteSat v v' m).pln = s.pln := by unfold State.noteSat; split <;> simp
@[simp] theorem State.noteSat_chans (s : State) (v v' m : Nat) : (s.noteSat v v' m).chans = s.chans := by unfold State.noteSat; split <;> simp
@[simp] theorem State.noteSat_quads (s : State) (v v' m : Nat) : (s.noteSat v v' m).quads = s.quads := by unfold State.noteSat; split <;> simp
@[simp] theorem State.noteSat_wbands (s : State) (v v' m : Nat) : (s.noteSat v v' m).wbands = s.wbands := by unfold State.noteSat; split <;> simp
@[simp] theorem State.noteSat_journals (s : State) (v v' m : Nat) : (s.noteSat v v' m).journals = s.journals := by unfold State.noteSat; split <;> simp
@[simp] theorem State.noteSat_pf (s : State) (v v' m : Nat) : (s.noteSat v v' m).pf = s.pf := by unfold State.noteSat; split <;> simp
@[simp] theorem State.noteSat_tasks (s : State) (v v' m : Nat) : (s.noteSat v v' m).tasks = s.tasks := by unfold State.noteSat; split <;> simp
@[simp] theorem State.noteSat_requeue (s : State) (v v' m : Nat) : (s.noteSat v v' m).requeue = s.requeue := by unfold State.noteSat; split <;> simp
@[simp] theorem State.noteSat_rebuildPend (s : State) (v v' m : Nat) : (s.noteSat v v' m).rebuildPend = s.rebuildPend := by unfold State.noteSat; split <;> simp
@[simp] theorem State.noteSat_patrol (s : State) (v v' m : Nat) : (s.noteSat v v' m).patrol = s.patrol := by unfold State.noteSat; split <;> simp
@[simp] theorem State.noteSat_patCounts (s : State) (v v' m : Nat) : (s.noteSat v v' m).patCounts = s.patCounts := by unfold State.noteSat; split <;> simp
@[simp] theorem State.noteSat_levels (s : State) (v v' m : Nat) : (s.noteSat v v' m).levels = s.levels := by unfold State.noteSat; split <;> simp
@[simp] theorem State.noteSat_bursts (s : State) (v v' m : Nat) : (s.noteSat v v' m).bursts = s.bursts := by unfold State.noteSat; split <;> simp
@[simp] theorem State.noteSat_llrs (s : State) (v v' m : Nat) : (s.noteSat v v' m).llrs = s.llrs := by unfold State.noteSat; split <;> simp
@[simp] theorem State.noteSat_decs (s : State) (v v' m : Nat) : (s.noteSat v v' m).decs = s.decs := by unfold State.noteSat; split <;> simp
@[simp] theorem State.noteSat_pair (s : State) (v v' m : Nat) : (s.noteSat v v' m).pair = s.pair := by unfold State.noteSat; split <;> simp
@[simp] theorem State.noteSat_cfs (s : State) (v v' m : Nat) : (s.noteSat v v' m).cfs = s.cfs := by unfold State.noteSat; split <;> simp
@[simp] theorem State.noteSat_staging (s : State) (v v' m : Nat) : (s.noteSat v v' m).staging = s.staging := by unfold State.noteSat; split <;> simp
@[simp] theorem State.noteSat_liner (s : State) (v v' m : Nat) : (s.noteSat v v' m).liner = s.liner := by unfold State.noteSat; split <;> simp
@[simp] theorem State.noteSat_mover (s : State) (v v' m : Nat) : (s.noteSat v v' m).mover = s.mover := by unfold State.noteSat; split <;> simp
@[simp] theorem State.noteSat_moverQ (s : State) (v v' m : Nat) : (s.noteSat v v' m).moverQ = s.moverQ := by unfold State.noteSat; split <;> simp
@[simp] theorem State.noteSat_census (s : State) (v v' m : Nat) : (s.noteSat v v' m).census = s.census := by unfold State.noteSat; split <;> simp

/-! ## countSat -/

@[simp] theorem State.countSat_build (s : State) (f : Field) (n : Nat) : (s.countSat f n).build = s.build := by simp [State.countSat]
@[simp] theorem State.countSat_right (s : State) (f : Field) (n : Nat) : (s.countSat f n).right = s.right := by simp [State.countSat]
@[simp] theorem State.countSat_pending (s : State) (f : Field) (n : Nat) : (s.countSat f n).pending = s.pending := by simp [State.countSat]
@[simp] theorem State.countSat_phase (s : State) (f : Field) (n : Nat) : (s.countSat f n).phase = s.phase := by simp [State.countSat]
@[simp] theorem State.countSat_windowsOpen (s : State) (f : Field) (n : Nat) : (s.countSat f n).windowsOpen = s.windowsOpen := by simp [State.countSat]
@[simp] theorem State.countSat_latch (s : State) (f : Field) (n : Nat) : (s.countSat f n).latch = s.latch := by simp [State.countSat]
@[simp] theorem State.countSat_splits (s : State) (f : Field) (n : Nat) : (s.countSat f n).splits = s.splits := by simp [State.countSat]
@[simp] theorem State.countSat_readData (s : State) (f : Field) (n : Nat) : (s.countSat f n).readData = s.readData := by simp [State.countSat]
@[simp] theorem State.countSat_out (s : State) (f : Field) (n : Nat) : (s.countSat f n).out = s.out := by simp [State.countSat]
@[simp] theorem State.countSat_draws (s : State) (f : Field) (n : Nat) : (s.countSat f n).draws = s.draws := by simp [State.countSat]
@[simp] theorem State.countSat_subUs (s : State) (f : Field) (n : Nat) : (s.countSat f n).subUs = s.subUs := by simp [State.countSat]
@[simp] theorem State.countSat_log (s : State) (f : Field) (n : Nat) : (s.countSat f n).log = s.log := by simp [State.countSat]
@[simp] theorem State.countSat_fab (s : State) (f : Field) (n : Nat) : (s.countSat f n).fab = s.fab := by simp [State.countSat]
@[simp] theorem State.countSat_epochs (s : State) (f : Field) (n : Nat) : (s.countSat f n).epochs = s.epochs := by simp [State.countSat]
@[simp] theorem State.countSat_queues (s : State) (f : Field) (n : Nat) : (s.countSat f n).queues = s.queues := by simp [State.countSat]
@[simp] theorem State.countSat_ctxs (s : State) (f : Field) (n : Nat) : (s.countSat f n).ctxs = s.ctxs := by simp [State.countSat]
@[simp] theorem State.countSat_lastU (s : State) (f : Field) (n : Nat) : (s.countSat f n).lastU = s.lastU := by simp [State.countSat]
@[simp] theorem State.countSat_lastW (s : State) (f : Field) (n : Nat) : (s.countSat f n).lastW = s.lastW := by simp [State.countSat]
@[simp] theorem State.countSat_fetchSeq (s : State) (f : Field) (n : Nat) : (s.countSat f n).fetchSeq = s.fetchSeq := by simp [State.countSat]
@[simp] theorem State.countSat_admSeq (s : State) (f : Field) (n : Nat) : (s.countSat f n).admSeq = s.admSeq := by simp [State.countSat]
@[simp] theorem State.countSat_readySeq (s : State) (f : Field) (n : Nat) : (s.countSat f n).readySeq = s.readySeq := by simp [State.countSat]
@[simp] theorem State.countSat_sleep (s : State) (f : Field) (n : Nat) : (s.countSat f n).sleep = s.sleep := by simp [State.countSat]
@[simp] theorem State.countSat_wdog (s : State) (f : Field) (n : Nat) : (s.countSat f n).wdog = s.wdog := by simp [State.countSat]
@[simp] theorem State.countSat_telem (s : State) (f : Field) (n : Nat) : (s.countSat f n).telem = s.telem := by simp [State.countSat]
@[simp] theorem State.countSat_host (s : State) (f : Field) (n : Nat) : (s.countSat f n).host = s.host := by simp [State.countSat]
@[simp] theorem State.countSat_vdies (s : State) (f : Field) (n : Nat) : (s.countSat f n).vdies = s.vdies := by simp [State.countSat]
@[simp] theorem State.countSat_pdies (s : State) (f : Field) (n : Nat) : (s.countSat f n).pdies = s.pdies := by simp [State.countSat]
@[simp] theorem State.countSat_sets (s : State) (f : Field) (n : Nat) : (s.countSat f n).sets = s.sets := by simp [State.countSat]
@[simp] theorem State.countSat_bands (s : State) (f : Field) (n : Nat) : (s.countSat f n).bands = s.bands := by simp [State.countSat]
@[simp] theorem State.countSat_params (s : State) (f : Field) (n : Nat) : (s.countSat f n).params = s.params := by simp [State.countSat]
@[simp] theorem State.countSat_dies (s : State) (f : Field) (n : Nat) : (s.countSat f n).dies = s.dies := by simp [State.countSat]
@[simp] theorem State.countSat_cws (s : State) (f : Field) (n : Nat) : (s.countSat f n).cws = s.cws := by simp [State.countSat]
@[simp] theorem State.countSat_progs (s : State) (f : Field) (n : Nat) : (s.countSat f n).progs = s.progs := by simp [State.countSat]
@[simp] theorem State.countSat_erases (s : State) (f : Field) (n : Nat) : (s.countSat f n).erases = s.erases := by simp [State.countSat]
@[simp] theorem State.countSat_nextJob (s : State) (f : Field) (n : Nat) : (s.countSat f n).nextJob = s.nextJob := by simp [State.countSat]
@[simp] theorem State.countSat_pln (s : State) (f : Field) (n : Nat) : (s.countSat f n).pln = s.pln := by simp [State.countSat]
@[simp] theorem State.countSat_chans (s : State) (f : Field) (n : Nat) : (s.countSat f n).chans = s.chans := by simp [State.countSat]
@[simp] theorem State.countSat_quads (s : State) (f : Field) (n : Nat) : (s.countSat f n).quads = s.quads := by simp [State.countSat]
@[simp] theorem State.countSat_wbands (s : State) (f : Field) (n : Nat) : (s.countSat f n).wbands = s.wbands := by simp [State.countSat]
@[simp] theorem State.countSat_journals (s : State) (f : Field) (n : Nat) : (s.countSat f n).journals = s.journals := by simp [State.countSat]
@[simp] theorem State.countSat_pf (s : State) (f : Field) (n : Nat) : (s.countSat f n).pf = s.pf := by simp [State.countSat]
@[simp] theorem State.countSat_tasks (s : State) (f : Field) (n : Nat) : (s.countSat f n).tasks = s.tasks := by simp [State.countSat]
@[simp] theorem State.countSat_requeue (s : State) (f : Field) (n : Nat) : (s.countSat f n).requeue = s.requeue := by simp [State.countSat]
@[simp] theorem State.countSat_rebuildPend (s : State) (f : Field) (n : Nat) : (s.countSat f n).rebuildPend = s.rebuildPend := by simp [State.countSat]
@[simp] theorem State.countSat_patrol (s : State) (f : Field) (n : Nat) : (s.countSat f n).patrol = s.patrol := by simp [State.countSat]
@[simp] theorem State.countSat_patCounts (s : State) (f : Field) (n : Nat) : (s.countSat f n).patCounts = s.patCounts := by simp [State.countSat]
@[simp] theorem State.countSat_levels (s : State) (f : Field) (n : Nat) : (s.countSat f n).levels = s.levels := by simp [State.countSat]
@[simp] theorem State.countSat_bursts (s : State) (f : Field) (n : Nat) : (s.countSat f n).bursts = s.bursts := by simp [State.countSat]
@[simp] theorem State.countSat_llrs (s : State) (f : Field) (n : Nat) : (s.countSat f n).llrs = s.llrs := by simp [State.countSat]
@[simp] theorem State.countSat_decs (s : State) (f : Field) (n : Nat) : (s.countSat f n).decs = s.decs := by simp [State.countSat]
@[simp] theorem State.countSat_pair (s : State) (f : Field) (n : Nat) : (s.countSat f n).pair = s.pair := by simp [State.countSat]
@[simp] theorem State.countSat_cfs (s : State) (f : Field) (n : Nat) : (s.countSat f n).cfs = s.cfs := by simp [State.countSat]
@[simp] theorem State.countSat_staging (s : State) (f : Field) (n : Nat) : (s.countSat f n).staging = s.staging := by simp [State.countSat]
@[simp] theorem State.countSat_liner (s : State) (f : Field) (n : Nat) : (s.countSat f n).liner = s.liner := by simp [State.countSat]
@[simp] theorem State.countSat_mover (s : State) (f : Field) (n : Nat) : (s.countSat f n).mover = s.mover := by simp [State.countSat]
@[simp] theorem State.countSat_moverQ (s : State) (f : Field) (n : Nat) : (s.countSat f n).moverQ = s.moverQ := by simp [State.countSat]
@[simp] theorem State.countSat_census (s : State) (f : Field) (n : Nat) : (s.countSat f n).census = s.census := by simp [State.countSat]

/-! ## startWake -/

@[simp] theorem State.startWake_build (s : State) (c : Nat) : (s.startWake c).build = s.build := by unfold State.startWake; repeat (first | rfl | split)
@[simp] theorem State.startWake_right (s : State) (c : Nat) : (s.startWake c).right = s.right := by unfold State.startWake; repeat (first | rfl | split)
@[simp] theorem State.startWake_pending (s : State) (c : Nat) : (s.startWake c).pending = s.pending := by unfold State.startWake; repeat (first | rfl | split)
@[simp] theorem State.startWake_phase (s : State) (c : Nat) : (s.startWake c).phase = s.phase := by unfold State.startWake; repeat (first | rfl | split)
@[simp] theorem State.startWake_windowsOpen (s : State) (c : Nat) : (s.startWake c).windowsOpen = s.windowsOpen := by unfold State.startWake; repeat (first | rfl | split)
@[simp] theorem State.startWake_latch (s : State) (c : Nat) : (s.startWake c).latch = s.latch := by unfold State.startWake; repeat (first | rfl | split)
@[simp] theorem State.startWake_splits (s : State) (c : Nat) : (s.startWake c).splits = s.splits := by unfold State.startWake; repeat (first | rfl | split)
@[simp] theorem State.startWake_readData (s : State) (c : Nat) : (s.startWake c).readData = s.readData := by unfold State.startWake; repeat (first | rfl | split)
@[simp] theorem State.startWake_out (s : State) (c : Nat) : (s.startWake c).out = s.out := by unfold State.startWake; repeat (first | rfl | split)
@[simp] theorem State.startWake_draws (s : State) (c : Nat) : (s.startWake c).draws = s.draws := by unfold State.startWake; repeat (first | rfl | split)
@[simp] theorem State.startWake_subUs (s : State) (c : Nat) : (s.startWake c).subUs = s.subUs := by unfold State.startWake; repeat (first | rfl | split)
@[simp] theorem State.startWake_evc (s : State) (c : Nat) : (s.startWake c).evc = s.evc := by unfold State.startWake; repeat (first | rfl | split)
@[simp] theorem State.startWake_log (s : State) (c : Nat) : (s.startWake c).log = s.log := by unfold State.startWake; repeat (first | rfl | split)
@[simp] theorem State.startWake_fab (s : State) (c : Nat) : (s.startWake c).fab = s.fab := by unfold State.startWake; repeat (first | rfl | split)
@[simp] theorem State.startWake_epochs (s : State) (c : Nat) : (s.startWake c).epochs = s.epochs := by unfold State.startWake; repeat (first | rfl | split)
@[simp] theorem State.startWake_queues (s : State) (c : Nat) : (s.startWake c).queues = s.queues := by unfold State.startWake; repeat (first | rfl | split)
@[simp] theorem State.startWake_ctxs (s : State) (c : Nat) : (s.startWake c).ctxs = s.ctxs := by unfold State.startWake; repeat (first | rfl | split)
@[simp] theorem State.startWake_lastU (s : State) (c : Nat) : (s.startWake c).lastU = s.lastU := by unfold State.startWake; repeat (first | rfl | split)
@[simp] theorem State.startWake_lastW (s : State) (c : Nat) : (s.startWake c).lastW = s.lastW := by unfold State.startWake; repeat (first | rfl | split)
@[simp] theorem State.startWake_fetchSeq (s : State) (c : Nat) : (s.startWake c).fetchSeq = s.fetchSeq := by unfold State.startWake; repeat (first | rfl | split)
@[simp] theorem State.startWake_admSeq (s : State) (c : Nat) : (s.startWake c).admSeq = s.admSeq := by unfold State.startWake; repeat (first | rfl | split)
@[simp] theorem State.startWake_readySeq (s : State) (c : Nat) : (s.startWake c).readySeq = s.readySeq := by unfold State.startWake; repeat (first | rfl | split)
@[simp] theorem State.startWake_wdog (s : State) (c : Nat) : (s.startWake c).wdog = s.wdog := by unfold State.startWake; repeat (first | rfl | split)
@[simp] theorem State.startWake_telem (s : State) (c : Nat) : (s.startWake c).telem = s.telem := by unfold State.startWake; repeat (first | rfl | split)
@[simp] theorem State.startWake_host (s : State) (c : Nat) : (s.startWake c).host = s.host := by unfold State.startWake; repeat (first | rfl | split)
@[simp] theorem State.startWake_vdies (s : State) (c : Nat) : (s.startWake c).vdies = s.vdies := by unfold State.startWake; repeat (first | rfl | split)
@[simp] theorem State.startWake_pdies (s : State) (c : Nat) : (s.startWake c).pdies = s.pdies := by unfold State.startWake; repeat (first | rfl | split)
@[simp] theorem State.startWake_sets (s : State) (c : Nat) : (s.startWake c).sets = s.sets := by unfold State.startWake; repeat (first | rfl | split)
@[simp] theorem State.startWake_bands (s : State) (c : Nat) : (s.startWake c).bands = s.bands := by unfold State.startWake; repeat (first | rfl | split)
@[simp] theorem State.startWake_params (s : State) (c : Nat) : (s.startWake c).params = s.params := by unfold State.startWake; repeat (first | rfl | split)
@[simp] theorem State.startWake_dies (s : State) (c : Nat) : (s.startWake c).dies = s.dies := by unfold State.startWake; repeat (first | rfl | split)
@[simp] theorem State.startWake_cws (s : State) (c : Nat) : (s.startWake c).cws = s.cws := by unfold State.startWake; repeat (first | rfl | split)
@[simp] theorem State.startWake_progs (s : State) (c : Nat) : (s.startWake c).progs = s.progs := by unfold State.startWake; repeat (first | rfl | split)
@[simp] theorem State.startWake_erases (s : State) (c : Nat) : (s.startWake c).erases = s.erases := by unfold State.startWake; repeat (first | rfl | split)
@[simp] theorem State.startWake_nextJob (s : State) (c : Nat) : (s.startWake c).nextJob = s.nextJob := by unfold State.startWake; repeat (first | rfl | split)
@[simp] theorem State.startWake_pln (s : State) (c : Nat) : (s.startWake c).pln = s.pln := by unfold State.startWake; repeat (first | rfl | split)
@[simp] theorem State.startWake_chans (s : State) (c : Nat) : (s.startWake c).chans = s.chans := by unfold State.startWake; repeat (first | rfl | split)
@[simp] theorem State.startWake_quads (s : State) (c : Nat) : (s.startWake c).quads = s.quads := by unfold State.startWake; repeat (first | rfl | split)
@[simp] theorem State.startWake_wbands (s : State) (c : Nat) : (s.startWake c).wbands = s.wbands := by unfold State.startWake; repeat (first | rfl | split)
@[simp] theorem State.startWake_journals (s : State) (c : Nat) : (s.startWake c).journals = s.journals := by unfold State.startWake; repeat (first | rfl | split)
@[simp] theorem State.startWake_pf (s : State) (c : Nat) : (s.startWake c).pf = s.pf := by unfold State.startWake; repeat (first | rfl | split)
@[simp] theorem State.startWake_tasks (s : State) (c : Nat) : (s.startWake c).tasks = s.tasks := by unfold State.startWake; repeat (first | rfl | split)
@[simp] theorem State.startWake_requeue (s : State) (c : Nat) : (s.startWake c).requeue = s.requeue := by unfold State.startWake; repeat (first | rfl | split)
@[simp] theorem State.startWake_rebuildPend (s : State) (c : Nat) : (s.startWake c).rebuildPend = s.rebuildPend := by unfold State.startWake; repeat (first | rfl | split)
@[simp] theorem State.startWake_patrol (s : State) (c : Nat) : (s.startWake c).patrol = s.patrol := by unfold State.startWake; repeat (first | rfl | split)
@[simp] theorem State.startWake_patCounts (s : State) (c : Nat) : (s.startWake c).patCounts = s.patCounts := by unfold State.startWake; repeat (first | rfl | split)
@[simp] theorem State.startWake_levels (s : State) (c : Nat) : (s.startWake c).levels = s.levels := by unfold State.startWake; repeat (first | rfl | split)
@[simp] theorem State.startWake_bursts (s : State) (c : Nat) : (s.startWake c).bursts = s.bursts := by unfold State.startWake; repeat (first | rfl | split)
@[simp] theorem State.startWake_llrs (s : State) (c : Nat) : (s.startWake c).llrs = s.llrs := by unfold State.startWake; repeat (first | rfl | split)
@[simp] theorem State.startWake_decs (s : State) (c : Nat) : (s.startWake c).decs = s.decs := by unfold State.startWake; repeat (first | rfl | split)
@[simp] theorem State.startWake_pair (s : State) (c : Nat) : (s.startWake c).pair = s.pair := by unfold State.startWake; repeat (first | rfl | split)
@[simp] theorem State.startWake_cfs (s : State) (c : Nat) : (s.startWake c).cfs = s.cfs := by unfold State.startWake; repeat (first | rfl | split)
@[simp] theorem State.startWake_staging (s : State) (c : Nat) : (s.startWake c).staging = s.staging := by unfold State.startWake; repeat (first | rfl | split)
@[simp] theorem State.startWake_liner (s : State) (c : Nat) : (s.startWake c).liner = s.liner := by unfold State.startWake; repeat (first | rfl | split)
@[simp] theorem State.startWake_mover (s : State) (c : Nat) : (s.startWake c).mover = s.mover := by unfold State.startWake; repeat (first | rfl | split)
@[simp] theorem State.startWake_moverQ (s : State) (c : Nat) : (s.startWake c).moverQ = s.moverQ := by unfold State.startWake; repeat (first | rfl | split)
@[simp] theorem State.startWake_census (s : State) (c : Nat) : (s.startWake c).census = s.census := by unfold State.startWake; repeat (first | rfl | split)

/-! ## holdWrite -/

@[simp] theorem State.holdWrite_build (s : State) (h : HeldWrite) : (s.holdWrite h).build = s.build := State.startWake_build s 1
@[simp] theorem State.holdWrite_right (s : State) (h : HeldWrite) : (s.holdWrite h).right = s.right := State.startWake_right s 1
@[simp] theorem State.holdWrite_pending (s : State) (h : HeldWrite) : (s.holdWrite h).pending = s.pending := State.startWake_pending s 1
@[simp] theorem State.holdWrite_phase (s : State) (h : HeldWrite) : (s.holdWrite h).phase = s.phase := State.startWake_phase s 1
@[simp] theorem State.holdWrite_windowsOpen (s : State) (h : HeldWrite) : (s.holdWrite h).windowsOpen = s.windowsOpen := State.startWake_windowsOpen s 1
@[simp] theorem State.holdWrite_latch (s : State) (h : HeldWrite) : (s.holdWrite h).latch = s.latch := State.startWake_latch s 1
@[simp] theorem State.holdWrite_splits (s : State) (h : HeldWrite) : (s.holdWrite h).splits = s.splits := State.startWake_splits s 1
@[simp] theorem State.holdWrite_readData (s : State) (h : HeldWrite) : (s.holdWrite h).readData = s.readData := State.startWake_readData s 1
@[simp] theorem State.holdWrite_out (s : State) (h : HeldWrite) : (s.holdWrite h).out = s.out := State.startWake_out s 1
@[simp] theorem State.holdWrite_draws (s : State) (h : HeldWrite) : (s.holdWrite h).draws = s.draws := State.startWake_draws s 1
@[simp] theorem State.holdWrite_subUs (s : State) (h : HeldWrite) : (s.holdWrite h).subUs = s.subUs := State.startWake_subUs s 1
@[simp] theorem State.holdWrite_evc (s : State) (h : HeldWrite) : (s.holdWrite h).evc = s.evc := State.startWake_evc s 1
@[simp] theorem State.holdWrite_log (s : State) (h : HeldWrite) : (s.holdWrite h).log = s.log := State.startWake_log s 1
@[simp] theorem State.holdWrite_fab (s : State) (h : HeldWrite) : (s.holdWrite h).fab = s.fab := State.startWake_fab s 1
@[simp] theorem State.holdWrite_epochs (s : State) (h : HeldWrite) : (s.holdWrite h).epochs = s.epochs := State.startWake_epochs s 1
@[simp] theorem State.holdWrite_queues (s : State) (h : HeldWrite) : (s.holdWrite h).queues = s.queues := State.startWake_queues s 1
@[simp] theorem State.holdWrite_ctxs (s : State) (h : HeldWrite) : (s.holdWrite h).ctxs = s.ctxs := State.startWake_ctxs s 1
@[simp] theorem State.holdWrite_lastU (s : State) (h : HeldWrite) : (s.holdWrite h).lastU = s.lastU := State.startWake_lastU s 1
@[simp] theorem State.holdWrite_lastW (s : State) (h : HeldWrite) : (s.holdWrite h).lastW = s.lastW := State.startWake_lastW s 1
@[simp] theorem State.holdWrite_fetchSeq (s : State) (h : HeldWrite) : (s.holdWrite h).fetchSeq = s.fetchSeq := State.startWake_fetchSeq s 1
@[simp] theorem State.holdWrite_admSeq (s : State) (h : HeldWrite) : (s.holdWrite h).admSeq = s.admSeq := State.startWake_admSeq s 1
@[simp] theorem State.holdWrite_readySeq (s : State) (h : HeldWrite) : (s.holdWrite h).readySeq = s.readySeq := State.startWake_readySeq s 1
@[simp] theorem State.holdWrite_wdog (s : State) (h : HeldWrite) : (s.holdWrite h).wdog = s.wdog := State.startWake_wdog s 1
@[simp] theorem State.holdWrite_telem (s : State) (h : HeldWrite) : (s.holdWrite h).telem = s.telem := State.startWake_telem s 1
@[simp] theorem State.holdWrite_host (s : State) (h : HeldWrite) : (s.holdWrite h).host = s.host := State.startWake_host s 1
@[simp] theorem State.holdWrite_vdies (s : State) (h : HeldWrite) : (s.holdWrite h).vdies = s.vdies := State.startWake_vdies s 1
@[simp] theorem State.holdWrite_pdies (s : State) (h : HeldWrite) : (s.holdWrite h).pdies = s.pdies := State.startWake_pdies s 1
@[simp] theorem State.holdWrite_sets (s : State) (h : HeldWrite) : (s.holdWrite h).sets = s.sets := State.startWake_sets s 1
@[simp] theorem State.holdWrite_bands (s : State) (h : HeldWrite) : (s.holdWrite h).bands = s.bands := State.startWake_bands s 1
@[simp] theorem State.holdWrite_params (s : State) (h : HeldWrite) : (s.holdWrite h).params = s.params := State.startWake_params s 1
@[simp] theorem State.holdWrite_dies (s : State) (h : HeldWrite) : (s.holdWrite h).dies = s.dies := State.startWake_dies s 1
@[simp] theorem State.holdWrite_cws (s : State) (h : HeldWrite) : (s.holdWrite h).cws = s.cws := State.startWake_cws s 1
@[simp] theorem State.holdWrite_progs (s : State) (h : HeldWrite) : (s.holdWrite h).progs = s.progs := State.startWake_progs s 1
@[simp] theorem State.holdWrite_erases (s : State) (h : HeldWrite) : (s.holdWrite h).erases = s.erases := State.startWake_erases s 1
@[simp] theorem State.holdWrite_nextJob (s : State) (h : HeldWrite) : (s.holdWrite h).nextJob = s.nextJob := State.startWake_nextJob s 1
@[simp] theorem State.holdWrite_pln (s : State) (h : HeldWrite) : (s.holdWrite h).pln = s.pln := State.startWake_pln s 1
@[simp] theorem State.holdWrite_chans (s : State) (h : HeldWrite) : (s.holdWrite h).chans = s.chans := State.startWake_chans s 1
@[simp] theorem State.holdWrite_quads (s : State) (h : HeldWrite) : (s.holdWrite h).quads = s.quads := State.startWake_quads s 1
@[simp] theorem State.holdWrite_wbands (s : State) (h : HeldWrite) : (s.holdWrite h).wbands = s.wbands := State.startWake_wbands s 1
@[simp] theorem State.holdWrite_journals (s : State) (h : HeldWrite) : (s.holdWrite h).journals = s.journals := State.startWake_journals s 1
@[simp] theorem State.holdWrite_pf (s : State) (h : HeldWrite) : (s.holdWrite h).pf = s.pf := State.startWake_pf s 1
@[simp] theorem State.holdWrite_tasks (s : State) (h : HeldWrite) : (s.holdWrite h).tasks = s.tasks := State.startWake_tasks s 1
@[simp] theorem State.holdWrite_requeue (s : State) (h : HeldWrite) : (s.holdWrite h).requeue = s.requeue := State.startWake_requeue s 1
@[simp] theorem State.holdWrite_rebuildPend (s : State) (h : HeldWrite) : (s.holdWrite h).rebuildPend = s.rebuildPend := State.startWake_rebuildPend s 1
@[simp] theorem State.holdWrite_patrol (s : State) (h : HeldWrite) : (s.holdWrite h).patrol = s.patrol := State.startWake_patrol s 1
@[simp] theorem State.holdWrite_patCounts (s : State) (h : HeldWrite) : (s.holdWrite h).patCounts = s.patCounts := State.startWake_patCounts s 1
@[simp] theorem State.holdWrite_levels (s : State) (h : HeldWrite) : (s.holdWrite h).levels = s.levels := State.startWake_levels s 1
@[simp] theorem State.holdWrite_bursts (s : State) (h : HeldWrite) : (s.holdWrite h).bursts = s.bursts := State.startWake_bursts s 1
@[simp] theorem State.holdWrite_llrs (s : State) (h : HeldWrite) : (s.holdWrite h).llrs = s.llrs := State.startWake_llrs s 1
@[simp] theorem State.holdWrite_decs (s : State) (h : HeldWrite) : (s.holdWrite h).decs = s.decs := State.startWake_decs s 1
@[simp] theorem State.holdWrite_pair (s : State) (h : HeldWrite) : (s.holdWrite h).pair = s.pair := State.startWake_pair s 1
@[simp] theorem State.holdWrite_cfs (s : State) (h : HeldWrite) : (s.holdWrite h).cfs = s.cfs := State.startWake_cfs s 1
@[simp] theorem State.holdWrite_staging (s : State) (h : HeldWrite) : (s.holdWrite h).staging = s.staging := State.startWake_staging s 1
@[simp] theorem State.holdWrite_liner (s : State) (h : HeldWrite) : (s.holdWrite h).liner = s.liner := State.startWake_liner s 1
@[simp] theorem State.holdWrite_mover (s : State) (h : HeldWrite) : (s.holdWrite h).mover = s.mover := State.startWake_mover s 1
@[simp] theorem State.holdWrite_moverQ (s : State) (h : HeldWrite) : (s.holdWrite h).moverQ = s.moverQ := State.startWake_moverQ s 1
@[simp] theorem State.holdWrite_census (s : State) (h : HeldWrite) : (s.holdWrite h).census = s.census := State.startWake_census s 1

/-! ## logWrite -/

@[simp] theorem State.logWrite_build (s : State) (type cls : Nat) (payload : List Byte) : (s.logWrite type cls payload).build = s.build := by unfold State.logWrite; dsimp only; split; rfl; split <;> simp
@[simp] theorem State.logWrite_right (s : State) (type cls : Nat) (payload : List Byte) : (s.logWrite type cls payload).right = s.right := by unfold State.logWrite; dsimp only; split; rfl; split <;> simp
@[simp] theorem State.logWrite_pending (s : State) (type cls : Nat) (payload : List Byte) : (s.logWrite type cls payload).pending = s.pending := by unfold State.logWrite; dsimp only; split; rfl; split <;> simp
@[simp] theorem State.logWrite_phase (s : State) (type cls : Nat) (payload : List Byte) : (s.logWrite type cls payload).phase = s.phase := by unfold State.logWrite; dsimp only; split; rfl; split <;> simp
@[simp] theorem State.logWrite_windowsOpen (s : State) (type cls : Nat) (payload : List Byte) : (s.logWrite type cls payload).windowsOpen = s.windowsOpen := by unfold State.logWrite; dsimp only; split; rfl; split <;> simp
@[simp] theorem State.logWrite_latch (s : State) (type cls : Nat) (payload : List Byte) : (s.logWrite type cls payload).latch = s.latch := by unfold State.logWrite; dsimp only; split; rfl; split <;> simp
@[simp] theorem State.logWrite_splits (s : State) (type cls : Nat) (payload : List Byte) : (s.logWrite type cls payload).splits = s.splits := by unfold State.logWrite; dsimp only; split; rfl; split <;> simp
@[simp] theorem State.logWrite_readData (s : State) (type cls : Nat) (payload : List Byte) : (s.logWrite type cls payload).readData = s.readData := by unfold State.logWrite; dsimp only; split; rfl; split <;> simp
@[simp] theorem State.logWrite_out (s : State) (type cls : Nat) (payload : List Byte) : (s.logWrite type cls payload).out = s.out := by unfold State.logWrite; dsimp only; split; rfl; split <;> simp
@[simp] theorem State.logWrite_draws (s : State) (type cls : Nat) (payload : List Byte) : (s.logWrite type cls payload).draws = s.draws := by unfold State.logWrite; dsimp only; split; rfl; split <;> simp
@[simp] theorem State.logWrite_subUs (s : State) (type cls : Nat) (payload : List Byte) : (s.logWrite type cls payload).subUs = s.subUs := by unfold State.logWrite; dsimp only; split; rfl; split <;> simp
@[simp] theorem State.logWrite_fab (s : State) (type cls : Nat) (payload : List Byte) : (s.logWrite type cls payload).fab = s.fab := by unfold State.logWrite; dsimp only; split; rfl; split <;> simp
@[simp] theorem State.logWrite_epochs (s : State) (type cls : Nat) (payload : List Byte) : (s.logWrite type cls payload).epochs = s.epochs := by unfold State.logWrite; dsimp only; split; rfl; split <;> simp
@[simp] theorem State.logWrite_queues (s : State) (type cls : Nat) (payload : List Byte) : (s.logWrite type cls payload).queues = s.queues := by unfold State.logWrite; dsimp only; split; rfl; split <;> simp
@[simp] theorem State.logWrite_ctxs (s : State) (type cls : Nat) (payload : List Byte) : (s.logWrite type cls payload).ctxs = s.ctxs := by unfold State.logWrite; dsimp only; split; rfl; split <;> simp
@[simp] theorem State.logWrite_lastU (s : State) (type cls : Nat) (payload : List Byte) : (s.logWrite type cls payload).lastU = s.lastU := by unfold State.logWrite; dsimp only; split; rfl; split <;> simp
@[simp] theorem State.logWrite_lastW (s : State) (type cls : Nat) (payload : List Byte) : (s.logWrite type cls payload).lastW = s.lastW := by unfold State.logWrite; dsimp only; split; rfl; split <;> simp
@[simp] theorem State.logWrite_fetchSeq (s : State) (type cls : Nat) (payload : List Byte) : (s.logWrite type cls payload).fetchSeq = s.fetchSeq := by unfold State.logWrite; dsimp only; split; rfl; split <;> simp
@[simp] theorem State.logWrite_admSeq (s : State) (type cls : Nat) (payload : List Byte) : (s.logWrite type cls payload).admSeq = s.admSeq := by unfold State.logWrite; dsimp only; split; rfl; split <;> simp
@[simp] theorem State.logWrite_readySeq (s : State) (type cls : Nat) (payload : List Byte) : (s.logWrite type cls payload).readySeq = s.readySeq := by unfold State.logWrite; dsimp only; split; rfl; split <;> simp
@[simp] theorem State.logWrite_sleep (s : State) (type cls : Nat) (payload : List Byte) : (s.logWrite type cls payload).sleep = s.sleep := by unfold State.logWrite; dsimp only; split; rfl; split <;> simp
@[simp] theorem State.logWrite_wdog (s : State) (type cls : Nat) (payload : List Byte) : (s.logWrite type cls payload).wdog = s.wdog := by unfold State.logWrite; dsimp only; split; rfl; split <;> simp
@[simp] theorem State.logWrite_telem (s : State) (type cls : Nat) (payload : List Byte) : (s.logWrite type cls payload).telem = s.telem := by unfold State.logWrite; dsimp only; split; rfl; split <;> simp
@[simp] theorem State.logWrite_host (s : State) (type cls : Nat) (payload : List Byte) : (s.logWrite type cls payload).host = s.host := by unfold State.logWrite; dsimp only; split; rfl; split <;> simp
@[simp] theorem State.logWrite_vdies (s : State) (type cls : Nat) (payload : List Byte) : (s.logWrite type cls payload).vdies = s.vdies := by unfold State.logWrite; dsimp only; split; rfl; split <;> simp
@[simp] theorem State.logWrite_pdies (s : State) (type cls : Nat) (payload : List Byte) : (s.logWrite type cls payload).pdies = s.pdies := by unfold State.logWrite; dsimp only; split; rfl; split <;> simp
@[simp] theorem State.logWrite_sets (s : State) (type cls : Nat) (payload : List Byte) : (s.logWrite type cls payload).sets = s.sets := by unfold State.logWrite; dsimp only; split; rfl; split <;> simp
@[simp] theorem State.logWrite_bands (s : State) (type cls : Nat) (payload : List Byte) : (s.logWrite type cls payload).bands = s.bands := by unfold State.logWrite; dsimp only; split; rfl; split <;> simp
@[simp] theorem State.logWrite_params (s : State) (type cls : Nat) (payload : List Byte) : (s.logWrite type cls payload).params = s.params := by unfold State.logWrite; dsimp only; split; rfl; split <;> simp
@[simp] theorem State.logWrite_dies (s : State) (type cls : Nat) (payload : List Byte) : (s.logWrite type cls payload).dies = s.dies := by unfold State.logWrite; dsimp only; split; rfl; split <;> simp
@[simp] theorem State.logWrite_cws (s : State) (type cls : Nat) (payload : List Byte) : (s.logWrite type cls payload).cws = s.cws := by unfold State.logWrite; dsimp only; split; rfl; split <;> simp
@[simp] theorem State.logWrite_progs (s : State) (type cls : Nat) (payload : List Byte) : (s.logWrite type cls payload).progs = s.progs := by unfold State.logWrite; dsimp only; split; rfl; split <;> simp
@[simp] theorem State.logWrite_erases (s : State) (type cls : Nat) (payload : List Byte) : (s.logWrite type cls payload).erases = s.erases := by unfold State.logWrite; dsimp only; split; rfl; split <;> simp
@[simp] theorem State.logWrite_nextJob (s : State) (type cls : Nat) (payload : List Byte) : (s.logWrite type cls payload).nextJob = s.nextJob := by unfold State.logWrite; dsimp only; split; rfl; split <;> simp
@[simp] theorem State.logWrite_pln (s : State) (type cls : Nat) (payload : List Byte) : (s.logWrite type cls payload).pln = s.pln := by unfold State.logWrite; dsimp only; split; rfl; split <;> simp
@[simp] theorem State.logWrite_chans (s : State) (type cls : Nat) (payload : List Byte) : (s.logWrite type cls payload).chans = s.chans := by unfold State.logWrite; dsimp only; split; rfl; split <;> simp
@[simp] theorem State.logWrite_quads (s : State) (type cls : Nat) (payload : List Byte) : (s.logWrite type cls payload).quads = s.quads := by unfold State.logWrite; dsimp only; split; rfl; split <;> simp
@[simp] theorem State.logWrite_wbands (s : State) (type cls : Nat) (payload : List Byte) : (s.logWrite type cls payload).wbands = s.wbands := by unfold State.logWrite; dsimp only; split; rfl; split <;> simp
@[simp] theorem State.logWrite_journals (s : State) (type cls : Nat) (payload : List Byte) : (s.logWrite type cls payload).journals = s.journals := by unfold State.logWrite; dsimp only; split; rfl; split <;> simp
@[simp] theorem State.logWrite_pf (s : State) (type cls : Nat) (payload : List Byte) : (s.logWrite type cls payload).pf = s.pf := by unfold State.logWrite; dsimp only; split; rfl; split <;> simp
@[simp] theorem State.logWrite_tasks (s : State) (type cls : Nat) (payload : List Byte) : (s.logWrite type cls payload).tasks = s.tasks := by unfold State.logWrite; dsimp only; split; rfl; split <;> simp
@[simp] theorem State.logWrite_requeue (s : State) (type cls : Nat) (payload : List Byte) : (s.logWrite type cls payload).requeue = s.requeue := by unfold State.logWrite; dsimp only; split; rfl; split <;> simp
@[simp] theorem State.logWrite_rebuildPend (s : State) (type cls : Nat) (payload : List Byte) : (s.logWrite type cls payload).rebuildPend = s.rebuildPend := by unfold State.logWrite; dsimp only; split; rfl; split <;> simp
@[simp] theorem State.logWrite_patrol (s : State) (type cls : Nat) (payload : List Byte) : (s.logWrite type cls payload).patrol = s.patrol := by unfold State.logWrite; dsimp only; split; rfl; split <;> simp
@[simp] theorem State.logWrite_patCounts (s : State) (type cls : Nat) (payload : List Byte) : (s.logWrite type cls payload).patCounts = s.patCounts := by unfold State.logWrite; dsimp only; split; rfl; split <;> simp
@[simp] theorem State.logWrite_levels (s : State) (type cls : Nat) (payload : List Byte) : (s.logWrite type cls payload).levels = s.levels := by unfold State.logWrite; dsimp only; split; rfl; split <;> simp
@[simp] theorem State.logWrite_bursts (s : State) (type cls : Nat) (payload : List Byte) : (s.logWrite type cls payload).bursts = s.bursts := by unfold State.logWrite; dsimp only; split; rfl; split <;> simp
@[simp] theorem State.logWrite_llrs (s : State) (type cls : Nat) (payload : List Byte) : (s.logWrite type cls payload).llrs = s.llrs := by unfold State.logWrite; dsimp only; split; rfl; split <;> simp
@[simp] theorem State.logWrite_decs (s : State) (type cls : Nat) (payload : List Byte) : (s.logWrite type cls payload).decs = s.decs := by unfold State.logWrite; dsimp only; split; rfl; split <;> simp
@[simp] theorem State.logWrite_pair (s : State) (type cls : Nat) (payload : List Byte) : (s.logWrite type cls payload).pair = s.pair := by unfold State.logWrite; dsimp only; split; rfl; split <;> simp
@[simp] theorem State.logWrite_cfs (s : State) (type cls : Nat) (payload : List Byte) : (s.logWrite type cls payload).cfs = s.cfs := by unfold State.logWrite; dsimp only; split; rfl; split <;> simp
@[simp] theorem State.logWrite_staging (s : State) (type cls : Nat) (payload : List Byte) : (s.logWrite type cls payload).staging = s.staging := by unfold State.logWrite; dsimp only; split; rfl; split <;> simp
@[simp] theorem State.logWrite_liner (s : State) (type cls : Nat) (payload : List Byte) : (s.logWrite type cls payload).liner = s.liner := by unfold State.logWrite; dsimp only; split; rfl; split <;> simp
@[simp] theorem State.logWrite_mover (s : State) (type cls : Nat) (payload : List Byte) : (s.logWrite type cls payload).mover = s.mover := by unfold State.logWrite; dsimp only; split; rfl; split <;> simp
@[simp] theorem State.logWrite_moverQ (s : State) (type cls : Nat) (payload : List Byte) : (s.logWrite type cls payload).moverQ = s.moverQ := by unfold State.logWrite; dsimp only; split; rfl; split <;> simp
@[simp] theorem State.logWrite_census (s : State) (type cls : Nat) (payload : List Byte) : (s.logWrite type cls payload).census = s.census := by unfold State.logWrite; dsimp only; split; rfl; split <;> simp

/-! ## hostSignal -/

@[simp] theorem State.hostSignal_build (s : State) (v : Nat) : (s.hostSignal v).build = s.build := by unfold State.hostSignal; repeat (first | rfl | split)
@[simp] theorem State.hostSignal_right (s : State) (v : Nat) : (s.hostSignal v).right = s.right := by unfold State.hostSignal; repeat (first | rfl | split)
@[simp] theorem State.hostSignal_pending (s : State) (v : Nat) : (s.hostSignal v).pending = s.pending := by unfold State.hostSignal; repeat (first | rfl | split)
@[simp] theorem State.hostSignal_phase (s : State) (v : Nat) : (s.hostSignal v).phase = s.phase := by unfold State.hostSignal; repeat (first | rfl | split)
@[simp] theorem State.hostSignal_windowsOpen (s : State) (v : Nat) : (s.hostSignal v).windowsOpen = s.windowsOpen := by unfold State.hostSignal; repeat (first | rfl | split)
@[simp] theorem State.hostSignal_latch (s : State) (v : Nat) : (s.hostSignal v).latch = s.latch := by unfold State.hostSignal; repeat (first | rfl | split)
@[simp] theorem State.hostSignal_splits (s : State) (v : Nat) : (s.hostSignal v).splits = s.splits := by unfold State.hostSignal; repeat (first | rfl | split)
@[simp] theorem State.hostSignal_readData (s : State) (v : Nat) : (s.hostSignal v).readData = s.readData := by unfold State.hostSignal; repeat (first | rfl | split)
@[simp] theorem State.hostSignal_draws (s : State) (v : Nat) : (s.hostSignal v).draws = s.draws := by unfold State.hostSignal; repeat (first | rfl | split)
@[simp] theorem State.hostSignal_subUs (s : State) (v : Nat) : (s.hostSignal v).subUs = s.subUs := by unfold State.hostSignal; repeat (first | rfl | split)
@[simp] theorem State.hostSignal_log (s : State) (v : Nat) : (s.hostSignal v).log = s.log := by unfold State.hostSignal; repeat (first | rfl | split)
@[simp] theorem State.hostSignal_fab (s : State) (v : Nat) : (s.hostSignal v).fab = s.fab := by unfold State.hostSignal; repeat (first | rfl | split)
@[simp] theorem State.hostSignal_epochs (s : State) (v : Nat) : (s.hostSignal v).epochs = s.epochs := by unfold State.hostSignal; repeat (first | rfl | split)
@[simp] theorem State.hostSignal_queues (s : State) (v : Nat) : (s.hostSignal v).queues = s.queues := by unfold State.hostSignal; repeat (first | rfl | split)
@[simp] theorem State.hostSignal_ctxs (s : State) (v : Nat) : (s.hostSignal v).ctxs = s.ctxs := by unfold State.hostSignal; repeat (first | rfl | split)
@[simp] theorem State.hostSignal_lastU (s : State) (v : Nat) : (s.hostSignal v).lastU = s.lastU := by unfold State.hostSignal; repeat (first | rfl | split)
@[simp] theorem State.hostSignal_lastW (s : State) (v : Nat) : (s.hostSignal v).lastW = s.lastW := by unfold State.hostSignal; repeat (first | rfl | split)
@[simp] theorem State.hostSignal_fetchSeq (s : State) (v : Nat) : (s.hostSignal v).fetchSeq = s.fetchSeq := by unfold State.hostSignal; repeat (first | rfl | split)
@[simp] theorem State.hostSignal_admSeq (s : State) (v : Nat) : (s.hostSignal v).admSeq = s.admSeq := by unfold State.hostSignal; repeat (first | rfl | split)
@[simp] theorem State.hostSignal_readySeq (s : State) (v : Nat) : (s.hostSignal v).readySeq = s.readySeq := by unfold State.hostSignal; repeat (first | rfl | split)
@[simp] theorem State.hostSignal_sleep (s : State) (v : Nat) : (s.hostSignal v).sleep = s.sleep := by unfold State.hostSignal; repeat (first | rfl | split)
@[simp] theorem State.hostSignal_wdog (s : State) (v : Nat) : (s.hostSignal v).wdog = s.wdog := by unfold State.hostSignal; repeat (first | rfl | split)
@[simp] theorem State.hostSignal_telem (s : State) (v : Nat) : (s.hostSignal v).telem = s.telem := by unfold State.hostSignal; repeat (first | rfl | split)
@[simp] theorem State.hostSignal_vdies (s : State) (v : Nat) : (s.hostSignal v).vdies = s.vdies := by unfold State.hostSignal; repeat (first | rfl | split)
@[simp] theorem State.hostSignal_pdies (s : State) (v : Nat) : (s.hostSignal v).pdies = s.pdies := by unfold State.hostSignal; repeat (first | rfl | split)
@[simp] theorem State.hostSignal_sets (s : State) (v : Nat) : (s.hostSignal v).sets = s.sets := by unfold State.hostSignal; repeat (first | rfl | split)
@[simp] theorem State.hostSignal_bands (s : State) (v : Nat) : (s.hostSignal v).bands = s.bands := by unfold State.hostSignal; repeat (first | rfl | split)
@[simp] theorem State.hostSignal_params (s : State) (v : Nat) : (s.hostSignal v).params = s.params := by unfold State.hostSignal; repeat (first | rfl | split)
@[simp] theorem State.hostSignal_dies (s : State) (v : Nat) : (s.hostSignal v).dies = s.dies := by unfold State.hostSignal; repeat (first | rfl | split)
@[simp] theorem State.hostSignal_cws (s : State) (v : Nat) : (s.hostSignal v).cws = s.cws := by unfold State.hostSignal; repeat (first | rfl | split)
@[simp] theorem State.hostSignal_progs (s : State) (v : Nat) : (s.hostSignal v).progs = s.progs := by unfold State.hostSignal; repeat (first | rfl | split)
@[simp] theorem State.hostSignal_erases (s : State) (v : Nat) : (s.hostSignal v).erases = s.erases := by unfold State.hostSignal; repeat (first | rfl | split)
@[simp] theorem State.hostSignal_nextJob (s : State) (v : Nat) : (s.hostSignal v).nextJob = s.nextJob := by unfold State.hostSignal; repeat (first | rfl | split)
@[simp] theorem State.hostSignal_pln (s : State) (v : Nat) : (s.hostSignal v).pln = s.pln := by unfold State.hostSignal; repeat (first | rfl | split)
@[simp] theorem State.hostSignal_chans (s : State) (v : Nat) : (s.hostSignal v).chans = s.chans := by unfold State.hostSignal; repeat (first | rfl | split)
@[simp] theorem State.hostSignal_quads (s : State) (v : Nat) : (s.hostSignal v).quads = s.quads := by unfold State.hostSignal; repeat (first | rfl | split)
@[simp] theorem State.hostSignal_wbands (s : State) (v : Nat) : (s.hostSignal v).wbands = s.wbands := by unfold State.hostSignal; repeat (first | rfl | split)
@[simp] theorem State.hostSignal_journals (s : State) (v : Nat) : (s.hostSignal v).journals = s.journals := by unfold State.hostSignal; repeat (first | rfl | split)
@[simp] theorem State.hostSignal_pf (s : State) (v : Nat) : (s.hostSignal v).pf = s.pf := by unfold State.hostSignal; repeat (first | rfl | split)
@[simp] theorem State.hostSignal_tasks (s : State) (v : Nat) : (s.hostSignal v).tasks = s.tasks := by unfold State.hostSignal; repeat (first | rfl | split)
@[simp] theorem State.hostSignal_requeue (s : State) (v : Nat) : (s.hostSignal v).requeue = s.requeue := by unfold State.hostSignal; repeat (first | rfl | split)
@[simp] theorem State.hostSignal_rebuildPend (s : State) (v : Nat) : (s.hostSignal v).rebuildPend = s.rebuildPend := by unfold State.hostSignal; repeat (first | rfl | split)
@[simp] theorem State.hostSignal_patrol (s : State) (v : Nat) : (s.hostSignal v).patrol = s.patrol := by unfold State.hostSignal; repeat (first | rfl | split)
@[simp] theorem State.hostSignal_patCounts (s : State) (v : Nat) : (s.hostSignal v).patCounts = s.patCounts := by unfold State.hostSignal; repeat (first | rfl | split)
@[simp] theorem State.hostSignal_levels (s : State) (v : Nat) : (s.hostSignal v).levels = s.levels := by unfold State.hostSignal; repeat (first | rfl | split)
@[simp] theorem State.hostSignal_bursts (s : State) (v : Nat) : (s.hostSignal v).bursts = s.bursts := by unfold State.hostSignal; repeat (first | rfl | split)
@[simp] theorem State.hostSignal_llrs (s : State) (v : Nat) : (s.hostSignal v).llrs = s.llrs := by unfold State.hostSignal; repeat (first | rfl | split)
@[simp] theorem State.hostSignal_decs (s : State) (v : Nat) : (s.hostSignal v).decs = s.decs := by unfold State.hostSignal; repeat (first | rfl | split)
@[simp] theorem State.hostSignal_pair (s : State) (v : Nat) : (s.hostSignal v).pair = s.pair := by unfold State.hostSignal; repeat (first | rfl | split)
@[simp] theorem State.hostSignal_cfs (s : State) (v : Nat) : (s.hostSignal v).cfs = s.cfs := by unfold State.hostSignal; repeat (first | rfl | split)
@[simp] theorem State.hostSignal_staging (s : State) (v : Nat) : (s.hostSignal v).staging = s.staging := by unfold State.hostSignal; repeat (first | rfl | split)
@[simp] theorem State.hostSignal_liner (s : State) (v : Nat) : (s.hostSignal v).liner = s.liner := by unfold State.hostSignal; repeat (first | rfl | split)
@[simp] theorem State.hostSignal_mover (s : State) (v : Nat) : (s.hostSignal v).mover = s.mover := by unfold State.hostSignal; repeat (first | rfl | split)
@[simp] theorem State.hostSignal_moverQ (s : State) (v : Nat) : (s.hostSignal v).moverQ = s.moverQ := by unfold State.hostSignal; repeat (first | rfl | split)
@[simp] theorem State.hostSignal_census (s : State) (v : Nat) : (s.hostSignal v).census = s.census := by unfold State.hostSignal; repeat (first | rfl | split)

end Sys2Proof.Machine
end

