-- ==== Sys2Proof/Laws/Store.lean ====
section
/-! SUPPORT. Stores: what a read gives after a write, and that every operation keeps the canonical form. -/

namespace Sys2Proof.Machine

variable {α : Type} {d : Nat → α} {m : Store α} {k k' : Nat} {v : α}

theorem storeGet_storeIns (m : Store α) (k k' : Nat) (v : α) :
    storeGet d (storeIns k v m) k' = if k' = k then v else storeGet d m k' := by
  induction m with
  | nil => simp [storeIns, storeGet]
  | cons e t ih =>
    obtain ⟨a, b⟩ := e
    by_cases h1 : k < a
    · simp [storeIns, storeGet, h1]
    · by_cases h2 : k = a
      · subst h2
        by_cases h3 : k' = k <;> simp [storeIns, storeGet, h3]
      · simp only [storeIns, h1, h2, if_false, storeGet, ih]
        by_cases h3 : k' = k
        · subst h3; simp [h2]
        · simp [h3]

theorem storeGet_storeDel (m : Store α) (k k' : Nat) :
    storeGet d (storeDel k m) k' = if k' = k then d k' else storeGet d m k' := by
  induction m with
  | nil => simp [storeDel, storeGet]
  | cons e t ih =>
    obtain ⟨a, b⟩ := e
    by_cases h1 : k = a
    · subst h1
      by_cases h2 : k' = k
      · subst h2; simpa [storeDel] using ih
      · simp [storeDel, storeGet, ih, h2]
    · simp only [storeDel, h1, if_false, storeGet, ih]
      by_cases h2 : k' = k
      · subst h2; simp [h1]
      · simp [h2]

/-- A read after a write: the value written at its key, every other key as before. -/
theorem storeGet_storePut [DecidableEq α] (m : Store α) (k k' : Nat) (v : α) :
    storeGet d (storePut d m k v) k' = if k' = k then v else storeGet d m k' := by
  unfold storePut
  by_cases h : v = d k
  · by_cases h2 : k' = k
    · subst h2; simp [h, storeGet_storeDel]
    · simp [h, h2, storeGet_storeDel]
  · simp [h, storeGet_storeIns]

@[simp] theorem storeGet_storePut_self [DecidableEq α] : storeGet d (storePut d m k v) k = v := by
  simp [storeGet_storePut]

theorem storeGet_storePut_ne [DecidableEq α] (h : k' ≠ k) : storeGet d (storePut d m k v) k' = storeGet d m k' := by
  simp [storeGet_storePut, h]

@[simp] theorem storeGet_nil : storeGet d ([] : Store α) k = d k := rfl

/-! ## The canonical form -/

theorem storeSorted_mono {lo lo' : Option Nat} (h : storeSorted lo m = true)
    (hl : ∀ b, lo' = some b → ∃ a, lo = some a ∧ b ≤ a) : storeSorted lo' m = true := by
  cases m with
  | nil => rfl
  | cons e t =>
    obtain ⟨a, b⟩ := e
    cases lo' with
    | none => cases lo <;> simp_all [storeSorted]
    | some x =>
      obtain ⟨y, rfl, hy⟩ := hl x rfl
      simp only [storeSorted, Bool.and_eq_true, decide_eq_true_eq] at h ⊢
      exact ⟨by omega, h.2⟩

theorem storeSorted_storeDel {lo : Option Nat} (h : storeSorted lo m = true) : storeSorted lo (storeDel k m) = true := by
  induction m generalizing lo with
  | nil => rfl
  | cons e t ih =>
    obtain ⟨a, b⟩ := e
    simp only [storeSorted, Bool.and_eq_true] at h
    by_cases h1 : k = a
    · simp only [storeDel, h1, if_true]
      subst h1
      refine ih (storeSorted_mono h.2 ?_)
      intro x hx
      subst hx
      have := h.1
      exact ⟨k, rfl, by simp at this; omega⟩
    · simp only [storeDel, h1, if_false, storeSorted, Bool.and_eq_true]
      exact ⟨h.1, ih h.2⟩

theorem storeSorted_storeIns {lo : Option Nat} (h : storeSorted lo m = true) (hk : ∀ l, lo = some l → l < k) :
    storeSorted lo (storeIns k v m) = true := by
  induction m generalizing lo with
  | nil => cases lo <;> simp_all [storeIns, storeSorted]
  | cons e t ih =>
    obtain ⟨a, b⟩ := e
    simp only [storeSorted, Bool.and_eq_true] at h
    by_cases h1 : k < a
    · simp only [storeIns, h1, if_true, storeSorted, Bool.and_eq_true, decide_eq_true_eq]
      exact ⟨by cases lo <;> simp_all, trivial, h.2⟩
    · by_cases h2 : k = a
      · subst h2
        simp only [storeIns, h1, if_false, if_true, storeSorted, Bool.and_eq_true]
        exact h
      · simp only [storeIns, h1, h2, if_false, storeSorted, Bool.and_eq_true]
        refine ⟨h.1, ih h.2 ?_⟩
        intro l hl
        cases hl
        omega

theorem storeDel_mem {e : Nat × α} (h : e ∈ storeDel k m) : e ∈ m := by
  induction m with
  | nil => exact h
  | cons x t ih =>
    obtain ⟨a, b⟩ := x
    by_cases h1 : k = a
    · simp only [storeDel, h1, if_true] at h
      subst h1
      exact List.mem_cons_of_mem _ (ih h)
    · simp only [storeDel, h1, if_false, List.mem_cons] at h ⊢
      exact h.imp id ih

theorem storeIns_mem {e : Nat × α} (h : e ∈ storeIns k v m) : e = (k, v) ∨ e ∈ m := by
  induction m with
  | nil => exact Or.inl (by simpa [storeIns] using h)
  | cons x t ih =>
    obtain ⟨a, b⟩ := x
    simp only [storeIns] at h
    split at h
    · simpa using h
    · split at h
      · simp only [List.mem_cons] at h ⊢
        tauto
      · simp only [List.mem_cons] at h ⊢
        rcases h with h | h
        · exact Or.inr (Or.inl h)
        · exact (ih h).imp id Or.inr

/-- A write keeps the canonical form: keys strictly rising, no entry equal to what its key reads as unlisted. -/
theorem storePut_wf [DecidableEq α] (h : storeWf d m = true) : storeWf d (storePut d m k v) = true := by
  simp only [storeWf, Bool.and_eq_true, List.all_eq_true, decide_eq_true_eq] at h ⊢
  unfold storePut
  split
  · exact ⟨storeSorted_storeDel h.1, fun e he => h.2 e (storeDel_mem he)⟩
  · rename_i hv
    refine ⟨storeSorted_storeIns h.1 (by simp), fun e he => ?_⟩
    rcases storeIns_mem he with rfl | he
    · exact hv
    · exact h.2 e he

theorem storeWf_nil [DecidableEq α] : storeWf d ([] : Store α) = true := rfl

/-- Two canonical stores that read alike at every key are equal data. -/
theorem store_ext [DecidableEq α] {a b : Store α} (ha : storeWf d a = true) (hb : storeWf d b = true)
    (h : ∀ k, storeGet d a k = storeGet d b k) : a = b := by
  have lower : ∀ (l : Store α) (lo k : Nat), storeSorted (some lo) l = true → k ≤ lo → storeGet d l k = d k := by
    intro l
    induction l with
    | nil => intros; rfl
    | cons e t ih =>
      obtain ⟨x, y⟩ := e
      intro lo k hs hk
      simp only [storeSorted, Bool.and_eq_true, decide_eq_true_eq] at hs
      have : k ≠ x := by omega
      simp only [storeGet, this, if_false]
      exact ih x k hs.2 (by omega)
  have main : ∀ (l r : Store α) (lo lo' : Option Nat), storeSorted lo l = true → storeSorted lo' r = true →
      (∀ e ∈ l, e.2 ≠ d e.1) → (∀ e ∈ r, e.2 ≠ d e.1) → (∀ k, storeGet d l k = storeGet d r k) → l = r := by
    intro l
    induction l with
    | nil =>
      intro r lo lo' _ hr _ hn hg
      cases r with
      | nil => rfl
      | cons e t =>
        exfalso
        have := hg e.1
        simp only [storeGet, if_true] at this
        exact hn e (by simp) this.symm
    | cons e t ih =>
      obtain ⟨x, y⟩ := e
      intro r lo lo' hl hr hn hn' hg
      cases r with
      | nil =>
        exfalso
        have := hg x
        simp only [storeGet, if_true] at this
        exact hn (x, y) (by simp) this
      | cons e' t' =>
        obtain ⟨x', y'⟩ := e'
        simp only [storeSorted, Bool.and_eq_true] at hl hr
        have hx : x = x' := by
          rcases Nat.lt_trichotomy x x' with c | c | c
          · exfalso
            have h1 := hg x
            have c' : x ≠ x' := by omega
            simp only [storeGet, if_true, c', if_false] at h1
            exact hn (x, y) (by simp) (h1.trans (lower t' x' x hr.2 (by omega)))
          · exact c
          · exfalso
            have h1 := hg x'
            have c' : x' ≠ x := by omega
            simp only [storeGet, if_true, c', if_false] at h1
            exact hn' (x', y') (by simp) (h1.symm.trans (lower t x x' hl.2 (by omega)))
        subst hx
        have hy : y = y' := by
          have := hg x
          simpa only [storeGet, if_true] using this
        subst hy
        have ht : t = t' := by
          refine ih t' (some x) (some x) hl.2 hr.2 (fun e he => hn e (by simp [he])) (fun e he => hn' e (by simp [he])) ?_
          intro k
          by_cases hk : k = x
          · subst hk
            rw [lower t k k hl.2 (Nat.le_refl _), lower t' k k hr.2 (Nat.le_refl _)]
          · have := hg k
            simpa only [storeGet, hk, if_false] using this
        rw [ht]
  simp only [storeWf, Bool.and_eq_true, List.all_eq_true, decide_eq_true_eq] at ha hb
  exact main a b none none ha.1 hb.1 ha.2 hb.2 h

end Sys2Proof.Machine
end

