-- ==== Sys2Proof/Laws/Word.lean ====
section
/-! SUPPORT. Bit ranges of a register word: what a range reads after a write of the same or of another range. -/

namespace Sys2Proof

theorem maskBits_getLsbD (hi lo i : Nat) (h : i < 64) :
    (maskBits hi lo).getLsbD i = (decide (lo ≤ i) && decide (i < lo + spanBits hi lo)) := by
  simp only [maskBits, BitVec.getLsbD_ofNat, h, decide_true, Bool.true_and, Nat.testBit_shiftLeft,
    Nat.testBit_two_pow_sub_one]
  by_cases h1 : lo ≤ i
  · simp only [ge_iff_le, h1, decide_true, Bool.true_and, decide_eq_decide]
    omega
  · simp [h1]

theorem setBits_getLsbD (w : Word) (hi lo v i : Nat) (h : i < 64) :
    (setBits w hi lo v).getLsbD i =
      if lo ≤ i ∧ i < lo + spanBits hi lo then v.testBit (i - lo) else w.getLsbD i := by
  simp only [setBits, BitVec.getLsbD_or, BitVec.getLsbD_and, BitVec.getLsbD_not, h, decide_true, Bool.true_and,
    maskBits_getLsbD hi lo i h, BitVec.getLsbD_ofNat, Nat.testBit_shiftLeft, Nat.testBit_mod_two_pow]
  by_cases h1 : lo ≤ i
  · by_cases h2 : i < lo + spanBits hi lo
    · have : i - lo < spanBits hi lo := by omega
      simp [h1, h2, this]
    · have : ¬ i - lo < spanBits hi lo := by omega
      simp [h1, h2, this]
  · simp [h1]

theorem getBits_testBit (w : Word) (hi lo i : Nat) :
    (getBits w hi lo).testBit i = (decide (i < spanBits hi lo) && w.getLsbD (lo + i)) := by
  simp [getBits, Nat.testBit_mod_two_pow, Nat.testBit_shiftRight, BitVec.getLsbD]

/-- A range reads the low bits of what was last written to it. -/
theorem getBits_setBits_self (w : Word) (hi lo v : Nat) (h : hi < 64) :
    getBits (setBits w hi lo v) hi lo = v % 2 ^ spanBits hi lo := by
  apply Nat.eq_of_testBit_eq
  intro i
  rw [getBits_testBit, Nat.testBit_mod_two_pow]
  by_cases h1 : i < spanBits hi lo
  · have h2 : lo + i < 64 := by simp only [spanBits] at h1; omega
    rw [setBits_getLsbD w hi lo v (lo + i) h2]
    simp [h1]
  · simp [h1]

/-- A range that shares no bit with the one written keeps its value. -/
theorem getBits_setBits_other (w : Word) (hi lo hi' lo' v : Nat) (h : hi < lo' ∨ hi' < lo) (h64 : hi < 64) :
    getBits (setBits w hi' lo' v) hi lo = getBits w hi lo := by
  apply Nat.eq_of_testBit_eq
  intro i
  rw [getBits_testBit, getBits_testBit]
  by_cases h1 : i < spanBits hi lo
  · have h2 : lo + i < 64 := by simp only [spanBits] at h1; omega
    rw [setBits_getLsbD w hi' lo' v (lo + i) h2]
    have : ¬(lo' ≤ lo + i ∧ lo + i < lo' + spanBits hi' lo') := by simp only [spanBits] at h1 ⊢; omega
    rw [if_neg this]
  · simp [h1]

theorem getBits_lt (w : Word) (hi lo : Nat) : getBits w hi lo < 2 ^ spanBits hi lo :=
  Nat.mod_lt _ (Nat.two_pow_pos _)

/-- Bits outside the range written keep their values. -/
theorem setBits_outside (w : Word) (hi lo v i : Nat) (h : i < 64) (ho : i < lo ∨ hi < i) :
    (setBits w hi lo v).getLsbD i = w.getLsbD i := by
  rw [setBits_getLsbD w hi lo v i h, if_neg]
  simp only [spanBits]
  omega

theorem leBytes_length (n v : Nat) : (leBytes n v).length = n := by
  induction n generalizing v with
  | zero => rfl
  | succ n ih => simp [leBytes, ih]

/-- Bytes spell the number they were made of (R7). -/
theorem leNat_leBytes (n v : Nat) : leNat (leBytes n v) = v % 256 ^ n := by
  induction n generalizing v with
  | zero => simp [leBytes, leNat, Nat.mod_one]
  | succ n ih =>
    have e : (256 : Nat) ^ (n + 1) = 256 * 256 ^ n := Nat.pow_succ'
    rw [leBytes, leNat, ih, BitVec.toNat_ofNat, e, Nat.mod_mul]

theorem satAdd_le (bits a b : Nat) : satAdd bits a b ≤ 2 ^ bits - 1 := Nat.min_le_right _ _

/-- Two fields share no bit: they stand in different registers, or apart. -/
def Field.apart (f g : Field) : Bool := f.reg != g.reg || decide (f.hi < g.lo) || decide (g.hi < f.lo)

end Sys2Proof
end

