-- ==== Sys2Proof/Laws/Ops.lean ====
section
/-! SUPPORT. What the shared operations over registers do: reads after writes, raising, counting, and what they leave. -/

namespace Sys2Proof.Machine

/-! ## Registers and fields -/

theorem State.reg_setReg (s : State) (o o' : Nat) (w : Word) :
    (s.setReg o w).reg o' = if o' = o then w else s.reg o' := by
  simp [State.reg, State.setReg, storeGet_storePut]

@[simp] theorem State.reg_setReg_self (s : State) (o : Nat) (w : Word) : (s.setReg o w).reg o = w := by
  simp [State.reg_setReg]

theorem State.reg_setReg_ne {s : State} {o o' : Nat} {w : Word} (h : o' ≠ o) : (s.setReg o w).reg o' = s.reg o' := by
  simp [State.reg_setReg, h]

@[simp] theorem State.reg_setMod (s : State) (k : Nat) (m : Moderation) (o : Nat) : (s.setMod k m).reg o = s.reg o := rfl
@[simp] theorem State.reg_setHostMod (s : State) (k : Nat) (m : Moderation) (o : Nat) : (s.setHostMod k m).reg o = s.reg o := rfl
@[simp] theorem State.reg_emit (s : State) (x : Out) (o : Nat) : (s.emit x).reg o = s.reg o := rfl
@[simp] theorem State.reg_draw (s : State) (o : Nat) : s.draw.reg o = s.reg o := rfl
@[simp] theorem State.reg_peStep (s : State) (a o : Nat) : (s.peStep a).reg o = s.reg o := rfl
@[simp] theorem State.reg_setCtx (s : State) (k : Nat) (x : Ctx) (o : Nat) : (s.setCtx k x).reg o = s.reg o := rfl
@[simp] theorem State.reg_setQueue (s : State) (k : Nat) (x : Queue) (o : Nat) : (s.setQueue k x).reg o = s.reg o := rfl

/-- A field write changes its own register alone. -/
theorem State.reg_setF_ne {s : State} {f : Field} {v o : Nat} (h : o ≠ f.reg) : (s.setF f v).reg o = s.reg o := by
  simp [State.setF, State.reg_setReg, h]

/-- A field reads the low bits of what was last written to it. -/
theorem State.getF_setF_self (s : State) (f : Field) (v : Nat) (h : f.hi < 64) :
    (s.setF f v).getF f = v % 2 ^ spanBits f.hi f.lo := by
  simp [State.getF, State.setF, getBits_setBits_self, h]

theorem State.getF_setF_apart (s : State) (f g : Field) (v : Nat) (h : f.apart g = true) (h64 : f.hi < 64) :
    (s.setF g v).getF f = s.getF f := by
  simp only [Field.apart, Bool.or_eq_true, bne_iff_ne, decide_eq_true_eq, or_assoc] at h
  rcases h with h | h
  · simp [State.getF, State.reg_setF_ne h]
  · by_cases hr : f.reg = g.reg
    · simp only [State.getF, State.setF, hr, State.reg_setReg_self]
      exact getBits_setBits_other _ _ _ _ _ _ h h64
    · simp [State.getF, State.reg_setF_ne hr]

theorem State.getF_lt (s : State) (f : Field) : s.getF f < 2 ^ spanBits f.hi f.lo := getBits_lt _ _ _

/-- Registers read alike read alike in every field. -/
theorem State.getF_congr {s t : State} {f : Field} (h : s.reg f.reg = t.reg f.reg) : s.getF f = t.getF f := by
  simp [State.getF, h]

theorem State.flag_congr {s t : State} {f : Field} (h : s.reg f.reg = t.reg f.reg) : s.flag f = t.flag f := by
  simp [State.flag, State.getF_congr h]

/-- Registers are read from `regs`, by the reset values of the build and the side. -/
theorem State.reg_congr {s t : State} (hb : s.build = t.build) (hr : s.right = t.right) (h : s.regs = t.regs) (o : Nat) :
    s.reg o = t.reg o := by
  simp [State.reg, hb, hr, h]

/-! ## Raising -/

theorem pendF_self (src : Nat) : (pendF src).hi = src % 64 ∧ (pendF src).lo = src % 64 := ⟨rfl, rfl⟩

/-- A raise changes the pending registers alone. -/
theorem State.reg_raise {s : State} {src o : Nat} (h : o ≠ 0x20800 + 8 * (src / 64)) : (s.raise src).reg o = s.reg o := by
  unfold State.raise
  split
  · rfl
  · dsimp only
    split
    · rw [State.reg_setMod]; exact State.reg_setF_ne (f := pendF src) h
    · exact State.reg_setF_ne (f := pendF src) h

theorem State.getF_raise {s : State} {src : Nat} {f : Field} (h : f.reg ≠ 0x20800 + 8 * (src / 64)) :
    (s.raise src).getF f = s.getF f := State.getF_congr (State.reg_raise h)

/-- An assigned edge source is pending once raised (R514). -/
theorem State.isPending_raise {s : State} {src : Nat} (h : Ev.assigned s.build.pair src = true) (hl : Ev.level src = false) :
    (s.raise src).isPending src = true := by
  have hp : (pendF src).hi < 64 := Nat.mod_lt _ (by decide)
  have hs : spanBits (pendF src).hi (pendF src).lo = 1 := by simp [spanBits, pendF]
  have key : (s.setF (pendF src) 1).getF (pendF src) = 1 := by
    rw [State.getF_setF_self _ _ _ hp, hs]; rfl
  unfold State.raise
  simp only [State.isPending, hl, h, State.flag]
  simp only [Bool.not_true, Bool.false_or, Bool.false_eq_true, if_false]
  split
  · have : ∀ m, ((s.setF (pendF src) 1).setMod src m).getF (pendF src) = 1 := fun _ => key
    simp [this]
  · simp [key]

/-- The event concentrator alone changes at the raise of a completion source. -/
theorem State.raise_mod_other {s : State} {src k : Nat} (h : k ≠ src) : (s.raise src).mod k = s.mod k := by
  unfold State.raise
  split
  · rfl
  · dsimp only
    split
    · simp [State.mod, State.setMod, storeGet_storePut, h, State.setF, State.setReg]
    · rfl

/-! ## Counters -/

theorem State.reg_noteSat {s : State} {v v' m o : Nat} (h1 : o ≠ 0x400) (h2 : o ≠ 0x20800 + 8 * (Ev.counterSaturated / 64)) :
    (s.noteSat v v' m).reg o = s.reg o := by
  unfold State.noteSat
  split
  · rw [State.reg_raise h2, State.reg_setF_ne (f := F.GLB_FAULT_STAT.SAT_SEEN) h1]
  · rfl

/-- A saturating counter holds the sum, at most its largest value (R640). -/
theorem State.getF_countSat (s : State) (f : Field) (n : Nat) (h64 : f.hi < 64) (h1 : f.reg ≠ 0x400)
    (h2 : f.reg ≠ 0x20800 + 8 * (Ev.counterSaturated / 64)) :
    (s.countSat f n).getF f = satAdd (spanBits f.hi f.lo) (s.getF f) n := by
  unfold State.countSat
  dsimp only
  rw [State.getF_congr (State.reg_noteSat h1 h2), State.getF_setF_self _ _ _ h64]
  apply Nat.mod_eq_of_lt
  have : 0 < 2 ^ spanBits f.hi f.lo := Nat.two_pow_pos _
  have := satAdd_le (spanBits f.hi f.lo) (s.getF f) n
  omega

theorem State.reg_countSat {s : State} {f : Field} {n o : Nat} (h : o ≠ f.reg) (h1 : o ≠ 0x400)
    (h2 : o ≠ 0x20800 + 8 * (Ev.counterSaturated / 64)) : (s.countSat f n).reg o = s.reg o := by
  unfold State.countSat
  dsimp only
  rw [State.reg_noteSat h1 h2, State.reg_setF_ne h]

/-! ## Waking and held writes -/

theorem State.reg_startWake {s : State} {c o : Nat} (h : o ≠ 0xB0308) : (s.startWake c).reg o = s.reg o := by
  unfold State.startWake
  split
  · exact State.reg_setF_ne (s := { s with sleep := _ }) (f := F.PWR_STAT.LAST_WAKE) h
  · rfl

/-- A write that finds the unit asleep is served after wake: it is the last of the held writes. -/
theorem State.holdWrite_held (s : State) (h : HeldWrite) : (s.holdWrite h).sleep.held = s.sleep.held ++ [h] := by
  have : (s.startWake 1).sleep.held = s.sleep.held := by
    unfold State.startWake
    split <;> rfl
  simp [State.holdWrite, this]

end Sys2Proof.Machine
end

