-- ==== Sys2Proof/Laws/Fields.lean ====
section
/-! SUPPORT. What the updates of one part of the state leave unchanged, field by field, and the fabric requests. -/

namespace Sys2Proof.Machine

/-! ## updCfs -/

@[simp] theorem State.updCfs_build (s : State) (f : Cfs → Cfs) : (s.updCfs f).build = s.build := rfl
@[simp] theorem State.updCfs_right (s : State) (f : Cfs → Cfs) : (s.updCfs f).right = s.right := rfl
@[simp] theorem State.updCfs_pending (s : State) (f : Cfs → Cfs) : (s.updCfs f).pending = s.pending := rfl
@[simp] theorem State.updCfs_phase (s : State) (f : Cfs → Cfs) : (s.updCfs f).phase = s.phase := rfl
@[simp] theorem State.updCfs_windowsOpen (s : State) (f : Cfs → Cfs) : (s.updCfs f).windowsOpen = s.windowsOpen := rfl
@[simp] theorem State.updCfs_regs (s : State) (f : Cfs → Cfs) : (s.updCfs f).regs = s.regs := rfl
@[simp] theorem State.updCfs_latch (s : State) (f : Cfs → Cfs) : (s.updCfs f).latch = s.latch := rfl
@[simp] theorem State.updCfs_splits (s : State) (f : Cfs → Cfs) : (s.updCfs f).splits = s.splits := rfl
@[simp] theorem State.updCfs_readData (s : State) (f : Cfs → Cfs) : (s.updCfs f).readData = s.readData := rfl
@[simp] theorem State.updCfs_out (s : State) (f : Cfs → Cfs) : (s.updCfs f).out = s.out := rfl
@[simp] theorem State.updCfs_draws (s : State) (f : Cfs → Cfs) : (s.updCfs f).draws = s.draws := rfl
@[simp] theorem State.updCfs_subUs (s : State) (f : Cfs → Cfs) : (s.updCfs f).subUs = s.subUs := rfl
@[simp] theorem State.updCfs_evc (s : State) (f : Cfs → Cfs) : (s.updCfs f).evc = s.evc := rfl
@[simp] theorem State.updCfs_log (s : State) (f : Cfs → Cfs) : (s.updCfs f).log = s.log := rfl
@[simp] theorem State.updCfs_fab (s : State) (f : Cfs → Cfs) : (s.updCfs f).fab = s.fab := rfl
@[simp] theorem State.updCfs_epochs (s : State) (f : Cfs → Cfs) : (s.updCfs f).epochs = s.epochs := rfl
@[simp] theorem State.updCfs_queues (s : State) (f : Cfs → Cfs) : (s.updCfs f).queues = s.queues := rfl
@[simp] theorem State.updCfs_ctxs (s : State) (f : Cfs → Cfs) : (s.updCfs f).ctxs = s.ctxs := rfl
@[simp] theorem State.updCfs_lastU (s : State) (f : Cfs → Cfs) : (s.updCfs f).lastU = s.lastU := rfl
@[simp] theorem State.updCfs_lastW (s : State) (f : Cfs → Cfs) : (s.updCfs f).lastW = s.lastW := rfl
@[simp] theorem State.updCfs_fetchSeq (s : State) (f : Cfs → Cfs) : (s.updCfs f).fetchSeq = s.fetchSeq := rfl
@[simp] theorem State.updCfs_admSeq (s : State) (f : Cfs → Cfs) : (s.updCfs f).admSeq = s.admSeq := rfl
@[simp] theorem State.updCfs_readySeq (s : State) (f : Cfs → Cfs) : (s.updCfs f).readySeq = s.readySeq := rfl
@[simp] theorem State.updCfs_sleep (s : State) (f : Cfs → Cfs) : (s.updCfs f).sleep = s.sleep := rfl
@[simp] theorem State.updCfs_wdog (s : State) (f : Cfs → Cfs) : (s.updCfs f).wdog = s.wdog := rfl
@[simp] theorem State.updCfs_telem (s : State) (f : Cfs → Cfs) : (s.updCfs f).telem = s.telem := rfl
@[simp] theorem State.updCfs_host (s : State) (f : Cfs → Cfs) : (s.updCfs f).host = s.host := rfl
@[simp] theorem State.updCfs_vdies (s : State) (f : Cfs → Cfs) : (s.updCfs f).vdies = s.vdies := rfl
@[simp] theorem State.updCfs_pdies (s : State) (f : Cfs → Cfs) : (s.updCfs f).pdies = s.pdies := rfl
@[simp] theorem State.updCfs_sets (s : State) (f : Cfs → Cfs) : (s.updCfs f).sets = s.sets := rfl
@[simp] theorem State.updCfs_bands (s : State) (f : Cfs → Cfs) : (s.updCfs f).bands = s.bands := rfl
@[simp] theorem State.updCfs_params (s : State) (f : Cfs → Cfs) : (s.updCfs f).params = s.params := rfl
@[simp] theorem State.updCfs_dies (s : State) (f : Cfs → Cfs) : (s.updCfs f).dies = s.dies := rfl
@[simp] theorem State.updCfs_cws (s : State) (f : Cfs → Cfs) : (s.updCfs f).cws = s.cws := rfl
@[simp] theorem State.updCfs_progs (s : State) (f : Cfs → Cfs) : (s.updCfs f).progs = s.progs := rfl
@[simp] theorem State.updCfs_erases (s : State) (f : Cfs → Cfs) : (s.updCfs f).erases = s.erases := rfl
@[simp] theorem State.updCfs_nextJob (s : State) (f : Cfs → Cfs) : (s.updCfs f).nextJob = s.nextJob := rfl
@[simp] theorem State.updCfs_pln (s : State) (f : Cfs → Cfs) : (s.updCfs f).pln = s.pln := rfl
@[simp] theorem State.updCfs_chans (s : State) (f : Cfs → Cfs) : (s.updCfs f).chans = s.chans := rfl
@[simp] theorem State.updCfs_quads (s : State) (f : Cfs → Cfs) : (s.updCfs f).quads = s.quads := rfl
@[simp] theorem State.updCfs_wbands (s : State) (f : Cfs → Cfs) : (s.updCfs f).wbands = s.wbands := rfl
@[simp] theorem State.updCfs_journals (s : State) (f : Cfs → Cfs) : (s.updCfs f).journals = s.journals := rfl
@[simp] theorem State.updCfs_pf (s : State) (f : Cfs → Cfs) : (s.updCfs f).pf = s.pf := rfl
@[simp] theorem State.updCfs_tasks (s : State) (f : Cfs → Cfs) : (s.updCfs f).tasks = s.tasks := rfl
@[simp] theorem State.updCfs_requeue (s : State) (f : Cfs → Cfs) : (s.updCfs f).requeue = s.requeue := rfl
@[simp] theorem State.updCfs_rebuildPend (s : State) (f : Cfs → Cfs) : (s.updCfs f).rebuildPend = s.rebuildPend := rfl
@[simp] theorem State.updCfs_patrol (s : State) (f : Cfs → Cfs) : (s.updCfs f).patrol = s.patrol := rfl
@[simp] theorem State.updCfs_patCounts (s : State) (f : Cfs → Cfs) : (s.updCfs f).patCounts = s.patCounts := rfl
@[simp] theorem State.updCfs_levels (s : State) (f : Cfs → Cfs) : (s.updCfs f).levels = s.levels := rfl
@[simp] theorem State.updCfs_bursts (s : State) (f : Cfs → Cfs) : (s.updCfs f).bursts = s.bursts := rfl
@[simp] theorem State.updCfs_llrs (s : State) (f : Cfs → Cfs) : (s.updCfs f).llrs = s.llrs := rfl
@[simp] theorem State.updCfs_decs (s : State) (f : Cfs → Cfs) : (s.updCfs f).decs = s.decs := rfl
@[simp] theorem State.updCfs_pair (s : State) (f : Cfs → Cfs) : (s.updCfs f).pair = s.pair := rfl
@[simp] theorem State.updCfs_staging (s : State) (f : Cfs → Cfs) : (s.updCfs f).staging = s.staging := rfl
@[simp] theorem State.updCfs_liner (s : State) (f : Cfs → Cfs) : (s.updCfs f).liner = s.liner := rfl
@[simp] theorem State.updCfs_mover (s : State) (f : Cfs → Cfs) : (s.updCfs f).mover = s.mover := rfl
@[simp] theorem State.updCfs_moverQ (s : State) (f : Cfs → Cfs) : (s.updCfs f).moverQ = s.moverQ := rfl
@[simp] theorem State.updCfs_census (s : State) (f : Cfs → Cfs) : (s.updCfs f).census = s.census := rfl
@[simp] theorem State.updCfs_reg (s : State) (f : Cfs → Cfs) (o : Nat) : (s.updCfs f).reg o = s.reg o := rfl
@[simp] theorem State.updCfs_getF (s : State) (f : Cfs → Cfs) (g : Field) : (s.updCfs f).getF g = s.getF g := rfl

/-! ## updPair -/

@[simp] theorem State.updPair_build (s : State) (f : Pair → Pair) : (s.updPair f).build = s.build := rfl
@[simp] theorem State.updPair_right (s : State) (f : Pair → Pair) : (s.updPair f).right = s.right := rfl
@[simp] theorem State.updPair_pending (s : State) (f : Pair → Pair) : (s.updPair f).pending = s.pending := rfl
@[simp] theorem State.updPair_phase (s : State) (f : Pair → Pair) : (s.updPair f).phase = s.phase := rfl
@[simp] theorem State.updPair_windowsOpen (s : State) (f : Pair → Pair) : (s.updPair f).windowsOpen = s.windowsOpen := rfl
@[simp] theorem State.updPair_regs (s : State) (f : Pair → Pair) : (s.updPair f).regs = s.regs := rfl
@[simp] theorem State.updPair_latch (s : State) (f : Pair → Pair) : (s.updPair f).latch = s.latch := rfl
@[simp] theorem State.updPair_splits (s : State) (f : Pair → Pair) : (s.updPair f).splits = s.splits := rfl
@[simp] theorem State.updPair_readData (s : State) (f : Pair → Pair) : (s.updPair f).readData = s.readData := rfl
@[simp] theorem State.updPair_out (s : State) (f : Pair → Pair) : (s.updPair f).out = s.out := rfl
@[simp] theorem State.updPair_draws (s : State) (f : Pair → Pair) : (s.updPair f).draws = s.draws := rfl
@[simp] theorem State.updPair_subUs (s : State) (f : Pair → Pair) : (s.updPair f).subUs = s.subUs := rfl
@[simp] theorem State.updPair_evc (s : State) (f : Pair → Pair) : (s.updPair f).evc = s.evc := rfl
@[simp] theorem State.updPair_log (s : State) (f : Pair → Pair) : (s.updPair f).log = s.log := rfl
@[simp] theorem State.updPair_fab (s : State) (f : Pair → Pair) : (s.updPair f).fab = s.fab := rfl
@[simp] theorem State.updPair_epochs (s : State) (f : Pair → Pair) : (s.updPair f).epochs = s.epochs := rfl
@[simp] theorem State.updPair_queues (s : State) (f : Pair → Pair) : (s.updPair f).queues = s.queues := rfl
@[simp] theorem State.updPair_ctxs (s : State) (f : Pair → Pair) : (s.updPair f).ctxs = s.ctxs := rfl
@[simp] theorem State.updPair_lastU (s : State) (f : Pair → Pair) : (s.updPair f).lastU = s.lastU := rfl
@[simp] theorem State.updPair_lastW (s : State) (f : Pair → Pair) : (s.updPair f).lastW = s.lastW := rfl
@[simp] theorem State.updPair_fetchSeq (s : State) (f : Pair → Pair) : (s.updPair f).fetchSeq = s.fetchSeq := rfl
@[simp] theorem State.updPair_admSeq (s : State) (f : Pair → Pair) : (s.updPair f).admSeq = s.admSeq := rfl
@[simp] theorem State.updPair_readySeq (s : State) (f : Pair → Pair) : (s.updPair f).readySeq = s.readySeq := rfl
@[simp] theorem State.updPair_sleep (s : State) (f : Pair → Pair) : (s.updPair f).sleep = s.sleep := rfl
@[simp] theorem State.updPair_wdog (s : State) (f : Pair → Pair) : (s.updPair f).wdog = s.wdog := rfl
@[simp] theorem State.updPair_telem (s : State) (f : Pair → Pair) : (s.updPair f).telem = s.telem := rfl
@[simp] theorem State.updPair_host (s : State) (f : Pair → Pair) : (s.updPair f).host = s.host := rfl
@[simp] theorem State.updPair_vdies (s : State) (f : Pair → Pair) : (s.updPair f).vdies = s.vdies := rfl
@[simp] theorem State.updPair_pdies (s : State) (f : Pair → Pair) : (s.updPair f).pdies = s.pdies := rfl
@[simp] theorem State.updPair_sets (s : State) (f : Pair → Pair) : (s.updPair f).sets = s.sets := rfl
@[simp] theorem State.updPair_bands (s : State) (f : Pair → Pair) : (s.updPair f).bands = s.bands := rfl
@[simp] theorem State.updPair_params (s : State) (f : Pair → Pair) : (s.updPair f).params = s.params := rfl
@[simp] theorem State.updPair_dies (s : State) (f : Pair → Pair) : (s.updPair f).dies = s.dies := rfl
@[simp] theorem State.updPair_cws (s : State) (f : Pair → Pair) : (s.updPair f).cws = s.cws := rfl
@[simp] theorem State.updPair_progs (s : State) (f : Pair → Pair) : (s.updPair f).progs = s.progs := rfl
@[simp] theorem State.updPair_erases (s : State) (f : Pair → Pair) : (s.updPair f).erases = s.erases := rfl
@[simp] theorem State.updPair_nextJob (s : State) (f : Pair → Pair) : (s.updPair f).nextJob = s.nextJob := rfl
@[simp] theorem State.updPair_pln (s : State) (f : Pair → Pair) : (s.updPair f).pln = s.pln := rfl
@[simp] theorem State.updPair_chans (s : State) (f : Pair → Pair) : (s.updPair f).chans = s.chans := rfl
@[simp] theorem State.updPair_quads (s : State) (f : Pair → Pair) : (s.updPair f).quads = s.quads := rfl
@[simp] theorem State.updPair_wbands (s : State) (f : Pair → Pair) : (s.updPair f).wbands = s.wbands := rfl
@[simp] theorem State.updPair_journals (s : State) (f : Pair → Pair) : (s.updPair f).journals = s.journals := rfl
@[simp] theorem State.updPair_pf (s : State) (f : Pair → Pair) : (s.updPair f).pf = s.pf := rfl
@[simp] theorem State.updPair_tasks (s : State) (f : Pair → Pair) : (s.updPair f).tasks = s.tasks := rfl
@[simp] theorem State.updPair_requeue (s : State) (f : Pair → Pair) : (s.updPair f).requeue = s.requeue := rfl
@[simp] theorem State.updPair_rebuildPend (s : State) (f : Pair → Pair) : (s.updPair f).rebuildPend = s.rebuildPend := rfl
@[simp] theorem State.updPair_patrol (s : State) (f : Pair → Pair) : (s.updPair f).patrol = s.patrol := rfl
@[simp] theorem State.updPair_patCounts (s : State) (f : Pair → Pair) : (s.updPair f).patCounts = s.patCounts := rfl
@[simp] theorem State.updPair_levels (s : State) (f : Pair → Pair) : (s.updPair f).levels = s.levels := rfl
@[simp] theorem State.updPair_bursts (s : State) (f : Pair → Pair) : (s.updPair f).bursts = s.bursts := rfl
@[simp] theorem State.updPair_llrs (s : State) (f : Pair → Pair) : (s.updPair f).llrs = s.llrs := rfl
@[simp] theorem State.updPair_decs (s : State) (f : Pair → Pair) : (s.updPair f).decs = s.decs := rfl
@[simp] theorem State.updPair_cfs (s : State) (f : Pair → Pair) : (s.updPair f).cfs = s.cfs := rfl
@[simp] theorem State.updPair_staging (s : State) (f : Pair → Pair) : (s.updPair f).staging = s.staging := rfl
@[simp] theorem State.updPair_liner (s : State) (f : Pair → Pair) : (s.updPair f).liner = s.liner := rfl
@[simp] theorem State.updPair_mover (s : State) (f : Pair → Pair) : (s.updPair f).mover = s.mover := rfl
@[simp] theorem State.updPair_moverQ (s : State) (f : Pair → Pair) : (s.updPair f).moverQ = s.moverQ := rfl
@[simp] theorem State.updPair_census (s : State) (f : Pair → Pair) : (s.updPair f).census = s.census := rfl
@[simp] theorem State.updPair_reg (s : State) (f : Pair → Pair) (o : Nat) : (s.updPair f).reg o = s.reg o := rfl
@[simp] theorem State.updPair_getF (s : State) (f : Pair → Pair) (g : Field) : (s.updPair f).getF g = s.getF g := rfl

/-! ## updLiner -/

@[simp] theorem State.updLiner_build (s : State) (f : Liner → Liner) : (s.updLiner f).build = s.build := rfl
@[simp] theorem State.updLiner_right (s : State) (f : Liner → Liner) : (s.updLiner f).right = s.right := rfl
@[simp] theorem State.updLiner_pending (s : State) (f : Liner → Liner) : (s.updLiner f).pending = s.pending := rfl
@[simp] theorem State.updLiner_phase (s : State) (f : Liner → Liner) : (s.updLiner f).phase = s.phase := rfl
@[simp] theorem State.updLiner_windowsOpen (s : State) (f : Liner → Liner) : (s.updLiner f).windowsOpen = s.windowsOpen := rfl
@[simp] theorem State.updLiner_regs (s : State) (f : Liner → Liner) : (s.updLiner f).regs = s.regs := rfl
@[simp] theorem State.updLiner_latch (s : State) (f : Liner → Liner) : (s.updLiner f).latch = s.latch := rfl
@[simp] theorem State.updLiner_splits (s : State) (f : Liner → Liner) : (s.updLiner f).splits = s.splits := rfl
@[simp] theorem State.updLiner_readData (s : State) (f : Liner → Liner) : (s.updLiner f).readData = s.readData := rfl
@[simp] theorem State.updLiner_out (s : State) (f : Liner → Liner) : (s.updLiner f).out = s.out := rfl
@[simp] theorem State.updLiner_draws (s : State) (f : Liner → Liner) : (s.updLiner f).draws = s.draws := rfl
@[simp] theorem State.updLiner_subUs (s : State) (f : Liner → Liner) : (s.updLiner f).subUs = s.subUs := rfl
@[simp] theorem State.updLiner_evc (s : State) (f : Liner → Liner) : (s.updLiner f).evc = s.evc := rfl
@[simp] theorem State.updLiner_log (s : State) (f : Liner → Liner) : (s.updLiner f).log = s.log := rfl
@[simp] theorem State.updLiner_fab (s : State) (f : Liner → Liner) : (s.updLiner f).fab = s.fab := rfl
@[simp] theorem State.updLiner_epochs (s : State) (f : Liner → Liner) : (s.updLiner f).epochs = s.epochs := rfl
@[simp] theorem State.updLiner_queues (s : State) (f : Liner → Liner) : (s.updLiner f).queues = s.queues := rfl
@[simp] theorem State.updLiner_ctxs (s : State) (f : Liner → Liner) : (s.updLiner f).ctxs = s.ctxs := rfl
@[simp] theorem State.updLiner_lastU (s : State) (f : Liner → Liner) : (s.updLiner f).lastU = s.lastU := rfl
@[simp] theorem State.updLiner_lastW (s : State) (f : Liner → Liner) : (s.updLiner f).lastW = s.lastW := rfl
@[simp] theorem State.updLiner_fetchSeq (s : State) (f : Liner → Liner) : (s.updLiner f).fetchSeq = s.fetchSeq := rfl
@[simp] theorem State.updLiner_admSeq (s : State) (f : Liner → Liner) : (s.updLiner f).admSeq = s.admSeq := rfl
@[simp] theorem State.updLiner_readySeq (s : State) (f : Liner → Liner) : (s.updLiner f).readySeq = s.readySeq := rfl
@[simp] theorem State.updLiner_sleep (s : State) (f : Liner → Liner) : (s.updLiner f).sleep = s.sleep := rfl
@[simp] theorem State.updLiner_wdog (s : State) (f : Liner → Liner) : (s.updLiner f).wdog = s.wdog := rfl
@[simp] theorem State.updLiner_telem (s : State) (f : Liner → Liner) : (s.updLiner f).telem = s.telem := rfl
@[simp] theorem State.updLiner_host (s : State) (f : Liner → Liner) : (s.updLiner f).host = s.host := rfl
@[simp] theorem State.updLiner_vdies (s : State) (f : Liner → Liner) : (s.updLiner f).vdies = s.vdies := rfl
@[simp] theorem State.updLiner_pdies (s : State) (f : Liner → Liner) : (s.updLiner f).pdies = s.pdies := rfl
@[simp] theorem State.updLiner_sets (s : State) (f : Liner → Liner) : (s.updLiner f).sets = s.sets := rfl
@[simp] theorem State.updLiner_bands (s : State) (f : Liner → Liner) : (s.updLiner f).bands = s.bands := rfl
@[simp] theorem State.updLiner_params (s : State) (f : Liner → Liner) : (s.updLiner f).params = s.params := rfl
@[simp] theorem State.updLiner_dies (s : State) (f : Liner → Liner) : (s.updLiner f).dies = s.dies := rfl
@[simp] theorem State.updLiner_cws (s : State) (f : Liner → Liner) : (s.updLiner f).cws = s.cws := rfl
@[simp] theorem State.updLiner_progs (s : State) (f : Liner → Liner) : (s.updLiner f).progs = s.progs := rfl
@[simp] theorem State.updLiner_erases (s : State) (f : Liner → Liner) : (s.updLiner f).erases = s.erases := rfl
@[simp] theorem State.updLiner_nextJob (s : State) (f : Liner → Liner) : (s.updLiner f).nextJob = s.nextJob := rfl
@[simp] theorem State.updLiner_pln (s : State) (f : Liner → Liner) : (s.updLiner f).pln = s.pln := rfl
@[simp] theorem State.updLiner_chans (s : State) (f : Liner → Liner) : (s.updLiner f).chans = s.chans := rfl
@[simp] theorem State.updLiner_quads (s : State) (f : Liner → Liner) : (s.updLiner f).quads = s.quads := rfl
@[simp] theorem State.updLiner_wbands (s : State) (f : Liner → Liner) : (s.updLiner f).wbands = s.wbands := rfl
@[simp] theorem State.updLiner_journals (s : State) (f : Liner → Liner) : (s.updLiner f).journals = s.journals := rfl
@[simp] theorem State.updLiner_pf (s : State) (f : Liner → Liner) : (s.updLiner f).pf = s.pf := rfl
@[simp] theorem State.updLiner_tasks (s : State) (f : Liner → Liner) : (s.updLiner f).tasks = s.tasks := rfl
@[simp] theorem State.updLiner_requeue (s : State) (f : Liner → Liner) : (s.updLiner f).requeue = s.requeue := rfl
@[simp] theorem State.updLiner_rebuildPend (s : State) (f : Liner → Liner) : (s.updLiner f).rebuildPend = s.rebuildPend := rfl
@[simp] theorem State.updLiner_patrol (s : State) (f : Liner → Liner) : (s.updLiner f).patrol = s.patrol := rfl
@[simp] theorem State.updLiner_patCounts (s : State) (f : Liner → Liner) : (s.updLiner f).patCounts = s.patCounts := rfl
@[simp] theorem State.updLiner_levels (s : State) (f : Liner → Liner) : (s.updLiner f).levels = s.levels := rfl
@[simp] theorem State.updLiner_bursts (s : State) (f : Liner → Liner) : (s.updLiner f).bursts = s.bursts := rfl
@[simp] theorem State.updLiner_llrs (s : State) (f : Liner → Liner) : (s.updLiner f).llrs = s.llrs := rfl
@[simp] theorem State.updLiner_decs (s : State) (f : Liner → Liner) : (s.updLiner f).decs = s.decs := rfl
@[simp] theorem State.updLiner_pair (s : State) (f : Liner → Liner) : (s.updLiner f).pair = s.pair := rfl
@[simp] theorem State.updLiner_cfs (s : State) (f : Liner → Liner) : (s.updLiner f).cfs = s.cfs := rfl
@[simp] theorem State.updLiner_staging (s : State) (f : Liner → Liner) : (s.updLiner f).staging = s.staging := rfl
@[simp] theorem State.updLiner_mover (s : State) (f : Liner → Liner) : (s.updLiner f).mover = s.mover := rfl
@[simp] theorem State.updLiner_moverQ (s : State) (f : Liner → Liner) : (s.updLiner f).moverQ = s.moverQ := rfl
@[simp] theorem State.updLiner_census (s : State) (f : Liner → Liner) : (s.updLiner f).census = s.census := rfl
@[simp] theorem State.updLiner_reg (s : State) (f : Liner → Liner) (o : Nat) : (s.updLiner f).reg o = s.reg o := rfl
@[simp] theorem State.updLiner_getF (s : State) (f : Liner → Liner) (g : Field) : (s.updLiner f).getF g = s.getF g := rfl

/-! ## updCensus -/

@[simp] theorem State.updCensus_build (s : State) (f : Census → Census) : (s.updCensus f).build = s.build := rfl
@[simp] theorem State.updCensus_right (s : State) (f : Census → Census) : (s.updCensus f).right = s.right := rfl
@[simp] theorem State.updCensus_pending (s : State) (f : Census → Census) : (s.updCensus f).pending = s.pending := rfl
@[simp] theorem State.updCensus_phase (s : State) (f : Census → Census) : (s.updCensus f).phase = s.phase := rfl
@[simp] theorem State.updCensus_windowsOpen (s : State) (f : Census → Census) : (s.updCensus f).windowsOpen = s.windowsOpen := rfl
@[simp] theorem State.updCensus_regs (s : State) (f : Census → Census) : (s.updCensus f).regs = s.regs := rfl
@[simp] theorem State.updCensus_latch (s : State) (f : Census → Census) : (s.updCensus f).latch = s.latch := rfl
@[simp] theorem State.updCensus_splits (s : State) (f : Census → Census) : (s.updCensus f).splits = s.splits := rfl
@[simp] theorem State.updCensus_readData (s : State) (f : Census → Census) : (s.updCensus f).readData = s.readData := rfl
@[simp] theorem State.updCensus_out (s : State) (f : Census → Census) : (s.updCensus f).out = s.out := rfl
@[simp] theorem State.updCensus_draws (s : State) (f : Census → Census) : (s.updCensus f).draws = s.draws := rfl
@[simp] theorem State.updCensus_subUs (s : State) (f : Census → Census) : (s.updCensus f).subUs = s.subUs := rfl
@[simp] theorem State.updCensus_evc (s : State) (f : Census → Census) : (s.updCensus f).evc = s.evc := rfl
@[simp] theorem State.updCensus_log (s : State) (f : Census → Census) : (s.updCensus f).log = s.log := rfl
@[simp] theorem State.updCensus_fab (s : State) (f : Census → Census) : (s.updCensus f).fab = s.fab := rfl
@[simp] theorem State.updCensus_epochs (s : State) (f : Census → Census) : (s.updCensus f).epochs = s.epochs := rfl
@[simp] theorem State.updCensus_queues (s : State) (f : Census → Census) : (s.updCensus f).queues = s.queues := rfl
@[simp] theorem State.updCensus_ctxs (s : State) (f : Census → Census) : (s.updCensus f).ctxs = s.ctxs := rfl
@[simp] theorem State.updCensus_lastU (s : State) (f : Census → Census) : (s.updCensus f).lastU = s.lastU := rfl
@[simp] theorem State.updCensus_lastW (s : State) (f : Census → Census) : (s.updCensus f).lastW = s.lastW := rfl
@[simp] theorem State.updCensus_fetchSeq (s : State) (f : Census → Census) : (s.updCensus f).fetchSeq = s.fetchSeq := rfl
@[simp] theorem State.updCensus_admSeq (s : State) (f : Census → Census) : (s.updCensus f).admSeq = s.admSeq := rfl
@[simp] theorem State.updCensus_readySeq (s : State) (f : Census → Census) : (s.updCensus f).readySeq = s.readySeq := rfl
@[simp] theorem State.updCensus_sleep (s : State) (f : Census → Census) : (s.updCensus f).sleep = s.sleep := rfl
@[simp] theorem State.updCensus_wdog (s : State) (f : Census → Census) : (s.updCensus f).wdog = s.wdog := rfl
@[simp] theorem State.updCensus_telem (s : State) (f : Census → Census) : (s.updCensus f).telem = s.telem := rfl
@[simp] theorem State.updCensus_host (s : State) (f : Census → Census) : (s.updCensus f).host = s.host := rfl
@[simp] theorem State.updCensus_vdies (s : State) (f : Census → Census) : (s.updCensus f).vdies = s.vdies := rfl
@[simp] theorem State.updCensus_pdies (s : State) (f : Census → Census) : (s.updCensus f).pdies = s.pdies := rfl
@[simp] theorem State.updCensus_sets (s : State) (f : Census → Census) : (s.updCensus f).sets = s.sets := rfl
@[simp] theorem State.updCensus_bands (s : State) (f : Census → Census) : (s.updCensus f).bands = s.bands := rfl
@[simp] theorem State.updCensus_params (s : State) (f : Census → Census) : (s.updCensus f).params = s.params := rfl
@[simp] theorem State.updCensus_dies (s : State) (f : Census → Census) : (s.updCensus f).dies = s.dies := rfl
@[simp] theorem State.updCensus_cws (s : State) (f : Census → Census) : (s.updCensus f).cws = s.cws := rfl
@[simp] theorem State.updCensus_progs (s : State) (f : Census → Census) : (s.updCensus f).progs = s.progs := rfl
@[simp] theorem State.updCensus_erases (s : State) (f : Census → Census) : (s.updCensus f).erases = s.erases := rfl
@[simp] theorem State.updCensus_nextJob (s : State) (f : Census → Census) : (s.updCensus f).nextJob = s.nextJob := rfl
@[simp] theorem State.updCensus_pln (s : State) (f : Census → Census) : (s.updCensus f).pln = s.pln := rfl
@[simp] theorem State.updCensus_chans (s : State) (f : Census → Census) : (s.updCensus f).chans = s.chans := rfl
@[simp] theorem State.updCensus_quads (s : State) (f : Census → Census) : (s.updCensus f).quads = s.quads := rfl
@[simp] theorem State.updCensus_wbands (s : State) (f : Census → Census) : (s.updCensus f).wbands = s.wbands := rfl
@[simp] theorem State.updCensus_journals (s : State) (f : Census → Census) : (s.updCensus f).journals = s.journals := rfl
@[simp] theorem State.updCensus_pf (s : State) (f : Census → Census) : (s.updCensus f).pf = s.pf := rfl
@[simp] theorem State.updCensus_tasks (s : State) (f : Census → Census) : (s.updCensus f).tasks = s.tasks := rfl
@[simp] theorem State.updCensus_requeue (s : State) (f : Census → Census) : (s.updCensus f).requeue = s.requeue := rfl
@[simp] theorem State.updCensus_rebuildPend (s : State) (f : Census → Census) : (s.updCensus f).rebuildPend = s.rebuildPend := rfl
@[simp] theorem State.updCensus_patrol (s : State) (f : Census → Census) : (s.updCensus f).patrol = s.patrol := rfl
@[simp] theorem State.updCensus_patCounts (s : State) (f : Census → Census) : (s.updCensus f).patCounts = s.patCounts := rfl
@[simp] theorem State.updCensus_levels (s : State) (f : Census → Census) : (s.updCensus f).levels = s.levels := rfl
@[simp] theorem State.updCensus_bursts (s : State) (f : Census → Census) : (s.updCensus f).bursts = s.bursts := rfl
@[simp] theorem State.updCensus_llrs (s : State) (f : Census → Census) : (s.updCensus f).llrs = s.llrs := rfl
@[simp] theorem State.updCensus_decs (s : State) (f : Census → Census) : (s.updCensus f).decs = s.decs := rfl
@[simp] theorem State.updCensus_pair (s : State) (f : Census → Census) : (s.updCensus f).pair = s.pair := rfl
@[simp] theorem State.updCensus_cfs (s : State) (f : Census → Census) : (s.updCensus f).cfs = s.cfs := rfl
@[simp] theorem State.updCensus_staging (s : State) (f : Census → Census) : (s.updCensus f).staging = s.staging := rfl
@[simp] theorem State.updCensus_liner (s : State) (f : Census → Census) : (s.updCensus f).liner = s.liner := rfl
@[simp] theorem State.updCensus_mover (s : State) (f : Census → Census) : (s.updCensus f).mover = s.mover := rfl
@[simp] theorem State.updCensus_moverQ (s : State) (f : Census → Census) : (s.updCensus f).moverQ = s.moverQ := rfl
@[simp] theorem State.updCensus_reg (s : State) (f : Census → Census) (o : Nat) : (s.updCensus f).reg o = s.reg o := rfl
@[simp] theorem State.updCensus_getF (s : State) (f : Census → Census) (g : Field) : (s.updCensus f).getF g = s.getF g := rfl

/-! ## bumpPln -/

@[simp] theorem State.bumpPln_build (s : State) (f : Planner → Planner) : (s.bumpPln f).build = s.build := rfl
@[simp] theorem State.bumpPln_right (s : State) (f : Planner → Planner) : (s.bumpPln f).right = s.right := rfl
@[simp] theorem State.bumpPln_pending (s : State) (f : Planner → Planner) : (s.bumpPln f).pending = s.pending := rfl
@[simp] theorem State.bumpPln_phase (s : State) (f : Planner → Planner) : (s.bumpPln f).phase = s.phase := rfl
@[simp] theorem State.bumpPln_windowsOpen (s : State) (f : Planner → Planner) : (s.bumpPln f).windowsOpen = s.windowsOpen := rfl
@[simp] theorem State.bumpPln_regs (s : State) (f : Planner → Planner) : (s.bumpPln f).regs = s.regs := rfl
@[simp] theorem State.bumpPln_latch (s : State) (f : Planner → Planner) : (s.bumpPln f).latch = s.latch := rfl
@[simp] theorem State.bumpPln_splits (s : State) (f : Planner → Planner) : (s.bumpPln f).splits = s.splits := rfl
@[simp] theorem State.bumpPln_readData (s : State) (f : Planner → Planner) : (s.bumpPln f).readData = s.readData := rfl
@[simp] theorem State.bumpPln_out (s : State) (f : Planner → Planner) : (s.bumpPln f).out = s.out := rfl
@[simp] theorem State.bumpPln_draws (s : State) (f : Planner → Planner) : (s.bumpPln f).draws = s.draws := rfl
@[simp] theorem State.bumpPln_subUs (s : State) (f : Planner → Planner) : (s.bumpPln f).subUs = s.subUs := rfl
@[simp] theorem State.bumpPln_evc (s : State) (f : Planner → Planner) : (s.bumpPln f).evc = s.evc := rfl
@[simp] theorem State.bumpPln_log (s : State) (f : Planner → Planner) : (s.bumpPln f).log = s.log := rfl
@[simp] theorem State.bumpPln_fab (s : State) (f : Planner → Planner) : (s.bumpPln f).fab = s.fab := rfl
@[simp] theorem State.bumpPln_epochs (s : State) (f : Planner → Planner) : (s.bumpPln f).epochs = s.epochs := rfl
@[simp] theorem State.bumpPln_queues (s : State) (f : Planner → Planner) : (s.bumpPln f).queues = s.queues := rfl
@[simp] theorem State.bumpPln_ctxs (s : State) (f : Planner → Planner) : (s.bumpPln f).ctxs = s.ctxs := rfl
@[simp] theorem State.bumpPln_lastU (s : State) (f : Planner → Planner) : (s.bumpPln f).lastU = s.lastU := rfl
@[simp] theorem State.bumpPln_lastW (s : State) (f : Planner → Planner) : (s.bumpPln f).lastW = s.lastW := rfl
@[simp] theorem State.bumpPln_fetchSeq (s : State) (f : Planner → Planner) : (s.bumpPln f).fetchSeq = s.fetchSeq := rfl
@[simp] theorem State.bumpPln_admSeq (s : State) (f : Planner → Planner) : (s.bumpPln f).admSeq = s.admSeq := rfl
@[simp] theorem State.bumpPln_readySeq (s : State) (f : Planner → Planner) : (s.bumpPln f).readySeq = s.readySeq := rfl
@[simp] theorem State.bumpPln_sleep (s : State) (f : Planner → Planner) : (s.bumpPln f).sleep = s.sleep := rfl
@[simp] theorem State.bumpPln_wdog (s : State) (f : Planner → Planner) : (s.bumpPln f).wdog = s.wdog := rfl
@[simp] theorem State.bumpPln_telem (s : State) (f : Planner → Planner) : (s.bumpPln f).telem = s.telem := rfl
@[simp] theorem State.bumpPln_host (s : State) (f : Planner → Planner) : (s.bumpPln f).host = s.host := rfl
@[simp] theorem State.bumpPln_vdies (s : State) (f : Planner → Planner) : (s.bumpPln f).vdies = s.vdies := rfl
@[simp] theorem State.bumpPln_pdies (s : State) (f : Planner → Planner) : (s.bumpPln f).pdies = s.pdies := rfl
@[simp] theorem State.bumpPln_sets (s : State) (f : Planner → Planner) : (s.bumpPln f).sets = s.sets := rfl
@[simp] theorem State.bumpPln_bands (s : State) (f : Planner → Planner) : (s.bumpPln f).bands = s.bands := rfl
@[simp] theorem State.bumpPln_params (s : State) (f : Planner → Planner) : (s.bumpPln f).params = s.params := rfl
@[simp] theorem State.bumpPln_dies (s : State) (f : Planner → Planner) : (s.bumpPln f).dies = s.dies := rfl
@[simp] theorem State.bumpPln_cws (s : State) (f : Planner → Planner) : (s.bumpPln f).cws = s.cws := rfl
@[simp] theorem State.bumpPln_progs (s : State) (f : Planner → Planner) : (s.bumpPln f).progs = s.progs := rfl
@[simp] theorem State.bumpPln_erases (s : State) (f : Planner → Planner) : (s.bumpPln f).erases = s.erases := rfl
@[simp] theorem State.bumpPln_nextJob (s : State) (f : Planner → Planner) : (s.bumpPln f).nextJob = s.nextJob := rfl
@[simp] theorem State.bumpPln_chans (s : State) (f : Planner → Planner) : (s.bumpPln f).chans = s.chans := rfl
@[simp] theorem State.bumpPln_quads (s : State) (f : Planner → Planner) : (s.bumpPln f).quads = s.quads := rfl
@[simp] theorem State.bumpPln_wbands (s : State) (f : Planner → Planner) : (s.bumpPln f).wbands = s.wbands := rfl
@[simp] theorem State.bumpPln_journals (s : State) (f : Planner → Planner) : (s.bumpPln f).journals = s.journals := rfl
@[simp] theorem State.bumpPln_pf (s : State) (f : Planner → Planner) : (s.bumpPln f).pf = s.pf := rfl
@[simp] theorem State.bumpPln_tasks (s : State) (f : Planner → Planner) : (s.bumpPln f).tasks = s.tasks := rfl
@[simp] theorem State.bumpPln_requeue (s : State) (f : Planner → Planner) : (s.bumpPln f).requeue = s.requeue := rfl
@[simp] theorem State.bumpPln_rebuildPend (s : State) (f : Planner → Planner) : (s.bumpPln f).rebuildPend = s.rebuildPend := rfl
@[simp] theorem State.bumpPln_patrol (s : State) (f : Planner → Planner) : (s.bumpPln f).patrol = s.patrol := rfl
@[simp] theorem State.bumpPln_patCounts (s : State) (f : Planner → Planner) : (s.bumpPln f).patCounts = s.patCounts := rfl
@[simp] theorem State.bumpPln_levels (s : State) (f : Planner → Planner) : (s.bumpPln f).levels = s.levels := rfl
@[simp] theorem State.bumpPln_bursts (s : State) (f : Planner → Planner) : (s.bumpPln f).bursts = s.bursts := rfl
@[simp] theorem State.bumpPln_llrs (s : State) (f : Planner → Planner) : (s.bumpPln f).llrs = s.llrs := rfl
@[simp] theorem State.bumpPln_decs (s : State) (f : Planner → Planner) : (s.bumpPln f).decs = s.decs := rfl
@[simp] theorem State.bumpPln_pair (s : State) (f : Planner → Planner) : (s.bumpPln f).pair = s.pair := rfl
@[simp] theorem State.bumpPln_cfs (s : State) (f : Planner → Planner) : (s.bumpPln f).cfs = s.cfs := rfl
@[simp] theorem State.bumpPln_staging (s : State) (f : Planner → Planner) : (s.bumpPln f).staging = s.staging := rfl
@[simp] theorem State.bumpPln_liner (s : State) (f : Planner → Planner) : (s.bumpPln f).liner = s.liner := rfl
@[simp] theorem State.bumpPln_mover (s : State) (f : Planner → Planner) : (s.bumpPln f).mover = s.mover := rfl
@[simp] theorem State.bumpPln_moverQ (s : State) (f : Planner → Planner) : (s.bumpPln f).moverQ = s.moverQ := rfl
@[simp] theorem State.bumpPln_census (s : State) (f : Planner → Planner) : (s.bumpPln f).census = s.census := rfl
@[simp] theorem State.bumpPln_reg (s : State) (f : Planner → Planner) (o : Nat) : (s.bumpPln f).reg o = s.reg o := rfl
@[simp] theorem State.bumpPln_getF (s : State) (f : Planner → Planner) (g : Field) : (s.bumpPln f).getF g = s.getF g := rfl

/-! ## setDie -/

@[simp] theorem State.setDie_build (s : State) (p : Nat) (x : Die) : (s.setDie p x).build = s.build := rfl
@[simp] theorem State.setDie_right (s : State) (p : Nat) (x : Die) : (s.setDie p x).right = s.right := rfl
@[simp] theorem State.setDie_pending (s : State) (p : Nat) (x : Die) : (s.setDie p x).pending = s.pending := rfl
@[simp] theorem State.setDie_phase (s : State) (p : Nat) (x : Die) : (s.setDie p x).phase = s.phase := rfl
@[simp] theorem State.setDie_windowsOpen (s : State) (p : Nat) (x : Die) : (s.setDie p x).windowsOpen = s.windowsOpen := rfl
@[simp] theorem State.setDie_regs (s : State) (p : Nat) (x : Die) : (s.setDie p x).regs = s.regs := rfl
@[simp] theorem State.setDie_latch (s : State) (p : Nat) (x : Die) : (s.setDie p x).latch = s.latch := rfl
@[simp] theorem State.setDie_splits (s : State) (p : Nat) (x : Die) : (s.setDie p x).splits = s.splits := rfl
@[simp] theorem State.setDie_readData (s : State) (p : Nat) (x : Die) : (s.setDie p x).readData = s.readData := rfl
@[simp] theorem State.setDie_out (s : State) (p : Nat) (x : Die) : (s.setDie p x).out = s.out := rfl
@[simp] theorem State.setDie_draws (s : State) (p : Nat) (x : Die) : (s.setDie p x).draws = s.draws := rfl
@[simp] theorem State.setDie_subUs (s : State) (p : Nat) (x : Die) : (s.setDie p x).subUs = s.subUs := rfl
@[simp] theorem State.setDie_evc (s : State) (p : Nat) (x : Die) : (s.setDie p x).evc = s.evc := rfl
@[simp] theorem State.setDie_log (s : State) (p : Nat) (x : Die) : (s.setDie p x).log = s.log := rfl
@[simp] theorem State.setDie_fab (s : State) (p : Nat) (x : Die) : (s.setDie p x).fab = s.fab := rfl
@[simp] theorem State.setDie_epochs (s : State) (p : Nat) (x : Die) : (s.setDie p x).epochs = s.epochs := rfl
@[simp] theorem State.setDie_queues (s : State) (p : Nat) (x : Die) : (s.setDie p x).queues = s.queues := rfl
@[simp] theorem State.setDie_ctxs (s : State) (p : Nat) (x : Die) : (s.setDie p x).ctxs = s.ctxs := rfl
@[simp] theorem State.setDie_lastU (s : State) (p : Nat) (x : Die) : (s.setDie p x).lastU = s.lastU := rfl
@[simp] theorem State.setDie_lastW (s : State) (p : Nat) (x : Die) : (s.setDie p x).lastW = s.lastW := rfl
@[simp] theorem State.setDie_fetchSeq (s : State) (p : Nat) (x : Die) : (s.setDie p x).fetchSeq = s.fetchSeq := rfl
@[simp] theorem State.setDie_admSeq (s : State) (p : Nat) (x : Die) : (s.setDie p x).admSeq = s.admSeq := rfl
@[simp] theorem State.setDie_readySeq (s : State) (p : Nat) (x : Die) : (s.setDie p x).readySeq = s.readySeq := rfl
@[simp] theorem State.setDie_sleep (s : State) (p : Nat) (x : Die) : (s.setDie p x).sleep = s.sleep := rfl
@[simp] theorem State.setDie_wdog (s : State) (p : Nat) (x : Die) : (s.setDie p x).wdog = s.wdog := rfl
@[simp] theorem State.setDie_telem (s : State) (p : Nat) (x : Die) : (s.setDie p x).telem = s.telem := rfl
@[simp] theorem State.setDie_host (s : State) (p : Nat) (x : Die) : (s.setDie p x).host = s.host := rfl
@[simp] theorem State.setDie_vdies (s : State) (p : Nat) (x : Die) : (s.setDie p x).vdies = s.vdies := rfl
@[simp] theorem State.setDie_pdies (s : State) (p : Nat) (x : Die) : (s.setDie p x).pdies = s.pdies := rfl
@[simp] theorem State.setDie_sets (s : State) (p : Nat) (x : Die) : (s.setDie p x).sets = s.sets := rfl
@[simp] theorem State.setDie_bands (s : State) (p : Nat) (x : Die) : (s.setDie p x).bands = s.bands := rfl
@[simp] theorem State.setDie_params (s : State) (p : Nat) (x : Die) : (s.setDie p x).params = s.params := rfl
@[simp] theorem State.setDie_cws (s : State) (p : Nat) (x : Die) : (s.setDie p x).cws = s.cws := rfl
@[simp] theorem State.setDie_progs (s : State) (p : Nat) (x : Die) : (s.setDie p x).progs = s.progs := rfl
@[simp] theorem State.setDie_erases (s : State) (p : Nat) (x : Die) : (s.setDie p x).erases = s.erases := rfl
@[simp] theorem State.setDie_nextJob (s : State) (p : Nat) (x : Die) : (s.setDie p x).nextJob = s.nextJob := rfl
@[simp] theorem State.setDie_pln (s : State) (p : Nat) (x : Die) : (s.setDie p x).pln = s.pln := rfl
@[simp] theorem State.setDie_chans (s : State) (p : Nat) (x : Die) : (s.setDie p x).chans = s.chans := rfl
@[simp] theorem State.setDie_quads (s : State) (p : Nat) (x : Die) : (s.setDie p x).quads = s.quads := rfl
@[simp] theorem State.setDie_wbands (s : State) (p : Nat) (x : Die) : (s.setDie p x).wbands = s.wbands := rfl
@[simp] theorem State.setDie_journals (s : State) (p : Nat) (x : Die) : (s.setDie p x).journals = s.journals := rfl
@[simp] theorem State.setDie_pf (s : State) (p : Nat) (x : Die) : (s.setDie p x).pf = s.pf := rfl
@[simp] theorem State.setDie_tasks (s : State) (p : Nat) (x : Die) : (s.setDie p x).tasks = s.tasks := rfl
@[simp] theorem State.setDie_requeue (s : State) (p : Nat) (x : Die) : (s.setDie p x).requeue = s.requeue := rfl
@[simp] theorem State.setDie_rebuildPend (s : State) (p : Nat) (x : Die) : (s.setDie p x).rebuildPend = s.rebuildPend := rfl
@[simp] theorem State.setDie_patrol (s : State) (p : Nat) (x : Die) : (s.setDie p x).patrol = s.patrol := rfl
@[simp] theorem State.setDie_patCounts (s : State) (p : Nat) (x : Die) : (s.setDie p x).patCounts = s.patCounts := rfl
@[simp] theorem State.setDie_levels (s : State) (p : Nat) (x : Die) : (s.setDie p x).levels = s.levels := rfl
@[simp] theorem State.setDie_bursts (s : State) (p : Nat) (x : Die) : (s.setDie p x).bursts = s.bursts := rfl
@[simp] theorem State.setDie_llrs (s : State) (p : Nat) (x : Die) : (s.setDie p x).llrs = s.llrs := rfl
@[simp] theorem State.setDie_decs (s : State) (p : Nat) (x : Die) : (s.setDie p x).decs = s.decs := rfl
@[simp] theorem State.setDie_pair (s : State) (p : Nat) (x : Die) : (s.setDie p x).pair = s.pair := rfl
@[simp] theorem State.setDie_cfs (s : State) (p : Nat) (x : Die) : (s.setDie p x).cfs = s.cfs := rfl
@[simp] theorem State.setDie_staging (s : State) (p : Nat) (x : Die) : (s.setDie p x).staging = s.staging := rfl
@[simp] theorem State.setDie_liner (s : State) (p : Nat) (x : Die) : (s.setDie p x).liner = s.liner := rfl
@[simp] theorem State.setDie_mover (s : State) (p : Nat) (x : Die) : (s.setDie p x).mover = s.mover := rfl
@[simp] theorem State.setDie_moverQ (s : State) (p : Nat) (x : Die) : (s.setDie p x).moverQ = s.moverQ := rfl
@[simp] theorem State.setDie_census (s : State) (p : Nat) (x : Die) : (s.setDie p x).census = s.census := rfl
@[simp] theorem State.setDie_reg (s : State) (p : Nat) (x : Die) (o : Nat) : (s.setDie p x).reg o = s.reg o := rfl
@[simp] theorem State.setDie_getF (s : State) (p : Nat) (x : Die) (g : Field) : (s.setDie p x).getF g = s.getF g := rfl

/-! ## setQuad -/

@[simp] theorem State.setQuad_build (s : State) (q : Nat) (x : Quad) : (s.setQuad q x).build = s.build := rfl
@[simp] theorem State.setQuad_right (s : State) (q : Nat) (x : Quad) : (s.setQuad q x).right = s.right := rfl
@[simp] theorem State.setQuad_pending (s : State) (q : Nat) (x : Quad) : (s.setQuad q x).pending = s.pending := rfl
@[simp] theorem State.setQuad_phase (s : State) (q : Nat) (x : Quad) : (s.setQuad q x).phase = s.phase := rfl
@[simp] theorem State.setQuad_windowsOpen (s : State) (q : Nat) (x : Quad) : (s.setQuad q x).windowsOpen = s.windowsOpen := rfl
@[simp] theorem State.setQuad_regs (s : State) (q : Nat) (x : Quad) : (s.setQuad q x).regs = s.regs := rfl
@[simp] theorem State.setQuad_latch (s : State) (q : Nat) (x : Quad) : (s.setQuad q x).latch = s.latch := rfl
@[simp] theorem State.setQuad_splits (s : State) (q : Nat) (x : Quad) : (s.setQuad q x).splits = s.splits := rfl
@[simp] theorem State.setQuad_readData (s : State) (q : Nat) (x : Quad) : (s.setQuad q x).readData = s.readData := rfl
@[simp] theorem State.setQuad_out (s : State) (q : Nat) (x : Quad) : (s.setQuad q x).out = s.out := rfl
@[simp] theorem State.setQuad_draws (s : State) (q : Nat) (x : Quad) : (s.setQuad q x).draws = s.draws := rfl
@[simp] theorem State.setQuad_subUs (s : State) (q : Nat) (x : Quad) : (s.setQuad q x).subUs = s.subUs := rfl
@[simp] theorem State.setQuad_evc (s : State) (q : Nat) (x : Quad) : (s.setQuad q x).evc = s.evc := rfl
@[simp] theorem State.setQuad_log (s : State) (q : Nat) (x : Quad) : (s.setQuad q x).log = s.log := rfl
@[simp] theorem State.setQuad_fab (s : State) (q : Nat) (x : Quad) : (s.setQuad q x).fab = s.fab := rfl
@[simp] theorem State.setQuad_epochs (s : State) (q : Nat) (x : Quad) : (s.setQuad q x).epochs = s.epochs := rfl
@[simp] theorem State.setQuad_queues (s : State) (q : Nat) (x : Quad) : (s.setQuad q x).queues = s.queues := rfl
@[simp] theorem State.setQuad_ctxs (s : State) (q : Nat) (x : Quad) : (s.setQuad q x).ctxs = s.ctxs := rfl
@[simp] theorem State.setQuad_lastU (s : State) (q : Nat) (x : Quad) : (s.setQuad q x).lastU = s.lastU := rfl
@[simp] theorem State.setQuad_lastW (s : State) (q : Nat) (x : Quad) : (s.setQuad q x).lastW = s.lastW := rfl
@[simp] theorem State.setQuad_fetchSeq (s : State) (q : Nat) (x : Quad) : (s.setQuad q x).fetchSeq = s.fetchSeq := rfl
@[simp] theorem State.setQuad_admSeq (s : State) (q : Nat) (x : Quad) : (s.setQuad q x).admSeq = s.admSeq := rfl
@[simp] theorem State.setQuad_readySeq (s : State) (q : Nat) (x : Quad) : (s.setQuad q x).readySeq = s.readySeq := rfl
@[simp] theorem State.setQuad_sleep (s : State) (q : Nat) (x : Quad) : (s.setQuad q x).sleep = s.sleep := rfl
@[simp] theorem State.setQuad_wdog (s : State) (q : Nat) (x : Quad) : (s.setQuad q x).wdog = s.wdog := rfl
@[simp] theorem State.setQuad_telem (s : State) (q : Nat) (x : Quad) : (s.setQuad q x).telem = s.telem := rfl
@[simp] theorem State.setQuad_host (s : State) (q : Nat) (x : Quad) : (s.setQuad q x).host = s.host := rfl
@[simp] theorem State.setQuad_vdies (s : State) (q : Nat) (x : Quad) : (s.setQuad q x).vdies = s.vdies := rfl
@[simp] theorem State.setQuad_pdies (s : State) (q : Nat) (x : Quad) : (s.setQuad q x).pdies = s.pdies := rfl
@[simp] theorem State.setQuad_sets (s : State) (q : Nat) (x : Quad) : (s.setQuad q x).sets = s.sets := rfl
@[simp] theorem State.setQuad_bands (s : State) (q : Nat) (x : Quad) : (s.setQuad q x).bands = s.bands := rfl
@[simp] theorem State.setQuad_params (s : State) (q : Nat) (x : Quad) : (s.setQuad q x).params = s.params := rfl
@[simp] theorem State.setQuad_dies (s : State) (q : Nat) (x : Quad) : (s.setQuad q x).dies = s.dies := rfl
@[simp] theorem State.setQuad_cws (s : State) (q : Nat) (x : Quad) : (s.setQuad q x).cws = s.cws := rfl
@[simp] theorem State.setQuad_progs (s : State) (q : Nat) (x : Quad) : (s.setQuad q x).progs = s.progs := rfl
@[simp] theorem State.setQuad_erases (s : State) (q : Nat) (x : Quad) : (s.setQuad q x).erases = s.erases := rfl
@[simp] theorem State.setQuad_nextJob (s : State) (q : Nat) (x : Quad) : (s.setQuad q x).nextJob = s.nextJob := rfl
@[simp] theorem State.setQuad_pln (s : State) (q : Nat) (x : Quad) : (s.setQuad q x).pln = s.pln := rfl
@[simp] theorem State.setQuad_chans (s : State) (q : Nat) (x : Quad) : (s.setQuad q x).chans = s.chans := rfl
@[simp] theorem State.setQuad_wbands (s : State) (q : Nat) (x : Quad) : (s.setQuad q x).wbands = s.wbands := rfl
@[simp] theorem State.setQuad_journals (s : State) (q : Nat) (x : Quad) : (s.setQuad q x).journals = s.journals := rfl
@[simp] theorem State.setQuad_pf (s : State) (q : Nat) (x : Quad) : (s.setQuad q x).pf = s.pf := rfl
@[simp] theorem State.setQuad_tasks (s : State) (q : Nat) (x : Quad) : (s.setQuad q x).tasks = s.tasks := rfl
@[simp] theorem State.setQuad_requeue (s : State) (q : Nat) (x : Quad) : (s.setQuad q x).requeue = s.requeue := rfl
@[simp] theorem State.setQuad_rebuildPend (s : State) (q : Nat) (x : Quad) : (s.setQuad q x).rebuildPend = s.rebuildPend := rfl
@[simp] theorem State.setQuad_patrol (s : State) (q : Nat) (x : Quad) : (s.setQuad q x).patrol = s.patrol := rfl
@[simp] theorem State.setQuad_patCounts (s : State) (q : Nat) (x : Quad) : (s.setQuad q x).patCounts = s.patCounts := rfl
@[simp] theorem State.setQuad_levels (s : State) (q : Nat) (x : Quad) : (s.setQuad q x).levels = s.levels := rfl
@[simp] theorem State.setQuad_bursts (s : State) (q : Nat) (x : Quad) : (s.setQuad q x).bursts = s.bursts := rfl
@[simp] theorem State.setQuad_llrs (s : State) (q : Nat) (x : Quad) : (s.setQuad q x).llrs = s.llrs := rfl
@[simp] theorem State.setQuad_decs (s : State) (q : Nat) (x : Quad) : (s.setQuad q x).decs = s.decs := rfl
@[simp] theorem State.setQuad_pair (s : State) (q : Nat) (x : Quad) : (s.setQuad q x).pair = s.pair := rfl
@[simp] theorem State.setQuad_cfs (s : State) (q : Nat) (x : Quad) : (s.setQuad q x).cfs = s.cfs := rfl
@[simp] theorem State.setQuad_staging (s : State) (q : Nat) (x : Quad) : (s.setQuad q x).staging = s.staging := rfl
@[simp] theorem State.setQuad_liner (s : State) (q : Nat) (x : Quad) : (s.setQuad q x).liner = s.liner := rfl
@[simp] theorem State.setQuad_mover (s : State) (q : Nat) (x : Quad) : (s.setQuad q x).mover = s.mover := rfl
@[simp] theorem State.setQuad_moverQ (s : State) (q : Nat) (x : Quad) : (s.setQuad q x).moverQ = s.moverQ := rfl
@[simp] theorem State.setQuad_census (s : State) (q : Nat) (x : Quad) : (s.setQuad q x).census = s.census := rfl
@[simp] theorem State.setQuad_reg (s : State) (q : Nat) (x : Quad) (o : Nat) : (s.setQuad q x).reg o = s.reg o := rfl
@[simp] theorem State.setQuad_getF (s : State) (q : Nat) (x : Quad) (g : Field) : (s.setQuad q x).getF g = s.getF g := rfl

/-! ## setMv -/

@[simp] theorem State.setMv_build (s : State) (c : Nat) (x : MvCh) : (s.setMv c x).build = s.build := rfl
@[simp] theorem State.setMv_right (s : State) (c : Nat) (x : MvCh) : (s.setMv c x).right = s.right := rfl
@[simp] theorem State.setMv_pending (s : State) (c : Nat) (x : MvCh) : (s.setMv c x).pending = s.pending := rfl
@[simp] theorem State.setMv_phase (s : State) (c : Nat) (x : MvCh) : (s.setMv c x).phase = s.phase := rfl
@[simp] theorem State.setMv_windowsOpen (s : State) (c : Nat) (x : MvCh) : (s.setMv c x).windowsOpen = s.windowsOpen := rfl
@[simp] theorem State.setMv_regs (s : State) (c : Nat) (x : MvCh) : (s.setMv c x).regs = s.regs := rfl
@[simp] theorem State.setMv_latch (s : State) (c : Nat) (x : MvCh) : (s.setMv c x).latch = s.latch := rfl
@[simp] theorem State.setMv_splits (s : State) (c : Nat) (x : MvCh) : (s.setMv c x).splits = s.splits := rfl
@[simp] theorem State.setMv_readData (s : State) (c : Nat) (x : MvCh) : (s.setMv c x).readData = s.readData := rfl
@[simp] theorem State.setMv_out (s : State) (c : Nat) (x : MvCh) : (s.setMv c x).out = s.out := rfl
@[simp] theorem State.setMv_draws (s : State) (c : Nat) (x : MvCh) : (s.setMv c x).draws = s.draws := rfl
@[simp] theorem State.setMv_subUs (s : State) (c : Nat) (x : MvCh) : (s.setMv c x).subUs = s.subUs := rfl
@[simp] theorem State.setMv_evc (s : State) (c : Nat) (x : MvCh) : (s.setMv c x).evc = s.evc := rfl
@[simp] theorem State.setMv_log (s : State) (c : Nat) (x : MvCh) : (s.setMv c x).log = s.log := rfl
@[simp] theorem State.setMv_fab (s : State) (c : Nat) (x : MvCh) : (s.setMv c x).fab = s.fab := rfl
@[simp] theorem State.setMv_epochs (s : State) (c : Nat) (x : MvCh) : (s.setMv c x).epochs = s.epochs := rfl
@[simp] theorem State.setMv_queues (s : State) (c : Nat) (x : MvCh) : (s.setMv c x).queues = s.queues := rfl
@[simp] theorem State.setMv_ctxs (s : State) (c : Nat) (x : MvCh) : (s.setMv c x).ctxs = s.ctxs := rfl
@[simp] theorem State.setMv_lastU (s : State) (c : Nat) (x : MvCh) : (s.setMv c x).lastU = s.lastU := rfl
@[simp] theorem State.setMv_lastW (s : State) (c : Nat) (x : MvCh) : (s.setMv c x).lastW = s.lastW := rfl
@[simp] theorem State.setMv_fetchSeq (s : State) (c : Nat) (x : MvCh) : (s.setMv c x).fetchSeq = s.fetchSeq := rfl
@[simp] theorem State.setMv_admSeq (s : State) (c : Nat) (x : MvCh) : (s.setMv c x).admSeq = s.admSeq := rfl
@[simp] theorem State.setMv_readySeq (s : State) (c : Nat) (x : MvCh) : (s.setMv c x).readySeq = s.readySeq := rfl
@[simp] theorem State.setMv_sleep (s : State) (c : Nat) (x : MvCh) : (s.setMv c x).sleep = s.sleep := rfl
@[simp] theorem State.setMv_wdog (s : State) (c : Nat) (x : MvCh) : (s.setMv c x).wdog = s.wdog := rfl
@[simp] theorem State.setMv_telem (s : State) (c : Nat) (x : MvCh) : (s.setMv c x).telem = s.telem := rfl
@[simp] theorem State.setMv_host (s : State) (c : Nat) (x : MvCh) : (s.setMv c x).host = s.host := rfl
@[simp] theorem State.setMv_vdies (s : State) (c : Nat) (x : MvCh) : (s.setMv c x).vdies = s.vdies := rfl
@[simp] theorem State.setMv_pdies (s : State) (c : Nat) (x : MvCh) : (s.setMv c x).pdies = s.pdies := rfl
@[simp] theorem State.setMv_sets (s : State) (c : Nat) (x : MvCh) : (s.setMv c x).sets = s.sets := rfl
@[simp] theorem State.setMv_bands (s : State) (c : Nat) (x : MvCh) : (s.setMv c x).bands = s.bands := rfl
@[simp] theorem State.setMv_params (s : State) (c : Nat) (x : MvCh) : (s.setMv c x).params = s.params := rfl
@[simp] theorem State.setMv_dies (s : State) (c : Nat) (x : MvCh) : (s.setMv c x).dies = s.dies := rfl
@[simp] theorem State.setMv_cws (s : State) (c : Nat) (x : MvCh) : (s.setMv c x).cws = s.cws := rfl
@[simp] theorem State.setMv_progs (s : State) (c : Nat) (x : MvCh) : (s.setMv c x).progs = s.progs := rfl
@[simp] theorem State.setMv_erases (s : State) (c : Nat) (x : MvCh) : (s.setMv c x).erases = s.erases := rfl
@[simp] theorem State.setMv_nextJob (s : State) (c : Nat) (x : MvCh) : (s.setMv c x).nextJob = s.nextJob := rfl
@[simp] theorem State.setMv_pln (s : State) (c : Nat) (x : MvCh) : (s.setMv c x).pln = s.pln := rfl
@[simp] theorem State.setMv_chans (s : State) (c : Nat) (x : MvCh) : (s.setMv c x).chans = s.chans := rfl
@[simp] theorem State.setMv_quads (s : State) (c : Nat) (x : MvCh) : (s.setMv c x).quads = s.quads := rfl
@[simp] theorem State.setMv_wbands (s : State) (c : Nat) (x : MvCh) : (s.setMv c x).wbands = s.wbands := rfl
@[simp] theorem State.setMv_journals (s : State) (c : Nat) (x : MvCh) : (s.setMv c x).journals = s.journals := rfl
@[simp] theorem State.setMv_pf (s : State) (c : Nat) (x : MvCh) : (s.setMv c x).pf = s.pf := rfl
@[simp] theorem State.setMv_tasks (s : State) (c : Nat) (x : MvCh) : (s.setMv c x).tasks = s.tasks := rfl
@[simp] theorem State.setMv_requeue (s : State) (c : Nat) (x : MvCh) : (s.setMv c x).requeue = s.requeue := rfl
@[simp] theorem State.setMv_rebuildPend (s : State) (c : Nat) (x : MvCh) : (s.setMv c x).rebuildPend = s.rebuildPend := rfl
@[simp] theorem State.setMv_patrol (s : State) (c : Nat) (x : MvCh) : (s.setMv c x).patrol = s.patrol := rfl
@[simp] theorem State.setMv_patCounts (s : State) (c : Nat) (x : MvCh) : (s.setMv c x).patCounts = s.patCounts := rfl
@[simp] theorem State.setMv_levels (s : State) (c : Nat) (x : MvCh) : (s.setMv c x).levels = s.levels := rfl
@[simp] theorem State.setMv_bursts (s : State) (c : Nat) (x : MvCh) : (s.setMv c x).bursts = s.bursts := rfl
@[simp] theorem State.setMv_llrs (s : State) (c : Nat) (x : MvCh) : (s.setMv c x).llrs = s.llrs := rfl
@[simp] theorem State.setMv_decs (s : State) (c : Nat) (x : MvCh) : (s.setMv c x).decs = s.decs := rfl
@[simp] theorem State.setMv_pair (s : State) (c : Nat) (x : MvCh) : (s.setMv c x).pair = s.pair := rfl
@[simp] theorem State.setMv_cfs (s : State) (c : Nat) (x : MvCh) : (s.setMv c x).cfs = s.cfs := rfl
@[simp] theorem State.setMv_staging (s : State) (c : Nat) (x : MvCh) : (s.setMv c x).staging = s.staging := rfl
@[simp] theorem State.setMv_liner (s : State) (c : Nat) (x : MvCh) : (s.setMv c x).liner = s.liner := rfl
@[simp] theorem State.setMv_moverQ (s : State) (c : Nat) (x : MvCh) : (s.setMv c x).moverQ = s.moverQ := rfl
@[simp] theorem State.setMv_census (s : State) (c : Nat) (x : MvCh) : (s.setMv c x).census = s.census := rfl
@[simp] theorem State.setMv_reg (s : State) (c : Nat) (x : MvCh) (o : Nat) : (s.setMv c x).reg o = s.reg o := rfl
@[simp] theorem State.setMv_getF (s : State) (c : Nat) (x : MvCh) (g : Field) : (s.setMv c x).getF g = s.getF g := rfl

/-! ## Fabric requests: issuing changes the requests and what is sent alone -/

theorem State.fabIssue_frame (l : List FabReq) : ∀ (s : State) (before : List FabReq),
    s.fabIssue before l = { s with fab := (s.fabIssue before l).fab, out := (s.fabIssue before l).out } := by
  induction l with
  | nil => intro s b; rfl
  | cons r rest ih =>
    intro s b
    unfold State.fabIssue
    split
    · exact ih _ _
    · split
      · exact ih _ _
      · exact ih _ _

@[simp] theorem State.fabIssue_build (s : State) (b l : List FabReq) : (s.fabIssue b l).build = s.build := by rw [State.fabIssue_frame]
@[simp] theorem State.fabIssue_right (s : State) (b l : List FabReq) : (s.fabIssue b l).right = s.right := by rw [State.fabIssue_frame]
@[simp] theorem State.fabIssue_pending (s : State) (b l : List FabReq) : (s.fabIssue b l).pending = s.pending := by rw [State.fabIssue_frame]
@[simp] theorem State.fabIssue_phase (s : State) (b l : List FabReq) : (s.fabIssue b l).phase = s.phase := by rw [State.fabIssue_frame]
@[simp] theorem State.fabIssue_windowsOpen (s : State) (b l : List FabReq) : (s.fabIssue b l).windowsOpen = s.windowsOpen := by rw [State.fabIssue_frame]
@[simp] theorem State.fabIssue_regs (s : State) (b l : List FabReq) : (s.fabIssue b l).regs = s.regs := by rw [State.fabIssue_frame]
@[simp] theorem State.fabIssue_latch (s : State) (b l : List FabReq) : (s.fabIssue b l).latch = s.latch := by rw [State.fabIssue_frame]
@[simp] theorem State.fabIssue_splits (s : State) (b l : List FabReq) : (s.fabIssue b l).splits = s.splits := by rw [State.fabIssue_frame]
@[simp] theorem State.fabIssue_readData (s : State) (b l : List FabReq) : (s.fabIssue b l).readData = s.readData := by rw [State.fabIssue_frame]
@[simp] theorem State.fabIssue_draws (s : State) (b l : List FabReq) : (s.fabIssue b l).draws = s.draws := by rw [State.fabIssue_frame]
@[simp] theorem State.fabIssue_subUs (s : State) (b l : List FabReq) : (s.fabIssue b l).subUs = s.subUs := by rw [State.fabIssue_frame]
@[simp] theorem State.fabIssue_evc (s : State) (b l : List FabReq) : (s.fabIssue b l).evc = s.evc := by rw [State.fabIssue_frame]
@[simp] theorem State.fabIssue_log (s : State) (b l : List FabReq) : (s.fabIssue b l).log = s.log := by rw [State.fabIssue_frame]
@[simp] theorem State.fabIssue_epochs (s : State) (b l : List FabReq) : (s.fabIssue b l).epochs = s.epochs := by rw [State.fabIssue_frame]
@[simp] theorem State.fabIssue_queues (s : State) (b l : List FabReq) : (s.fabIssue b l).queues = s.queues := by rw [State.fabIssue_frame]
@[simp] theorem State.fabIssue_ctxs (s : State) (b l : List FabReq) : (s.fabIssue b l).ctxs = s.ctxs := by rw [State.fabIssue_frame]
@[simp] theorem State.fabIssue_lastU (s : State) (b l : List FabReq) : (s.fabIssue b l).lastU = s.lastU := by rw [State.fabIssue_frame]
@[simp] theorem State.fabIssue_lastW (s : State) (b l : List FabReq) : (s.fabIssue b l).lastW = s.lastW := by rw [State.fabIssue_frame]
@[simp] theorem State.fabIssue_fetchSeq (s : State) (b l : List FabReq) : (s.fabIssue b l).fetchSeq = s.fetchSeq := by rw [State.fabIssue_frame]
@[simp] theorem State.fabIssue_admSeq (s : State) (b l : List FabReq) : (s.fabIssue b l).admSeq = s.admSeq := by rw [State.fabIssue_frame]
@[simp] theorem State.fabIssue_readySeq (s : State) (b l : List FabReq) : (s.fabIssue b l).readySeq = s.readySeq := by rw [State.fabIssue_frame]
@[simp] theorem State.fabIssue_sleep (s : State) (b l : List FabReq) : (s.fabIssue b l).sleep = s.sleep := by rw [State.fabIssue_frame]
@[simp] theorem State.fabIssue_wdog (s : State) (b l : List FabReq) : (s.fabIssue b l).wdog = s.wdog := by rw [State.fabIssue_frame]
@[simp] theorem State.fabIssue_telem (s : State) (b l : List FabReq) : (s.fabIssue b l).telem = s.telem := by rw [State.fabIssue_frame]
@[simp] theorem State.fabIssue_host (s : State) (b l : List FabReq) : (s.fabIssue b l).host = s.host := by rw [State.fabIssue_frame]
@[simp] theorem State.fabIssue_vdies (s : State) (b l : List FabReq) : (s.fabIssue b l).vdies = s.vdies := by rw [State.fabIssue_frame]
@[simp] theorem State.fabIssue_pdies (s : State) (b l : List FabReq) : (s.fabIssue b l).pdies = s.pdies := by rw [State.fabIssue_frame]
@[simp] theorem State.fabIssue_sets (s : State) (b l : List FabReq) : (s.fabIssue b l).sets = s.sets := by rw [State.fabIssue_frame]
@[simp] theorem State.fabIssue_bands (s : State) (b l : List FabReq) : (s.fabIssue b l).bands = s.bands := by rw [State.fabIssue_frame]
@[simp] theorem State.fabIssue_params (s : State) (b l : List FabReq) : (s.fabIssue b l).params = s.params := by rw [State.fabIssue_frame]
@[simp] theorem State.fabIssue_dies (s : State) (b l : List FabReq) : (s.fabIssue b l).dies = s.dies := by rw [State.fabIssue_frame]
@[simp] theorem State.fabIssue_cws (s : State) (b l : List FabReq) : (s.fabIssue b l).cws = s.cws := by rw [State.fabIssue_frame]
@[simp] theorem State.fabIssue_progs (s : State) (b l : List FabReq) : (s.fabIssue b l).progs = s.progs := by rw [State.fabIssue_frame]
@[simp] theorem State.fabIssue_erases (s : State) (b l : List FabReq) : (s.fabIssue b l).erases = s.erases := by rw [State.fabIssue_frame]
@[simp] theorem State.fabIssue_nextJob (s : State) (b l : List FabReq) : (s.fabIssue b l).nextJob = s.nextJob := by rw [State.fabIssue_frame]
@[simp] theorem State.fabIssue_pln (s : State) (b l : List FabReq) : (s.fabIssue b l).pln = s.pln := by rw [State.fabIssue_frame]
@[simp] theorem State.fabIssue_chans (s : State) (b l : List FabReq) : (s.fabIssue b l).chans = s.chans := by rw [State.fabIssue_frame]
@[simp] theorem State.fabIssue_quads (s : State) (b l : List FabReq) : (s.fabIssue b l).quads = s.quads := by rw [State.fabIssue_frame]
@[simp] theorem State.fabIssue_wbands (s : State) (b l : List FabReq) : (s.fabIssue b l).wbands = s.wbands := by rw [State.fabIssue_frame]
@[simp] theorem State.fabIssue_journals (s : State) (b l : List FabReq) : (s.fabIssue b l).journals = s.journals := by rw [State.fabIssue_frame]
@[simp] theorem State.fabIssue_pf (s : State) (b l : List FabReq) : (s.fabIssue b l).pf = s.pf := by rw [State.fabIssue_frame]
@[simp] theorem State.fabIssue_tasks (s : State) (b l : List FabReq) : (s.fabIssue b l).tasks = s.tasks := by rw [State.fabIssue_frame]
@[simp] theorem State.fabIssue_requeue (s : State) (b l : List FabReq) : (s.fabIssue b l).requeue = s.requeue := by rw [State.fabIssue_frame]
@[simp] theorem State.fabIssue_rebuildPend (s : State) (b l : List FabReq) : (s.fabIssue b l).rebuildPend = s.rebuildPend := by rw [State.fabIssue_frame]
@[simp] theorem State.fabIssue_patrol (s : State) (b l : List FabReq) : (s.fabIssue b l).patrol = s.patrol := by rw [State.fabIssue_frame]
@[simp] theorem State.fabIssue_patCounts (s : State) (b l : List FabReq) : (s.fabIssue b l).patCounts = s.patCounts := by rw [State.fabIssue_frame]
@[simp] theorem State.fabIssue_levels (s : State) (b l : List FabReq) : (s.fabIssue b l).levels = s.levels := by rw [State.fabIssue_frame]
@[simp] theorem State.fabIssue_bursts (s : State) (b l : List FabReq) : (s.fabIssue b l).bursts = s.bursts := by rw [State.fabIssue_frame]
@[simp] theorem State.fabIssue_llrs (s : State) (b l : List FabReq) : (s.fabIssue b l).llrs = s.llrs := by rw [State.fabIssue_frame]
@[simp] theorem State.fabIssue_decs (s : State) (b l : List FabReq) : (s.fabIssue b l).decs = s.decs := by rw [State.fabIssue_frame]
@[simp] theorem State.fabIssue_pair (s : State) (b l : List FabReq) : (s.fabIssue b l).pair = s.pair := by rw [State.fabIssue_frame]
@[simp] theorem State.fabIssue_cfs (s : State) (b l : List FabReq) : (s.fabIssue b l).cfs = s.cfs := by rw [State.fabIssue_frame]
@[simp] theorem State.fabIssue_staging (s : State) (b l : List FabReq) : (s.fabIssue b l).staging = s.staging := by rw [State.fabIssue_frame]
@[simp] theorem State.fabIssue_liner (s : State) (b l : List FabReq) : (s.fabIssue b l).liner = s.liner := by rw [State.fabIssue_frame]
@[simp] theorem State.fabIssue_mover (s : State) (b l : List FabReq) : (s.fabIssue b l).mover = s.mover := by rw [State.fabIssue_frame]
@[simp] theorem State.fabIssue_moverQ (s : State) (b l : List FabReq) : (s.fabIssue b l).moverQ = s.moverQ := by rw [State.fabIssue_frame]
@[simp] theorem State.fabIssue_census (s : State) (b l : List FabReq) : (s.fabIssue b l).census = s.census := by rw [State.fabIssue_frame]

@[simp] theorem State.fabPump_build (s : State) : s.fabPump.build = s.build := State.fabIssue_build _ _ _
@[simp] theorem State.fabPump_right (s : State) : s.fabPump.right = s.right := State.fabIssue_right _ _ _
@[simp] theorem State.fabPump_pending (s : State) : s.fabPump.pending = s.pending := State.fabIssue_pending _ _ _
@[simp] theorem State.fabPump_phase (s : State) : s.fabPump.phase = s.phase := State.fabIssue_phase _ _ _
@[simp] theorem State.fabPump_windowsOpen (s : State) : s.fabPump.windowsOpen = s.windowsOpen := State.fabIssue_windowsOpen _ _ _
@[simp] theorem State.fabPump_regs (s : State) : s.fabPump.regs = s.regs := State.fabIssue_regs _ _ _
@[simp] theorem State.fabPump_latch (s : State) : s.fabPump.latch = s.latch := State.fabIssue_latch _ _ _
@[simp] theorem State.fabPump_splits (s : State) : s.fabPump.splits = s.splits := State.fabIssue_splits _ _ _
@[simp] theorem State.fabPump_readData (s : State) : s.fabPump.readData = s.readData := State.fabIssue_readData _ _ _
@[simp] theorem State.fabPump_draws (s : State) : s.fabPump.draws = s.draws := State.fabIssue_draws _ _ _
@[simp] theorem State.fabPump_subUs (s : State) : s.fabPump.subUs = s.subUs := State.fabIssue_subUs _ _ _
@[simp] theorem State.fabPump_evc (s : State) : s.fabPump.evc = s.evc := State.fabIssue_evc _ _ _
@[simp] theorem State.fabPump_log (s : State) : s.fabPump.log = s.log := State.fabIssue_log _ _ _
@[simp] theorem State.fabPump_epochs (s : State) : s.fabPump.epochs = s.epochs := State.fabIssue_epochs _ _ _
@[simp] theorem State.fabPump_queues (s : State) : s.fabPump.queues = s.queues := State.fabIssue_queues _ _ _
@[simp] theorem State.fabPump_ctxs (s : State) : s.fabPump.ctxs = s.ctxs := State.fabIssue_ctxs _ _ _
@[simp] theorem State.fabPump_lastU (s : State) : s.fabPump.lastU = s.lastU := State.fabIssue_lastU _ _ _
@[simp] theorem State.fabPump_lastW (s : State) : s.fabPump.lastW = s.lastW := State.fabIssue_lastW _ _ _
@[simp] theorem State.fabPump_fetchSeq (s : State) : s.fabPump.fetchSeq = s.fetchSeq := State.fabIssue_fetchSeq _ _ _
@[simp] theorem State.fabPump_admSeq (s : State) : s.fabPump.admSeq = s.admSeq := State.fabIssue_admSeq _ _ _
@[simp] theorem State.fabPump_readySeq (s : State) : s.fabPump.readySeq = s.readySeq := State.fabIssue_readySeq _ _ _
@[simp] theorem State.fabPump_sleep (s : State) : s.fabPump.sleep = s.sleep := State.fabIssue_sleep _ _ _
@[simp] theorem State.fabPump_wdog (s : State) : s.fabPump.wdog = s.wdog := State.fabIssue_wdog _ _ _
@[simp] theorem State.fabPump_telem (s : State) : s.fabPump.telem = s.telem := State.fabIssue_telem _ _ _
@[simp] theorem State.fabPump_host (s : State) : s.fabPump.host = s.host := State.fabIssue_host _ _ _
@[simp] theorem State.fabPump_vdies (s : State) : s.fabPump.vdies = s.vdies := State.fabIssue_vdies _ _ _
@[simp] theorem State.fabPump_pdies (s : State) : s.fabPump.pdies = s.pdies := State.fabIssue_pdies _ _ _
@[simp] theorem State.fabPump_sets (s : State) : s.fabPump.sets = s.sets := State.fabIssue_sets _ _ _
@[simp] theorem State.fabPump_bands (s : State) : s.fabPump.bands = s.bands := State.fabIssue_bands _ _ _
@[simp] theorem State.fabPump_params (s : State) : s.fabPump.params = s.params := State.fabIssue_params _ _ _
@[simp] theorem State.fabPump_dies (s : State) : s.fabPump.dies = s.dies := State.fabIssue_dies _ _ _
@[simp] theorem State.fabPump_cws (s : State) : s.fabPump.cws = s.cws := State.fabIssue_cws _ _ _
@[simp] theorem State.fabPump_progs (s : State) : s.fabPump.progs = s.progs := State.fabIssue_progs _ _ _
@[simp] theorem State.fabPump_erases (s : State) : s.fabPump.erases = s.erases := State.fabIssue_erases _ _ _
@[simp] theorem State.fabPump_nextJob (s : State) : s.fabPump.nextJob = s.nextJob := State.fabIssue_nextJob _ _ _
@[simp] theorem State.fabPump_pln (s : State) : s.fabPump.pln = s.pln := State.fabIssue_pln _ _ _
@[simp] theorem State.fabPump_chans (s : State) : s.fabPump.chans = s.chans := State.fabIssue_chans _ _ _
@[simp] theorem State.fabPump_quads (s : State) : s.fabPump.quads = s.quads := State.fabIssue_quads _ _ _
@[simp] theorem State.fabPump_wbands (s : State) : s.fabPump.wbands = s.wbands := State.fabIssue_wbands _ _ _
@[simp] theorem State.fabPump_journals (s : State) : s.fabPump.journals = s.journals := State.fabIssue_journals _ _ _
@[simp] theorem State.fabPump_pf (s : State) : s.fabPump.pf = s.pf := State.fabIssue_pf _ _ _
@[simp] theorem State.fabPump_tasks (s : State) : s.fabPump.tasks = s.tasks := State.fabIssue_tasks _ _ _
@[simp] theorem State.fabPump_requeue (s : State) : s.fabPump.requeue = s.requeue := State.fabIssue_requeue _ _ _
@[simp] theorem State.fabPump_rebuildPend (s : State) : s.fabPump.rebuildPend = s.rebuildPend := State.fabIssue_rebuildPend _ _ _
@[simp] theorem State.fabPump_patrol (s : State) : s.fabPump.patrol = s.patrol := State.fabIssue_patrol _ _ _
@[simp] theorem State.fabPump_patCounts (s : State) : s.fabPump.patCounts = s.patCounts := State.fabIssue_patCounts _ _ _
@[simp] theorem State.fabPump_levels (s : State) : s.fabPump.levels = s.levels := State.fabIssue_levels _ _ _
@[simp] theorem State.fabPump_bursts (s : State) : s.fabPump.bursts = s.bursts := State.fabIssue_bursts _ _ _
@[simp] theorem State.fabPump_llrs (s : State) : s.fabPump.llrs = s.llrs := State.fabIssue_llrs _ _ _
@[simp] theorem State.fabPump_decs (s : State) : s.fabPump.decs = s.decs := State.fabIssue_decs _ _ _
@[simp] theorem State.fabPump_pair (s : State) : s.fabPump.pair = s.pair := State.fabIssue_pair _ _ _
@[simp] theorem State.fabPump_cfs (s : State) : s.fabPump.cfs = s.cfs := State.fabIssue_cfs _ _ _
@[simp] theorem State.fabPump_staging (s : State) : s.fabPump.staging = s.staging := State.fabIssue_staging _ _ _
@[simp] theorem State.fabPump_liner (s : State) : s.fabPump.liner = s.liner := State.fabIssue_liner _ _ _
@[simp] theorem State.fabPump_mover (s : State) : s.fabPump.mover = s.mover := State.fabIssue_mover _ _ _
@[simp] theorem State.fabPump_moverQ (s : State) : s.fabPump.moverQ = s.moverQ := State.fabIssue_moverQ _ _ _
@[simp] theorem State.fabPump_census (s : State) : s.fabPump.census = s.census := State.fabIssue_census _ _ _
@[simp] theorem State.fabPump_reg (s : State) (o : Nat) : s.fabPump.reg o = s.reg o :=
  State.reg_congr (State.fabPump_build s) (State.fabPump_right s) (State.fabPump_regs s) o

end Sys2Proof.Machine
end

