-- ==== Sys2Proof/Laws/Guards.lean ====
section
/-! SUPPORT. Without power, and while BLKRST_n is asserted, nothing of the block is at work: every guard a command asks is false. -/

namespace Sys2Proof.Machine

variable {s : State}

theorem State.served_of_not_on (h : s.phase ≠ .on) : s.served = false := by simp [State.served, h]
theorem State.working_of_not_on (h : s.phase ≠ .on) : s.working = false := by simp [State.working, h]
theorem State.awake_of_not_on (h : s.phase ≠ .on) : s.awake = false := by simp [State.awake, State.working_of_not_on h]
theorem State.clocked_of_not_on (h : s.phase ≠ .on) : s.clocked = false := by simp [State.clocked, State.working_of_not_on h]
theorem State.ticking_of_not_on (h : s.phase ≠ .on) : s.ticking = false := by simp [State.ticking, h]
theorem State.starts_of_not_on (h : s.phase ≠ .on) (c op : Nat) : s.starts c op = false := by
  simp [State.starts, State.awake_of_not_on h]
theorem State.startsCtl_of_not_on (h : s.phase ≠ .on) (c a : Nat) : s.startsCtl c a = false := by
  simp [State.startsCtl, State.starts_of_not_on h]
theorem State.censusRuns_of_not_on (h : s.phase ≠ .on) (n : Nat) : s.censusRuns n = false := by
  simp [State.censusRuns, State.awake_of_not_on h]
theorem State.norMay_of_not_on (h : s.phase ≠ .on) : s.norMay = false := by simp [State.norMay, h]
theorem State.wdogRuns_of_not_on (h : s.phase ≠ .on) : s.wdogRuns = false := by simp [State.wdogRuns, State.working_of_not_on h]
theorem State.fabLive_of_not_on (h : s.phase ≠ .on) : s.fabLive = false := by simp [State.fabLive, h]
theorem State.thermRuns_of_not_on (h : s.phase ≠ .on) : s.thermRuns = false := by simp [State.thermRuns, h]
theorem State.peRuns_of_not_on (h : s.phase ≠ .on) : s.peRuns = false := by simp [State.peRuns, State.awake_of_not_on h]
theorem State.qWriteOk_of_not_on (h : s.phase ≠ .on) (bar stop : Bool) (q : Nat) : s.qWriteOk bar stop q = false := by
  simp [State.qWriteOk, State.served_of_not_on h]
theorem State.frontIs_of_not_on (h : s.phase ≠ .on) (c : Nat) (f : Act → Bool) : s.frontIs c f = false := by
  simp [State.frontIs, State.clocked_of_not_on h]

/-! ## Shared operations that ask a guard -/

theorem State.maintWrite_of_not_on (h : s.phase ≠ .on) (n : Nat) : s.maintWrite n = s := by
  simp [State.maintWrite, State.served_of_not_on h]
theorem State.enableWrite_of_not_on (h : s.phase ≠ .on) (b : Bool) : s.enableWrite b = s := by
  simp [State.enableWrite, State.served_of_not_on h]
theorem State.reqFirmware_of_not_on (h : s.phase ≠ .on) (n : Nat) : s.reqFirmware n = s := by
  simp [State.reqFirmware, State.served_of_not_on h]
theorem State.cfsWrite_of_not_on (h : s.phase ≠ .on) (n : Nat) (a b c : Bool) (go : State → State) : s.cfsWrite n a b c go = s := by
  simp [State.cfsWrite, State.served_of_not_on h]
theorem State.cfsAbort_of_not_on (h : s.phase ≠ .on) (a : Bool) : s.cfsAbort a = s := by
  simp [State.cfsAbort, State.served_of_not_on h]
theorem State.takeItem_of_not_on (h : s.phase ≠ .on) (m : Nat) (i : ShadowItem) : s.takeItem m i = s := by
  simp [State.takeItem, State.cuffTake, h]
theorem State.serveQuery_of_not_on (h : s.phase ≠ .on) (c p : Nat) : s.serveQuery c p = s := by
  simp [State.serveQuery, State.starts_of_not_on h]
theorem State.powerEntry_of_not_on (h : s.phase ≠ .on) (c n : Nat) : s.powerEntry c n = s := by
  simp [State.powerEntry, State.starts_of_not_on h]
theorem State.fnReset_of_not_on (h : s.phase ≠ .on) (k : FnReset) : s.fnReset k = s := by simp [State.fnReset, h]
theorem State.startCal_of_not_on (h : s.phase ≠ .on) (c n : Nat) : s.startCal c n = s := by
  simp [State.startCal, State.starts_of_not_on h]
theorem State.startRaw_of_not_on (h : s.phase ≠ .on) (c n : Nat) : s.startRaw c n = s := by
  simp [State.startRaw, State.starts_of_not_on h]
theorem State.startSelf_of_not_on (h : s.phase ≠ .on) (c n : Nat) : s.startSelf c n = s := by
  simp [State.startSelf, State.starts_of_not_on h]
theorem State.pfailAccept_of_not_on (h : s.phase ≠ .on) (d : Bool) : s.pfailAccept d = s := by simp [State.pfailAccept, h]
theorem State.selfFault_of_not_on (h : s.phase ≠ .on) (c u : Nat) : s.selfFault c u = s := by simp [State.selfFault, h]
theorem State.windowWrite_of_not_on (h : s.phase ≠ .on) (w : HeldWrite) : s.windowWrite w = s := by simp [State.windowWrite, h]

end Sys2Proof.Machine
end

