-- ==== Sys2Proof/Laws/Memory.lean ====
section
/-! SUPPORT. What the block stores by address: every operation on the scratchpad, on the NOR bytes and on the registers keeps their canonical
form, and what is written reads back. -/

namespace Sys2Proof.Machine

/-! ## Stores -/

theorem storeSorted_filter {α : Type} (p : Nat × α → Bool) (m : Store α) : ∀ {lo : Option Nat}, storeSorted lo m = true →
    storeSorted lo (m.filter p) = true := by
  induction m with
  | nil => intro lo h; exact h
  | cons e t ih =>
    intro lo h
    obtain ⟨a, b⟩ := e
    have h' := h
    simp only [storeSorted, Bool.and_eq_true] at h
    rw [List.filter_cons]
    split
    · simp only [storeSorted, Bool.and_eq_true]
      exact ⟨h.1, ih h.2⟩
    · refine storeSorted_mono (lo := some a) (ih h.2) ?_
      intro x hx
      subst hx
      have := h.1
      exact ⟨a, rfl, by simp at this; omega⟩

/-- Entries taken out of a store leave it in its canonical form. -/
theorem storeWf_filter {α : Type} [DecidableEq α] {d : Nat → α} {m : Store α} (p : Nat × α → Bool) (h : storeWf d m = true) :
    storeWf d (m.filter p) = true := by
  simp only [storeWf, Bool.and_eq_true, List.all_eq_true] at h ⊢
  exact ⟨storeSorted_filter p m h.1, fun e he => h.2 e (List.mem_of_mem_filter he)⟩

/-! ## NOR bytes -/

theorem norPut_wf (l : List Byte) : ∀ {m : Store Byte} {o : Nat}, storeWf norBlank m = true → storeWf norBlank (norPut m o l) = true := by
  induction l with
  | nil => intro m o h; exact h
  | cons b t ih => intro m o h; exact ih (storePut_wf h)

theorem norClear_wf (l : List Byte) : ∀ {m : Store Byte} {o : Nat}, storeWf norBlank m = true → storeWf norBlank (norClear m o l) = true := by
  induction l with
  | nil => intro m o h; exact h
  | cons b t ih => intro m o h; exact ih (storePut_wf h)

theorem norWipe_wf {m : Store Byte} {o : Nat} (h : storeWf norBlank m = true) : storeWf norBlank (norWipe m o) = true := storeWf_filter _ h

/-- Bytes outside those put are as before. -/
theorem norPut_other (l : List Byte) : ∀ (m : Store Byte) (o a : Nat), a < o ∨ o + l.length ≤ a →
    storeGet norBlank (norPut m o l) a = storeGet norBlank m a := by
  induction l with
  | nil => intro m o a _; rfl
  | cons b t ih =>
    intro m o a h
    simp only [List.length_cons] at h
    unfold norPut
    rw [ih _ _ _ (by omega), storeGet_storePut_ne (by omega)]

/-- Bytes put read back. -/
theorem norPut_get (l : List Byte) : ∀ (m : Store Byte) (o i : Nat) (h : i < l.length),
    storeGet norBlank (norPut m o l) (o + i) = l[i] := by
  induction l with
  | nil => intro m o i h; simp at h
  | cons b t ih =>
    intro m o i h
    unfold norPut
    cases i with
    | zero =>
      rw [norPut_other t _ _ _ (by omega), Nat.add_zero, storeGet_storePut_self]
      rfl
    | succ j =>
      have := ih (storePut norBlank m o b) (o + 1) j (by simpa using h)
      rw [show o + (j + 1) = o + 1 + j by omega, this]
      rfl

/-! ## The scratchpad -/

@[simp] theorem State.setFlips_sp (s : State) (k : Nat) (v : Nat × Nat) : (s.setFlips k v).liner.sp = s.liner.sp := rfl

theorem State.setSpWord_wf {s : State} {off : Nat} {w : Word} (h : Memory.wf s.liner.sp = true) :
    Memory.wf (s.setSpWord off w).liner.sp = true := by
  unfold State.setSpWord
  split
  · exact h
  · exact storePut_wf h

theorem State.spPut_wf (l : List Byte) : ∀ {s : State} {off : Nat}, Memory.wf s.liner.sp = true → Memory.wf (s.spPut off l).liner.sp = true := by
  induction l with
  | nil => intro s off h; exact h
  | cons b t ih => intro s off h; exact ih (State.setSpWord_wf h)

/-- A word outside area 0 reads back, and no other word of the scratchpad changes. -/
theorem State.setSpWord_get {s : State} {off : Nat} {w : Word} (h : s.areaOf off ≠ some 0) :
    storeGet (fun _ => 0#64) (s.setSpWord off w).liner.sp (off / 8) = w ∧
    ∀ k, k ≠ off / 8 → storeGet (fun _ => 0#64) (s.setSpWord off w).liner.sp k = storeGet (fun _ => 0#64) s.liner.sp k := by
  unfold State.setSpWord
  rw [if_neg h]
  exact ⟨storeGet_storePut_self, fun k hk => storeGet_storePut_ne hk⟩

/-! ## Registers and reset -/

theorem State.setReg_regsWf {s : State} {o : Nat} {w : Word} (h : s.regsWf = true) : (s.setReg o w).regsWf = true := storePut_wf h
theorem State.setF_regsWf {s : State} {f : Field} {v : Nat} (h : s.regsWf = true) : (s.setF f v).regsWf = true := storePut_wf h

theorem reset_regsWf : State.reset.regsWf = true := rfl
theorem reset_memory_wf : Memory.wf State.reset.liner.sp = true := rfl
theorem reset_nor_wf : storeWf norBlank State.reset.cfs.mem = true := rfl

end Sys2Proof.Machine
end

