-- ==== Sys2Proof/Laws/Objects.lean ====
section
/-! SUPPORT. The numbered objects of the state: what is set reads back and no other changes; and what each shared operation on a queue entry, a
sleeping instance or the fatal state can do, said once. -/

namespace Sys2Proof.Machine

/-! ## Objects by number -/

@[simp] theorem State.ctx_setCtx (s : State) (k : Nat) (x : Ctx) : (s.setCtx k x).ctx k = x := storeGet_storePut_self
theorem State.ctx_setCtx_ne {s : State} {k i : Nat} {x : Ctx} (h : i ≠ k) : (s.setCtx k x).ctx i = s.ctx i := storeGet_storePut_ne h
@[simp] theorem State.queue_setQueue (s : State) (k : Nat) (x : Queue) : (s.setQueue k x).queue k = x := storeGet_storePut_self
theorem State.queue_setQueue_ne {s : State} {k i : Nat} {x : Queue} (h : i ≠ k) : (s.setQueue k x).queue i = s.queue i := storeGet_storePut_ne h
@[simp] theorem State.die_setDie (s : State) (k : Nat) (x : Die) : (s.setDie k x).die k = x := storeGet_storePut_self
theorem State.die_setDie_ne {s : State} {k i : Nat} {x : Die} (h : i ≠ k) : (s.setDie k x).die i = s.die i := storeGet_storePut_ne h
@[simp] theorem State.chan_setChan (s : State) (k : Nat) (x : Chan) : (s.setChan k x).chan k = x := storeGet_storePut_self
theorem State.chan_setChan_ne {s : State} {k i : Nat} {x : Chan} (h : i ≠ k) : (s.setChan k x).chan i = s.chan i := storeGet_storePut_ne h
@[simp] theorem State.quad_setQuad (s : State) (k : Nat) (x : Quad) : (s.setQuad k x).quad k = x := storeGet_storePut_self
theorem State.quad_setQuad_ne {s : State} {k i : Nat} {x : Quad} (h : i ≠ k) : (s.setQuad k x).quad i = s.quad i := storeGet_storePut_ne h
@[simp] theorem State.mv_setMv (s : State) (k : Nat) (x : MvCh) : (s.setMv k x).mv k = x := storeGet_storePut_self
theorem State.mv_setMv_ne {s : State} {k i : Nat} {x : MvCh} (h : i ≠ k) : (s.setMv k x).mv i = s.mv i := storeGet_storePut_ne h
@[simp] theorem State.pdie_setPdie (s : State) (k : Nat) (x : Pdie) : (s.setPdie k x).pdie k = x := storeGet_storePut_self
theorem State.pdie_setPdie_ne {s : State} {k i : Nat} {x : Pdie} (h : i ≠ k) : (s.setPdie k x).pdie i = s.pdie i := storeGet_storePut_ne h
@[simp] theorem State.cw_setCw (s : State) (k : Nat) (x : Cw) : (s.setCw k x).cw k = x :=
  (storeGet_storeIns _ _ _ _).trans (if_pos rfl)
theorem State.cw_setCw_ne {s : State} {k i : Nat} {x : Cw} (h : i ≠ k) : (s.setCw k x).cw i = s.cw i :=
  (storeGet_storeIns _ _ _ _).trans (if_neg h)
@[simp] theorem State.prog_setProg (s : State) (k : Nat) (x : Prog) : (s.setProg k x).prog k = x :=
  (storeGet_storeIns _ _ _ _).trans (if_pos rfl)
theorem State.prog_setProg_ne {s : State} {k i : Nat} {x : Prog} (h : i ≠ k) : (s.setProg k x).prog i = s.prog i :=
  (storeGet_storeIns _ _ _ _).trans (if_neg h)
@[simp] theorem State.eraseJob_setErase (s : State) (k : Nat) (x : EraseJob) : (s.setErase k x).eraseJob k = x :=
  (storeGet_storeIns _ _ _ _).trans (if_pos rfl)
theorem State.eraseJob_setErase_ne {s : State} {k i : Nat} {x : EraseJob} (h : i ≠ k) : (s.setErase k x).eraseJob i = s.eraseJob i :=
  (storeGet_storeIns _ _ _ _).trans (if_neg h)
@[simp] theorem State.task_setTask (s : State) (k : Nat) (x : Task) : (s.setTask k x).task k = x :=
  (storeGet_storeIns _ _ _ _).trans (if_pos rfl)
theorem State.task_setTask_ne {s : State} {k i : Nat} {x : Task} (h : i ≠ k) : (s.setTask k x).task i = s.task i :=
  (storeGet_storeIns _ _ _ _).trans (if_neg h)
@[simp] theorem State.burst_setBurst (s : State) (k : Nat) (x : Burst) : (s.setBurst k x).burst k = x :=
  (storeGet_storeIns _ _ _ _).trans (if_pos rfl)
theorem State.burst_setBurst_ne {s : State} {k i : Nat} {x : Burst} (h : i ≠ k) : (s.setBurst k x).burst i = s.burst i :=
  (storeGet_storeIns _ _ _ _).trans (if_neg h)

/-- Bands of different sets have different keys, as do bands of one set below the key's step of 16,384. -/
theorem bandKey_inj {g b g' b' : Nat} (hb : b < 16384) (hb' : b' < 16384) : bandKey g b = bandKey g' b' ↔ g = g' ∧ b = b' := by
  unfold bandKey
  omega
@[simp] theorem State.band_setBand (s : State) (g b : Nat) (x : Band) : (s.setBand g b x).band g b = x := storeGet_storePut_self
@[simp] theorem State.wband_setWband (s : State) (g b : Nat) (x : WBand) : (s.setWband g b x).wband g b = x := storeGet_storePut_self
@[simp] theorem State.exItems_setExec (s : State) (h : Nat) (l : List Item) : (s.setExec h l).exItems h = l := storeGet_storePut_self
theorem State.exItems_setExec_ne {s : State} {h k : Nat} {l : List Item} (hk : k ≠ h) : (s.setExec h l).exItems k = s.exItems k :=
  storeGet_storePut_ne hk

/-! ## Queue entries -/

/-- What ending an entry does (R270). -/
theorem State.finish_spec (s : State) (c status detail r0 r1 r2 : Nat) :
    finished s (s.finish c status detail r0 r1 r2) c status detail r0 r1 r2 :=
  ⟨(State.ctx_setCtx s c _ : (s.setCtx c { s.ctx c with
      state := .ready, status := status, detail := detail, r0 := r0, r1 := r1, r2 := r2, readySeq := s.readySeq }).ctx c = _),
    fun k hk => (State.ctx_setCtx_ne hk : (s.setCtx c { s.ctx c with
      state := .ready, status := status, detail := detail, r0 := r0, r1 := r1, r2 := r2, readySeq := s.readySeq }).ctx k = _), rfl⟩

/-- What beginning the work of an entry does. -/
theorem State.runCtx_spec (s : State) (c : Nat) : (s.runCtx c).ctx c = { s.ctx c with state := .running } ∧
    (∀ k, k ≠ c → (s.runCtx c).ctx k = s.ctx k) ∧ s.runCtx c = { s with ctxs := (s.runCtx c).ctxs } :=
  ⟨State.ctx_setCtx s c { s.ctx c with state := .running }, fun k hk =>
    (State.ctx_setCtx_ne hk : (s.setCtx c { s.ctx c with state := .running }).ctx k = _), rfl⟩

/-! ## Sleep and the policy engine -/

/-- What a start of a wake does (R615): the first cause counts, and no other register changes. -/
theorem State.startWake_spec (s : State) (c : Nat) : (s.asleep = true → s.sleep.wake = 0 →
      s.startWake c = ({ s with sleep := { s.sleep with wake := c } } : State).setF F.PWR_STAT.LAST_WAKE c) ∧
    (s.asleep = false ∨ s.sleep.wake ≠ 0 → s.startWake c = s) := by
  unfold State.startWake
  refine ⟨fun h1 h2 => by rw [h1, h2]; rfl, fun h => if_neg ?_⟩
  rw [Bool.and_eq_true, beq_iff_eq]
  rintro ⟨h1, h2⟩
  rcases h with h | h
  · rw [h1] at h; exact absurd h (by decide)
  · exact h h2

/-- A step of the policy engine tells the watchdog alone (R635). -/
theorem State.peStep_spec (s : State) (a : Nat) : s.peStep a = { s with wdog := (s.peStep a).wdog } ∧ (s.peStep a).wdog.activity = a ∧
    (s.peStep a).wdog.lastStep = s.tickno := ⟨rfl, rfl, rfl⟩

/-- What leaves the block leaves it in order. -/
theorem State.emit_spec (s : State) (x : Out) : (s.emit x).out = s.out ++ [x] ∧ s.emit x = { s with out := (s.emit x).out } := ⟨rfl, rfl⟩

end Sys2Proof.Machine
end

