-- ==== Sys2Proof/WellFormed.lean ====
section
/-! DEFINITION. Well-formed commands: every operand lies in the range its interface can carry (chapters 1, 5, 7, 13 to 15, 17, 18, 20). -/

namespace Sys2Proof

/-- Every operand lies in its range. An operand that has none is not checked. -/
def Instr.wf : Instr → Bool
  | .regWrite win _ offset width value => decide (win < 4) && (width == 4 || width == 8) && offset % width == 0 && (width == 8 || decide (value.toNat < 2 ^ 32))
  | .splitReadLow win _ offset => decide (win < 4) && offset % 4 == 0
  | .blockReset => true
  | .blockResetRelease => true
  | .imageLoad _ => true
  | .partnerWaitTimeout => true
  | .slotReload _ => true
  | .romEnumerate quad _ up down channels => decide (quad < 24) && decide (up < 64) && decide (down < 64) && decide (channels.length ≤ 4)
  | .railIdleCheck => true
  | .gauntletLock => true
  | .censusBringup quads decoders => quads.all (fun q => decide (q.quad < 24)) && decoders.all (fun d => decide (d < 62))
  | .railLoadStep => true
  | .censusJournal _ => true
  | .censusRecovery _ => true
  | .recoveryRowClose => true
  | .writeReady => true
  | .holdupLimit => true
  | .holdupTimeout => true
  | .holdupRemeasure vtop => decide (vtop < 65536)
  | .gapAssumed => true
  | .censusRecordCommit => true
  | .tick => true
  | .aoEdge => true
  | .planCommit => true
  | .cmdItem channel _ _ => decide (channel < 192)
  | .mseqOverrun channel _ _ => decide (channel < 192)
  | .statusItem channel _ _ => decide (channel < 192)
  | .doutItem channel _ _ _ => decide (channel < 192)
  | .dinItem channel _ _ => decide (channel < 192)
  | .trainItem channel dies => decide (channel < 192) && dies.all (fun d => decide (d.slot < 16) && decide (d.status < 256))
  | .suspendAbandon pdie => decide (pdie < 4096)
  | .dieTimeout pdie => decide (pdie < 4096)
  | .dieUnresponsive pdie => decide (pdie < 4096)
  | .telemetrySample sensor _ => match sensor with | .rail g => decide (g < 8) | .vccq q => decide (q < 24) | .quadTemp q => decide (q < 24) | .bank => true | .coreTemp => true
  | .vccqHoldEnd quad => decide (quad < 48)
  | .zqShortCal quad up down => decide (quad < 48) && decide (up < 64) && decide (down < 64)
  | .trainForce channel => decide (channel < 96)
  | .queueEnable _ q => decide (q < 1024)
  | .queueShutdown _ q => decide (q < 1024)
  | .pollResult q _ => decide (q < 1024)
  | .arbGrant => true
  | .entryFetchDone q pos _ => decide (q < 1024) && decide (pos < 65536)
  | .fragmentTableFetch ctx _ => decide (ctx < 16384)
  | .entryAdmit ctx => decide (ctx < 16384)
  | .completionPost ctx => decide (ctx < 16384)
  | .read ctx => decide (ctx < 16384)
  | .readResolve ctx => decide (ctx < 16384)
  | .decodeDone _ _ _ => true
  | .write ctx => decide (ctx < 16384)
  | .tileIntakeDone ctx tiles => decide (ctx < 16384) && tiles.all (fun t => t.length == 4128)
  | .placement ctx => decide (ctx < 16384)
  | .substitution => true
  | .journalCheckpoint => true
  | .eraseBand ctx => decide (ctx < 16384)
  | .eraseStart => true
  | .eraseSignatureCheck _ => true
  | .copyMedia ctx => decide (ctx < 16384)
  | .copyMemory ctx => decide (ctx < 16384)
  | .readRawMode0 ctx => decide (ctx < 16384)
  | .readRawMode1 ctx => decide (ctx < 16384)
  | .readRawMode2 ctx => decide (ctx < 16384)
  | .scrubRange ctx => decide (ctx < 16384)
  | .calibrateSample ctx => decide (ctx < 16384)
  | .calibrateSearch ctx => decide (ctx < 16384)
  | .calibrateReset ctx => decide (ctx < 16384)
  | .selfTestHard ctx => decide (ctx < 16384)
  | .selfTestSoft ctx => decide (ctx < 16384)
  | .bandOpen ctx => decide (ctx < 16384)
  | .bandClose ctx => decide (ctx < 16384)
  | .fenceQueue ctx => decide (ctx < 16384)
  | .fenceOwner ctx => decide (ctx < 16384)
  | .queryVdieMap ctx => decide (ctx < 16384)
  | .querySet ctx => decide (ctx < 16384)
  | .queryBand ctx => decide (ctx < 16384)
  | .querySpares ctx => decide (ctx < 16384)
  | .queryPlanner ctx => decide (ctx < 16384)
  | .queryQueue ctx => decide (ctx < 16384)
  | .queryDecoder ctx => decide (ctx < 16384)
  | .queryChannelRead ctx => decide (ctx < 16384)
  | .queryLevels ctx => decide (ctx < 16384)
  | .queryLlr ctx => decide (ctx < 16384)
  | .queryPatrol ctx => decide (ctx < 16384)
  | .queryPartnerPlan ctx => decide (ctx < 16384)
  | .queryTelemetry ctx => decide (ctx < 16384)
  | .setTime ctx => decide (ctx < 16384)
  | .vdieRetire ctx => decide (ctx < 16384)
  | .vdieRebuild ctx => decide (ctx < 16384)
  | .vdieAddSpare ctx => decide (ctx < 16384)
  | .setDefine ctx members => decide (ctx < 16384) && members.all (fun v => decide (v < 65536))
  | .setDelete ctx => decide (ctx < 16384)
  | .powerCancel ctx => decide (ctx < 16384)
  | .powerPark ctx => decide (ctx < 16384)
  | .powerMitten ctx => decide (ctx < 16384)
  | .reqCancel => true
  | .reqPark => true
  | .reqMitten => true
  | .decoderTest => true
  | .decoderTestDone _ => true
  | .levelSample => true
  | .valleySearch => true
  | .tableScan => true
  | .patrolPassEnd => true
  | .rehomeStart => true
  | .rehomeRelease => true
  | .rebuildStart => true
  | .powerFailAccept _ => true
  | .pfailGlitch _ => true
  | .pfailDrill => true
  | .brownoutDrainEnd => true
  | .brownoutShelterEnd => true
  | .powerRestored => true
  | .thermAssert _ => true
  | .thermDeassert _ => true
  | .thermGlitch _ => true
  | .lineFillDone _ bytes => bytes.length == 256
  | .prefetchFillDone _ bytes => bytes.length == 256
  | .writebackDone port tag => decide (port < 4) && decide (tag < 256)
  | .writebackError port tag _ => decide (port < 4) && decide (tag < 256)
  | .mergeFlush _ => true
  | .bucketLeak => true
  | .scrubLine _ => true
  | .clean => true
  | .inval => true
  | .cleanInval => true
  | .zero => true
  | .lock => true
  | .unlock => true
  | .cleanAll => true
  | .cleanInvalAll => true
  | .unlockAll => true
  | .scrub => true
  | .maintDone => true
  | .linerDisable => true
  | .linerDisabled => true
  | .linerEnable => true
  | .flipArm => true
  | .spWindowWrite offset width _ => (width == 4 || width == 8) && offset % width == 0 && decide (offset < 2 ^ 26)
  | .moverGo channels => decide (channels.toNat < 2 ^ 32)
  | .moverReserve channel => decide (channel < 32)
  | .moverGroupDone channel _ => decide (channel < 32)
  | .moverRecord channel => decide (channel < 32)
  | .moverAbort channels => decide (channels.toNat < 2 ^ 32)
  | .moverStopDone channel => decide (channel < 32)
  | .moverRestart => true
  | .fabricError port tag => decide (port < 4) && decide (tag < 256)
  | .fabricTimeout port tag => decide (port < 4) && decide (tag < 256)
  | .lateResponse port tag epoch => decide (port < 4) && decide (tag < 256) && decide (epoch < 16)
  | .eventAck target => decide (target < 16)
  | .eventEoi target source => decide (target < 16) && decide (source < 512)
  | .evcSet source => decide (source < 512)
  | .evcPendClear k _ => decide (k < 8)
  | .moderationRelease _ source => decide (source < 1024)
  | .statusHoldoffEnd group target => decide (group < 32) && decide (target < 16)
  | .coreIdleAssert target => decide (target < 16)
  | .commit _ => true
  | .aheadErase fails => decide (fails ≤ 2)
  | .readrec _ => true
  | .update _ => true
  | .activate _ => true
  | .abort _ => true
  | .format _ => true
  | .rawRead _ => true
  | .rawProg _ => true
  | .rawErase _ => true
  | .norOpDone _ _ => true
  | .norTimeout => true
  | .functionLevelReset => true
  | .hotReset => true
  | .linkDown => true
  | .functionResetDone => true
  | .queryWindowStart => true
  | .busMasterChange _ => true
  | .d3Transition _ => true
  | .interruptModeChange _ _ _ => true
  | .msixUnmask vector => decide (vector < 1024)
  | .heartbeat _ _ period stage flags ack => decide (period < 4) && decide (stage < 16) && decide (flags < 256) && decide (ack < 2 ^ 32)
  | .journal mseq _ _ => decide (mseq < 2 ^ 32)
  | .levels mseq vdie _ _ table => decide (mseq < 2 ^ 32) && decide (vdie < 4096) && table.length == 240
  | .qcfg mseq queue owner _ regs => decide (mseq < 2 ^ 32) && decide (queue < 1024) && decide (owner < 4) && regs.length == 64
  | .qidx mseq queue sqCi cqPi _ _ => decide (mseq < 2 ^ 32) && decide (queue < 1024) && decide (sqCi < 65536) && decide (cqPi < 65536)
  | .ctxOpen mseq ctx queue pos cid op => decide (ctx < 16384) && decide (mseq < 2 ^ 32) && decide (queue < 1024) && decide (pos < 65536) && decide (cid < 65536) && decide (op < 256)
  | .ctxDone mseq ctx kind => decide (ctx < 16384) && decide (mseq < 2 ^ 32) && (kind == 1 || kind == 2)
  | .place mseq ctx _ set band _ _ => decide (ctx < 16384) && decide (mseq < 2 ^ 32) && decide (set < 256) && decide (band < 16384)
  | .resync mseq _ _ _ => decide (mseq < 2 ^ 32)
  | .cuffResend => true
  | .cuffRetrain _ => true
  | .heartbeatMissed _ => true
  | .selfCheckFault code _ => decide (1 ≤ code) && decide (code ≤ 4)
  | .yield => true
  | .handoverDecision _ => true
  | .handoverAbort _ _ vectors => vectors.all (fun v => decide (v < 1024))
  | .fosterWriteReady _ => true
  | .partnerDrop ctx => decide (ctx < 16384)
  | .giveBack => true
  | .quadGate quad => decide (quad < 24)
  | .sleepEntry _ => true
  | .alarm => true
  | .epwakeAssert => true
  | .wakeComplete zq => zq.all (fun z => decide (z.1 < 64) && decide (z.2 < 64))
  | .mittenWindow => true
  | .watchdogExpire => true
  | .watchdogForce => true
  | .coreIdleDeassert target => decide (target < 16)
  | .cuffBeatCrcError => true
  | .partnerImageIdent hcrc generation => decide (hcrc < 2 ^ 32) && decide (generation < 2 ^ 32)
  | .windowAccessInMitten _ => true
  | .powerLoss => true
  | .powerOn => true

end Sys2Proof
end

