-- ==== Sys2Proof/Tests/Slice0.lean ====
section
/-! SUPPORT. Tests: what WellFormed refuses, words of the spec's tables, a witness for the hypotheses of every statement. -/

namespace Sys2Proof.Tests
open Sys2Proof Sys2Proof.Machine

set_option maxRecDepth 100000
set_option exponentiation.threshold 600

/-! ## States to test on -/

/-- The next state of a command; State.reset where it gives none. -/
def nextOf (o : Host.Outcome State Fault Refusal) : State := match o with
  | .next t => t
  | .fault _ => State.reset
  | .refused _ => State.reset
/-- The state after a command. -/
def after (i : Instr) (s : State) : State := nextOf (exec i s)
/-- Sets fields. -/
def fields (s : State) (l : List (Field × Nat)) : State := l.foldl (fun s e => s.setF e.1 e.2) s
/-- Power is there and reset released, nothing else has happened. -/
def on : State := { State.reset with phase := .on, windowsOpen := true }
/-- The instance after census. -/
def run : State := fields on [(F.PWR_CENSUS.STAGE, 7), (F.PWR_CENSUS.READ_READY, 1), (F.PWR_CENSUS.WRITE_READY, 1)]
/-- In Park. -/
def park : State := run.setF F.PWR_STAT.STATE 2
/-- In Mitten. -/
def mitten : State := run.setF F.PWR_STAT.STATE 3

/-! ## The machine, registers and events: the hypotheses of the statements are met -/

theorem witness_StepRunsTheFrontCommand : ({ on with pending := [.tick] } : State).pending = [.tick] ∧ on.pending = [] := by decide
theorem witness_NotPoweredIsInert : State.reset.phase ≠ .on ∧ ¬ actsUnpowered .tick ∧
    step { State.reset with pending := [.tick] } = .next State.reset := by
  refine ⟨by decide, ?_, rfl⟩
  rintro (h | h | h | h | h | ⟨_, _, _, h⟩) <;> cases h
theorem witness_HeldRegistersKeepResetValues : State.reset.heldWell := fun _ => ⟨rfl, fun _ _ _ => rfl⟩
theorem witness_IdentificationIsFixed : on.phase = .on ∧ on.asleep = false ∧ 15 < 16 := by decide
theorem witness_PowerAndResetCommands : State.reset.phase ≠ .off ∧ State.reset.phase = .held ∧ (after .powerLoss on).phase = .off := by decide

/-- After Gauntlet lock, with an event log. -/
def lockedRun : State := fields run [(F.GNT_LOCK.LOCK, 1), (F.GLB_LOG_CFG.CAP, 16)]
theorem witness_PlainRegisterWrite : (0xE0100, 0xE0FFFFF0#64) ∈ plainRegs ∧ run.served = true ∧ run.asleep = false := by decide
theorem witness_LockedWriteIsRecorded : (0x12000 + 16 * 1023, 0xFFFFFFFFFFFFFFFF#64) ∈ gauntletRegs 63 1023 ∧ lockedRun.served = true ∧
    lockedRun.asleep = false ∧ lockedRun.locked = true ∧ lockedRun.pfail = false ∧ lockedRun.getF F.GLB_LOG_CFG.CAP ≠ 0 ∧
    (lockedRun.reg (0x12000 + 16 * 1023) ^^^ 1#64) &&& 0xFFFFFFFFFFFFFFFF#64 ≠ 0#64 ∧
    (lockedRun.reg (0x12000 + 16 * 1023) ^^^ 0#64) &&& 0xFFFFFFFFFFFFFFFF#64 = 0#64 := by decide
theorem witness_UnassignedOffsetsReadZero : run.keyAt 0 0x18 = none ∧ run.keyAt 0 0x1C = none ∧ 0x18 % 8 = 0 := by decide
/-- The low half of MVR_MAP of channel 31 was read, and written, by requester 3. -/
def halves : State := after (.regWrite 0 3 0x90FC0 4 7#64) (after (.splitReadLow 0 3 0x90FC0) run)
theorem witness_MisalignedAndSplitAccess : (halves.split 3).shadow = some (0x90040 + 0x80 * 31, 0xFEDCBA98) ∧
    (halves.split 3).held = some (0x90040 + 0x80 * 31, 7) ∧ halves.getF (F.MVR_STAT.STATE 31) = 0 ∧ halves.served = true ∧ halves.asleep = false ∧
    (after (.regWrite 0 3 0x90FC4 4 5#64) halves).reg 0x90FC0 = 0x500000007#64 := by decide
theorem witness_WritesInParkAreHeld : park.parked = true ∧ AsWrite park .reqPark 1 (HeldWrite.mk 0 0 0xB0300 4 (setBits (park.reg 0xB0300) 1 0 1)) :=
  ⟨by decide, .reqPark⟩

/-- Source 0 is pending, enabled for core 0 with priority 0; target 15 serves a source of priority 0. -/
def pending : State :=
  { ((run.setReg 0x20000 0x80000000#64)).raise 0 with evc := { (run.raise 0).evc with nests := [(15, [StackEntry.mk 3 0])] } }
theorem witness_AcknowledgeTakesTheBestSource : pending.served = true ∧ pending.mitten = false ∧ pending.deliverable 0 0 = true ∧
    (∀ x, x < 512 → pending.deliverable 0 x = true → pending.prio 0 < pending.prio x ∨ (pending.prio 0 = pending.prio x ∧ 0 ≤ x)) := by
  have h : pending.prio 0 = 0 := by decide
  refine ⟨by decide, by decide, by decide, fun x _ _ => ?_⟩
  omega
theorem witness_AcknowledgeTakesTheBestSource_none : ∀ src, src < 512 → pending.deliverable 15 src = false := by
  have h : pending.running 15 = 0 := by decide
  intro src _
  simp [State.deliverable, h]
theorem witness_EndOfInterrupt : pending.served = true ∧ pending.asleep = false ∧ pending.stack 15 = [StackEntry.mk 3 0] ∧ pending.stack 0 = [] ∧
    (after (.eventEoi 15 3) pending).running 15 = 16 ∧ (after (.eventEoi 15 4) pending).getF (F.EVC_TGT_STAT.FAULTS 15) = 1 := by decide
/-- A completion source of group 0 that counts to 4 has been raised once, 100 ticks ago. -/
def counted : State :=
  (((fields run [(F.EVC_GRP_CFG.COUNT_M1 0, 3), (F.EVC_GRP_CFG.HOLDOFF 0, 100)]).raise 3).setF F.TCK_TICKNO.TICKNO 100)
theorem witness_PendingModerationAndHoldoff : Ev.assigned run.build.pair 3 = true ∧ Ev.level 3 = false ∧ Ev.level Ev.thermalAlert = true ∧
    counted.asleep = false ∧ (counted.mod 3).count ≠ 0 ∧ (counted.mod 3).released = false ∧ counted.target 3 = 0 ∧
    (counted.mod 3).first + counted.getF (F.EVC_GRP_CFG.HOLDOFF (3 / 16)) ≤ counted.tickno ∧
    (after (.moderationRelease false 3) counted).evReleased 3 = true ∧
    ({ run with evc := { run.evc with ackTick := [(0, some 0)] } } : State).ackTick 0 0 = some 0 := by decide

/-! ## Time and power -/

theorem witness_TimebaseIsExact : on.phase ≠ .off ∧ on.getF F.PWR_STAT.STATE = 0 ∧ park.getF F.PWR_STAT.STATE = 2 ∧
    (after .aoEdge park).aocnt = 1 ∧ (after .aoEdge on).getF F.TCK_MTIME.MEDIATIME = 30 ∧ (after .aoEdge on).getF F.TCK_FRAC.ACC = 265 := by decide
/-- R619's example: 1,000,003 counts from ACC 300 advance MediaTime by 30,517,670 and leave ACC 135. -/
theorem test_mtAdvance : mtAdvance 0 300 1000003 = (30517670, 135) := by decide
/-- R620's example: 8-µs ticks, the same counts from phase 1,280 give 3,814,709 ticks and phase 91. -/
theorem test_tickAdvance : tickAdvance 0 1280 1000003 8 = (3814709, 91) := by decide
theorem witness_TickAndCommit : run.ticking = true ∧ on.ticking = false ∧ ({ on with build := .dz96 } : State).build.pair = false ∧
    run.clocked = true ∧ run.pln.planTick ≠ run.tickno + 1 := by decide
/-- A context of queue 5 with an admitted entry of an opcode, the words of which are `w`. -/
def admitted (s : State) (op : Nat) (w : BitVec 512) : State :=
  s.setCtx 0 { Ctx.zero with state := .admitted, queue := 5, entry := w ||| BitVec.ofNat 512 op }
/-- Byte `n` of an entry. -/
def byte (n v : Nat) : BitVec 512 := BitVec.ofNat 512 v <<< (8 * n)
theorem witness_SleepRequestsAndEntry : run.served = true ∧ run.asleep = false ∧ (admitted run opPOWER (byte 32 2)).starts 0 opPOWER = true ∧
    ent ((admitted run opPOWER (byte 32 2)).ctx 0).entry 32 1 = 2 ∧
    ((after (.powerMitten 0) (admitted run opPOWER (byte 32 2))).ctx 0).r0 = 2 := by decide
/-- A sleep request of Park is pending. -/
def drowsy : State := fields run [(F.PWR_STAT.PENDING, 1), (F.PWR_CTRL.REQ, 1)]
/-- A request that is on its way. -/
def asked (who : FabWho) : FabReq := FabReq.mk who false 0x1000 64 (some (FabTag.mk 0 3 0 10)) false [] [] []
theorem witness_SleepRequestsAndEntry_entry : drowsy.working = true ∧ drowsy.pfail = false ∧ drowsy.pf.due = false ∧ drowsy.getF F.PWR_STAT.PENDING ≠ 0 ∧
    drowsy.liner.merge = [] ∧ drowsy.getF F.PWR_STAT.STATE ≤ 1 ∧ drowsy.sleepMay 1 = true ∧ drowsy.fab.all (fun r => r.issued.isNone) = true ∧
    ({ drowsy with fab := [asked (.poll 3)] } : State).fab.all (fun r => r.issued.isNone) = false ∧
    ({ drowsy with ctxs := (admitted run opPOWER 0#512).ctxs } : State).sleepMay 1 = false ∧
    (after (.sleepEntry 0) drowsy).getF F.PWR_STAT.STATE = 2 := by decide
theorem witness_WakeAndItsTime : park.phase = .on ∧ park.asleep = true ∧ park.sleep.wake = 0 ∧ mitten.served = true ∧ mitten.mitten = true ∧
    park.getF F.PWR_ALARM.AT = 0 ∧ ({ park.setF F.PWR_ALARM.AT 1 with regs := ((park.setF F.PWR_ALARM.AT 1).setF F.TCK_AOCNT.COUNT 1).regs } : State).aocnt = 1 ∧
    (after .epwakeAssert park).working = true ∧ (after .epwakeAssert park).sleep.wake = 2 ∧ (after .epwakeAssert park).getF F.PWR_STAT.STATE = 2 ∧
    (after .epwakeAssert mitten).getF F.PWR_STAT.STATE = 3 ∧ (after (.wakeComplete []) (after .epwakeAssert park)).getF F.PWR_STAT.STATE = 0 := by decide
/-- A Mitten window is due; queue 5 is enabled in the second. -/
def windowDue : State := { mitten with sleep := { mitten.sleep with nextWindow := 0, period := 1 } }
def windowPolls : State :=
  { fields windowDue [(F.WQ_STATUS.STATE 5, 1), (F.LNR_CTRL.STATE, 0)] with queues := [(5, { Queue.zero with piSeen := 1 })] }
theorem witness_MittenWindowAndQuadGate : windowDue.working = true ∧ windowDue.getF F.PWR_STAT.STATE = 3 ∧ windowDue.sleep.wake = 0 ∧
    windowDue.sleep.nextWindow ≤ aoDiff windowDue.aocnt windowDue.sleep.firstAo ∧
    aoDiff windowDue.aocnt windowDue.sleep.firstAo < ({ windowDue.sleep with nextWindow := 1 } : Sleep).nextWindow ∧
    windowDue.sleep.sentinels = [] ∧ windowDue.fab = [] ∧ windowPolls.linerOn = false ∧ windowPolls.qState 5 = 1 ∧ 5 ∈ storeKeys windowPolls.queues ∧
    (after .mittenWindow windowPolls).getF F.PWR_STAT.STATE = 4 := by decide
/-- Quad 23 is enabled and idle. -/
def quiet : State := { fields run [(F.PWR_CTRL.IDLE_EN, 1), (qF F.CHU_QUAD_CFG.ENABLED 23, 1)] with sleep := { run.sleep with quiet := [(23, 16)] } }
theorem witness_MittenWindowAndQuadGate_gate : quiet.awake = true ∧ quiet.flag F.PWR_CTRL.IDLE_EN = true ∧ 23 ∈ quiet.enabledQuads ∧ (quiet.quad 23).gated = false ∧
    max 1 (quiet.getF F.PWR_CTRL.IDLE_TICKS) ≤ cnt quiet.sleep.quiet 23 ∧ (after (.quadGate 23) quiet).getF F.PWR_STAT.STATE = 1 := by decide
/-- 16,384 ticks without a step boundary. -/
def stuck : State := run.setF F.TCK_TICKNO.TICKNO 16384
/-- A NOR operation of the policy engine runs. -/
def stuckNor : State := { stuck with cfs := { Cfs.zero with cur := some .append, appends := [Sys2Proof.Machine.Append.mk .block []] } }
theorem witness_PolicyEngineWatchdog : stuck.stage ≠ 15 ∧ stuck.stage ≠ 4 ∧ stuck.stage ≠ 5 ∧ stuck.wdog.wait = none ∧ stuck.wdogRuns = true ∧
    stuck.wdog.lastStep + max 1024 (stuck.getF F.GLB_WDOG_CFG.PERIOD) ≤ stuck.tickno ∧ stuck.peHalted = false ∧
    (stuck.setF F.GLB_WDOG_STAT.PE_HALTED 1).peHalted = true ∧ stuck.peNor = false ∧ stuckNor.peNor = true ∧ stuck.sets = [] ∧ stuck.journals = [] ∧
    stuck.rebuilds = [] ∧ stuck.decs.cur = none ∧ (after .watchdogExpire stuck).getF F.GLB_WDOG_STAT.RESETS = 1 := by decide

/-! ## Power fail, sensors and census -/

theorem witness_PowerFailAndBrownout : run.pfailLen ≤ 4096 ∧ run.fatal = false ∧ run.getF F.PAIR_STAT.STATE ≠ 6 ∧ 6 ≤ run.stage ∧ run.stage < 15 ∧
    run.pfail = false ∧ run.pf.settle = false ∧ run.pf.due = false ∧ run.asleep = false ∧ park.asleep = true ∧ park.sleep.wake = 0 ∧
    (run.setF F.PWR_PFAIL_STAT.PHASE 1).pfail = true ∧ 0 < 1 ∧ 1 < max 1 ((run.setF F.PWR_PFAIL_CFG.FILTER 2).getF F.PWR_PFAIL_CFG.FILTER) ∧
    (after .pfailDrill run).getF F.PWR_PFAIL_STAT.PHASE = 1 ∧ (after (.powerFailAccept 4096) park).sleep.wake = 3 ∧
    (after (.pfailGlitch 1) (run.setF F.PWR_PFAIL_CFG.FILTER 2)).getF F.PWR_PFAIL_STAT.GLITCHES = 1 := by decide
/-- Phases of a brown-out sequence. -/
def brown (n : Nat) : State := run.setF F.PWR_PFAIL_STAT.PHASE n
theorem witness_PowerFailAndBrownout_phases : (brown 2).getF F.PWR_PFAIL_STAT.PHASE = 2 ∧ (brown 2).progs = [] ∧
    (brown 2).dies.all (fun e => e.2.op.isNone) = true ∧ (brown 2).fab = [] ∧ (brown 2).pinReads = [] ∧ (brown 2).residentRows = [] ∧
    (brown 2).journals = [] ∧ ({ brown 2 with progs := [(0, Prog.zero)] } : State).progs ≠ [] ∧
    ({ brown 5 with progs := [(0, { Prog.zero with use := .shelter true })] } : State).progs.any
      (fun e => match e.2.use with | .shelter _ => true | _ => false) = true ∧
    (after .brownoutShelterEnd (brown 5)).getF F.PWR_PFAIL_STAT.PHASE = 6 ∧
    (after .powerRestored (brown 7)).isPending Ev.powerRestored = true := by decide
/-- Stage 6, the plateau of the bank found, or the bank faulty. -/
def plateau : State := { run.setF F.PWR_CENSUS.STAGE 6 with census := { Census.zero with hu := { Census.zero.hu with vTop := some 25000 } } }
def noBank : State := plateau.setF F.PWR_HOLDUP.FAULT 1
/-- The limit was fixed 65,536 ticks ago from 25,000 mV. -/
def remeasure : State := fields run [(F.PWR_HOLDUP.HU_DONE, 1), (F.PWR_HOLDUP.VTOP_MV, 25000), (F.TCK_TICKNO.TICKNO, 65536)]
/-- 500 ms after reset. -/
def late : State := on.setF F.TCK_MTIME.MEDIATIME 500000
theorem witness_HoldUpLimit : holdupLimit 100 10 1 = 64 ∧ holdupLimit 100 10 30 = 3 ∧ holdupLimit 10 10 1 = 0 ∧ plateau.working = true ∧
    plateau.flag F.PWR_HOLDUP.HU_DONE = false ∧ plateau.flag F.PWR_HOLDUP.FAULT = false ∧ noBank.flag F.PWR_HOLDUP.FAULT = true ∧
    plateau.census.hu.vTop = some 25000 ∧ (run.setF F.PWR_CENSUS.STAGE 5).census.hu.vTop = none ∧
    late.census.hu.tHi = none ∧ 1000 * late.gp "HU_TIMEOUT" 0 500 ≤ late.sinceReset ∧ remeasure.flag F.PWR_HOLDUP.HU_DONE = true ∧
    remeasure.census.hu.lastTick + 65536 ≤ remeasure.tickno ∧ 100 * min 100 (remeasure.gp "V_TOP_MAX" 0 0) < 98 * remeasure.getF F.PWR_HOLDUP.VTOP_MV ∧
    98 * (remeasure.setF F.PWR_HOLDUP.VTOP_MV 0).getF F.PWR_HOLDUP.VTOP_MV ≤ 0 := by decide
theorem witness_ThermalFilterAndSensors : run.mitten = false ∧ max 1 (run.getF F.EVC_FILTER.LEN) ≤ 4096 ∧ run.flag F.EVC_FILTER.THERM = false ∧
    (run.setF F.EVC_FILTER.THERM 1).flag F.EVC_FILTER.THERM = true ∧ 0 < max 1 (run.getF F.EVC_FILTER.LEN) ∧ run.clocked = true ∧
    (run.setF (qF F.CHU_QUAD_CFG.ENABLED 23) 1).flag (qF F.CHU_QUAD_CFG.ENABLED 23) = true ∧ run.vccqOff 23 0 6 = false ∧
    ({ run with params := [Param.mk 1 0xFF (paramId "VCCQ") 2 [1200]] } : State).vccqOff 0 1000 6 = true ∧
    run.getF F.GLB_TEMP_CFG.HIGH ≤ 127 ∧ (after (.telemetrySample .coreTemp 127) run).telem.coreTemp = 127 := by decide

/-- Census stages, on a build without a pair too. -/
def stage (n : Nat) : State := on.setF F.PWR_CENSUS.STAGE n
def stageAlone (n : Nat) : State := { stage n with build := .dz96 }
/-- The partner has told its image, and this instance has loaded one. -/
def known (a b : Nat × Nat) : State := { stage 2 with
  pair := { Pair.zero with image := some a }, census := { Census.zero with ident := some b } }
theorem witness_ImageAndBootStages : (stage 1).working = true ∧ (stage 1).stage = 1 ∧ (stage 1).flag F.CFS_DEV.SFDP_OK = false ∧
    (stage 1).pair.waiting = false ∧ (stage 1).pair.image = none ∧ (stageAlone 1).record 0 = none ∧
    (stageAlone 1).getF F.PWR_BOOT_CTRL.SLOT_REQ = 0 ∧ (stageAlone 1).flag F.CFS_DEV.FORMATTED = false ∧
    ({ stage 1 with pair := { Pair.zero with waiting := true } } : State).pair.waiting = true ∧ (known (1, 2) (1, 2)).fostering = false ∧
    (known (1, 2) (1, 2)).census.ident = some (1, 2) ∧ (known (1, 2) (1, 2)).getF F.PAIR_STAT.STATE = 0 ∧ (stage 2).locked = false ∧
    (stage 2).cfs.op = none ∧ (stage 3).stage ≠ 2 ∧ (stage 2).getF F.PWR_CENSUS.HALT = 0 ∧ lockedRun.locked = true ∧
    ((stage 2).setF F.PWR_CENSUS.HALT 1).getF F.PWR_CENSUS.HALT ≠ 0 ∧ ((stage 2).setF F.PWR_BOOT_CTRL.SLOT_REQ 3).getF F.PWR_BOOT_CTRL.SLOT_REQ = 3 ∧
    (after .gauntletLock (stage 2)).stage = 3 := by decide
/-- Quad 0 is fed by rail group 0, and 64 idle samples of the rail have been taken. -/
def fed (mv : Nat) : State := { ((stage 2).setReg 0xD0200 8).setF (F.PLN_RAIL_CFG.NOMINAL_MV 0) 3300 with
  census := { Census.zero with imaged := true, idle := [(0, List.replicate 64 mv)] } }
theorem witness_EnumerationOfQuads : (fed 3300).working = true ∧ (fed 3300).stage = 2 ∧ (fed 3300).census.imaged = true ∧ (fed 3300).quadWanted 0 = true ∧
    0 ∉ (fed 3300).census.roms ∧ (fed 3300).census.brought = false ∧ (fed 3300).vccqOff 0 0 5 = false ∧
    ({ fed 3300 with params := [Param.mk 1 0xFF (paramId "VCCQ") 2 [1200]] } : State).vccqOff 0 1000 5 = true ∧ (fed 3300).railsInUse = [0] ∧
    0 ∉ (fed 3300).census.idleDone ∧ (storeGet (fun _ => []) (fed 3300).census.idle 0).length = 64 ∧
    10 * (3300 - 3000) ≤ (fed 3300).getF (F.PLN_RAIL_CFG.NOMINAL_MV 0) ∧ (fed 3300).getF (F.PLN_RAIL_CFG.NOMINAL_MV 0) < 10 * (3300 - 2969) ∧
    (after .railIdleCheck (fed 2969)).census.out = [0] ∧ (after .railIdleCheck (fed 3000)).census.out = [] ∧
    (after (.romEnumerate 0 0 63 30 []) (fed 3300)).flag (F.CHU_QUAD_ZQ.LIMITED 0) = true := by decide
/-- Stage 3 after bring-up, the load of a group at a step. -/
def loading (k : Nat) (droop : Bool) : State := { stage 3 with census := { Census.zero with brought := true, load := some (7, k, [], droop) } }
theorem witness_BringUpStage : (stage 3).working = true ∧ (stage 3).stage = 3 ∧ (stage 3).census.brought = false ∧ (stage 3).getF F.PAIR_STAT.STATE ≠ 7 ∧
    (List.range 24).all (fun q => !(stage 3).quadWanted q) = true ∧ (loading 7 false).census.brought = true ∧
    (after .railLoadStep (loading 7 false)).census.load.map (·.2.1) = some 8 ∧ (after .railLoadStep (loading 8 true)).isPending Ev.railWeak = true ∧
    (after .railLoadStep (loading 8 false)).stage = 4 := by decide
/-- Stage 4 with a record and no journal; stage 4 at its end; stage 5 at steps 1 and 9. -/
def journalStage (first : Nat) : State :=
  { fields (stage 4) [(F.PWR_CENSUS.FIRST, first)] with census := { Census.zero with record := leBytes 236 1 } }
def journalEnd : State := { stage 4 with census := { Census.zero with phase := 2 } }
def recovery (n : Nat) : State := { stage 5 with census := { Census.zero with step := n } }
theorem witness_JournalAndRecoveryStages : (journalStage 0).censusRuns 4 = true ∧ (journalStage 0).census.phase = 0 ∧
    (journalStage 0).flag F.PWR_CENSUS.FIRST = false ∧ (journalStage 1).flag F.PWR_CENSUS.FIRST = true ∧ journalEnd.censusRuns 4 = true ∧
    journalEnd.journalIdle = true ∧
    ({ journalEnd with journals := [(0, { Journal.zero with pend := [jFinish 0 0 0 0] })] } : State).journalIdle = false ∧
    (recovery 9).censusRuns 5 = true ∧ (recovery 9).recoveryErasing = false ∧ (after (.censusJournal []) journalEnd).stage = 5 ∧
    (after (.censusRecovery []) (recovery 9)).stage = 6 := by decide
/-- Stage 6 with band 0 of set 0, of three pages a wordline, to close; the time of the assumed gap has come; a record is due. -/
def closing : State := { stage 6 with params := [Param.mk 1 0 (paramId "PU") 1 [3]], census := { Census.zero with close := [(0, 0)] } }
def unanchored : State := (stage 7).setF F.TCK_TICKNO.TICKNO 1048576
def recordDue : State := { (stage 6).setF F.CFS_DEV.FORMATTED 1 with
  census := { Census.zero with recDue := true }, cfs := { Cfs.zero with cur := some .append } }
theorem witness_WriteReadyAndRecord : closing.censusRuns 6 = true ∧ (closing.wband 0 0).rows = [] ∧
    ¬ (closing.puOf (closing.sset 0).family (closing.sset 0).mode = 1 ∧ closing.laOf (closing.sset 0).family (closing.sset 0).mode = 0) ∧
    (after .recoveryRowClose closing).census.close = [] ∧ ((stage 6).setF F.PWR_CENSUS.HU_DONE 1).flag F.PWR_CENSUS.HU_DONE = true ∧
    (stage 6).openRows = [] ∧ (stage 6).wbands.any (fun e => e.2.closing) = false ∧ unanchored.awake = true ∧
    unanchored.flag F.PWR_CENSUS.GAP_ASSUMED = false ∧ unanchored.census.anchor = none ∧ unanchored.flag F.PWR_CENSUS.FIRST = false ∧
    1048576 ≤ unanchored.tickno ∧ recordDue.census.recDue = true ∧ recordDue.flag F.CFS_DEV.FORMATTED = true ∧ recordDue.cfs.cur ≠ none ∧
    (after .censusRecordCommit recordDue).cfs.appends.length = 1 := by decide

/-! ## Channel units -/

/-- A microcode word: operation, register, immediate. -/
def uw (op d imm : Nat) : Nat := op * 2 ^ 26 + d * 2 ^ 23 + imm
/-- A channel whose routines 0 to 15 of family 0 set X7 to `x` and end. -/
def chip (x : Nat) : Chan :=
  { Chan.zero with vol := some 0, ucode := [uw 0x10 7 x, uw 0x1F 0 0], places := (List.range 16).map (fun r => (0, r, 0, 2)) }
/-- Channel 0 is to execute one item. -/
def bus (s : State) (it : Item) (x : Nat) : State :=
  { s with chans := [(0, chip x)], pln := { s.pln with exec := [(0, [it])] }
           params := [Param.mk 1 0 (paramId "STATUS_EXPECT") 1 [0, 0], Param.mk 1 0 (paramId "PAGE_SIZE") 2 [16384],
             Param.mk 1 0 (paramId "SPARE_SIZE") 2 [1024]] }
def item (a : Act) (jobs : List Nat) : Item := Item.mk a 0 jobs 20 1 0 64
def reading : State := { bus run (item .read [5]) 0 with cws := [(5, { Cw.zero with need := [[0]] })] }
def programming : State := { bus run (item .prog [7]) 0 with progs := [(7, { Prog.zero with input := 4 })] }
def erasing : State := { bus run (item .erase [7]) 0 with erases := [(7, { EraseJob.zero with ready := true })] }
def resetting : State := { bus run (item .resetLun []) 0 with dies := [(0, { (run.die 0) with resetPend := true })] }
theorem witness_CommandItemsAndOverrun :
    (reading.clocked = true ∧ reading.exItems 0 = [item .read [5]] ∧ reading.itemAlive (item .read [5]) = true ∧
      ((reading.setExec 0 []).runItem 0 (item .read [5]) [] []).2.1 = some 0) ∧
    (programming.exItems 0 = [item .prog [7]] ∧ programming.itemAlive (item .prog [7]) = true ∧
      ((programming.setExec 0 []).runItem 0 (item .prog [7]) [] []).2.1 = some 0) ∧
    (erasing.itemAlive (item .erase [7]) = true ∧ ((erasing.setExec 0 []).runItem 0 (item .erase [7]) [] []).2.1 = some 0) ∧
    resetting.itemAlive (item .resetLun []) = true ∧ ((resetting.setExec 0 []).runItem 0 (item .resetLun []) [] []).2.1 = some 0 := by decide
/-- The item may use no cycle. -/
def broke : Item := Item.mk .read 0 [5] 0 1 0 64
def overrun : State := { bus run broke 0 with cws := [(5, { Cw.zero with need := [[0]] })] }
theorem witness_CommandItemsAndOverrun_overrun : overrun.exItems 0 = [broke] ∧ overrun.itemAlive broke = true ∧ (overrun.runItem 0 broke [] []).2.2 = some 1 ∧
    overrun.cws.any (fun e => e.1 == 5) = true ∧ (overrun.cw 5).faults = 0 := by decide
/-- A die senses. -/
def sense : ArrayOp := ArrayOp.mk .read false 1 0 5 0 10 0 9 0 false
def statusOf (x : Nat) : State :=
  { bus run (item .status []) x with cws := [(5, { Cw.zero with stage := .sensing })], dies := [(0, { run.die 0 with read := some sense })] }
def dout : State := { bus run (item .dout [5]) 0 with cws := [(5, { Cw.zero with stage := .inReg })] }
def din : State := { bus run (item .din [7, 0]) 0 with progs := [(7, { Prog.zero with images := [] })] }
theorem witness_StatusAndDataItems :
    ((statusOf 0x40).exItems 0 = [item .status []] ∧ (((statusOf 0x40).setExec 0 []).runItem 0 (item .status []) [] []).2.1 = some 0x40 ∧
      0x40 % 256 &&& (statusOf 0x40).fp ((statusOf 0x40).famOf 0) "STATUS_EXPECT" 1 0 =
        (statusOf 0x40).fp ((statusOf 0x40).famOf 0) "STATUS_EXPECT" 0 0 &&& (statusOf 0x40).fp ((statusOf 0x40).famOf 0) "STATUS_EXPECT" 1 0 ∧
      ((statusOf 0x40).die 0).op = none ∧ ((statusOf 0x40).die 0).read = some sense ∧ (0x40 : Nat).testBit 6 = true ∧
      (((statusOf 0).setExec 0 []).runItem 0 (item .status []) [] []).2.1 = some 0 ∧ (0 : Nat).testBit 6 = false) ∧
    (dout.itemAlive (item .dout [5]) = true ∧ ((dout.setExec 0 []).runItem 0 (item .dout [5]) [] []).2.1 = some 0 ∧
      (List.replicate 64 0#8).length = (item .dout [5]).len ∧ (dout.cw 5).part.length + 64 < dout.cwBytes (dout.famOf 0)) ∧
    din.itemAlive (item .din [7, 0]) = true ∧ ((din.setExec 0 []).runItem 0 (item .din [7, 0]) [] []).2.1 = some 0 ∧
    0 + 64 < din.progLen (din.prog 7) 0 := by decide
def training : State := bus run (item .train []) 0
def calDue : State := { run.setF (F.CHU_QUAD_CFG.ENABLED 23) 1 with params := [Param.mk 1 0xFF (paramId "ZQ_PERIOD") 4 [0]] }
def heldQuad : State := { run with quads := [(23, { run.quad 23 with held := true, good := 16 })] }
theorem witness_RetrainingAndCalibration : newEdges (4, 30) [true, true, true] [true, true, true] = none ∧
    (newEdges (4, 30) [false, true, true] [true, false, true]).isSome = true ∧
    run.served = true ∧ run.asleep = false ∧ 95 < run.build.channels ∧ (run.chan (run.chanOf 95)).failed = false ∧
    ({ run with chans := [(0, { Chan.zero with failed := true })] } : State).chan 0 = { Chan.zero with failed := true } ∧
    training.frontIs 0 (· == .train) = true ∧ (training.chan (training.chanOf 0)).badTrains = 0 ∧
    calDue.clocked = true ∧ calDue.flag (F.CHU_QUAD_CFG.ENABLED 23) = true ∧
    (calDue.quad 23).zqTick + calDue.gp "ZQ_PERIOD" 0 131072 ≤ calDue.tickno ∧ 0 < 1 ∧ 62 < 63 ∧ (0 = 0 ∨ 63 ≤ 5) ∧
    heldQuad.clocked = true ∧ (heldQuad.quad 23).held = true ∧ 16 ≤ (heldQuad.quad 23).good := by decide
def susp0 : Susp := Susp.mk 0 0 false false [] 1 false 0
def progOp : ArrayOp := ArrayOp.mk .prog false 1 0 7 0 10 0 9 0 true
def notSuspended : State := { run.setF F.TCK_TICKNO.TICKNO 4 with dies := [(0, { run.die 0 with op := some progOp, susp := some susp0 })] }
def lateSense : ArrayOp := { sense with late := true }
def slowDie : State := { run.setF F.TCK_TICKNO.TICKNO 1000000 with dies := [(0, { run.die 0 with read := some lateSense })] }
def lateReset : State :=
  { run.setF F.TCK_TICKNO.TICKNO 1000000 with dies := [(0, { run.die 0 with op := some { progOp with kind := .reset }, resetTill := 1000000 })] }
theorem witness_DiesThatDoNotAnswer :
    (notSuspended.clocked = true ∧ (notSuspended.die 0).op = some progOp ∧ (notSuspended.die 0).susp = some susp0 ∧ susp0.taken = false ∧
      susp0.gone = false ∧ susp0.start + 4 ≤ notSuspended.tickno) ∧
    (slowDie.clocked = true ∧ (slowDie.die 0).op = none ∧ (slowDie.die 0).read = some lateSense ∧ slowDie.timedOut 0 lateSense = true ∧
      ∀ e ∈ slowDie.cws, e.2.pdie ≠ 0) ∧
    (lateReset.die 0).op = some { progOp with kind := .reset } ∧ (lateReset.die 0).resetTill ≤ lateReset.tickno ∧
    (∀ e ∈ lateReset.cws, e.2.pdie ≠ 0) ∧ ∀ e ∈ lateReset.progs, e.2.pdie ≠ 0 := by decide

/-! ## Queues -/

/-- A list of values for the registers, without the rest of `fields`' reads. -/
def wq : State := fields run [(F.GNT_LOCK.LOCK, 1), (F.GNT_QATTR.OWNER 5, 1), (F.GNT_QATTR.OPCODES 5, 0xFFFF), (F.WQ_CFG.DEPTH_M1 5, 15),
  (F.WQ_SQ_BASE.ADDR 5, 0x40), (F.WQ_CQ_BASE.ADDR 5, 0x80), (F.WQ_IDX_ADDR.ADDR 5, 0x600), (F.GNT_QWIN.WINDOWS 5, 1),
  (F.GNT_WIN_BASE.BASE 0, 1), (F.GNT_WIN_BASE.VALID 0, 1), (F.GNT_WIN_LIMIT.LIMIT 0, 15), (F.GNT_WIN_LIMIT.WRITE 0, 1), (F.GNT_WIN_LIMIT.READ 0, 1)]
def wq96 : State := { wq with build := .dz96 }
/-- Queue 5 is ENABLED. -/
def wqOn : State := wq.setF (F.WQ_STATUS.STATE 5) 1
def waiting5 : State := wqOn.setCtx 0 { Ctx.zero with state := .waiting, queue := 5 }
theorem witness_QueueEnableAndShutdown : wq.asleep = false ∧ wq.qWriteOk false false 5 = true ∧ wqOn.qState 5 = 1 ∧ wqOn.qWriteOk false false 5 = true ∧
    wq.qState 5 = 0 ∧ wq.enableCause 5 = 0 ∧ run.qWriteOk false false 5 = true ∧ run.enableCause 5 = 1 ∧ wq96.qWriteOk false false 5 = true ∧
    wq96.enableCause 5 = 0 ∧ wq96.build.pair = false ∧ wqOn.qWriteOk false true 5 = true ∧ wqOn.ctxsOf 5 = [] ∧ waiting5.ctxsOf 5 ≠ [] ∧
    waiting5.ctxsOf 5 = waiting5.ctxs ∧ (∀ e ∈ waiting5.ctxs, e.2.state = .waiting) ∧ storeWf (fun _ => Ctx.zero) waiting5.ctxs = true ∧
    (fields wq [(F.GNT_QATTR.OWNER 5, 2), (F.GLB_HFN_STATUS.READY, 1)]).qWriteOk true true 5 = true := by decide
def under (who : FabWho) : FabReq := FabReq.mk who false 0x1000 64 (some (FabTag.mk 0 3 0 10)) false [] [] []
def polled (s : State) : State := { s with fab := [under (.poll 5)] }
/-- Queue 5 knows of 3 entries. -/
def offered : State := { wqOn with queues := [(5, { Queue.zero with piSeen := 3 })] }
theorem witness_PollAndArbitration :
    ((polled wqOn).working = true ∧ (polled wqOn).fabOpen (.poll 5) = true ∧ (polled wqOn).getF F.PWR_STAT.STATE ≠ 4 ∧ (polled wqOn).qState 5 = 1 ∧
      getBits 0x20003#64 15 0 < (polled wqOn).depth 5 ∧ getBits 0x20003#64 31 16 < (polled wqOn).depth 5 ∧
      ringDist ((polled wqOn).depth 5) ((polled wqOn).queue 5).fetchPos ((polled wqOn).queue 5).piSeen ≤
        ringDist ((polled wqOn).depth 5) ((polled wqOn).queue 5).fetchPos (getBits 0x20003#64 15 0) ∧
      ringDist ((polled wqOn).depth 5) ((polled wqOn).queue 5).fetchPos (getBits 0x20003#64 15 0) +
        ringDist ((polled wqOn).depth 5) ((polled wqOn).getF (F.WQ_STATUS.SQ_CI 5)) ((polled wqOn).queue 5).fetchPos ≤
        (polled wqOn).depth 5 - 1 - (polled wqOn).getF (F.WQ_OUT.OUTSTANDING 5) ∧
      (polled wqOn).depth 5 ≤ getBits 16#64 15 0 ∧ (polled wq).qState 5 ≠ 1 ∧ (polled wq).fabOpen (.poll 5) = true) ∧
    offered.grant.1 = some (5, 1) ∧ wqOn.awake = true ∧ wqOn.locked = true ∧ wqOn.pfail = false ∧ wqOn.grant.1 = none ∧ offered.awake = true ∧
    offered.mirror = false ∧ ({ offered with regs := (offered.setF F.LNR_CTRL.STATE 0).regs } : State).linerOn = false ∧ offered.liner.lines = [] ∧
    offered.fab = [] ∧ (offered.queue 5).copies = [] ∧ (offered.queue 5).fetchPos < offered.depth 5 ∧ getBits (offered.queue 5).poll 11 8 = 0 := by decide
/-- Position 0 of queue 5 has been granted. -/
def granted : State := { wqOn with build := .dz96, queues := [(5, { Queue.zero with fetchPos := 1, piSeen := 1 })], fab := [under (.fetch 5 0)] }
def frag1 (len : Nat) : BitVec 128 := BitVec.ofNat 128 (len * 2 ^ 64 + 0x1000)
def tabled (n : Nat) : State := { wqOn with
  ctxs := [(0, { Ctx.zero with state := .tables, queue := 5, nTables := 1, nextTable := some (0x1000, 1), entry := BitVec.ofNat 512 opREAD ||| byte 28 n })]
  fab := [under (.table 0 0)] }
theorem witness_FetchedEntryAndItsFragments :
    (granted.working = true ∧ granted.pfail = false ∧ granted.fabOpen (.fetch 5 0) = true ∧ granted.mirror = false ∧ granted.build.pair = false ∧
      granted.qState 5 = 1 ∧ (granted.queue 5).copies = [] ∧ granted.getF (F.WQ_STATUS.SQ_CI 5) ≠ (granted.queue 5).fetchPos ∧
      entFrag 0x1F#512 = false ∧ 0x0F < entOp 0x1F#512 ∧
      ({ granted with queues := [] } : State).getF (F.WQ_STATUS.SQ_CI 5) = (({ granted with queues := [] } : State).queue 5).fetchPos) ∧
    (tabled 1).working = true ∧ ((tabled 1).ctx 0).state = .tables ∧ (tabled 1).fabOpen (.table 0 (((tabled 1).ctx 0).nTables - 1)) = true ∧
    ((tabled 1).ctx 0).nextTable.map (·.2) = some [frag1 4128].length ∧ ((tabled 1).ctx 0).detail = 0 ∧ tableErr [frag1 4128] = 0 ∧
    [frag1 4128].all (fun f => !fragChain f) = true ∧ ((tabled 1).ctx 0).nEntries + [frag1 4128].length ≤ 4096 ∧
    [frag1 4128].all (fun f => (tabled 1).inWindows 5 (fragAddr f) (fragLen f) (!entReads ((tabled 1).ctx 0).entry)) = true ∧
    [frag1 65536].all (fun f => (tabled 1).inWindows 5 (fragAddr f) (fragLen f) (!entReads ((tabled 1).ctx 0).entry)) = false := by decide
def opened : State := wqOn.setCtx 0 { Ctx.zero with state := .waiting, queue := 5, entry := BitVec.ofNat 512 opREAD }
def drained : State := (wqOn.setCtx 0 { Ctx.zero with state := .waiting, queue := 5, entry := BitVec.ofNat 512 opFENCE }).setF F.PWR_CENSUS.STAGE 7
theorem witness_EntryAdmission : opened.awake = true ∧ opened.pfail = false ∧ opened.sleep.closing = false ∧ opened.nextToAdmit 0 = true ∧
    (opened.setF F.PWR_CENSUS.STAGE 15).stage = 15 ∧ needsReady (entOp (opened.ctx 0).entry) ≠ 0 ∧ opened.stage ≠ 15 ∧
    opened.readyFor (opened.ctx 0).queue (entOp (opened.ctx 0).entry) = true ∧ opened.mirror = false ∧
    opened.check67 (opened.qNs (opened.ctx 0).queue) (opened.ctx 0).entry = some (0x31, 0) ∧
    drained.check67 (drained.qNs (drained.ctx 0).queue) (drained.ctx 0).entry = none ∧ entOp (drained.ctx 0).entry ≠ opVDIE := by decide
/-- An entry of queue 5 is ready; the Liner is off. -/
def done5 (ci : Nat) (d : Bool) : State :=
  { (fields wqOn [(F.LNR_CTRL.STATE, 0), (F.WQ_OUT.OUTSTANDING 5, 1), (F.WQ_OUT.CQ_PI 5, 15)]).setCtx 0 { Ctx.zero with state := .ready, queue := 5 } with
    queues := [(5, { Queue.zero with ciSeen := ci, discard := d })] }
theorem witness_CompletionIsWritten : (done5 3 false).working = true ∧ (done5 3 false).pfail = false ∧ (done5 3 false).firstReady 0 = true ∧
    ((done5 3 false).ctx 0).queue = 5 ∧ (done5 3 false).fab = [] ∧ (done5 3 false).uncached ∧ (done5 3 false).mirror = false ∧
    ((done5 3 false).queue 5).discard = false ∧ (done5 3 false).ringFull 5 = false ∧ (done5 0 false).ringFull 5 = true ∧
    (done5 3 false).hostOwned 5 = false ∧ ((done5 3 true).queue 5).discard = true := by
  unfold State.uncached; decide

/-! ## Entries -/

/-- Two vdies, members of set 0; vdie 2 on its own; a free spare, two retired dies' worth of parameters of family 0. -/
def vd (p : Nat) (m : Bool) (pos : Nat) : Vdie := Vdie.mk true 0 0 m false pos 0 noPdie p
def media : State := { fields wqOn [(F.PWR_HOLDUP.LIMIT, 64), (F.PTY_ROWSTORE.ACC_KIB, 65535), (F.PTY_ROWSTORE.SP_TILES, 4096),
    (F.PTY_ROWSTORE.SP_FREE, 4096), (F.LNR_CTRL.STATE, 0)] with
  params := [Param.mk 1 0 (paramId "PAGE_SIZE") 2 [16384], Param.mk 1 0 (paramId "SPARE_SIZE") 2 [2048],
    Param.mk 1 0 (paramId "PLANES") 1 [2], Param.mk 1 0 (paramId "BLOCKS") 2 [100], Param.mk 1 0 (paramId "PAGES") 2 [32, 32]]
  vdies := [(0, vd 1 true 0), (1, vd 16 true 1), (2, vd 32 false 0)]
  pdies := [(1, { Pdie.absent with cond := .mapped }), (16, { Pdie.absent with cond := .mapped }), (32, { Pdie.absent with cond := .mapped }),
    (48, { Pdie.absent with cond := .spareFree })]
  sets := [(0, SetDesc.mk 2 1 0 1 2 4 4 32 [0, 1])] }
/-- A band of set 0. -/
def withBand (s : State) (b st : Nat) : State :=
  s.setBand 0 b { Band.unerased with state := st, blocks := [b, b] }
/-- An address of a band, and one of a page of a vdie. -/
def bandAddr (g b : Nat) : Nat := 2 ^ 61 + g * 2 ^ 52 + b * 2 ^ 38
def pageAddr (v blk page slot : Nat) : Nat := 2 ^ 60 + v * 2 ^ 48 + blk * 2 ^ 31 + page * 2 ^ 17 + slot * 2 ^ 14
/-- An admitted entry with an address, and a count. -/
def onBand (s : State) (op b : Nat) : State := admitted s op (byte 8 (bandAddr 0 b) ||| byte 28 1)
theorem witness_JournalKeepsOrder : ((media.journalAdd 0 [jFinish 0 0 0 0]).journal 0).flight ++ ((media.journalAdd 0 [jFinish 0 0 0 0]).journal 0).pend =
    [jFinish 0 0 0 0] ∧ ({ media with journals := [(0, { Journal.zero with flight := [jFinish 0 0 0 0] })] } : State).journal 0 ≠ Journal.zero ∧
    (1 : Nat) ≠ 0 := by decide
def rawEntry (m n : Nat) : State := admitted media opREADRAW (byte 8 (pageAddr 0 5 3 1) ||| byte 28 n ||| byte 32 m)
def fromMemory : State := admitted (withBand media 2 3) opCOPY (byte 40 (bandAddr 0 2) ||| byte 28 1 ||| byte 32 1)
theorem witness_DataEntriesStart : (onBand media opREAD 0).starts 0 opREAD = true ∧ (onBand media opSCRUB 0).starts 0 opSCRUB = true ∧
    (ent ((onBand media opSCRUB 0).ctx 0).entry 36 4).testBit 11 = false ∧
    (ent ((admitted media opSCRUB (byte 36 0xB00)).ctx 0).entry 36 4).testBit 11 = true ∧
    (onBand media opWRITE 0).starts 0 opWRITE = true ∧ fromMemory.starts 0 opCOPY = true ∧ entSrcMem (fromMemory.ctx 0).entry = true ∧
    (onBand media opCOPY 0).starts 0 opCOPY = true ∧ entSrcMem ((onBand media opCOPY 0).ctx 0).entry = false ∧
    (onBand media opWRITE 0).destRefusal 0 = some (0x31, 0) ∧ fromMemory.destRefusal 0 = none ∧
    fromMemory.uncached ∧ (Instr.readRawMode1 0, 1) ∈ [(Instr.readRawMode0 0, 0), (.readRawMode1 0, 1), (.readRawMode2 0, 2)] ∧
    (rawEntry 1 4).starts 0 opREADRAW = true ∧ ent ((rawEntry 1 4).ctx 0).entry 32 1 = 1 ∧
    (rawEntry 1 4).famSlots ((rawEntry 1 4).vdie (nsVdie ((rawEntry 1 4).qNs ((rawEntry 1 4).ctx 0).queue) (addrVdie (entMaddr ((rawEntry 1 4).ctx 0).entry)))).family <
      addrSlot (entMaddr ((rawEntry 1 4).ctx 0).entry) + entCount ((rawEntry 1 4).ctx 0).entry ∧
    addrSlot (entMaddr ((rawEntry 1 3).ctx 0).entry) + entCount ((rawEntry 1 3).ctx 0).entry ≤
      (rawEntry 1 3).famSlots ((rawEntry 1 3).vdie (nsVdie ((rawEntry 1 3).qNs ((rawEntry 1 3).ctx 0).queue)
        (addrVdie (entMaddr ((rawEntry 1 3).ctx 0).entry)))).family := by
  unfold State.uncached; decide
/-- Band 3 in a state, an entry on it. -/
def bandEntry (op st : Nat) : State := onBand (withBand media 3 st) op 3
theorem witness_BandEntries : (bandEntry opOPEN 2).srcSet 0 = 0 ∧ (bandEntry opOPEN 2).srcBand 0 = 3 ∧ (bandEntry opOPEN 2).starts 0 opOPEN = true ∧
    ((bandEntry opOPEN 2).band 0 3).state = 2 ∧ ((bandEntry opOPEN 3).band 0 3).state ≠ 2 ∧ ((bandEntry opOPEN 2).wband 0 3).reserved = false ∧
    (bandEntry opOPEN 2).setWritable ((bandEntry opOPEN 2).sset 0) = true ∧ (bandEntry opOPEN 2).resFits ((bandEntry opOPEN 2).sset 0) = true ∧
    ((bandEntry opOPEN 2).setF F.PWR_HOLDUP.LIMIT 1).resFits (((bandEntry opOPEN 2).setF F.PWR_HOLDUP.LIMIT 1).sset 0) = false ∧
    ({ bandEntry opOPEN 2 with vdies := [(0, { vd 1 true 0 with state := 2 }), (1, { vd 16 true 1 with state := 2 })] } : State).setWritable
      ((bandEntry opOPEN 2).sset 0) = false ∧
    (bandEntry opCLOSE 4).starts 0 opCLOSE = true ∧ ((bandEntry opCLOSE 4).band 0 3).state = 4 ∧ ((bandEntry opCLOSE 3).band 0 3).state = 3 ∧
    ((({ bandEntry opCLOSE 3 with wbands := [(3, { WBand.none with closing := true })] } : State).wband 0 3).closing = true) ∧
    (bandEntry opERASE 4).starts 0 opERASE = true ∧ (bandEntry opERASE 4).unresolvedBefore 0 3 0 = false ∧ (bandEntry opERASE 4).erasesBand 0 3 = false ∧ (bandEntry opERASE 4).tasks = [] ∧
    0 < ((bandEntry opERASE 4).sset 0).w ∧ ((bandEntry opERASE 4).eraseLoc 0 3 0).isSome = true ∧
    ({ bandEntry opERASE 4 with ctxs := [(0, { (bandEntry opERASE 4).ctx 0 with admSeq := 2 }), (1, (onBand media opREAD 3).ctx 0)] } : State).unresolvedBefore
      0 3 2 = true := by decide
def fenceAt (m : Nat) : State := admitted media opFENCE (byte 32 m)
def timeAt (h : Nat) : State := admitted media opSETTIME (byte 32 h)
/-- A census record that holds a host time of 1,000 and a MediaTime of 0. -/
def later (first : Nat) : State := { (timeAt 5000).setF F.PWR_CENSUS.FIRST first with
  census := { media.census with record := List.replicate 44 0#8 ++ leBytes 8 1000 ++ List.replicate 20 0#8 } }
theorem witness_FenceAndSetTime : (Instr.fenceOwner 0, true) ∈ [(Instr.fenceQueue 0, false), (.fenceOwner 0, true)] ∧ (fenceAt 1).starts 0 opFENCE = true ∧
    ent ((fenceAt 1).ctx 0).entry 32 1 = 1 ∧ (fenceAt 0).starts 0 opFENCE = true ∧ ent ((fenceAt 0).ctx 0).entry 32 1 = 0 ∧
    (later 0).starts 0 opSETTIME = true ∧ ent ((later 0).ctx 0).entry 32 8 = 5000 ∧ (later 0).census.anchor = none ∧
    (later 1).flag F.PWR_CENSUS.FIRST = true ∧ (later 0).flag F.PWR_CENSUS.FIRST = false ∧ field (later 0).census.record 44 8 ≠ 0 ∧
    ((5000 : Int) - field (later 0).census.record 44 8 - (((later 0).mtime : Int) - (later 0).census.gap - field (later 0).census.record 36 8)).toNat -
      (later 0).census.gap ≤ dayUs ∧
    ({ later 0 with census := { (later 0).census with anchor := some (1, 1) } } : State).census.anchor.isSome = true := by decide
/-- A query of a page, with a buffer. -/
def query (p : Nat) (f : List Frag) : State :=
  (admitted media opQUERY (byte 32 p)).setCtx 0 { (admitted media opQUERY (byte 32 p)).ctx 0 with frags := f }
theorem witness_QueriesAnswerTheirPage : (query 0x0700 []).starts 0 opQUERY = true ∧ ent ((query 0x0700 []).ctx 0).entry 32 2 = 0x0700 ∧
    ((query 0x0700 []).ctx 0).frags = [] ∧ (query 0x0103 [Frag.mk 0x2000 4096]).starts 0 opQUERY = true ∧
    ent ((query 0x0103 [Frag.mk 0x2000 4096]).ctx 0).entry 32 2 = 0x0103 ∧ ((query 0x0103 [Frag.mk 0x2000 4096]).ctx 0).frags = [Frag.mk 0x2000 4096] ∧
    (query 0x0103 [Frag.mk 0x2000 4096]).uncached := by
  unfold State.uncached; decide

/-- CALIBRATE of a kind, of zone `z`, of block `b` of vdie 0. -/
def calibrate (k z b : Nat) : State := admitted (withBand media 2 4) opCALIBRATE (byte 8 (pageAddr 0 b 0 0) ||| byte 32 k ||| byte 33 z)
theorem witness_CalibrationEntries : (Instr.calibrateSearch 0, 1) ∈ [(Instr.calibrateSample 0, 0), (.calibrateSearch 0, 1), (.calibrateReset 0, 2)] ∧
    (calibrate 1 255 7).starts 0 opCALIBRATE = true ∧ ent ((calibrate 1 255 7).ctx 0).entry 32 1 = 1 ∧ (calibrate 1 255 7).calVdie 0 = 0 ∧
    (calibrate 1 255 7).calSpare 0 = false ∧ (calibrate 1 255 7).calCheck 0 = some (0x40, 8) ∧ (calibrate 2 0 7).calCheck 0 = none ∧
    ent ((calibrate 2 16 7).ctx 0).entry 33 1 ≠ 255 ∧ 15 < ent ((calibrate 2 16 7).ctx 0).entry 33 1 := by decide
/-- SELF_TEST of a kind and an index. -/
def selfTest (k ix : Nat) : State := admitted media opSELFTEST (byte 32 k ||| byte 33 ix)
def testing : State := { selfTest 2 255 with decs := { Decoders.zero with cur := some 3 } }
/-- Every decoder is retired. -/
def worn : State := (selfTest 2 255).setReg 0xD0410 (BitVec.allOnes 64)
theorem witness_SelfTestEntries : (Instr.selfTestSoft 0, 2, run.hardNo, run.softNo) ∈ [(Instr.selfTestHard 0, 1, 0, run.hardNo), (.selfTestSoft 0, 2, run.hardNo, run.softNo)] ∧
    (selfTest 2 255).starts 0 opSELFTEST = true ∧ ent ((selfTest 2 255).ctx 0).entry 32 1 = 2 ∧ ent ((selfTest 2 200).ctx 0).entry 33 1 ≠ 255 ∧
    (selfTest 2 200).softNo ≤ 200 ∧ testing.decs.cur ≠ none ∧ worn.decs.cur = none ∧ worn.decs.ctx = none ∧ (∀ e ∈ worn.ctxs, e.2.state ≠ .running) ∧
    (∀ d, d < worn.softNo → worn.mayTest (worn.hardNo + d) = false) := by decide
/-- VDIE_CONTROL: an action on a vdie. -/
def control (s : State) (a v : Nat) : State := admitted s opVDIE (byte 32 a ||| byte 34 v)
def withVdie (v : Nat) (x : Vdie) : State := { media with vdies := storePut (fun _ => Vdie.unmapped) media.vdies v x }
theorem witness_VdieAndSetEntries : (control media 0 9).startsCtl 0 0 = true ∧ (control media 0 9).ctlVdie 0 = 9 ∧ ((control media 0 9).vdie 9).mapped = false ∧
    ((control media 0 2).vdie 2).mapped = true ∧ ((control media 0 2).vdie 2).state = 0 ∧
    (control media 0 2).retireOutcome 2 ((control media 0 2).dieReadable 32) = 2 ∧
    (control { withBand media 3 3 with pdies := [] } 0 0).retireOutcome 0 true = 1 ∧
    ((control (withVdie 2 { vd 32 false 0 with state := 2 }) 0 2).vdie 2).state = 2 ∧
    ((control (withVdie 2 { vd 32 false 0 with state := 1, oldPdie := 5 }) 0 2).vdie 2).oldPdie ≠ noPdie ∧
    (control media 1 0).startsCtl 0 1 = true ∧ (control media 1 0).canRebuild 0 = true ∧ (control { media with pdies := [] } 1 0).canRebuild 0 = false ∧
    (control media 2 2).startsCtl 0 2 = true ∧ ((control media 2 2).vdie 2).member = false ∧ ((control media 2 0).vdie 0).member = true := by decide
/-- SET_DEFINE of set 5 with vdie 2, and SET_DELETE. -/
def define (g n w : Nat) : State := { admitted media opVDIE (byte 32 3 ||| byte 33 g ||| byte 36 w ||| byte 38 1 ||| byte 40 n) with fab := [under (.members 0)] }
def delete (st : Nat) : State := admitted (withBand media 3 st) opVDIE (byte 32 4 ||| byte 33 0)
theorem witness_VdieAndSetEntries_sets : (define 5 4 1).startsCtl 0 3 = true ∧ [2].length = ent ((define 5 4 1).ctx 0).entry 36 1 ∧ (define 5 4 1).fabOpen (.members 0) = true ∧
    ({ define 5 4 1 with fab := [] } : State).fabOpen (.members 0) = false ∧ (media.sset 0).defined = true ∧ (media.sset 5).defined = false ∧
    media.membersOk 0 [2] = true ∧ media.membersOk 0 [2, 2] = false ∧ media.modeOk 0 1 = true ∧ media.modeOk 3 1 = false ∧
    4 ≤ media.bandLimit 0 32 ∧ media.bandLimit 0 32 < 99 ∧ (delete 3).startsCtl 0 4 = true ∧ (delete 3).qNs ((delete 3).ctx 0).queue = 0 ∧
    nsSet 0 (ent ((delete 3).ctx 0).entry 33 1) = 0 ∧ (delete 3).bands.any (fun k => k.1 / 16384 == 0 && (k.2.state == 3 || k.2.state == 1 || k.2.rehoming)) = true ∧
    (delete 4).bands.any (fun k => k.1 / 16384 == 0 && (k.2.state == 3 || k.2.state == 1 || k.2.rehoming)) = false ∧
    (delete 4).setRebuilding ((delete 4).sset 0) = 0 := by decide

/-! ## Reading, decoding, writing -/

/-- A running READ of the first two tiles of band 2, which is erased. -/
def readVoid : State := (admitted (withBand media 2 2) opREAD (byte 8 (bandAddr 0 2) ||| byte 28 2)).setCtx 0
  { (admitted (withBand media 2 2) opREAD (byte 8 (bandAddr 0 2) ||| byte 28 2)).ctx 0 with state := .running }
/-- A codeword of tile 0 of band 2 is being decoded. -/
def decoding (u : CwFor) (step : Nat) : State := { withBand media 2 4 with
  cws := [(5, { Cw.zero with use := u, set := some 0, band := 2, boi := 0, row := 0, pos := 0, pdie := 1, vdie := 0, block := 2, stage := .decode, limit := 10, step := step })] }
theorem witness_ReadsResolveAndDecode : readVoid.awake = true ∧ (readVoid.ctx 0).state = .running ∧ entOp (readVoid.ctx 0).entry = opREAD ∧
    (readVoid.ctx 0).tiles = [] ∧ (readVoid.ctx 0).ended = false ∧ (readVoid.ctx 0).aborting = 0 ∧
    (∀ i, i < entCount (readVoid.ctx 0).entry →
      (readVoid.resolveOne (readVoid.srcSet 0) (readVoid.srcBand 0) (addrBoi (entMaddr (readVoid.ctx 0).entry) + i)).src = 3) ∧
    (decoding (.tile 0 0) 1).clocked = true ∧ (decoding (.tile 0 0) 1).cws.any (fun e => e.1 == 5) = true ∧ ((decoding (.tile 0 0) 1).cw 5).stage = .decode ∧
    0 < 10 ∧ 10 ≤ ((decoding (.tile 0 0) 1).cw 5).limit ∧ ((decoding (.burst 0 0) 0).cw 5).use = .burst 0 0 ∧ ((decoding (.burst 0 0) 0).cw 5).step = 0 ∧
    (decoding (.tile 0 0) 1).noTile ((decoding (.tile 0 0) 1).cw 5) = false ∧
    (decoding (.tile 0 0) 1).profile ((decoding (.tile 0 0) 1).cwFam ((decoding (.tile 0 0) 1).cw 5)) = 14 ∧
    (decoding (.tile 0 0) 1).cwBytes ((decoding (.tile 0 0) 1).cwFam ((decoding (.tile 0 0) 1).cw 5)) = 4576 := by decide
/-- A tile scrambled twice is the tile. -/
theorem scrambleFrom_twice (m : List Byte) : ∀ s, scrambleFrom s (scrambleFrom s m) = m := by
  induction m with
  | nil => intro s; rfl
  | cons b t ih => intro s; simp only [scrambleFrom]; rw [ih]; simp
theorem scrambleFrom_length (m : List Byte) : ∀ s, (scrambleFrom s m).length = m.length := by
  induction m with
  | nil => intro s; rfl
  | cons b t ih => intro s; simp only [scrambleFrom, List.length_cons, ih]
/-- A tile of zeros with a check word that differs from the right one by `d`. -/
def checked (d : Nat) : List Byte := List.replicate 4124 0#8 ++ leBytes 4 ((crc32c (List.replicate 4124 0#8)).toNat + d)
theorem checked_length (d : Nat) : (checked d).length = 4128 := by
  simp only [checked, List.length_append, List.length_replicate, leBytes_length]
theorem checked_take (d : Nat) : (checked d).take 4124 = List.replicate 4124 0#8 := List.take_left' List.length_replicate
theorem checked_crc (d : Nat) : tileCrc (checked d) = ((crc32c (List.replicate 4124 0#8)).toNat + d) % 256 ^ 4 := by
  have hd : (checked d).drop 4124 = leBytes 4 ((crc32c (List.replicate 4124 0#8)).toNat + d) := List.drop_left' List.length_replicate
  have ht : (leBytes 4 ((crc32c (List.replicate 4124 0#8)).toNat + d)).take 4 = leBytes 4 ((crc32c (List.replicate 4124 0#8)).toNat + d) :=
    List.take_of_length_le (Nat.le_of_eq (leBytes_length _ _))
  unfold tileCrc field slice
  rw [hd, ht, leNat_leBytes]
theorem crc_cases (x : Nat) (h : x < 2 ^ 32) : (x == (x + 0) % 256 ^ 4) = true ∧ (x == (x + 1) % 256 ^ 4) = false := by
  simp only [beq_iff_eq, beq_eq_false_iff_ne, Ne]
  omega
theorem checked_ok : tileCrcOk (checked 0) = true ∧ tileCrcOk (checked 1) = false := by
  have h := crc_cases _ (crc32c (List.replicate 4124 0#8)).isLt
  unfold tileCrcOk
  rw [checked_crc, checked_crc, checked_length, checked_length, checked_take, checked_take, h.1, h.2]
  exact ⟨rfl, rfl⟩
/-- A codeword that a decoder answers: its tile's check word holds for `d` = 0, and not for 1. -/
theorem witness_ReadsResolveAndDecode_tile (d : Nat) : ∃ img m, m = ldpcCodeword img 14 ∧ img = m.take tileBytes ∧ scramble 2 0 0 img = checked d := by
  refine ⟨scramble 2 0 0 (checked d), _, rfl, ?_, scrambleFrom_twice _ _⟩
  have : (scramble 2 0 0 (checked d)).length = tileBytes := (scrambleFrom_length _ _).trans (checked_length d)
  exact (List.take_left' this).symm
theorem witness_StoredEncodingsRoundTrip : tileCrcOk (checked 0) = true ∧ 0 < 8 ∧ 0 < 4 := ⟨checked_ok.1, by decide, by decide⟩
/-- Band 2 has a patrol read; its first zone was sampled there. -/
def zoned (z : Zone) : State := { withBand media 2 4 with
  bands := [(2, { Band.unerased with state := 4, blocks := [2, 2], fill := 248 })], levels := [(0, { Levels.zero with zones := [(0, z)] })] }
def sampling : State := zoned { Zone.zero with last := some (0, 2, 0), due := true }
def searching : State := zoned { Zone.zero with last := some (0, 2, 0), search := true }
/-- A test of decoder 3 is due, and one runs. -/
def testDue : State := fields media [(F.DEC_TEST.PERIOD, 1), (F.TCK_TICKNO.TICKNO, 70000)]
def tested (again : Bool) : State := { testDue with decs := { Decoders.zero with cur := some 3, again := again } }
theorem witness_MeasurementsOfThePolicyEngine : sampling.peRuns = true ∧ sampling.flagL F.CAL_CTRL.HOLD = false ∧
    sampling.zoneLoc 0 false 0 = some (0, 2, 0, Loc.mk 1 2 false) ∧ searching.zoneLoc 0 false 0 = some (0, 2, 0, Loc.mk 1 2 false) ∧
    sampling.allZones.find? (fun e => sampling.sampleDue e.1 e.2.1 e.2.2) = some (0, false, 0) ∧
    searching.allZones.find? (fun e => searching.searchOk e.1 e.2.1 e.2.2) = some (0, false, 0) ∧
    media.tickno % 65536 = 0 ∧ testDue.tickno % 65536 ≠ 0 ∧ testDue.awake = true ∧ testDue.pfail = false ∧ testDue.peHalted = false ∧
    testDue.decs.cur = none ∧ testDue.getF F.DEC_TEST.PERIOD ≠ 0 ∧ testDue.decs.lastTick + testDue.getF F.DEC_TEST.PERIOD ≤ testDue.tickno ∧
    ((testDue.testOrder.drop testDue.decs.nextUp) ++ testDue.testOrder.take testDue.decs.nextUp).find? testDue.mayTest = some 0 ∧
    (tested false).decs.cur = some 3 ∧ (tested false).decs.again = false ∧ (tested true).decs.again = true ∧ (tested true).decs.ctx = none := by decide
/-- A running WRITE of one tile into band 2 that waits for its tile; and one that has it. -/
def taking : State := { withBand media 2 3 with
  ctxs := [(0, { (onBand media opWRITE 2).ctx 0 with state := .running, bufs := 1 })], fab := [{ under (.tileIn 0 0) with len := 4128 }]
  wbands := [(2, { WBand.none with entries := [0] })] }
def holding : State := { taking with
  ctxs := [(0, { (onBand media opWRITE 2).ctx 0 with state := .running, taken := true, tiles := [TileJob.mk 0 0 none 0 0 zeroImage 0] })]
  fab := []
  wbands := [(2, { WBand.none with entries := [0], rows := [ORow.mk 0 0 false [] [] [] [] 0 none] })] }
def mirrored (s : State) : State := s.setF F.PAIR_STAT.MIRROR_VALID 1
def subst (b : Nat) : State := { withBand media b 4 with tasks := [(9, { Task.zero with kind := .subst, band := b })] }
def checkpointDue : State := { media with journals := [(0, { Journal.zero with rowsSince := 4096 }), (1, { Journal.zero with rowsSince := 5 })] }
theorem witness_TilesArePlaced : taking.awake = true ∧ (taking.ctx 0).state = .running ∧ (taking.ctx 0).bufs ≠ 0 ∧ (taking.ctx 0).taken = false ∧
    entIntake (taking.ctx 0).entry = true ∧ (taking.ctx 0).ended = false ∧ [zeroImage].length = entCount (taking.ctx 0).entry ∧
    taking.fab.any (fun r => match r.who with | .tileIn k _ => k == 0 | _ => false) = true ∧
    taking.fab.any (fun r => (match r.who with | .tileIn k _ => k == 0 | _ => false) && !r.under) = false ∧
    holding.destSet 0 = 0 ∧ holding.destBand 0 = 2 ∧ (holding.ctx 0).taken = true ∧ (holding.wband 0 2).entries.head? = some 0 ∧ holding.mirror = false ∧
    (mirrored holding).mirror = true ∧ ((mirrored holding).ctx 0).openMsg = none ∧
    ((holding.wband 0 2).rowAt ((holding.sset 0).rowOf (holding.band 0 2).fill)).isSome = true ∧
    holding.memberFailed 0 ((holding.sset 0).boiPos (holding.band 0 2).fill) = false ∧
    (subst 2).tasks.find? (fun e => e.2.kind == .subst && e.2.blocks == []) = some (9, { Task.zero with kind := .subst, band := 2 }) ∧
    media.progLoc (media.task 9).set 0 0 ≠ none ∧ ({ subst 2 with vdies := [] } : State).progLoc 0 2 0 = none ∧
    checkpointDue.awake = true ∧ checkpointDue.peHalted = false ∧ 4096 ≤ (checkpointDue.journal 0).rowsSince ∧
    (checkpointDue.journal 1).rowsSince < 4096 ∧ (checkpointDue.journal 1).bandsSince < 48 := by decide
/-- A tile of zeros arrives: its data are read as they came. -/
theorem witness_TilesArePlaced_intake (d : Nat) : [checked d].mapIdx (fun i t => taking.readBytes (.tileIn 0 i) t) = [checked d] := by
  have h : slice (checked d) 0 4128 = checked d := by
    unfold slice; rw [List.drop_zero]; exact List.take_of_length_le (Nat.le_of_eq (checked_length d))
  rw [List.mapIdx_cons, List.mapIdx_nil]
  exact congrArg (fun x => [x]) ((List.nil_append _).trans h)
/-- Erases that wait: one of a band with its intent, one without, one of recovery. -/
def waitingErases : State := { withBand media 2 4 with erases := [(3, { EraseJob.zero with use := .band 0 2 0, intent := true }),
  (4, { EraseJob.zero with use := .band 0 3 0 }), (5, { EraseJob.zero with use := .recovery })] }
def freshProg (fails : List Nat) : State := { media with progs := [(7, { Prog.zero with use := .data, pdie := 1, block := 9, slc := true })]
                                                         pdies := [(1, { Pdie.absent with cond := .mapped, sigFails := fails })] }
def passEnd : State := { media with patrol := { Patrol.zero with running := true } }
def requeued : State := { withBand media 2 4 with requeue := [Requeue.mk 0 2 1 false] }
def released : State := { withBand media 2 4 with tasks := [(9, { Task.zero with kind := .rehome 1, stage := 3, band := 2 })] }
def rebuildDue : State := { media with rebuildPend := [0] }
theorem witness_ErasesPatrolAndRehoming : waitingErases.awake = true ∧ waitingErases.pfail = false ∧ (waitingErases.wband 0 2).rows = [] ∧
    waitingErases.ctxs = [] ∧ (freshProg []).awake = true ∧
    (freshProg []).progs.find? (fun e => (freshProg []).needsCheck e.2 && !(freshProg []).erases.any (fun k => k.2.pdie == e.2.pdie && k.2.block == e.2.block)) =
      some (7, { Prog.zero with use := .data, pdie := 1, block := 9, slc := true }) ∧
    (∃ z ∈ [0, 4095], (freshProg []).gp "ERASE_SIG_BITS" 0 64 < z) ∧ 9 ∉ ((freshProg []).pdie 1).sigFails ∧ 9 ∈ ((freshProg [9]).pdie 1).sigFails ∧
    (∀ z ∈ [0, 64], z ≤ (freshProg []).gp "ERASE_SIG_BITS" 0 64) ∧
    passEnd.peRuns = true ∧ passEnd.patrol.running = true ∧ passEnd.patrol.left = [] ∧ (∀ e ∈ passEnd.cws, e.2.use ≠ .patrol) ∧
    requeued.peRuns = true ∧ (requeued.requeue.filter (·.active)).length < max 1 (requeued.getL F.PTL_CTRL.REHOME_MAX) ∧
    requeued.rehomeOk (Requeue.mk 0 2 1 false) = true ∧ (requeued.rehomeBlocks 0 1).isSome = true ∧
    released.tasks.find? (fun e => e.2.stage == 3 && !released.readersBefore e.2.set e.2.band e.2.adm) =
      some (9, { Task.zero with kind := .rehome 1, stage := 3, band := 2 }) ∧
    rebuildDue.peRuns = true ∧ rebuildDue.canRebuild 0 = true ∧ rebuildDue.chooseSpare 0 = some 48 := by decide
theorem witness_ErasesPatrolAndRehoming_orders : requeued.requeueOrder = [Requeue.mk 0 2 1 false] ∧ rebuildDue.rebuildOrder = [0] :=
  ⟨List.mergeSort_singleton _, List.mergeSort_singleton _⟩

/-! ## The Liner, the Mover, the fabric -/

/-- The Liner is on; an operation runs. -/
def lnr : State := run.setF F.LNR_CTRL.STATE 1
def busy (ops : List Maint) : State := { lnr.setF F.LNR_MAINT_OP.BUSY 1 with liner := { lnr.liner with ops := ops } }
theorem witness_LinerMaintenanceAndEnable : (Instr.clean, 1) ∈ [(Instr.clean, 1), (.inval, 2)] ∧ lnr.served = true ∧ lnr.asleep = false ∧ lnr.pfail = false ∧
    lnr.flag F.LNR_MAINT_OP.BUSY = false ∧ lnr.maintRefused 1 = false ∧ (lnr.setF F.LNR_CTRL.STATE 0).maintRefused 1 = true ∧
    lnr.getF F.LNR_MAINT_LEN.LINES = 0 ∧ (lnr.setF F.LNR_MAINT_LEN.LINES 3).getF F.LNR_MAINT_LEN.LINES ≠ 0 ∧ lnr.maintRefused 10 = false ∧
    (busy []).flag F.LNR_MAINT_OP.BUSY = true ∧ (busy [Maint.mk 0 1 []]).working = true ∧ (busy [Maint.mk 0 1 []]).maintOver 0 = true ∧
    (busy [Maint.mk 0 1 [7]]).maintOver 0 = false ∧ (lnr.setF F.LNR_CTRL.STATE 0).getF F.LNR_CTRL.STATE = 0 ∧ lnr.getF F.LNR_CTRL.STATE = 1 ∧
    ((busy [Maint.mk 1 8 []]).setF F.LNR_CTRL.STATE 2).maintOver 1 = true ∧ lnr.flag F.LNR_FLIP_CTRL.TEST_EN = false ∧
    (lnr.setF F.LNR_FLIP_CTRL.TEST_EN 1).flag F.LNR_FLIP_CTRL.TEST_EN = true ∧ lnr.awake = true := by decide
/-- A fill of line 16 is under way into way 3; the line holds its word 0. -/
def filling (pre drop : Bool) : State := { lnr with
  liner := { lnr.liner with
    miss := [(0, some (Miss.mk 16 3 pre drop false))]
    lines := [(35, some (LLine.mk 16 true false 1 (List.replicate 256 7#8)))] }
  fab := [{ under (.fill 16) with addr := 4096, len := 256 }] }
def wroteBack : State := { lnr with liner := { lnr.liner with wbuf := [WbLine.mk 16 35 none] }, fab := [{ under (.writeback 16) with write := true, len := 256 }] }
def merging : State := { lnr with liner := { lnr.liner with merge := [MergeEntry.mk 8 [some 1#8] []] } }
theorem witness_LinesAreFilledAndWritten : (filling false false).working = true ∧ (List.replicate 256 0#8).length = 256 ∧
    (filling false false).missOf 16 = some (Miss.mk 16 3 false false false) ∧ (filling false false).fabOpen (.fill 16) = true ∧
    (filling true true).missOf 16 = some (Miss.mk 16 3 true true false) ∧ wroteBack.working = true ∧
    (wroteBack.fab.find? (fun r => r.holds 0 3)).map (·.who) = some (.writeback 16) ∧ merging.working = true ∧
    merging.liner.merge.find? (fun x => x.line == 8) = some (MergeEntry.mk 8 [some 1#8] []) ∧ lnr.liner.flips = [] ∧ 31 < 32 := by decide
/-- R474: the way used last is not given up; with every way allowed the first victim of a fresh tree is way 0. -/
theorem test_plru : plruVictim 0 (fun _ => true) = some 0 ∧ plruVictim (plruTouch 0 5 0 1) (fun _ => true) = some 16 ∧
    plruVictim 0 (fun w => w == 31) = some 31 ∧ plruVictim 0 (fun _ => false) = none := by decide
/-- Two ways are scratchpad; its last KiB is area 7. -/
def pad : State := fields run [(F.LNR_SP_WAYS.WAYS, 2), (F.LNR_SP_AREA.BASE_KIB 7, 3071), (F.LNR_SP_AREA.SIZE_KIB 7, 1)]
theorem witness_ScratchpadWindowWrites : pad.served = true ∧ pad.asleep = false ∧ 3144704 % 8 = 0 ∧ pad.rdReady = true ∧ 3144704 < pad.spEnd ∧
    pad.areaOf 3144704 = some 7 ∧ (on.setF F.LNR_SP_WAYS.WAYS 2).rdReady = false ∧ pad.spEnd ≤ 3145728 + 1572864 ∧ pad.areaOf 0 = none ∧
    pad.flipsAt (33 * pad.spKey 3144704 + 3144704 / 8 % 32) = (0, 0) ∧
    (pad.setF F.LNR_FLIP_CTRL.ARMED 1).flag F.LNR_FLIP_CTRL.ARMED = true ∧ pad.flag F.LNR_FLIP_CTRL.TARGET = false ∧
    storeWf (fun _ => 0#64) pad.liner.sp = true ∧ (after (.spWindowWrite 3144704 8 5#64) pad).spWord 3144704 = 5#64 := by decide
/-- Channel 31 of the Mover copies 64 bytes from 0x10000 to 0x20000; its states. -/
def mover : State := fields run [(F.MVR_SRC.ADDR 31, 0x10000), (F.MVR_DST.ADDR 31, 0x20000), (F.MVR_CNT.ELEM_M1 31, 63), (F.MVR_BUF.FREE, 64),
  (F.MVR_CREC.ADDR 31, 0x3000), (F.LNR_CTRL.STATE, 0)]
def moverIn (st : Nat) (g : MvStage) : State := { mover.setF (F.MVR_STAT.STATE 31) st with
  mover := [(31, MvCh.mk g 0 0 false)], moverQ := if st = 1 then [31] else [] }
/-- Its source overlaps its destination. -/
def overlap : State := mover.setF (F.MVR_DST.ADDR 31) 0x10020
theorem witness_MoverTransfers : mover.served = true ∧ mover.asleep = false ∧ mover.pfail = false ∧ mover.getF (F.MVR_STAT.STATE 31) = 0 ∧
    mover.flag F.MVR_GLOBAL.STOPPED = false ∧ ((mover.setF (F.MVR_DONE.BYTES 31) 0).setMv 31 (MvCh.mk .idle 0 0 false)).mvCheck 31 = 0 ∧
    ((overlap.setF (F.MVR_DONE.BYTES 31) 0).setMv 31 (MvCh.mk .idle 0 0 false)).mvCheck 31 = 0x13 ∧
    (∀ k, k < 32 → mover.getF (F.MVR_STAT.STATE k) < 2) ∧ 2 ≤ (moverIn 2 .reading).getF (F.MVR_STAT.STATE 31) ∧
    (moverIn 1 .idle).getF (F.MVR_STAT.STATE 31) = 1 ∧ (moverIn 1 .idle).moverQ.head? = some 31 ∧ (moverIn 1 .idle).awake = true ∧
    (moverIn 1 .idle).mvBufq 31 ≤ (moverIn 1 .idle).getF F.MVR_BUF.FREE ∧ (moverIn 1 .idle).linerOn = false ∧
    ((moverIn 1 .idle).setF F.MVR_BUF.FREE 0).getF F.MVR_BUF.FREE < ((moverIn 1 .idle).setF F.MVR_BUF.FREE 0).mvBufq 31 ∧
    (moverIn 2 .reading).mvQuiet 31 = true ∧ ((moverIn 2 .reading).mv 31).stage = .reading ∧ (moverIn 2 .reading).flag (F.MVR_MODE.SRC_SP 31) = false ∧
    (moverIn 2 .reading).flag (F.MVR_MODE.DST_SP 31) = false ∧ ((moverIn 2 .writing).mv 31).stage = .writing ∧
    ({ moverIn 2 .clean with liner := { run.liner with ops := [Maint.mk 33 1 []] } } : State).maintOver 33 = true ∧
    (moverIn 2 .record).mvRec 31 = some (false, 0x30000) ∧ (moverIn 2 .record).liner.merge = [] ∧ (moverIn 2 .record).liner.merging = [] ∧
    ({ moverIn 2 .first with fab := [under (.moverRecord 31)] } : State).fabOpen (.moverRecord 31) = true ∧
    ((moverIn 3 .stopping).mv 31).stage = .stopping ∧ (∀ w ∈ (moverIn 3 .stopping).liner.wbuf, w.owner ≠ some (2 + 31)) ∧
    0 < 2 ∧ 2 ∣ 4 ∧ (List.range 12).length = 3 * 4 := by decide
/-- R502: INTERLEAVE of three operands in groups of 2 takes a group from each in turn. -/
theorem test_interleave : interleave 3 4 2 ((List.range 12).map (BitVec.ofNat 8)) = [0, 1, 4, 5, 8, 9, 2, 3, 6, 7, 10, 11].map (BitVec.ofNat 8) ∧
    deinterleave 3 4 2 (interleave 3 4 2 ((List.range 12).map (BitVec.ofNat 8))) = (List.range 12).map (BitVec.ofNat 8) := by decide
/-- A request on port 0 with tag 3, issued at tick 0 with a time of 10 ticks. -/
def onPort (who : FabWho) (tick : Nat) : State := { run.setF F.TCK_TICKNO.TICKNO tick with fab := [under who] }
theorem witness_FabricFailures : (onPort (.poll 5) 10).fabLive = true ∧ (onPort (.poll 5) 10).reqAt 0 3 = some (under (.poll 5)) ∧
    (under (.poll 5)).expired 10 = true ∧ (under (.poll 5)).expired 9 = false ∧ (under (.writeback 8)).isWriteback = true ∧
    (under (.poll 5)).isWriteback = false ∧ (onPort (.poll 5) 10).fatal = false ∧ FabWho.plain (.poll 5) = true ∧
    ((onPort (.poll 5) 10).setF F.GLB_FAULT_STAT.FATAL 1).fabLive = true ∧ ((onPort (.poll 5) 10).setF F.GLB_FAULT_STAT.FATAL 1).fatal = true ∧ 3 < run.build.ports ∧ 255 < 256 ∧ 16 % 16 = run.epoch 3 255 ∧ 5 % 16 ≠ run.epoch 3 255 := by decide

/-! ## The config store -/

/-- A formatted store of 64 MiB; its protection level; an operation under way; a NOR step under way. -/
def store : State := fields run [(F.CFS_DEV.SFDP_OK, 1), (F.CFS_DEV.FORMATTED, 1), (F.CFS_DEV.SIZE_MIB, 64)]
def level (n : Nat) : State := store.setF F.CFS_PROT_LEVEL.LEVEL n
def storeOp (code : Nat) (st : Option NorStep) : State := { store with
  cfs := { Cfs.zero with op := some (CfsOp.mk code false 0 0 0 [] false false), cur := st } }
theorem witness_StoreOperationsStart : store.served = true ∧ store.asleep = false ∧ store.flag F.CFS_CMD.BUSY = false ∧ store.pfail = false ∧
    store.pf.settle = false ∧ (store.setF F.CFS_CMD.BUSY 1).flag F.CFS_CMD.BUSY = true ∧ (level 2).updAllowed = false ∧ (level 2).cfsLevel ≠ 0 ∧
    store.updAllowed = true ∧ store.cfsLevel = 0 ∧ store.flag F.CFS_DEV.SFDP_OK = true ∧ store.flag F.CFS_DEV.FORMATTED = true ∧
    store.cfs.recs.find? (fun e => e.1 == 0 % 256) = none ∧
    ({ store with cfs := { Cfs.zero with recs := [(5, 16)] } } : State).cfs.recs.find? (fun e => e.1 == 261 % 256) = some (5, 16) ∧
    store.slotBytes < 0x400001 ∧ 0x400000 ≤ store.slotBytes ∧ 64 * 0x100000 < 64 * 0x100000 + 1 ∧ 512 % 256 = 0 ∧
    0 + 512 ≤ 64 * 0x100000 ∧ 64 * 0x100000 ≤ 0x4000000 ∧ store.cfs.op = none ∧
    (storeOp 3 none).cfs.cur = none ∧ (storeOp 3 (some (.prog 0 []))).cfs.cur = some (.prog 0 []) ∧ NorStep.prog 0 [] ≠ .append ∧
    (storeOp 1 none).cfs.op = some (CfsOp.mk 1 false 0 0 0 [] false false) := by decide
def appending (use : AppendFor) : State := { store with cfs := { Cfs.zero with cur := some .append, appends := [Sys2Proof.Machine.Append.mk use []] } }
def norErasing (led : Bool) (tries : Nat) : State := { store with cfs := { Cfs.zero with cur := some (.erase 8192 0 0 led), tries := tries } }
def fetchingRecord : State := { storeOp 1 none with fab := [{ under .cfsBuffer with len := 236 }] }
/-- A payload of a kind. -/
def payload (k : Nat) : List Byte := 0#8 :: BitVec.ofNat 8 k :: List.replicate 234 0#8
theorem witness_NorOperations : (appending .block).phase = .on ∧ (appending .block).cfs.cur = some .append ∧
    (appending .firmware).cfs.appends = [Sys2Proof.Machine.Append.mk .firmware []] ∧ (norErasing true 0).cfs.cur = some (.erase 8192 0 0 true) ∧
    (norErasing true 0).cfs.tries = 0 ∧ (norErasing true 1).cfs.tries ≠ 0 ∧ (norErasing false 0).cfs.cur = some (.erase 8192 0 0 false) ∧
    (storeOp 8 (some (.prog 0 [1#8]))).cfs.cur = some (.prog 0 [1#8]) ∧
    fetchingRecord.cfs.op = some (CfsOp.mk 1 false 0 0 0 [] false false) ∧ fetchingRecord.fabOpen .cfsBuffer = true ∧ (payload 0x85).length = 236 ∧
    0x80 ≤ payloadKind (fetchingRecord.readBytes .cfsBuffer (payload 0x80)) ∧ payloadKind (fetchingRecord.readBytes .cfsBuffer (payload 0x8F)) ≤ 0x8F ∧
    payloadKind (fetchingRecord.readBytes .cfsBuffer (payload 0x7F)) < 0x80 ∧ 0x8F < payloadKind (fetchingRecord.readBytes .cfsBuffer (payload 0x90)) ∧
    ({ store with cfs := { Cfs.zero with aheadDue := true } } : State).norMay = true ∧ store.ring ≠ 0 ∧ 1 < 2 := by decide

/-! ## The host function and the pair -/

def host : State := fields run [(F.GLB_HFN_STATUS.PRESENT, 1), (F.GLB_HFN_STATUS.READY, 1)]
def resettingFn : State := { host with host := { HostFn.zero with resets := [.flr] } }
theorem witness_HostFunctionCommands : (Instr.hotReset, FnReset.hot) ∈ [(Instr.functionLevelReset, FnReset.flr), (.hotReset, .hot), (.linkDown, .linkDown)] ∧
    host.phase = .on ∧ host.flag F.GLB_HFN_STATUS.PRESENT = true ∧ host.getF F.PAIR_STAT.STATE ≠ 6 ∧ host.host.resets = [] ∧
    resettingFn.host.resets ≠ [] ∧ host.served = true ∧ host.flag F.GLB_HFN_STATUS.READY = true ∧ host.fatal = false ∧ host.asleep = false ∧
    host.flag F.HF_QCTL.BUSY = false ∧ host.windowServes 0x0900 0 = true ∧ host.windowServes 0x0100 0 = false ∧ host.hostBlocked = true ∧
    (host.setF F.GLB_HFN_STATUS.BME 1).hostBlocked = false ∧ ({ host with host := { HostFn.zero with msixEn := true } } : State).hostMode = 1 ∧
    host.hostMode = 2 ∧ ({ host with host := { HostFn.zero with intxDis := true } } : State).hostMode = 0 ∧ 1023 < 1024 := by decide
/-- The pair at work; a message sent and not acknowledged. -/
def paired : State := fields run [(F.PAIR_STAT.STATE, 1), (F.PAIR_STAT.CUFF_UP, 1)]
def heard : State := { paired.setF F.PAIR_STAT.MISSED 3 with pair := { Pair.zero with peerPeriod := some 3 } }
def sentOnce (resends : Nat) : State := { paired.setF F.TCK_MTIME.MEDIATIME 64 with
  pair := { Pair.zero with sent := [CuffMsg.mk 1 4 [] [] 0 resends] } }
/-- The cuff is down since tick 0 and has been up. -/
def cuffDown : State := { fields run [(F.PAIR_STAT.STATE, 2), (F.TCK_TICKNO.TICKNO, 65536)] with pair := { Pair.zero with upOnce := true } }
theorem witness_CuffAndShadow : paired.build.pair = true ∧ paired.phase = .on ∧ paired.tokensGone = false ∧ (8 : Nat).testBit 3 = true ∧
    heard.pair.peerPeriod = some 3 ∧ 4 * (3 + 1) + 2 ≤ 18 ∧ heard.getF F.PAIR_STAT.MISSED = 3 ∧ paired.flag F.PAIR_STAT.CUFF_UP = true ∧
    paired.getF F.PAIR_STAT.STATE ≠ 6 ∧ paired.getF F.PAIR_STAT.STATE ≠ 3 ∧ 1 % 2 ^ 32 = (paired.pair.rx + 1) % 2 ^ 32 ∧
    5 % 2 ^ 32 ≠ (paired.pair.rx + 1) % 2 ^ 32 ∧ (paired.setF F.PAIR_STAT.STATE 2).getF F.PAIR_STAT.STATE = 2 ∧
    (∃ m ∈ (sentOnce 2).pair.sent, m.sent + 64 ≤ (sentOnce 2).mtime ∧ 2 ≤ m.resends) ∧
    (∀ m ∈ (sentOnce 1).pair.sent, m.sent + 64 ≤ (sentOnce 1).mtime → m.resends < 2) ∧
    cuffDown.flag F.PAIR_STAT.CUFF_UP = false ∧ cuffDown.pair.downTick + 65536 ≤ cuffDown.tickno ∧
    (∃ v a b m, Instr.levels 1 3 true false [] = .levels 1 v a b m ∧ ShadowItem.levels 3 true false [] = .levels v a b m) :=
  ⟨by decide, by decide, by decide, by decide, by decide, by decide, by decide, by decide, by decide, by decide, by decide, by decide, by decide,
   ⟨_, List.mem_singleton.mpr rfl, by decide, by decide⟩, by decide, by decide, by decide, ⟨_, _, _, _, rfl, rfl⟩⟩
/-- What the pair arbiter shows of the partner. -/
def peer (ok pf : Bool) : PeerView := PeerView.mk ok 0 pf true [] []
def giving : State := { fields paired [(F.PAIR_STAT.STATE, 5)] with pair := { Pair.zero with peerStage := 3 } }
/-- This instance has found itself at fault. -/
def faulty (cause : Nat) : State := { paired with pair := { Pair.zero with coreOk := false, cause := cause } }
/-- A hand-over under way at a step; a queue of the partner runs. -/
def takingOver (step : Nat) : State := { paired.setF F.PAIR_STAT.STATE 4 with pair := { Pair.zero with step := step } }
def partnerQueue : State := { fields giving [(F.PAIR_FOSTERQ.FOSTER 0, 1), (F.WQ_STATUS.STATE 0, 1)] with queues := [(0, { Queue.zero with piSeen := 1 })] }
def owed (ready : Bool) (tick : Nat) : State := { paired.setF F.TCK_TICKNO.TICKNO tick with
  pair := { Pair.zero with shadowC := [(7, ShadowCtx.mk 5 0 0 1 [] 0 ready)] } }
theorem witness_HandOverAndReturn : paired.phase = .on ∧ paired.fatal = false ∧ paired.pair.coreOk = true ∧ paired.getF F.PAIR_STAT.STATE ≠ 6 ∧
    ({ paired with build := .dz96 } : State).build.pair = false ∧ paired.getF F.PAIR_CTRL.KEY ≠ 0xA5 ∧
    (paired.setF F.PAIR_CTRL.KEY 0xA5).getF F.PAIR_CTRL.KEY = 0xA5 ∧ paired.mayFoster (peer false false) = true ∧ paired.mayFoster (peer true false) = false ∧
    (faulty 1).pair.coreOk = false ∧ (peer true false).coreOk = true ∧ (peer true false).ready = true ∧ (faulty 1).fostering = false ∧
    (faulty 4).pair.cause ≤ 4 ∧ 4 < (faulty 5).pair.cause ∧ (peer true true).pfail = true ∧
    (paired.setF F.PAIR_STAT.STATE 6).getF F.PAIR_STAT.STATE = 6 ∧ (takingOver 1).getF F.PAIR_STAT.STATE = 4 ∧ (takingOver 1).awake = true ∧
    (takingOver 1).flag F.PAIR_STAT.LAST_COLD = false ∧ (takingOver 4).farIdle = true ∧
    ({ takingOver 3 with journals := [(1, { Journal.zero with pend := [jFinish 0 0 0 0] })] } : State).farIdle = false ∧
    ({ giving with pair := { Pair.zero with step := 6 } } : State).openBands 1 = [] ∧ giving.awake = true ∧
    (owed true 65536).pair.shadowC.find? (fun e => e.1 == 7) = some (7, ShadowCtx.mk 5 0 0 1 [] 0 true) ∧ (owed true 65536).awake = true ∧
    (owed true 65536).pair.abortTick + 65536 ≤ (owed true 65536).tickno ∧ (owed true 65535).tickno < (owed true 65535).pair.abortTick + 65536 ∧
    giving.served = true ∧ (storeKeys giving.queues).any (fun q => giving.fosterQ q && giving.qState q != 0) = false ∧
    (storeKeys partnerQueue.queues).any (fun q => partnerQueue.fosterQ q && partnerQueue.qState q != 0) = true ∧ giving.peerWaits = true ∧
    paired.peerWaits = false ∧ giving.pair.step = 0 ∧ ({ giving with pair := { giving.pair with step := 3 } } : State).pair.step ≠ 0 := by decide

/-! ## The spec's own examples -/

/-- The address of "Scope and conventions", its eight bytes, and where its BOI lies (set 7, W 8, level 2, 4 planes, 4 slots). -/
theorem test_bandAddress : Sys2Proof.Machine.bandAddr 7 300 1000 = 0x20704B00000003E8 ∧
    leBytes 8 0x20704B00000003E8 = [0xE8, 0x03, 0, 0, 0, 0x4B, 0x70, 0x20].map (BitVec.ofNat 8) ∧
    addrSet 0x20704B00000003E8 = 7 ∧ addrBand 0x20704B00000003E8 = 300 ∧ addrBoi 0x20704B00000003E8 = 1000 ∧
    rowPos 6 4 4 1000 = RowPos.mk 10 2 2 0 ∧ pPos 8 10 = 5 ∧ qPos 8 10 = 6 ∧ memberOf 2 10 8 2 = some 2 := by decide
/-- R98: the check word of the nine ASCII bytes. -/
theorem test_crc : crc32c ("123456789".toList.map (fun c => BitVec.ofNat 8 c.toNat)) = 0xE3069283#32 := by decide
/-- R100's example: the seed, and DATA byte 0 of 0x00 stored as 0x29. -/
theorem test_scramble : prbsSeed 305 10 0 = 0x066162 ∧ scramble 305 10 0 [0#8] = [0x29#8] := by decide
/-- R106's example, information column 5 of profile C; the profile of a page of 16 KiB with 2,208 spare bytes. -/
theorem test_ldpc : ((List.range 16).filterMap (fun i => (baseShift 16 i 5).map (fun s => (i, s)))) = [(1, 198), (5, 185), (9, 104), (13, 23)] ∧
    pageProfile 16384 2208 = 16 ∧ codewordBytes 16 = 4640 := by decide
/-- Table 3-6: the parity of the example byte. -/
theorem test_parityGroup : [(0, 0x5A), (1, 0x13), (2, 0xC4), (3, 0x07)].map (fun e => gfMul (gfPow2 e.1) e.2) = [0x5A, 0x26, 0x37, 0x38] := by decide
/-- The recovery of the example after Table 3-6: S_1 and S_2 from what is left. -/
theorem test_recovery : recover2 [0xD7#8] [0x11#8] 1 2 = ([0x13#8], [0xC4#8]) := by decide
/-- R206's example: slot 3 of channel 18 retrained. -/
theorem test_retrain : newEdges (17, 50) [true, false, true] [false, true, false] = some (16, 48) ∧ centre (16, 48) = 32 ∧ margin (16, 48) = 16 := by decide
/-- R215's example: the limit of the bank is 48. -/
theorem test_holdUp : holdupLimit 1451520 600800 17600 = 48 := by decide
/-- R463's example: with 20 ways, offset 0x01500140 lies in index 0 of bank 1, way 26. -/
theorem test_scratchpadPlace : (run.setF F.LNR_SP_WAYS.WAYS 20).spKey 0x01500140 = 32 * (384 * 1 + 0) + 26 := by decide
/-- R474's example: with way 3 locked, the misses take ways 0, 8 and 4. -/
theorem test_plruExample :
    let ok : Nat → Bool := fun w => decide (w < 12) && w != 3
    let t0 := plruTouch 0 5 0 1
    let t1 := plruTouch 8 5 t0 1
    plruVictim 0 ok = some 0 ∧ plruVictim t0 ok = some 8 ∧ plruVictim t1 ok = some 4 ∧ t0 = 2 ^ 1 + 2 ^ 2 + 2 ^ 4 + 2 ^ 8 + 2 ^ 16 := by decide
/-- R506's example: the first bytes of a packed BITPLANE of three pages. -/
theorem test_bitplane : bitplane 3 1 0xFFFFFFFF01725463 true [0x35#8, 0x0F#8, 0xA6#8] = [0x15#8, 0x40#8, 0x76#8, 0x23#8] := by decide
/-- A device of 64 MiB (chapter 16): where the records lie, and the ring of one of 256 MiB. -/
theorem test_ring : store.recordBase = 0x900000 ∧ store.ring = 14080 ∧ (store.setF F.CFS_DEV.SIZE_MIB 256).ring = 61184 := by decide
/-- Table 7-2: queues 10, 11 and 12 in the weighted class, always with entries. -/
def weighted : State := { (fields run ([10, 11, 12].map (fun q => (F.WQ_STATUS.STATE q, 1)) ++ [10, 11, 12].map (fun q => (F.WQ_CFG.DEPTH_M1 q, 65535)))) with
  lastW := 9
  queues := [(10, { Queue.zero with piSeen := 60000, credit := 4, arb := 0x10400#64 }), (11, { Queue.zero with piSeen := 60000, credit := 2, arb := 0x200#64 }),
    (12, { Queue.zero with piSeen := 60000, credit := 1, arb := 0x100#64 })] }
def grants : Nat → State → List (Nat × Nat)
  | 0, _ => []
  | n + 1, s => match s.grant with
    | (some e, t) => e :: grants n t
    | (none, _) => []
theorem test_table_7_2 : grants 10 weighted = [(10, 2), (11, 1), (12, 1), (10, 2), (11, 1), (12, 1), (10, 2), (11, 1), (10, 2), (11, 1)] := by decide
/-- Table 15-2: source 12 on core 3; a raise, and what the core is given. -/
def moderated : State := fields run [(F.EVC_SRC_CFG.ENABLE 12, 1), (F.EVC_SRC_CFG.TARGET 12, 3), (F.EVC_SRC_CFG.PRIO 12, 6), (F.EVC_GRP_CFG.COUNT_M1 0, 7),
  (F.EVC_GRP_CFG.HOLDOFF 0, 4), (F.TCK_TICKNO.TICKNO, 100)]
def raised : Nat → State → State
  | 0, s => s
  | n + 1, s => raised n (s.raise 12)
theorem test_table_15_2 : ((raised 5 moderated).mod 12).released = false ∧ ((raised 8 moderated).mod 12).released = true ∧
    ((after (.coreIdleAssert 3) (raised 1 moderated)).mod 12).released = true := by decide
/-- R648: the identification of the left instance of a DZ3-96P. -/
theorem test_identification : run.getF F.GLB_ID.SIGNATURE = 0x445A0003 ∧ run.getF F.GLB_ID.BUILD = 0x61 ∧ run.getF F.GLB_ID.INSTANCE = 0 ∧
    run.getF F.GLB_ID.MAJOR = 3 ∧ run.getF F.GLB_ID.MINOR = 0 := by decide

/-! ## Well-formed commands: a term that each check refuses, and terms at the ends of the ranges -/

/-- A context past the last: every command that names one refuses it, and takes the last. -/
def badCtx : List Instr := [.fragmentTableFetch 16384 [], .entryAdmit 16384, .completionPost 16384, .read 16384, .readResolve 16384, .write 16384, .placement 16384,
  .eraseBand 16384, .copyMedia 16384, .copyMemory 16384, .readRawMode0 16384, .readRawMode1 16384, .readRawMode2 16384, .scrubRange 16384,
  .calibrateSample 16384, .calibrateSearch 16384, .calibrateReset 16384, .selfTestHard 16384, .selfTestSoft 16384, .bandOpen 16384, .bandClose 16384,
  .fenceQueue 16384, .fenceOwner 16384, .queryVdieMap 16384, .querySet 16384, .queryBand 16384, .querySpares 16384, .queryPlanner 16384,
  .queryQueue 16384, .queryDecoder 16384, .queryChannelRead 16384, .queryLevels 16384, .queryLlr 16384, .queryPatrol 16384, .queryPartnerPlan 16384,
  .queryTelemetry 16384, .setTime 16384, .vdieRetire 16384, .vdieRebuild 16384, .vdieAddSpare 16384, .setDelete 16384, .powerCancel 16384,
  .powerPark 16384, .powerMitten 16384]
def lastCtx : List Instr := [.fragmentTableFetch 16383 [], .entryAdmit 16383, .completionPost 16383, .read 16383, .readResolve 16383, .write 16383, .placement 16383,
  .eraseBand 16383, .copyMedia 16383, .copyMemory 16383, .readRawMode0 16383, .readRawMode1 16383, .readRawMode2 16383, .scrubRange 16383,
  .calibrateSample 16383, .calibrateSearch 16383, .calibrateReset 16383, .selfTestHard 16383, .selfTestSoft 16383, .bandOpen 16383, .bandClose 16383,
  .fenceQueue 16383, .fenceOwner 16383, .queryVdieMap 16383, .querySet 16383, .queryBand 16383, .querySpares 16383, .queryPlanner 16383,
  .queryQueue 16383, .queryDecoder 16383, .queryChannelRead 16383, .queryLevels 16383, .queryLlr 16383, .queryPatrol 16383, .queryPartnerPlan 16383,
  .queryTelemetry 16383, .setTime 16383, .vdieRetire 16383, .vdieRebuild 16383, .vdieAddSpare 16383, .setDelete 16383, .powerCancel 16383,
  .powerPark 16383, .powerMitten 16383, .partnerDrop 16383]
theorem test_wfContexts : badCtx.all (fun i => !i.wf) = true ∧ lastCtx.all (fun i => i.wf) = true := by decide
def ill1 : List Instr := [.regWrite 4 0 0 8 0#64, .regWrite 0 0 0 2 0#64, .regWrite 0 0 4 8 0#64, .regWrite 0 0 0 4 0x100000000#64, .splitReadLow 4 0 0,
  .splitReadLow 0 0 2, .romEnumerate 24 0 0 0 [], .romEnumerate 0 0 64 0 [], .romEnumerate 0 0 0 64 [], .romEnumerate 0 0 0 0 [[], [], [], [], []],
  .censusBringup [BringQuad.mk 24 [] []] [], .censusBringup [] [62], .holdupRemeasure 65536, .cmdItem 192 [] [], .mseqOverrun 192 [] [],
  .statusItem 192 [] [], .dinItem 192 [] [], .doutItem 192 [] [] [], .trainItem 192 [], .trainItem 0 [TrainDie.mk 16 0 0 [] [] [] []],
  .trainItem 0 [TrainDie.mk 0 256 0 [] [] [] []], .suspendAbandon 4096, .dieTimeout 4096, .dieUnresponsive 4096, .telemetrySample (.rail 8) 0,
  .telemetrySample (.vccq 24) 0, .telemetrySample (.quadTemp 24) 0, .vccqHoldEnd 48, .zqShortCal 48 0 0, .zqShortCal 0 64 0,
  .zqShortCal 0 0 64, .trainForce 96, .queueEnable false 1024, .queueShutdown true 1024, .pollResult 1024 0#64,
  .entryFetchDone 1024 0 0#512, .entryFetchDone 0 65536 0#512, .tileIntakeDone 16384 [], .tileIntakeDone 0 [[]], .setDefine 16384 [],
  .setDefine 0 [65536], .lineFillDone 0 [], .prefetchFillDone 0 [], .writebackDone 4 0, .writebackDone 0 256,
  .writebackError 4 0 false, .writebackError 0 256 false, .fabricError 4 0, .fabricError 0 256, .fabricTimeout 4 0,
  .fabricTimeout 0 256, .spWindowWrite 0 2 0#64, .spWindowWrite 4 8 0#64, .spWindowWrite 67108864 4 0#64, .moverGo 0x100000000#64,
  .moverAbort 0x100000000#64, .moverReserve 32]
def ill2 : List Instr := [.moverGroupDone 32 none, .moverRecord 32, .moverStopDone 32, .lateResponse 4 0 0, .lateResponse 0 256 0,
  .lateResponse 0 0 16, .eventAck 16, .eventEoi 16 0, .eventEoi 0 512, .evcSet 512,
  .evcPendClear 8 0#64, .moderationRelease true 1024, .statusHoldoffEnd 32 0, .statusHoldoffEnd 0 16, .coreIdleAssert 16,
  .coreIdleDeassert 16, .aheadErase 3, .msixUnmask 1024, .heartbeat 0 0 4 0 0 0, .heartbeat 0 0 0 16 0 0,
  .heartbeat 0 0 0 0 256 0, .heartbeat 0 0 0 0 0 0x100000000, .journal 0x100000000 0 [], .levels 0x100000000 0 false false (List.replicate 240 0#8), .levels 0 4096 false false (List.replicate 240 0#8),
  .levels 0 0 false false [], .qcfg 0x100000000 0 0 0 (List.replicate 64 0#8), .qcfg 0 1024 0 0 (List.replicate 64 0#8), .qcfg 0 0 4 0 (List.replicate 64 0#8), .qcfg 0 0 0 0 [],
  .qidx 0x100000000 0 0 0 false false, .qidx 0 1024 0 0 false false, .qidx 0 0 65536 0 false false, .qidx 0 0 0 65536 false false, .ctxOpen 0x100000000 0 0 0 0 0,
  .ctxOpen 0 16384 0 0 0 0, .ctxOpen 0 0 1024 0 0 0, .ctxOpen 0 0 0 65536 0 0, .ctxOpen 0 0 0 0 65536 0, .ctxOpen 0 0 0 0 0 256,
  .ctxDone 0x100000000 0 1, .ctxDone 0 16384 1, .ctxDone 0 0 3, .place 0x100000000 0 0 0 0 0 0, .place 0 16384 0 0 0 0 0,
  .place 0 0 0 256 0 0 0, .place 0 0 0 0 16384 0 0, .resync 0x100000000 0 0 (.ctxDone 0 1), .selfCheckFault 0 0, .selfCheckFault 5 0,
  .handoverAbort [] [] [1024], .partnerDrop 16384, .quadGate 24, .wakeComplete [(64, 0)], .wakeComplete [(0, 64)],
  .partnerImageIdent 0x100000000 0, .partnerImageIdent 0 0x100000000]
def wellFormed : List Instr := [.regWrite 3 0 8 8 0x100000000#64, .splitReadLow 3 0 4, .romEnumerate 23 0 63 63 [[], [], [], []], .censusBringup [BringQuad.mk 23 [] []] [61], .holdupRemeasure 65535,
  .cmdItem 191 [] [], .mseqOverrun 191 [] [], .statusItem 191 [] [], .dinItem 191 [] [], .doutItem 191 [] [] [],
  .trainItem 191 [TrainDie.mk 15 255 0 [] [] [] []], .suspendAbandon 4095, .dieTimeout 4095, .dieUnresponsive 4095, .telemetrySample (.rail 7) 0,
  .telemetrySample .coreTemp 0, .vccqHoldEnd 47, .zqShortCal 47 63 63, .trainForce 95, .queueEnable false 1023,
  .entryFetchDone 1023 65535 0#512, .tileIntakeDone 16383 [], .setDefine 16383 [65535], .lineFillDone 0 (List.replicate 256 0#8), .writebackDone 3 255,
  .writebackError 3 255 false, .fabricError 3 255, .fabricTimeout 3 255, .spWindowWrite 67108856 8 0#64, .moverGo 0xFFFFFFFF#64,
  .lateResponse 3 255 15, .eventEoi 15 511, .statusHoldoffEnd 31 15, .aheadErase 2, .heartbeat 0 0 3 15 255 0xFFFFFFFF,
  .journal 0xFFFFFFFF 0 [], .levels 0 4095 false false (List.replicate 240 0#8), .qcfg 0 1023 3 0 (List.replicate 64 0#8), .qidx 0 1023 65535 65535 false false, .ctxOpen 0 16383 1023 65535 65535 255,
  .ctxDone 0 16383 2, .place 0 16383 0 255 16383 0 0, .resync 0 0 0 (.ctxDone 0 1), .selfCheckFault 4 0, .wakeComplete [(63, 63)]]
theorem test_wfRefuses : (ill1 ++ ill2).all (fun i => !i.wf) = true := by decide
theorem test_wfAccepts : wellFormed.all (fun i => i.wf) = true := by decide
/-- No row of the table has bits: no word spells a command. -/
theorem test_decode : decodeTableWord 16 0x1234 = none ∧ run.withFetchWord 16 0x1234 = run := by decide

end Sys2Proof.Tests
end

section
/-! SUPPORT. Accesses to the register window (R9 to R13): which register stands at an offset of a table with an index, what a write does to a register
that only stores what is written, and what a write after Gauntlet lock leaves behind. -/

namespace Sys2Proof.Machine

/-! ## The register map -/

/-- The row has none of the `n` offsets `base + stride * i`: its registers stand above them all, or below them all, or they have the same stride and
come between them. -/
def RegRow.misses (r : RegRow) (base stride n : Nat) : Bool :=
  decide (base + stride * n < r.base + stride) ||
    (decide (0 < r.stride) && decide (r.base + r.stride * max r.count r.count48 ≤ base)) ||
    (r.stride == stride && decide (0 < r.stride2) && decide (((r.count2 * r.stride2 : Nat) : Int) ≤ ((base : Int) - r.base) % stride))

/-- The offsets of a row begin at its base, end with its last index, and keep within the second index's range from one stride to the next. -/
theorem rowHas_bounds {b : Build} {r : RegRow} {off : Nat} (h : rowHas b r off = true) :
    r.base ≤ off ∧ (0 < r.stride → off < r.base + r.stride * max r.count r.count48) ∧
      (0 < r.stride2 → (off - r.base) % r.stride < r.count2 * r.stride2) := by
  simp only [rowHas, Bool.and_eq_true, decide_eq_true_eq, ← Nat.mod_eq_sub_mul_div] at h
  obtain ⟨hbase, ⟨hi, hj⟩, -⟩ := h
  refine ⟨hbase, fun hs => ?_, fun hs => (Nat.div_lt_iff_lt_mul hs).mp hj⟩
  have hc : (off - r.base) / r.stride < max r.count r.count48 := by split at hi <;> omega
  have := (Nat.div_lt_iff_lt_mul hs).mp hc
  rw [Nat.mul_comm] at this
  omega

theorem rowHas_of_misses {b : Build} {r : RegRow} {base stride n i : Nat} (h : r.misses base stride n = true) (hi : i < n) :
    rowHas b r (base + stride * i) = false := by
  by_contra hc
  obtain ⟨hlo, hhi, hres⟩ := rowHas_bounds (Bool.not_eq_false _ ▸ hc)
  simp only [RegRow.misses, Bool.or_eq_true, Bool.and_eq_true, decide_eq_true_eq, beq_iff_eq] at h
  obtain (habove | ⟨hs, hbelow⟩) | ⟨⟨rfl, hs2⟩, hbetween⟩ := h
  · have : stride * i + stride ≤ stride * n := Nat.mul_le_mul_left stride hi
    omega
  · have := hhi hs
    omega
  · have hmod : (((base + r.stride * i - r.base) % r.stride : Nat) : Int) = ((base : Int) - r.base) % r.stride := by
      rw [Int.natCast_emod, Int.natCast_sub hlo, Int.natCast_add, Int.natCast_mul, add_sub_right_comm, Int.add_mul_emod_self_left]
    have := hres hs2
    omega

/-- The first row that does not miss a family of offsets is the row of each of them that it has. -/
theorem regRow_of_find {b : Build} {row : RegRow} {base stride n i : Nat}
    (h : regTable.find? (fun r => !r.misses base stride n) = some row) (hi : i < n) (hr : rowHas b row (base + stride * i) = true) :
    regRow b (base + stride * i) = some row := by
  obtain ⟨-, before, after, hsplit, hbefore⟩ := List.find?_eq_some_iff_append.mp h
  refine List.find?_eq_some_iff_append.mpr ⟨hr, before, after, hsplit, fun r hmem => ?_⟩
  rw [rowHas_of_misses (by simpa using hbefore r hmem) hi]
  rfl

theorem regRow_of_find_none {b : Build} {base stride n i : Nat} (h : regTable.find? (fun r => !r.misses base stride n) = none) (hi : i < n) :
    regRow b (base + stride * i) = none := by
  refine List.find?_eq_none.mpr fun r hmem => ?_
  rw [rowHas_of_misses (by simpa using List.find?_eq_none.mp h r hmem) hi]
  decide

/-- A row with one index has the offsets that its base and stride give, on every build that it has the whole range on. -/
theorem rowHas_index {b : Build} {r : RegRow} {i : Nat} (hs : 0 < r.stride) (h2 : 0 < r.count2) (hi : i < r.count) (hi48 : i < r.count48) :
    rowHas b r (r.base + r.stride * i) = true := by
  have hc : i < (if b = .dz48 then r.count48 else r.count) := by split <;> assumption
  simp [rowHas, Nat.mul_div_cancel_left i hs, hc, h2]

theorem regRow_plainRegs (b : Build) {off : Nat} {mask : Word} (h : (off, mask) ∈ plainRegs) :
    ∃ r, regRow b off = some r ∧ r.width = 32 ∧ BitVec.ofNat 64 r.rw = mask ∧ r.rwl = 0 ∧ r.w1c = 0 := by
  have hall : ∀ e ∈ plainRegs, (regRow b e.1).any
      (fun r => decide (r.width = 32 ∧ BitVec.ofNat 64 r.rw = e.2 ∧ r.rwl = 0 ∧ r.w1c = 0)) = true := by cases b <;> decide
  obtain ⟨r, hr, hp⟩ := (Option.any_eq_true _ _).mp (hall _ h)
  exact ⟨r, hr, of_decide_eq_true hp⟩

theorem regRow_gauntletRegs (b : Build) {k q off : Nat} {mask : Word} (hk : k < 64) (hq : q < 1024) (h : (off, mask) ∈ gauntletRegs k q) :
    ∃ r, regRow b off = some r ∧ r.width = 64 ∧ r.rw = 0 ∧ r.w1c = 0 ∧ BitVec.ofNat 64 r.rwl = mask := by
  simp only [gauntletRegs, List.mem_cons, Prod.mk.injEq, List.not_mem_nil, or_false] at h
  obtain ⟨rfl, rfl⟩ | ⟨rfl, rfl⟩ | ⟨rfl, rfl⟩ := h
  · exact ⟨RegRow.mk "GNT_WIN_BASE" 0x11000 16 64 64 1 1 64 0x0 0x0 0xfffffffffffff001 0x0 0x0 0x0,
      regRow_of_find (n := 64) (by decide) hk (rowHas_index (by decide) (by decide) hk hk), rfl, rfl, rfl, rfl⟩
  · exact ⟨RegRow.mk "GNT_WIN_LIMIT" 0x11008 16 64 64 1 1 64 0x0 0x0 0xfffffffffffff003 0x0 0x0 0x0,
      regRow_of_find (n := 64) (by decide) hk (rowHas_index (by decide) (by decide) hk hk), rfl, rfl, rfl, rfl⟩
  · exact ⟨RegRow.mk "GNT_QWIN" 0x12000 16 1024 1024 1 1 64 0x0 0x0 0xffffffffffffffff 0x0 0x0 0x0,
      regRow_of_find (n := 1024) (by decide) hq (rowHas_index (by decide) (by decide) hq hq), rfl, rfl, rfl, rfl⟩

/-- The row of MVR_MAP. -/
def mapRow : RegRow := RegRow.mk "MVR_MAP" 0x90040 128 32 32 1 1 64 0xfedcba9876543210 0xffffffffffffffff 0x0 0x0 0x0 0x0

theorem regRow_map (b : Build) {c : Nat} (hc : c < 32) : regRow b (0x90040 + 0x80 * c) = some mapRow :=
  regRow_of_find (n := 32) (by decide) hc (rowHas_index (r := mapRow) (by decide) (by decide) hc hc)

theorem regRow_map_high (b : Build) {c : Nat} (hc : c < 32) : regRow b (0x90044 + 0x80 * c) = none :=
  regRow_of_find_none (n := 32) (by decide) hc

end Sys2Proof.Machine

namespace Sys2Proof.Machine

variable {s : State} {win rq off key : Nat} {r : RegRow} {v m : Word}

/-! ## What a window holds at an offset -/

theorem State.keyAt_window (s : State) (h : off < 2 ^ 24) : s.keyAt 0 off = (regRow s.build off).map (fun r => (off, r)) := by
  simp only [State.keyAt, if_true, if_pos h]

theorem State.partAt_whole (h : s.keyAt win off = some (key, r)) (hw : r.width ≠ 64) : s.partAt win off = .whole key r := by
  simp [State.partAt, h, hw]

theorem State.partAt_low (h : s.keyAt win off = some (key, r)) (hw : r.width = 64) : s.partAt win off = .low key r := by
  simp [State.partAt, h, hw]

theorem State.partAt_high (hn : s.keyAt win off = none) (h4 : off % 8 = 4) (h : s.keyAt win (off - 4) = some (key, r)) (hw : r.width = 64) :
    s.partAt win off = .high key r := by
  simp [State.partAt, hn, h4, h, hw]

theorem State.partAt_map (s : State) {c : Nat} (hc : c < 32) : s.partAt 0 (0x90040 + 0x80 * c) = .low (0x90040 + 0x80 * c) mapRow :=
  State.partAt_low (by rw [State.keyAt_window s (by omega), regRow_map _ hc]; rfl) rfl

theorem State.partAt_map_high (s : State) {c : Nat} (hc : c < 32) : s.partAt 0 (0x90044 + 0x80 * c) = .high (0x90040 + 0x80 * c) mapRow := by
  have hlow : 0x90044 + 0x80 * c - 4 = 0x90040 + 0x80 * c := by omega
  refine State.partAt_high ?_ (by omega) ?_ rfl
  · rw [State.keyAt_window s (by omega), regRow_map_high _ hc]; rfl
  · rw [hlow, State.keyAt_window s (by omega), regRow_map _ hc]; rfl

/-! ## A served access, awake -/

theorem State.phase_of_served (h : s.served = true) : s.phase = .on := by
  by_contra hp
  rw [State.served_of_not_on hp] at h
  cases h

theorem State.mitten_of_not_asleep (h : s.asleep = false) : s.mitten = false := by
  simp only [State.asleep, State.mitten, Bool.and_eq_false_iff, decide_eq_false_iff_not] at h ⊢
  omega

theorem exec_regWrite_awake (win rq off width : Nat) (v : Word) (ha : s.asleep = false) :
    exec (.regWrite win rq off width v) s = .next (s.windowWrite (HeldWrite.mk win rq off width v)) := by
  simp [exec, execRegWrite, ha]

theorem exec_splitReadLow_awake (win rq off : Nat) (hv : s.served = true) (ha : s.asleep = false) :
    exec (.splitReadLow win rq off) s = .next (if off % 4 ≠ 0 then { s with readData := 0 } else s.read32 win rq off) := by
  simp [exec, execSplitReadLow, State.phase_of_served hv, ha, State.mitten_of_not_asleep ha]

/-- A write of another width, or not aligned to its width, is ignored (R12). -/
theorem State.windowWrite_ignored {h : HeldWrite} (hm : (h.width ≠ 4 ∧ h.width ≠ 8) ∨ h.offset % h.width ≠ 0) : s.windowWrite h = s := by
  refine if_pos (Or.inr ?_)
  simpa only [Bool.not_eq_true', Bool.or_eq_false_iff, beq_eq_false_iff_ne] using hm

theorem State.windowWrite_32 (hv : s.served = true) (hal : off % 4 = 0) : s.windowWrite (HeldWrite.mk 0 rq off 4 v) = s.write32 0 rq off v := by
  simp [State.windowWrite, State.phase_of_served hv, hal]

theorem State.windowWrite_64 (hv : s.served = true) (hal : off % 8 = 0) (hp : s.partAt 0 off = .low key r) :
    s.windowWrite (HeldWrite.mk 0 rq off 8 v) = (s.touchReg rq key).regEffect 0 key r v (~~~ 0#64) off 8 v := by
  simp [State.windowWrite, State.phase_of_served hv, hal, hp]

/-! ## What R13 holds for a requester -/

@[simp] theorem State.split_setSplit (s : State) (rq : Nat) (x : Split) : (s.setSplit rq x).split rq = x := storeGet_storePut_self
@[simp] theorem State.reg_touchReg (s : State) (rq key o : Nat) : (s.touchReg rq key).reg o = s.reg o := rfl

/-- An access to a register keeps the shadow of that register. -/
theorem State.shadow_touchReg {x : Nat} (h : (s.split rq).shadow = some (key, x)) : ((s.touchReg rq key).split rq).shadow = some (key, x) := by
  simp [State.touchReg, h]

/-- An access to a register keeps the held half of that register. -/
theorem State.held_touchReg {x : Nat} (h : (s.split rq).held = some (key, x)) : ((s.touchReg rq key).split rq).held = some (key, x) := by
  simp [State.touchReg, h]

/-! ## Registers that only store what is written -/

/-- The mask of a full-width access is written `~~~ 0#64` in the model. -/
theorem Word.and_not_zero (w : Word) : w &&& ~~~ 0#64 = w := BitVec.and_allOnes

/-- A write to the register at `key` is no action, and no rule of a queue or of the pair stands before it. -/
def StoresOnly (key : Nat) : Prop :=
  key ∉ [0x10000, 0xB0100, 0x20880, 0x80000, 0x80210, 0x80508, 0x91000, 0x91004, 0x91008, 0xA0020, 0xB0200, 0xB0300, 0x460, 0x2010000] ∧
    ¬ (0x20800 ≤ key ∧ key < 0x20840) ∧ ¬ (0x21000 ≤ key ∧ key < 0x21400) ∧ ¬ (0x40000 ≤ key ∧ key < 0x50000) ∧
    ¬ (0x100000 ≤ key ∧ key < 0x118000) ∧ ¬ (0x400000 ≤ key ∧ key < 0x400200)

theorem storesOnly_of_plain {mask : Word} (h : (key, mask) ∈ plainRegs) : StoresOnly key := by
  have hall : ∀ e ∈ plainRegs, StoresOnly e.1 := by unfold StoresOnly; decide
  exact hall _ h

theorem storesOnly_of_gauntlet (h : 0x10000 < key) (h' : key < 0x20000) : StoresOnly key := by
  simp only [StoresOnly, List.mem_cons, List.not_mem_nil, or_false]
  omega

theorem storesOnly_of_mover (h : 0x90000 ≤ key) (h' : key < 0x91000) : StoresOnly key := by
  simp only [StoresOnly, List.mem_cons, List.not_mem_nil, or_false]
  omega

theorem queueOfKey_of_storesOnly (h : StoresOnly key) : queueOfKey key = none := if_neg h.2.2.2.1

theorem State.writeMay_of_storesOnly (h : StoresOnly key) : s.writeMay 0 key = s.served := by
  obtain ⟨-, -, -, -, -, hpair⟩ := id h
  have hp : (decide (0x400000 ≤ key) && decide (key < 0x400200)) = false := by simpa using hpair
  simp [State.writeMay, queueOfKey_of_storesOnly h, hp]

theorem State.act_of_storesOnly (h : StoresOnly key) (hc : r.w1c = 0) (rwl : Bool) : s.act win key r rwl v = s.setReg key (s.reg key) := by
  obtain ⟨hkeys, hpend, hacks, hqueues, hchans, hpair⟩ := h
  simp only [List.mem_cons, List.not_mem_nil, or_false, not_or] at hkeys
  obtain ⟨h1, h2, h3, h4, h5, h6, h7, h8, h9, h10, h11, h12, h13, h14⟩ := hkeys
  have hctl : key ≠ 0x400000 := by omega
  have heoi : ¬ (0x21000 ≤ key ∧ key < 0x21400 ∧ key % 0x40 = 4) := by omega
  have hctrl : ¬ (0x40000 ≤ key ∧ key < 0x50000 ∧ key % 0x40 = 0x28) := by omega
  have htrain : ¬ (0x100000 ≤ key ∧ key < 0x118000 ∧ key % 0x400 = 0x40) := by omega
  simp only [State.act, h1, h2, h3, h4, h5, h6, h7, h8, h9, h10, h11, h12, h13, h14, hpend, hctl, heoi, hctrl, htrain, if_false, hc,
    BitVec.and_zero, Word.and_not_zero]

theorem storeDel_storeDel_same {α : Type} (k : Nat) (l : Store α) : storeDel k (storeDel k l) = storeDel k l := by
  induction l with
  | nil => rfl
  | cons e t ih =>
    obtain ⟨a, _⟩ := e
    by_cases h : k = a
    · simpa only [storeDel, if_pos h] using ih
    · simp only [storeDel, if_neg h, ih]

theorem storeIns_storeIns_same {α : Type} (k : Nat) (x : α) (l : Store α) : storeIns k x (storeIns k x l) = storeIns k x l := by
  induction l with
  | nil => simp [storeIns]
  | cons e t ih =>
    obtain ⟨a, _⟩ := e
    by_cases hlt : k < a
    · simp [storeIns, hlt]
    · by_cases h : k = a
      · simp [storeIns, h]
      · simp [storeIns, hlt, h, ih]

/-- Storing a value twice is storing it once. -/
theorem storePut_storePut_same {α : Type} [DecidableEq α] (d : Nat → α) (k : Nat) (x : α) (l : Store α) :
    storePut d (storePut d l k x) k x = storePut d l k x := by
  unfold storePut
  split
  · exact storeDel_storeDel_same k l
  · exact storeIns_storeIns_same k x l

theorem State.setReg_setReg_same (s : State) (o : Nat) (w : Word) : (s.setReg o w).setReg o w = s.setReg o w := by
  unfold State.setReg
  exact congrArg (fun l => { s with regs := l }) (storePut_storePut_same _ _ _ _)

/-- What a served write does to such a register (R9 to R11): the bits `b` that it may change take their values, and a refused change of RWL fields is
recorded. -/
theorem State.regEffect_of_storesOnly (hs : StoresOnly key) (hc : r.w1c = 0) (hv : s.served = true) (off width : Nat) (value : Word) :
    s.regEffect 0 key r v m off width value =
      (if !s.rwlOpen key && (s.reg key ^^^ v) &&& (rwlBits key r v &&& m) != 0#64 then s.lockedWrite off width value else s).setReg key
        (let b := if s.rwlOpen key then (s.rwBits key r &&& m) ||| (rwlBits key r v &&& m) else s.rwBits key r &&& m
         (s.reg key &&& ~~~ b) ||| (v &&& b)) := by
  have hlock : (key != 0x10000) = true := by simpa using fun h => hs.1 (by simp [h])
  simp only [State.regEffect, State.writeMay_of_storesOnly hs, hv, queueOfKey_of_storesOnly hs, State.act_of_storesOnly hs hc,
    State.reg_setReg_self, State.setReg_setReg_same, hlock, Bool.and_true, Bool.and_false, Bool.not_true, Bool.false_eq_true, if_false]

/-- A register without RWL fields takes its RW bits. -/
theorem State.regEffect_rw (hs : StoresOnly key) (hc : r.w1c = 0) (hl : r.rwl = 0) (hv : s.served = true) (off width : Nat) (value : Word) :
    s.regEffect 0 key r v m off width value =
      s.setReg key ((s.reg key &&& ~~~ (s.rwBits key r &&& m)) ||| (v &&& (s.rwBits key r &&& m))) := by
  have hz : rwlBits key r v = 0#64 := by simp [rwlBits, hl]
  simp [State.regEffect_of_storesOnly hs hc hv, hz]

/-- A write of 64 bits to a register that is one RW field stores the value. -/
theorem State.regEffect_rw_whole (hs : StoresOnly key) (hc : r.w1c = 0) (hl : r.rwl = 0) (hw : s.rwBits key r = ~~~ 0#64) (hv : s.served = true)
    (off width : Nat) (value : Word) : s.regEffect 0 key r v (~~~ 0#64) off width value = s.setReg key v := by
  simp only [State.regEffect_rw hs hc hl hv, hw, Word.and_not_zero, BitVec.not_not, BitVec.and_zero, BitVec.zero_or]

/-- A register without RW fields keeps its value after lock; a change that the write asked for is recorded (R11). -/
theorem State.regEffect_locked (hs : StoresOnly key) (hc : r.w1c = 0) (hw : s.rwBits key r = 0#64) (hv : s.served = true) (hl : s.locked = true)
    (off width : Nat) (value : Word) :
    s.regEffect 0 key r v m off width value =
      (if (s.reg key ^^^ v) &&& (rwlBits key r v &&& m) ≠ 0#64 then s.lockedWrite off width value else s).setReg key (s.reg key) := by
  have hopen : s.rwlOpen key = false := by simp [State.rwlOpen, hl]
  simp only [State.regEffect_of_storesOnly hs hc hv, hw, hopen, Bool.not_false, Bool.true_and, bne_iff_ne, Bool.false_eq_true, if_false,
    BitVec.zero_and, BitVec.and_zero, BitVec.or_zero, Word.and_not_zero]

/-! ## The bits a write may change -/

/-- Of these registers the RW bits are those of the table, whatever the state. -/
theorem State.rwBits_of_table (h : key ∉ [0x80400, 0x80000, 0xB0300, 0xA0020]) (he : ¬ (0x20000 ≤ key ∧ key < 0x20980))
    (hq : ¬ (0x40000 ≤ key ∧ key < 0x50000)) (hm : ¬ (0x90000 ≤ key ∧ key < 0x91000)) : s.rwBits key r = BitVec.ofNat 64 r.rw := by
  simp only [List.mem_cons, List.not_mem_nil, or_false, not_or] at h
  obtain ⟨h1, h2, h3, h4⟩ := h
  have hsrc : ¬ (0x20000 ≤ key ∧ key < 0x20800) := by omega
  have hgrp : ¬ (0x20940 ≤ key ∧ key < 0x20980) := by omega
  simp only [State.rwBits, h1, h2, h3, h4, hsrc, hgrp, hq, hm, false_and, if_false]

theorem State.rwBits_plain {mask : Word} (h : (key, mask) ∈ plainRegs) : s.rwBits key r = BitVec.ofNat 64 r.rw := by
  have hall : ∀ e ∈ plainRegs, e.1 ∉ [0x80400, 0x80000, 0xB0300, 0xA0020] ∧ ¬ (0x20000 ≤ e.1 ∧ e.1 < 0x20980) ∧
      ¬ (0x40000 ≤ e.1 ∧ e.1 < 0x50000) ∧ ¬ (0x90000 ≤ e.1 ∧ e.1 < 0x91000) := by decide
  obtain ⟨hkeys, hevents, hqueues, hmover⟩ := hall _ h
  exact State.rwBits_of_table hkeys hevents hqueues hmover

theorem State.rwBits_gauntlet (h : 0x10000 < key) (h' : key < 0x20000) : s.rwBits key r = BitVec.ofNat 64 r.rw :=
  State.rwBits_of_table (by simp only [List.mem_cons, List.not_mem_nil, or_false]; omega) (by omega) (by omega) (by omega)

/-- A parameter of a Mover channel takes a write while the channel is idle. -/
theorem State.rwBits_map {c : Nat} (hc : c < 32) (hi : s.getF (F.MVR_STAT.STATE c) = 0) :
    s.rwBits (0x90040 + 0x80 * c) mapRow = ~~~ 0#64 := by
  have hch : (0x90040 + 0x80 * c - 0x90000) / 0x80 = c := by omega
  have h1 : ¬ (0x90040 + 0x80 * c = 0x80400) := by omega
  have h2 : ¬ (0x20000 ≤ 0x90040 + 0x80 * c ∧ 0x90040 + 0x80 * c < 0x20800) := by omega
  have h3 : ¬ (0x20940 ≤ 0x90040 + 0x80 * c ∧ 0x90040 + 0x80 * c < 0x20980) := by omega
  have h4 : ¬ (0x40000 ≤ 0x90040 + 0x80 * c ∧ 0x90040 + 0x80 * c < 0x50000) := by omega
  have h5 : 0x90000 ≤ 0x90040 + 0x80 * c ∧ 0x90040 + 0x80 * c < 0x91000 := by omega
  simp only [State.rwBits, h1, h2, h3, h4, h5, hch, hi, false_and, and_self, if_true, if_false]
  rfl

/-! ## REG_WRITE of a register with plain settings -/

theorem regsKept_setReg (s : State) (o : Nat) (w : Word) : regsKept s (s.setReg o w) [o] :=
  fun _ ho => State.reg_setReg_ne (by simpa using ho)

/-- A register stored after what R13 holds has changed: it has the value, and nothing else is different. -/
theorem State.setReg_stores (s : State) (x : Store Split) (key : Nat) (w : Word) :
    ∃ t, ({ s with splits := x } : State).setReg key w = t ∧ t.reg key = w ∧ regsKept s t [key] ∧
      t = { s with regs := t.regs, splits := t.splits } :=
  ⟨_, rfl, State.reg_setReg_self _ _ _, regsKept_setReg { s with splits := x } key w, rfl⟩

theorem State.write32_whole (h : s.partAt win off = .whole key r) : s.write32 win rq off v =
    (s.touchReg rq key).regEffect win key r (v &&& 0xFFFFFFFF#64) 0xFFFFFFFF#64 off 4 (v &&& 0xFFFFFFFF#64) := by
  simp only [State.write32, h]

/-- The plain registers stand at offsets of 4 bytes, and their RW bits are in the low half. -/
theorem plainRegs_low {mask : Word} (h : (off, mask) ∈ plainRegs) : off < 2 ^ 24 ∧ off % 4 = 0 ∧ 0xFFFFFFFF#64 &&& mask = mask := by
  have hall : ∀ e ∈ plainRegs, e.1 < 2 ^ 24 ∧ e.1 % 4 = 0 ∧ 0xFFFFFFFF#64 &&& e.2 = e.2 := by decide
  exact hall _ h

/-- Settles O7: the register stands whole in the window, and the bits that the write may change are the RW bits of its row. -/
theorem plainRegisterWrite : Obligations.PlainRegisterWrite := by
  unfold Obligations.PlainRegisterWrite
  intro s rq off mask v hmem hserved hawake
  obtain ⟨r, hrow, hwidth, hrw, hrwl, hw1c⟩ := regRow_plainRegs s.build hmem
  obtain ⟨hoff, hal, hlow⟩ := plainRegs_low hmem
  have hpart : s.partAt 0 off = .whole off r :=
    State.partAt_whole (by rw [State.keyAt_window s hoff, hrow]; rfl) (by omega)
  have hbits : (s.touchReg rq off).rwBits off r &&& 0xFFFFFFFF#64 = mask := by
    rw [State.rwBits_plain hmem, hrw, BitVec.and_comm, hlow]
  have hwrite : s.windowWrite (HeldWrite.mk 0 rq off 4 v) =
      (s.touchReg rq off).setReg off ((s.reg off &&& ~~~ mask) ||| (v &&& mask)) := by
    rw [State.windowWrite_32 hserved hal, State.write32_whole hpart,
      State.regEffect_rw (s := s.touchReg rq off) (storesOnly_of_plain hmem) hw1c hrwl hserved, hbits, BitVec.and_assoc, hlow]
    rfl
  obtain ⟨t, ht, hstores⟩ := State.setReg_stores s (s.touchReg rq off).splits off ((s.reg off &&& ~~~ mask) ||| (v &&& mask))
  exact ⟨t, (exec_regWrite_awake 0 rq off 4 v hawake).trans (congrArg _ (hwrite.trans ht)), hstores⟩

end Sys2Proof.Machine

namespace Sys2Proof.Machine

variable {s : State} {win rq off key c : Nat} {r : RegRow} {v : Word}

/-! ## The halves of a 64-bit register (R13) -/

theorem State.shown_of_served (h : s.served = true) (key : Nat) : s.shown 0 key = true := by
  simp only [State.served, Bool.and_eq_true] at h
  obtain ⟨⟨hphase, hopen⟩, hfence⟩ := h
  simp [State.shown, hphase, hopen, hfence]

/-- MVR_MAP reads as it is stored. -/
theorem State.readReg_map (hc : c < 32) (hv : s.served = true) : s.readReg 0 (0x90040 + 0x80 * c) mapRow = s.reg (0x90040 + 0x80 * c) := by
  have hview : s.viewKey (0x90040 + 0x80 * c) = s.reg (0x90040 + 0x80 * c) := by
    unfold State.viewKey
    iterate 9 rw [if_neg (by omega)]
  rw [State.readReg, if_pos (State.shown_of_served hv _), hview]
  exact Word.and_not_zero _

/-- A read of the low half returns it and captures the high half. -/
theorem State.read32_low {w : Word} (h : s.partAt 0 off = .low key r) (hw : (s.touchReg rq key).readReg 0 key r = w) :
    (s.read32 0 rq off).readData = w.toNat % 2 ^ 32 ∧ ((s.read32 0 rq off).split rq).shadow = some (key, w.toNat / 2 ^ 32) ∧
      s.read32 0 rq off = { s with readData := (s.read32 0 rq off).readData, splits := (s.read32 0 rq off).splits } := by
  have hread : s.read32 0 rq off =
      { (s.touchReg rq key).setSplit rq { (s.touchReg rq key).split rq with shadow := some (key, w.toNat / 2 ^ 32) } with
        readData := w.toNat % 2 ^ 32 } := by
    simp only [State.read32, h, hw]
    rfl
  rw [hread]
  exact ⟨rfl, by simp [State.split, State.setSplit], rfl⟩

theorem State.read32_high (h : s.partAt 0 off = .high key r) :
    s.read32 0 rq off = { s.touchReg rq key with readData := (s.touchReg rq key).readHigh rq 0 key r } := by
  simp only [State.read32, h]
  rfl

theorem State.readHigh_shadow {x : Nat} (h : (s.split rq).shadow = some (key, x)) : s.readHigh rq win key r = x := by
  simp [State.readHigh, h]

theorem State.write32_low (h : s.partAt win off = .low key r) (hrw : r.rw ≠ 0) : s.write32 win rq off v =
    (s.touchReg rq key).setSplit rq { (s.touchReg rq key).split rq with held := some (key, (v &&& 0xFFFFFFFF#64).toNat) } := by
  simp [State.write32, h, hrw]

/-- The high half takes effect with the low half held. -/
theorem State.write32_high {lo : Nat} (h : s.partAt win off = .high key r) (hh : (s.split rq).held = some (key, lo)) : s.write32 win rq off v =
    ((s.touchReg rq key).setSplit rq { (s.touchReg rq key).split rq with held := none }).regEffect win key r
      ((v &&& 0xFFFFFFFF#64) <<< 32 ||| BitVec.ofNat 64 lo) (~~~ 0#64) key 8 ((v &&& 0xFFFFFFFF#64) <<< 32 ||| BitVec.ofNat 64 lo) := by
  simp only [State.write32, h, State.held_touchReg hh]

theorem lowHalf_toNat (v : Word) : (v &&& 0xFFFFFFFF#64).toNat = v.toNat % 2 ^ 32 := by
  rw [BitVec.toNat_and]
  exact Nat.and_two_pow_sub_one_eq_mod v.toNat 32

/-- The two halves joined are the number that they spell. -/
theorem joinHalves_eq_ofNat (v : Word) {lo : Nat} (h : lo < 2 ^ 32) :
    (v &&& 0xFFFFFFFF#64) <<< 32 ||| BitVec.ofNat 64 lo = BitVec.ofNat 64 (v.toNat % 2 ^ 32 * 2 ^ 32 + lo) := by
  apply BitVec.eq_of_toNat_eq
  have hv : v.toNat % 2 ^ 32 < 2 ^ 32 := Nat.mod_lt _ (Nat.two_pow_pos _)
  rw [BitVec.toNat_or, BitVec.toNat_shiftLeft, lowHalf_toNat, BitVec.toNat_ofNat, BitVec.toNat_ofNat, Nat.shiftLeft_eq,
    Nat.mod_eq_of_lt (by omega : v.toNat % 2 ^ 32 * 2 ^ 32 < 2 ^ 64), Nat.mod_eq_of_lt (by omega : lo < 2 ^ 64),
    Nat.mod_eq_of_lt (by omega : v.toNat % 2 ^ 32 * 2 ^ 32 + lo < 2 ^ 64), Nat.mul_comm, Nat.two_pow_add_eq_or_of_lt h]

/-! ## SPLIT_READ_LOW and REG_WRITE of the halves of MVR_MAP -/

theorem misaligned_ignored (win rq off : Nat) (v : Word) (hv : s.served = true) (ha : s.asleep = false) :
    (off % 4 ≠ 0 → exec (.splitReadLow win rq off) s = .next { s with readData := 0 } ∧ exec (.regWrite win rq off 4 v) s = .next s) ∧
    (off % 8 ≠ 0 → exec (.regWrite win rq off 8 v) s = .next s) ∧
    (∀ width, width ≠ 4 → width ≠ 8 → exec (.regWrite win rq off width v) s = .next s) := by
  refine ⟨fun h4 => ⟨?_, ?_⟩, fun h8 => ?_, fun width hw4 hw8 => ?_⟩
  · rw [exec_splitReadLow_awake win rq off hv ha, if_pos h4]
  · rw [exec_regWrite_awake win rq off 4 v ha, State.windowWrite_ignored (.inr h4)]
  · rw [exec_regWrite_awake win rq off 8 v ha, State.windowWrite_ignored (.inr h8)]
  · rw [exec_regWrite_awake win rq off width v ha, State.windowWrite_ignored (.inl ⟨hw4, hw8⟩)]

theorem read_map_low (rq : Nat) (hc : c < 32) (hv : s.served = true) (ha : s.asleep = false) :
    ∃ t, exec (.splitReadLow 0 rq (0x90040 + 0x80 * c)) s = .next t ∧ t.readData = (s.reg (0x90040 + 0x80 * c)).toNat % 2 ^ 32 ∧
      (t.split rq).shadow = some (0x90040 + 0x80 * c, (s.reg (0x90040 + 0x80 * c)).toNat / 2 ^ 32) ∧
      t = { s with readData := t.readData, splits := t.splits } := by
  rw [exec_splitReadLow_awake 0 rq _ hv ha, if_neg (by omega)]
  exact ⟨_, rfl, State.read32_low (State.partAt_map s hc) (State.readReg_map (s := s.touchReg rq _) hc hv)⟩

theorem read_map_high (hc : c < 32) (hv : s.served = true) (ha : s.asleep = false) {x : Nat}
    (hx : (s.split rq).shadow = some (0x90040 + 0x80 * c, x)) :
    ∃ t, exec (.splitReadLow 0 rq (0x90044 + 0x80 * c)) s = .next t ∧ t.readData = x ∧
      t = { s with readData := t.readData, splits := t.splits } := by
  rw [exec_splitReadLow_awake 0 rq _ hv ha, if_neg (by omega), State.read32_high (State.partAt_map_high s hc),
    State.readHigh_shadow (State.shadow_touchReg hx)]
  exact ⟨_, rfl, rfl, rfl⟩

theorem write_map_low (rq : Nat) (v : Word) (hc : c < 32) (hv : s.served = true) (ha : s.asleep = false) :
    ∃ t, exec (.regWrite 0 rq (0x90040 + 0x80 * c) 4 v) s = .next t ∧
      (t.split rq).held = some (0x90040 + 0x80 * c, v.toNat % 2 ^ 32) ∧ t = { s with splits := t.splits } := by
  rw [exec_regWrite_awake 0 rq _ 4 v ha, State.windowWrite_32 hv (by omega), State.write32_low (State.partAt_map s hc) (by decide),
    lowHalf_toNat]
  exact ⟨_, rfl, congrArg Split.held (State.split_setSplit _ rq _), rfl⟩

theorem write_map_high (v : Word) (hc : c < 32) (hv : s.served = true) (ha : s.asleep = false) {lo : Nat} (hlo : lo < 2 ^ 32)
    (hh : (s.split rq).held = some (0x90040 + 0x80 * c, lo)) (hidle : s.getF (F.MVR_STAT.STATE c) = 0) :
    ∃ t, exec (.regWrite 0 rq (0x90044 + 0x80 * c) 4 v) s = .next t ∧
      t.reg (0x90040 + 0x80 * c) = BitVec.ofNat 64 (v.toNat % 2 ^ 32 * 2 ^ 32 + lo) ∧ regsKept s t [0x90040 + 0x80 * c] ∧
      t = { s with regs := t.regs, splits := t.splits } := by
  let u := (s.touchReg rq (0x90040 + 0x80 * c)).setSplit rq { (s.touchReg rq (0x90040 + 0x80 * c)).split rq with held := none }
  have hwrite : s.windowWrite (HeldWrite.mk 0 rq (0x90044 + 0x80 * c) 4 v) =
      u.setReg (0x90040 + 0x80 * c) (BitVec.ofNat 64 (v.toNat % 2 ^ 32 * 2 ^ 32 + lo)) := by
    rw [State.windowWrite_32 hv (by omega), State.write32_high (State.partAt_map_high s hc) hh, joinHalves_eq_ofNat v hlo,
      State.regEffect_rw_whole (s := u) (storesOnly_of_mover (by omega) (by omega)) rfl rfl (State.rwBits_map hc hidle) hv]
  obtain ⟨t, ht, hstores⟩ := State.setReg_stores s u.splits (0x90040 + 0x80 * c) (BitVec.ofNat 64 (v.toNat % 2 ^ 32 * 2 ^ 32 + lo))
  exact ⟨t, (exec_regWrite_awake 0 rq _ 4 v ha).trans (congrArg _ (hwrite.trans ht)), hstores⟩

/-- Settles O10: the four accesses to the halves of MVR_MAP, each by what it does to the requester's shadow and held half. -/
theorem misalignedAndSplitAccess : Obligations.MisalignedAndSplitAccess := by
  unfold Obligations.MisalignedAndSplitAccess
  refine ⟨fun s win rq off v hserved hawake => misaligned_ignored win rq off v hserved hawake, fun s rq c v hc hserved hawake => ?_⟩
  exact ⟨read_map_low rq hc hserved hawake, fun x hx => read_map_high hc hserved hawake hx, write_map_low rq v hc hserved hawake,
    fun lo hlo hh hidle => write_map_high v hc hserved hawake hlo hh hidle⟩

end Sys2Proof.Machine

namespace Sys2Proof.Machine

variable {s : State} {f g : Field} {src : Nat}

/-! ## Counting and raising, field by field -/

theorem State.getF_raise_apart (h : f.apart (pendF src) = true) (h64 : f.hi < 64) : (s.raise src).getF f = s.getF f := by
  unfold State.raise
  split
  · rfl
  · dsimp only
    split
    · exact State.getF_setF_apart s f (pendF src) 1 h h64
    · exact State.getF_setF_apart s f (pendF src) 1 h h64

/-- The first saturation of a counter touches SAT_SEEN and the pending bit of counter-saturated alone (R640). -/
theorem State.getF_noteSat_apart {x y top : Nat} (h64 : f.hi < 64) (hs : f.apart F.GLB_FAULT_STAT.SAT_SEEN = true)
    (hp : f.apart (pendF Ev.counterSaturated) = true) : (s.noteSat x y top).getF f = s.getF f := by
  unfold State.noteSat
  split
  · rw [State.getF_raise_apart hp h64, State.getF_setF_apart _ _ _ _ hs h64]
  · rfl

theorem State.getF_countSat_apart {n : Nat} (h64 : f.hi < 64) (hg : f.apart g = true) (hs : f.apart F.GLB_FAULT_STAT.SAT_SEEN = true)
    (hp : f.apart (pendF Ev.counterSaturated) = true) : (s.countSat g n).getF f = s.getF f :=
  (State.getF_noteSat_apart h64 hs hp).trans (State.getF_setF_apart s f g _ hg h64)

/-- A counter that shares its register with SAT_SEEN saturates like every other. -/
theorem State.getF_countSat_self {n : Nat} (h64 : f.hi < 64) (hs : f.apart F.GLB_FAULT_STAT.SAT_SEEN = true)
    (hp : f.apart (pendF Ev.counterSaturated) = true) : (s.countSat f n).getF f = satAdd (spanBits f.hi f.lo) (s.getF f) n := by
  refine (State.getF_noteSat_apart h64 hs hp).trans ((State.getF_setF_self s f _ h64).trans (Nat.mod_eq_of_lt ?_))
  have := satAdd_le (spanBits f.hi f.lo) (s.getF f) n
  have := Nat.two_pow_pos (spanBits f.hi f.lo)
  omega

theorem State.pfail_congr {t : State} (h : t.getF F.PWR_PFAIL_STAT.PHASE = s.getF F.PWR_PFAIL_STAT.PHASE) : t.pfail = s.pfail := by
  simp [State.pfail, h]

/-- An edge source stays pending while its pending bit is as before. -/
theorem State.isPending_congr {t : State} (hl : Ev.level src = false) (h : t.getF (pendF src) = s.getF (pendF src)) :
    t.isPending src = s.isPending src := by
  simp [State.isPending, hl, State.flag, h]

/-! ## The event log -/

/-- The fields that an entry of the log can change (R625, R627, R640). -/
def logFields : List Field :=
  [F.GLB_LOG_HEAD.NEXT, F.GLB_LOG_STAT.WRITTEN, F.GLB_LOG_STAT.OVERWRITTEN, F.GLB_FAULT_STAT.SAT_SEEN, pendF Ev.counterSaturated,
    pendF Ev.logOverrun]

theorem State.getF_logWrite {type cls : Nat} {payload : List Byte} (h64 : f.hi < 64) (h : ∀ g ∈ logFields, f.apart g = true) :
    (s.logWrite type cls payload).getF f = s.getF f := by
  simp only [logFields, List.forall_mem_cons, List.not_mem_nil, false_imp_iff, implies_true, and_true] at h
  obtain ⟨hnext, hwritten, hover, hsat, hcs, hlo⟩ := h
  have hcount : ∀ u : State, ((u.setF F.GLB_LOG_HEAD.NEXT (s.getF F.GLB_LOG_HEAD.NEXT + 1)).countWrap F.GLB_LOG_STAT.WRITTEN 1).getF f = u.getF f :=
    fun u => (State.getF_setF_apart _ f _ _ hwritten h64).trans (State.getF_setF_apart u f _ _ hnext h64)
  unfold State.logWrite
  dsimp only
  split
  · rfl
  · split
    · rw [State.getF_raise_apart hlo h64, State.getF_countSat_apart h64 hover hsat hcs, hcount]
      rfl
    · rw [hcount]
      rfl

/-- Where the log is kept, an entry stands at its position with its sequence number and type (R625). -/
theorem State.logAt_logWrite (type cls : Nat) (payload : List Byte) (hp : s.pfail = false) (hc : s.getF F.GLB_LOG_CFG.CAP ≠ 0) :
    (s.logWrite type cls payload).logAt ((s.getF F.GLB_LOG_HEAD.NEXT - 1) % s.getF F.GLB_LOG_CFG.CAP) =
      LogEntry.mk (s.getF F.GLB_LOG_HEAD.NEXT) s.mtime s.tickno type cls payload := by
  unfold State.logWrite
  dsimp only
  rw [if_neg (by simp [hp, hc])]
  split
  · simp only [State.logAt, State.raise_log, State.countSat_log, State.countWrap_log, State.setF_log, storeGet_storePut_self]
  · simp only [State.logAt, State.countWrap_log, State.setF_log, storeGet_storePut_self]

/-! ## A write after Gauntlet lock (R11, R255) -/

variable {off width : Nat} {value : Word}

/-- The state in which a locked write writes its entry: counted, and the event raised. -/
def State.lockedCounted (s : State) : State := (s.countSat F.GLB_FAULT_STAT.LOCKED_WRITES 1).raise Ev.lockedWrite

theorem State.lockedWrite_eq (s : State) (off width : Nat) (value : Word) : s.lockedWrite off width value =
    s.lockedCounted.logWrite 0x0001 9 (leBytes 4 off ++ leBytes 1 width ++ leBytes 3 0 ++ leBytes 8 value.toNat) := rfl

/-- Fields of other registers are as before when the entry is written. -/
theorem State.getF_lockedCounted (h64 : f.hi < 64) (hc : f.apart F.GLB_FAULT_STAT.LOCKED_WRITES = true)
    (hs : f.apart F.GLB_FAULT_STAT.SAT_SEEN = true) (hcs : f.apart (pendF Ev.counterSaturated) = true)
    (hlw : f.apart (pendF Ev.lockedWrite) = true) : s.lockedCounted.getF f = s.getF f :=
  (State.getF_raise_apart hlw h64).trans (State.getF_countSat_apart h64 hc hs hcs)

theorem State.lockedWrite_counts : (s.lockedWrite off width value).getF F.GLB_FAULT_STAT.LOCKED_WRITES =
    satAdd 16 (s.getF F.GLB_FAULT_STAT.LOCKED_WRITES) 1 := by
  rw [State.lockedWrite_eq, State.getF_logWrite (by decide) (by decide), State.lockedCounted, State.getF_raise_apart (by decide) (by decide),
    State.getF_countSat_self (by decide) (by decide) (by decide)]
  rfl

theorem State.lockedWrite_raises : (s.lockedWrite off width value).isPending Ev.lockedWrite = true := by
  have hassigned : ∀ p, Ev.assigned p Ev.lockedWrite = true := by decide
  rw [State.lockedWrite_eq, State.isPending_congr (by decide) (State.getF_logWrite (by decide) (by decide))]
  exact State.isPending_raise (hassigned _) (by decide)

theorem State.lockedWrite_logs (hp : s.pfail = false) (hc : s.getF F.GLB_LOG_CFG.CAP ≠ 0) :
    ((s.lockedWrite off width value).logAt ((s.getF F.GLB_LOG_HEAD.NEXT - 1) % s.getF F.GLB_LOG_CFG.CAP)).type = 0x0001 ∧
    ((s.lockedWrite off width value).logAt ((s.getF F.GLB_LOG_HEAD.NEXT - 1) % s.getF F.GLB_LOG_CFG.CAP)).lseq = s.getF F.GLB_LOG_HEAD.NEXT := by
  have hcap : s.lockedCounted.getF F.GLB_LOG_CFG.CAP = s.getF F.GLB_LOG_CFG.CAP :=
    State.getF_lockedCounted (by decide) (by decide) (by decide) (by decide) (by decide)
  have hnext : s.lockedCounted.getF F.GLB_LOG_HEAD.NEXT = s.getF F.GLB_LOG_HEAD.NEXT :=
    State.getF_lockedCounted (by decide) (by decide) (by decide) (by decide) (by decide)
  have hphase : s.lockedCounted.pfail = false :=
    (State.pfail_congr (State.getF_lockedCounted (by decide) (by decide) (by decide) (by decide) (by decide))).trans hp
  rw [State.lockedWrite_eq, ← hnext, ← hcap, State.logAt_logWrite _ _ _ hphase (by rwa [hcap])]
  exact ⟨rfl, rfl⟩

/-- A store of the value that a register holds changes no register. -/
theorem regsKept_setReg_same (s : State) (o : Nat) : regsKept s (s.setReg o (s.reg o)) [] := by
  intro o' _
  rw [State.reg_setReg]
  split
  · rename_i h
    rw [h]
  · rfl

/-- The Gauntlet's 64-bit registers of windows and queues stand in its range, at offsets of 8 bytes. -/
theorem gauntletRegs_range {k q : Nat} {mask : Word} (hk : k < 64) (hq : q < 1024) (h : (off, mask) ∈ gauntletRegs k q) :
    0x11000 ≤ off ∧ off < 0x16000 ∧ off % 8 = 0 ∧ (0x12000 ≤ off → off % 0x10 ≠ 8) := by
  simp only [gauntletRegs, List.mem_cons, Prod.mk.injEq, List.not_mem_nil, or_false] at h
  obtain ⟨rfl, -⟩ | ⟨rfl, -⟩ | ⟨rfl, -⟩ := h <;> omega

/-- The RWL bits of these registers are those of the table, whatever is written. -/
theorem rwlBits_gauntlet {r : RegRow} {v : Word} (hlo : 0x11000 ≤ off) (hatt : 0x12000 ≤ off → off % 0x10 ≠ 8) :
    rwlBits off r v = BitVec.ofNat 64 r.rwl := by
  have hset : ¬ (0x10400 ≤ off ∧ off < 0x10600 ∧ off % 0x20 = 0x18) := by omega
  have hattr : ¬ (0x12000 ≤ off ∧ off < 0x16000 ∧ off % 0x10 = 8) := fun h => hatt h.1 h.2.2
  simp only [rwlBits, hset, hattr, if_false]

/-- A 64-bit write to such a register after lock stores what it holds, after the record that a refused change makes. -/
theorem windowWrite_gauntlet_locked {k q : Nat} {mask : Word} (rq : Nat) (v : Word) (hk : k < 64) (hq : q < 1024)
    (h : (off, mask) ∈ gauntletRegs k q) (hv : s.served = true) (hl : s.locked = true) :
    s.windowWrite (HeldWrite.mk 0 rq off 8 v) =
      (if (s.reg off ^^^ v) &&& mask ≠ 0#64 then (s.touchReg rq off).lockedWrite off 8 v else s.touchReg rq off).setReg off (s.reg off) := by
  obtain ⟨r, hrow, hwidth, hrw, hw1c, hrwl⟩ := regRow_gauntletRegs s.build hk hq h
  obtain ⟨hlo, hhi, hal, hatt⟩ := gauntletRegs_range hk hq h
  have hpart : s.partAt 0 off = .low off r := State.partAt_low (by rw [State.keyAt_window s (by omega), hrow]; rfl) hwidth
  have hbits : (s.touchReg rq off).rwBits off r = 0#64 := by rw [State.rwBits_gauntlet (by omega) (by omega), hrw]
  rw [State.windowWrite_64 hv hal hpart,
    State.regEffect_locked (s := s.touchReg rq off) (storesOnly_of_gauntlet (by omega) (by omega)) hw1c hbits hv hl,
    rwlBits_gauntlet hlo hatt, hrwl, Word.and_not_zero, State.reg_touchReg]

/-- Settles O8: the register is stored again as it was, after the record of the write where it would have changed an RWL bit. -/
theorem lockedWriteIsRecorded : Obligations.LockedWriteIsRecorded := by
  unfold Obligations.LockedWriteIsRecorded
  intro s rq k q off mask v hk hq hmem hserved hawake hlocked
  obtain ⟨hlo, hhi, -, -⟩ := gauntletRegs_range hk hq hmem
  have hwrite := windowWrite_gauntlet_locked rq v hk hq hmem hserved hlocked
  rw [exec_regWrite_awake 0 rq off 8 v hawake, hwrite]
  refine ⟨_, rfl, State.reg_setReg_self _ _ _, fun hchange => ?_, fun hsame => ?_⟩
  · have hcount : F.GLB_FAULT_STAT.LOCKED_WRITES.reg ≠ off := by simp only [F.GLB_FAULT_STAT.LOCKED_WRITES]; omega
    have hpend : (pendF Ev.lockedWrite).reg ≠ off := by simp only [pendF, Ev.lockedWrite]; omega
    rw [if_pos hchange]
    refine ⟨?_, ?_, fun hp hc => State.lockedWrite_logs (s := s.touchReg rq off) hp hc⟩
    · exact (State.getF_congr (State.reg_setReg_ne hcount)).trans State.lockedWrite_counts
    · exact (State.isPending_congr (by decide) (State.getF_congr (State.reg_setReg_ne hpend))).trans State.lockedWrite_raises
  · rw [if_neg (not_not_intro hsame)]
    exact ⟨rfl, regsKept_setReg_same (s.touchReg rq off) off⟩

end Sys2Proof.Machine
end

section
/-! SUPPORT. The stored encodings (R79, R94, R98 to R100): the scrambling is its own inverse, CRC-32C is linear over XOR and so the patched check word is
the check word of the patched tile, and a band's positions are numbered in mixed radix. -/

namespace Sys2Proof.Machine

/-! ## Scrambling (R100) -/

/-- The sequence does not depend on the bytes, so that the second pass XORs the same one. -/
theorem scrambleFrom_involutive (st : Nat) : Function.Involutive (scrambleFrom st) := by
  intro m
  induction m generalizing st with
  | nil => rfl
  | cons b m ih =>
    have hb : b ^^^ BitVec.ofNat 8 (prbsByte st 8).2 ^^^ BitVec.ofNat 8 (prbsByte st 8).2 = b := by
      rw [BitVec.xor_assoc, BitVec.xor_self, BitVec.xor_zero]
    exact congrArg₂ List.cons hb (ih (prbsByte st 8).1)

/-! ## CRC-32C is linear over XOR -/

/-- Shifting and reducing by the polynomial are linear in the register: which of the four cases holds is the XOR of the low bits. -/
theorem crcBit_xor (c d : BitVec 32) : crcBit (c ^^^ d) = crcBit c ^^^ crcBit d := by
  unfold crcBit
  rw [BitVec.getLsbD_xor, BitVec.ushiftRight_xor_distrib]
  generalize c >>> 1 = x
  generalize d >>> 1 = y
  cases c.getLsbD 0 <;> cases d.getLsbD 0
  · rfl
  · exact BitVec.xor_assoc x y _
  · show x ^^^ y ^^^ 0x82F63B78#32 = x ^^^ 0x82F63B78#32 ^^^ y
    ac_rfl
  · show x ^^^ y = x ^^^ 0x82F63B78#32 ^^^ (y ^^^ 0x82F63B78#32)
    rw [BitVec.xor_comm y, BitVec.xor_assoc, ← BitVec.xor_assoc _ _ y, BitVec.xor_self, BitVec.zero_xor]

theorem crcByte_xor (c d : BitVec 32) (a b : Byte) : crcByte (c ^^^ d) (a ^^^ b) = crcByte c a ^^^ crcByte d b := by
  have hin : c ^^^ d ^^^ (a ^^^ b).setWidth 32 = (c ^^^ a.setWidth 32) ^^^ (d ^^^ b.setWidth 32) := by
    rw [BitVec.setWidth_xor]
    ac_rfl
  simp only [crcByte, hin, crcBit_xor]

theorem crcCore_xorBytes (c d : BitVec 32) (m n : List Byte) (h : m.length = n.length) :
    crcCore (c ^^^ d) (xorBytes m n) = crcCore c m ^^^ crcCore d n := by
  induction m generalizing c d n with
  | nil =>
    cases n with
    | nil => rfl
    | cons b n => cases h
  | cons a m ih =>
    cases n with
    | nil => cases h
    | cons b n =>
      have hstep := ih (crcByte c a) (crcByte d b) n (Nat.succ.inj h)
      rw [← crcByte_xor] at hstep
      exact hstep

theorem crcCore_append (c : BitVec 32) (m n : List Byte) : crcCore c (m ++ n) = crcCore (crcCore c m) n := List.foldl_append

theorem xorBytes_length (m n : List Byte) (h : m.length = n.length) : (xorBytes m n).length = m.length := by
  rw [xorBytes, List.length_zipWith, ← h, Nat.min_self]

theorem xorBytes_cancel (m n : List Byte) (h : m.length = n.length) : xorBytes m (xorBytes m n) = n := by
  induction m generalizing n with
  | nil => exact (List.length_eq_zero_iff.mp h.symm).symm
  | cons a m ih =>
    cases n with
    | nil => cases h
    | cons b n =>
      have hb : a ^^^ (a ^^^ b) = b := by rw [← BitVec.xor_assoc, BitVec.xor_self, BitVec.zero_xor]
      exact congrArg₂ List.cons hb (ih n (Nat.succ.inj h))

/-- Replacing the last bytes changes the check word by the CRC, from 0, of their difference (R94). -/
theorem crc32c_replace_tail (m old new : List Byte) (h : old.length = new.length) :
    crc32c (m ++ new) = crc32c (m ++ old) ^^^ crcRaw (xorBytes old new) := by
  have hlin := crcCore_xorBytes (crcCore 0xFFFFFFFF#32 m) 0#32 old (xorBytes old new) (xorBytes_length old new h).symm
  rw [xorBytes_cancel old new h, BitVec.xor_zero] at hlin
  rw [crc32c, crc32c, crcCore_append, crcCore_append, hlin, crcRaw]
  ac_rfl

/-! ## The placed tile (R94) -/

/-- What `leBytes` put at an offset of a structure reads back, cut to its bytes. -/
theorem field_leBytes (pre post : List Byte) {o : Nat} (ho : pre.length = o) (n v : Nat) :
    field (pre ++ leBytes n v ++ post) o n = v % 256 ^ n := by
  rw [field, slice, List.append_assoc, List.drop_left' ho, List.take_left' (leBytes_length n v), leNat_leBytes]

theorem slice_length {m : List Byte} {o n : Nat} (h : o + n ≤ m.length) : (slice m o n).length = n := by
  rw [slice, List.length_take, List.length_drop]
  omega

theorem take_append_slice (m : List Byte) (o n : Nat) : m.take o ++ slice m o n = m.take (o + n) := List.take_add.symm

section
variable (t : List Byte) (stamp addr : Nat)

/-- The stamp and the address check that placing a tile writes. -/
def stampAndCheck : List Byte := leBytes 8 stamp ++ leBytes 4 addr

theorem stampAndCheck_length : (stampAndCheck stamp addr).length = 12 := by
  rw [stampAndCheck, List.length_append, leBytes_length, leBytes_length]

/-- The check word that placing a tile derives. -/
def placedCrc : Nat := tileCrc t ^^^ (crcRaw (xorBytes (slice t 4112 12) (stampAndCheck stamp addr))).toNat

theorem patchTile_eq : patchTile t stamp addr = t.take 4112 ++ stampAndCheck stamp addr ++ leBytes 4 (placedCrc t stamp addr) := rfl

variable {t}

theorem tileCrcOk_iff : tileCrcOk t = true ↔ t.length = tileBytes ∧ (crc32c (t.take 4124)).toNat = tileCrc t := by
  rw [tileCrcOk, Bool.and_eq_true, beq_iff_eq, beq_iff_eq]

variable (h : t.length = tileBytes)
include h

theorem keptBytes_length : (t.take 4112).length = 4112 := List.length_take_of_le (h ▸ (by decide : 4112 ≤ tileBytes))

theorem coveredBytes_length : (t.take 4112 ++ stampAndCheck stamp addr).length = 4124 := by
  rw [List.length_append, keptBytes_length h, stampAndCheck_length]

theorem patchTile_length : (patchTile t stamp addr).length = tileBytes := by
  rw [patchTile_eq, List.length_append, coveredBytes_length stamp addr h, leBytes_length]
  rfl

theorem take_patchTile : (patchTile t stamp addr).take 4112 = t.take 4112 := by
  rw [patchTile_eq, List.append_assoc, List.take_left' (keptBytes_length h)]

theorem tileStamp_patchTile : tileStamp (patchTile t stamp addr) = stamp % 2 ^ 64 := by
  rw [patchTile_eq, stampAndCheck, ← List.append_assoc, List.append_assoc _ (leBytes 4 addr)]
  exact field_leBytes (t.take 4112) _ (keptBytes_length h) 8 stamp

theorem tileAchkOk_patchTile : tileAchkOk (patchTile t stamp addr) addr = true := by
  have hpre : (t.take 4112 ++ leBytes 8 stamp).length = 4120 := by rw [List.length_append, keptBytes_length h, leBytes_length]
  rw [tileAchkOk, beq_iff_eq, patchTile_eq, stampAndCheck, ← List.append_assoc]
  exact field_leBytes (t.take 4112 ++ leBytes 8 stamp) _ hpre 4 addr

theorem tileCrc_patchTile : tileCrc (patchTile t stamp addr) = placedCrc t stamp addr % 2 ^ 32 := by
  rw [patchTile_eq, ← List.append_nil (_ ++ leBytes 4 _)]
  exact field_leBytes _ [] (coveredBytes_length stamp addr h) 4 _

/-- The check word over the placed tile is the verified one, changed by the CRC of the difference. -/
theorem crc32c_patchTile : crc32c ((patchTile t stamp addr).take 4124) =
    crc32c (t.take 4124) ^^^ crcRaw (xorBytes (slice t 4112 12) (stampAndCheck stamp addr)) := by
  have hold : (slice t 4112 12).length = (stampAndCheck stamp addr).length := by
    rw [stampAndCheck_length, slice_length (h ▸ (by decide : 4112 + 12 ≤ tileBytes))]
  rw [patchTile_eq, List.take_left' (coveredBytes_length stamp addr h), crc32c_replace_tail _ _ _ hold, take_append_slice]

end

theorem tileCrcOk_patchTile {t : List Byte} (stamp addr : Nat) (h : tileCrcOk t = true) : tileCrcOk (patchTile t stamp addr) = true := by
  obtain ⟨hlen, hcrc⟩ := tileCrcOk_iff.mp h
  have hword : (crc32c ((patchTile t stamp addr).take 4124)).toNat = placedCrc t stamp addr := by
    rw [crc32c_patchTile stamp addr hlen, BitVec.toNat_xor, hcrc, placedCrc]
  refine tileCrcOk_iff.mpr ⟨patchTile_length stamp addr hlen, ?_⟩
  rw [tileCrc_patchTile stamp addr hlen, ← hword, Nat.mod_eq_of_lt (BitVec.isLt _)]

/-! ## Positions of a row (R79) -/

/-- Slot, plane, data position and row are the digits of a BOI, from the lowest up. -/
theorem boiOf_rowPos (w planes slots boi : Nat) : boiOf w planes slots (rowPos w planes slots boi) = boi := by
  simp only [boiOf, rowPos, Nat.div_add_mod']

/-- Settles O60: the involution of the scrambling, the placed tile's four parts, and the digits of a BOI. -/
theorem storedEncodingsRoundTrip : Obligations.StoredEncodingsRoundTrip := by
  unfold Obligations.StoredEncodingsRoundTrip
  refine ⟨fun block page slot => scrambleFrom_involutive _, fun t stamp addr hok => ?_, fun w planes slots boi hw hp hs => ?_⟩
  · have hlen := (tileCrcOk_iff.mp hok).1
    exact ⟨tileCrcOk_patchTile stamp addr hok, tileAchkOk_patchTile stamp addr hlen, tileStamp_patchTile stamp addr hlen,
      take_patchTile stamp addr hlen⟩
  · exact ⟨boiOf_rowPos w planes slots boi, Nat.mod_lt _ hw, Nat.mod_lt _ hp, Nat.mod_lt _ hs⟩

end Sys2Proof.Machine
end

section
/-! SUPPORT. VDIE_CTL (R54 to R59, R421, R423): what each action comes to, one lemma per outcome, and what the journal is given. -/

namespace Sys2Proof.Machine

variable {s : State} {c : Nat}

/-- An entry that a command ends at once. -/
theorem exists_finished {i : Instr} {u : State} {status detail r0 r1 r2 : Nat} (h : exec i s = .next (u.finish c status detail r0 r1 r2)) :
    ∃ t, exec i s = .next t ∧ finished u t c status detail r0 r1 r2 := ⟨_, h, State.finish_spec u c status detail r0 r1 r2⟩

/-! ## VDIE_RETIRE (R421, R423) -/

/-- The die of a retirement that firmware asked for is counted, raised, logged and marked as failed (R421, R422). -/
def State.dieReported (s : State) (p : Nat) : State :=
  let n := satAdd 32 s.patCounts.dies 1
  let s := s.noteSat s.patCounts.dies n (2 ^ 32 - 1)
  let s := ({ s with patCounts := { s.patCounts with dies := n } }.raise Ev.dieFailed).dieLog p 3 8
  s.setDie p { s.die p with toRetire := true, critTick := s.tickno + 1 }

theorem State.dieReported_spec (s : State) (p : Nat) : ((s.dieReported p).die p).toRetire = true ∧
    (s.dieReported p).patCounts.dies = satAdd 32 s.patCounts.dies 1 ∧ (s.dieReported p).vdies = s.vdies ∧ (s.dieReported p).sets = s.sets := by
  simp [State.dieReported, State.dieLog]

section
variable (h : s.startsCtl c 0 = true)
include h

theorem vdieRetire_unmapped (hm : (s.vdie (s.ctlVdie c)).mapped = false) : exec (.vdieRetire c) s = .next (s.finish c 0x40 34 0 0 0) := by
  show execVdieRetire c s = _
  simp [execVdieRetire, h, hm]

variable (hm : (s.vdie (s.ctlVdie c)).mapped = true)
include hm

theorem vdieRetire_failed (hst : (s.vdie (s.ctlVdie c)).state = 2) :
    exec (.vdieRetire c) s = .next (s.finish c 0 0 (ent (s.ctx c).entry 34 2) 0 0) := by
  show execVdieRetire c s = _
  simp [execVdieRetire, h, hm, hst]

/-- A vdie that is rebuilding reads no more from its old die. -/
theorem vdieRetire_rebuilding (hst : (s.vdie (s.ctlVdie c)).state = 1) (hold : (s.vdie (s.ctlVdie c)).oldPdie ≠ noPdie) :
    exec (.vdieRetire c) s = .next ((s.runCtx c).journalAdd (vdieNs (s.ctlVdie c))
      [jVdie (s.ctlVdie c) { s.vdie (s.ctlVdie c) with oldPdie := noPdie }, jFinish c 0 0 (ent (s.ctx c).entry 34 2)]) := by
  show execVdieRetire c s = _
  simp [execVdieRetire, h, hm, hst, hold]

variable (hst : (s.vdie (s.ctlVdie c)).state = 0)
include hst

theorem vdieRetire_deferred (ho : s.retireOutcome (s.ctlVdie c) (s.dieReadable (s.vdie (s.ctlVdie c)).pdie) = 1) :
    exec (.vdieRetire c) s = .next (s.finish c 0x31 0xFF 0 0 0) := by
  show execVdieRetire c s = _
  simp [execVdieRetire, h, hm, hst, ho]

theorem vdieRetire_retires (ho : s.retireOutcome (s.ctlVdie c) (s.dieReadable (s.vdie (s.ctlVdie c)).pdie) ≠ 1) :
    exec (.vdieRetire c) s = .next (((s.dieReported (s.vdie (s.ctlVdie c)).pdie).runCtx c).retireVdie (s.ctlVdie c)
      (s.dieReadable (s.vdie (s.ctlVdie c)).pdie) [jFinish c 0 0 (ent (s.ctx c).entry 34 2)]) := by
  show execVdieRetire c s = _
  simp [execVdieRetire, State.dieReported, h, hm, hst, ho]

end

/-! ## VDIE_REBUILD (R423) -/

/-- A rebuild that may start is of a mapped vdie that is not rebuilding, and has a spare. -/
theorem State.canRebuild_spec {v : Nat} (h : s.canRebuild v = true) :
    (s.vdie v).mapped = true ∧ (s.vdie v).state ≠ 1 ∧ ∃ sp, s.chooseSpare v = some sp := by
  simp only [State.canRebuild, Bool.and_eq_true, bne_iff_ne, Option.isSome_iff_exists] at h
  obtain ⟨⟨⟨⟨⟨hm, hst⟩, -⟩, hspare⟩, -⟩, -⟩ := h
  exact ⟨hm, hst, hspare⟩

section
variable (h : s.startsCtl c 1 = true)
include h

theorem vdieRebuild_unmapped (hm : (s.vdie (s.ctlVdie c)).mapped = false) : exec (.vdieRebuild c) s = .next (s.finish c 0x40 34 0 0 0) := by
  show execVdieRebuild c s = _
  simp [execVdieRebuild, h, hm]

theorem vdieRebuild_refused (hm : (s.vdie (s.ctlVdie c)).mapped = true) (hr : s.canRebuild (s.ctlVdie c) = false) :
    exec (.vdieRebuild c) s = .next (s.finish c 0x31 0xFF 0 0 0) := by
  show execVdieRebuild c s = _
  simp [execVdieRebuild, h, hm, hr]

theorem vdieRebuild_starts {sp : Nat} (hr : s.canRebuild (s.ctlVdie c) = true) (hsp : s.chooseSpare (s.ctlVdie c) = some sp) :
    exec (.vdieRebuild c) s = .next ((s.runCtx c).startRebuild (s.ctlVdie c) sp [jFinish c 0 0 (ent (s.ctx c).entry 34 2)]) := by
  obtain ⟨hm, hst, -⟩ := State.canRebuild_spec hr
  show execVdieRebuild c s = _
  simp [execVdieRebuild, h, hm, hst, hr, hsp]

end

/-! ## VDIE_ADD_SPARE (R54) -/

section
variable (h : s.startsCtl c 2 = true)
include h

theorem vdieAddSpare_unfit (hx : (s.vdie (s.ctlVdie c)).mapped = false ∨ (s.vdie (s.ctlVdie c)).state ≠ 0) :
    exec (.vdieAddSpare c) s = .next (s.finish c 0x40 34 0 0 0) := by
  show execVdieAddSpare c s = _
  simp [execVdieAddSpare, h, hx]

variable (hm : (s.vdie (s.ctlVdie c)).mapped = true) (hst : (s.vdie (s.ctlVdie c)).state = 0)
include hm hst

theorem vdieAddSpare_member (hx : (s.vdie (s.ctlVdie c)).member = true ∨ (s.vdie (s.ctlVdie c)).journal = true) :
    exec (.vdieAddSpare c) s = .next (s.finish c 0x31 0xFF 0 0 0) := by
  show execVdieAddSpare c s = _
  simp [execVdieAddSpare, h, hm, hst, hx]

theorem vdieAddSpare_unmaps (hx : (s.vdie (s.ctlVdie c)).member = false) (hj : (s.vdie (s.ctlVdie c)).journal = false) :
    exec (.vdieAddSpare c) s = .next ((s.runCtx c).journalAdd (vdieNs (s.ctlVdie c))
      [jVdie (s.ctlVdie c) Vdie.unmapped, jFinish c 0 0 (ent (s.ctx c).entry 34 2)]) := by
  show execVdieAddSpare c s = _
  simp [execVdieAddSpare, h, hm, hst, hx, hj]

end

/-! ## SET_DEFINE (R55, R68) -/

/-- The state in which the member list of SET_DEFINE has arrived, and the list. -/
def State.listAnswered (s : State) (c : Nat) : State := State.fabPump { s with fab := s.fab.filter (fun r => r.who != FabWho.members c) }
def State.listRead (s : State) (c : Nat) (l : List Nat) : List Nat :=
  (List.range l.length).map (fun i => field (s.readBytes (.members c) ((l.map (leBytes 2)).flatten)) (2 * i) 2)

/-- The namespace and the set that an action on sets names. -/
def State.ctlNs (s : State) (c : Nat) : Nat := s.qNs (s.ctx c).queue
def State.ctlSet (s : State) (c : Nat) : Nat := nsSet (s.ctlNs c) (ent (s.ctx c).entry 33 1)
/-- The family of the first member of a list. -/
def State.listFam (s : State) (c : Nat) (ms : List Nat) : Nat := (s.vdie (nsVdie (s.ctlNs c) (ms.headD 0))).family
/-- Does some member's die not have the bands asked for? -/
def State.tooManyBands (s : State) (c : Nat) (ms : List Nat) : Bool :=
  ms.any (fun v => decide (s.bandLimit (s.ctlNs c) (s.vdie (nsVdie (s.ctlNs c) v)).pdie < ent (s.ctx c).entry 40 2))

/-- The descriptor of the set that SET_DEFINE defines. -/
def State.definedDesc (s : State) (c : Nat) (ms : List Nat) : SetDesc :=
  let e := (s.ctx c).entry
  let fam := s.listFam c ms
  SetDesc.mk (ent e 36 1) (ent e 37 1) fam (ent e 38 1) (s.famPlanes fam) (s.famSlots fam) (ent e 40 2) (s.famPages fam (ent e 38 1)) ms
/-- The record of the descriptor. -/
def State.definedRec (s : State) (c : Nat) (ms : List Nat) : JItem :=
  jrec 0x02 (State.setBytes { s with sets := storePut (fun _ => SetDesc.undef) s.sets (s.ctlSet c) (s.definedDesc c ms) } (s.ctlSet c))
    (.setDef (s.ctlSet c) (s.definedDesc c ms))
/-- One binding for each band of each member (R68). -/
def State.definedBinds (s : State) (c : Nat) (ms : List Nat) : List JItem :=
  ((List.range ms.length).map (fun pos =>
    let free := s.freeIndices (s.vdie (nsVdie (s.ctlNs c) (ms.getD pos 0))).pdie
    (List.range (ent (s.ctx c).entry 40 2)).map (fun b =>
      jBinding (s.ctlSet c) pos b (free.getD b 0xFFFF) 1 (.bindNow (s.ctlSet c) b pos (free.getD b 0xFFFF))))).flatten
/-- The records of the members. -/
def State.definedMembers (s : State) (c : Nat) (ms : List Nat) : List JItem :=
  (List.range ms.length).map (fun pos =>
    let v := nsVdie (s.ctlNs c) (ms.getD pos 0)
    jVdie v { s.vdie v with member := true, set := s.ctlSet c % 256, pos := pos })

theorem State.definedBinds_length (s : State) (c : Nat) (ms : List Nat) :
    (s.definedBinds c ms).length = ms.length * ent (s.ctx c).entry 40 2 := by
  simp [State.definedBinds, List.length_flatten, Function.comp_def]

theorem State.definedMembers_length (s : State) (c : Nat) (ms : List Nat) : (s.definedMembers c ms).length = ms.length := by
  simp [State.definedMembers]

/-- What SET_DEFINE comes to once its member list is there: the checks of R55 in order, then the journal. -/
def State.defineSet (s : State) (c : Nat) (ms : List Nat) : State :=
  if (s.sset (s.ctlSet c)).defined then s.finish c 0x31 0xFF 0 0 0
  else if !s.membersOk (s.ctlNs c) ms then s.finish c 0x40 16 0 0 0
  else if !s.modeOk (s.listFam c ms) (ent (s.ctx c).entry 38 1) then s.finish c 0x40 38 0 0 0
  else if s.tooManyBands c ms then s.finish c 0x40 40 0 0 0
  else (s.runCtx c).journalAdd (s.ctlNs c)
    ([s.definedRec c ms] ++ s.definedBinds c ms ++ s.definedMembers c ms ++ [jFinish c 0 0 (ent (s.ctx c).entry 34 2)])

section
variable {l : List Nat} (h : s.startsCtl c 3 = true) (hl : l.length = ent (s.ctx c).entry 36 1)

theorem setDefine_waits (hf : s.fabOpen (.members c) = false) : exec (.setDefine c l) s = .next s := by
  show execSetDefine c l s = _
  simp [execSetDefine, hf]

include h hl in
theorem setDefine_defines (hf : s.fabOpen (.members c) = true) :
    exec (.setDefine c l) s = .next ((s.listAnswered c).defineSet c (s.listRead c l)) :=
  congrArg Host.Outcome.next (if_neg (by simp [h, hl, hf]))

end

section
variable {ms : List Nat}

theorem State.defineSet_defined (hd : (s.sset (s.ctlSet c)).defined = true) : s.defineSet c ms = s.finish c 0x31 0xFF 0 0 0 := if_pos hd

variable (hd : (s.sset (s.ctlSet c)).defined = false)
include hd

theorem State.defineSet_members (hm : s.membersOk (s.ctlNs c) ms = false) : s.defineSet c ms = s.finish c 0x40 16 0 0 0 := by
  simp [State.defineSet, hd, hm]

variable (hm : s.membersOk (s.ctlNs c) ms = true)
include hm

theorem State.defineSet_mode (hmode : s.modeOk (s.listFam c ms) (ent (s.ctx c).entry 38 1) = false) :
    s.defineSet c ms = s.finish c 0x40 38 0 0 0 := by
  simp [State.defineSet, hd, hm, hmode]

variable (hmode : s.modeOk (s.listFam c ms) (ent (s.ctx c).entry 38 1) = true)
include hmode

theorem State.defineSet_bands (hb : s.tooManyBands c ms = true) : s.defineSet c ms = s.finish c 0x40 40 0 0 0 := by
  simp [State.defineSet, hd, hm, hmode, hb]

theorem State.defineSet_journals (hb : s.tooManyBands c ms = false) : s.defineSet c ms = (s.runCtx c).journalAdd (s.ctlNs c)
    ([s.definedRec c ms] ++ s.definedBinds c ms ++ s.definedMembers c ms ++ [jFinish c 0 0 (ent (s.ctx c).entry 34 2)]) := by
  simp [State.defineSet, hd, hm, hmode, hb]

end

/-! ## SET_DELETE (R59) -/

/-- A set that has an open or erasing band, a band that is being re-homed, or a rebuilding member. -/
def State.setBusy (s : State) (g : Nat) : Bool :=
  s.bands.any (fun k => k.1 / 16384 == g && (k.2.state == 3 || k.2.state == 1 || k.2.rehoming)) || decide (0 < s.setRebuilding (s.sset g))

/-- The record of the empty set. -/
def State.deletedRec (s : State) (c : Nat) : JItem :=
  let g := s.ctlSet c
  jrec 0x02 (leBytes 1 (g % 256) ++ (State.setBytes { s with sets := storePut (fun _ => SetDesc.undef) s.sets g SetDesc.undef } g).drop 1) (.setDel g)
/-- The records of the members that the set had. -/
def State.deletedMembers (s : State) (c : Nat) : List JItem :=
  (s.sset (s.ctlSet c)).members.map (fun m =>
    let v := nsVdie (s.ctlNs c) m
    jVdie v { s.vdie v with member := false, set := 0, pos := 0 })

section
variable (h : s.startsCtl c 4 = true)
include h

theorem setDelete_eq : exec (.setDelete c) s = .next (if s.setBusy (s.ctlSet c) then s.finish c 0x31 0xFF 0 0 0
    else (s.runCtx c).journalAdd (s.ctlNs c) ([s.deletedRec c] ++ s.deletedMembers c ++ [jFinish c 0 0 (ent (s.ctx c).entry 34 2)])) :=
  congrArg Host.Outcome.next (if_neg (by simp [h]))

theorem setDelete_busy (hb : s.setBusy (s.ctlSet c) = true) : exec (.setDelete c) s = .next (s.finish c 0x31 0xFF 0 0 0) := by
  rw [setDelete_eq h, if_pos hb]

theorem setDelete_journals (hb : s.setBusy (s.ctlSet c) = false) : exec (.setDelete c) s = .next ((s.runCtx c).journalAdd (s.ctlNs c)
    ([s.deletedRec c] ++ s.deletedMembers c ++ [jFinish c 0 0 (ent (s.ctx c).entry 34 2)])) := by
  rw [setDelete_eq h, hb]
  rfl

end

/-- Settles O45: the outcomes of the five actions, each from its own lemma. -/
theorem vdieAndSetEntries : Obligations.VdieAndSetEntries := by
  unfold Obligations.VdieAndSetEntries
  refine ⟨?vdies, ?define, ?delete⟩
  case vdies =>
    rintro s c v r rfl rfl
    refine ⟨fun h => ?retire, fun h => ?rebuild, fun h => ?addSpare⟩
    case retire =>
      refine ⟨fun hm => exists_finished (vdieRetire_unmapped h hm), fun hm hst => exists_finished (vdieRetire_failed h hm hst),
        fun hm hst hold => ⟨_, vdieRetire_rebuilding h hm hst hold, rfl⟩,
        fun hm hst ho => exists_finished (vdieRetire_deferred h hm hst ho), fun hm hst ho => ?_⟩
      obtain ⟨hdie, hcount, hvdies, hsets⟩ := s.dieReported_spec (s.vdie (s.ctlVdie c)).pdie
      obtain ⟨hrun, -, -⟩ := (s.dieReported (s.vdie (s.ctlVdie c)).pdie).runCtx_spec c
      exact ⟨_, _, vdieRetire_retires h hm hst ho, rfl, hdie, congrArg Ctx.state hrun, hcount, hvdies, hsets⟩
    case rebuild =>
      refine ⟨fun hm => exists_finished (vdieRebuild_unmapped h hm), fun hm hr => exists_finished (vdieRebuild_refused h hm hr), fun hr => ?_⟩
      obtain ⟨-, -, sp, hsp⟩ := State.canRebuild_spec hr
      obtain ⟨hrun, -, hframe⟩ := s.runCtx_spec c
      exact ⟨_, _, sp, hsp, vdieRebuild_starts h hr hsp, rfl, congrArg Ctx.state hrun, hframe⟩
    case addSpare =>
      exact ⟨fun hx => exists_finished (vdieAddSpare_unfit h hx), fun hm hst hx => exists_finished (vdieAddSpare_member h hm hst hx),
        fun hm hst hx hj => ⟨_, vdieAddSpare_unmaps h hm hst hx hj, rfl⟩⟩
  case define =>
    intro s c l h hl
    refine ⟨setDefine_waits, ?_⟩
    rintro hf u got ms ns g fam rfl rfl rfl rfl rfl rfl bad rfl
    have hexec := setDefine_defines h hl hf
    refine ⟨fun hd => exists_finished (hexec.trans (congrArg _ (State.defineSet_defined hd))),
      fun hd hm => exists_finished (hexec.trans (congrArg _ (State.defineSet_members hd hm))),
      fun hd hm hmode => exists_finished (hexec.trans (congrArg _ (State.defineSet_mode hd hm hmode))),
      fun hd hm hmode hb => exists_finished (hexec.trans (congrArg _ (State.defineSet_bands hd hm hmode hb))),
      fun hd hm hmode hb => ?_⟩
    let u := s.listAnswered c
    let ms := s.listRead c l
    exact ⟨_, u.definedDesc c ms, u.definedRec c ms, u.definedBinds c ms, u.definedMembers c ms,
      hexec.trans (congrArg _ (State.defineSet_journals hd hm hmode hb)), rfl, rfl, rfl, rfl, rfl,
      u.definedBinds_length c ms, u.definedMembers_length c ms⟩
  case delete =>
    rintro s c ns g h rfl rfl busy rfl
    exact ⟨fun hb => exists_finished (setDelete_busy h hb),
      fun hb => ⟨_, s.deletedRec c, s.deletedMembers c, setDelete_journals h hb, rfl, rfl, List.length_map _⟩⟩

end Sys2Proof.Machine
end

section
/-! SUPPORT. What the tiles of an entry meet on their way into the pin region (R93, R301, R490): with a tag entry that cannot be corrected its dirty
line is lost, and the tiles that lie in the line are spoiled. -/

namespace Sys2Proof.Machine

variable {s : State} {key l c : Nat} {f : Field}

/-! ## Tiles whose check word holds, and tiles that were spoiled (R93) -/

/-- A tile of the given DATA to ADDR_CHECK, with its check word. -/
def checkedTile (body : List Byte) : List Byte := body ++ leBytes 4 (crc32c body).toNat

section
variable {body : List Byte} (h : body.length = 4124)
include h

theorem checkedTile_length : (checkedTile body).length = tileBytes := by
  rw [checkedTile, List.length_append, leBytes_length, h]
  rfl

theorem tileCrcOk_checkedTile : tileCrcOk (checkedTile body) = true := by
  have hword : tileCrc (checkedTile body) = (crc32c body).toNat := by
    have := field_leBytes body [] h 4 (crc32c body).toNat
    rw [List.append_nil] at this
    exact this.trans (Nat.mod_eq_of_lt (crc32c body).isLt)
  exact tileCrcOk_iff.2 ⟨checkedTile_length h, by rw [hword, checkedTile, List.take_left' h]⟩

end

theorem byte_not_ne (b : Byte) : ~~~ b ≠ b := by
  revert b
  decide

theorem spoilTile_ne {t : List Byte} (h : t.length = tileBytes) : spoilTile t ≠ t := by
  have hlt : 4124 < t.length := h ▸ (by decide : 4124 < tileBytes)
  intro heq
  have hbyte : (spoilTile t)[4124]? = some (~~~ t[4124]) := by
    rw [spoilTile, List.getElem?_modify, List.getElem?_eq_getElem hlt]
    rfl
  rw [heq, List.getElem?_eq_getElem hlt] at hbyte
  exact byte_not_ne _ (Option.some.inj hbyte).symm

/-! ## An uncorrectable error (R490, R491) -/

@[simp] theorem State.uncorrected_ctxs (s : State) (kind key word : Nat) (dirty : Bool) (area : Nat) :
    (s.uncorrected kind key word dirty area).ctxs = s.ctxs := by
  unfold State.uncorrected
  split <;> simp

@[simp] theorem State.uncorrected_liner (s : State) (kind key word : Nat) (dirty : Bool) (area : Nat) :
    (s.uncorrected kind key word dirty area).liner = s.liner := by
  unfold State.uncorrected
  split <;> simp

/-- The state in which LNR_ECC_LAST describes an error. -/
def State.errorNoted (s : State) (kind key word : Nat) (dirty : Bool) : State :=
  ((((((s.setF F.LNR_ECC_LAST.VALID 1).setF F.LNR_ECC_LAST.KIND kind).setFlag F.LNR_ECC_LAST.DIRTY dirty).setF F.LNR_ECC_LAST.WAY (key % 32)).setF
    F.LNR_ECC_LAST.BANK (key / 32 / 384)).setF F.LNR_ECC_LAST.INDEX (key / 32 % 384)).setF F.LNR_ECC_LAST.WORD word

theorem State.getF_errorNoted {kind word : Nat} {dirty : Bool} (h : f.reg ≠ 0x80418) : (s.errorNoted kind key word dirty).getF f = s.getF f := by
  have hset : ∀ (u : State) (g : Field) (v : Nat), g.reg = 0x80418 → (u.setF g v).getF f = u.getF f :=
    fun u g v hg => State.getF_congr (State.reg_setF_ne (hg ▸ h))
  simp only [State.errorNoted, State.setFlag, hset _ F.LNR_ECC_LAST.VALID _ rfl, hset _ F.LNR_ECC_LAST.KIND _ rfl, hset _ F.LNR_ECC_LAST.DIRTY _ rfl,
    hset _ F.LNR_ECC_LAST.WAY _ rfl, hset _ F.LNR_ECC_LAST.BANK _ rfl, hset _ F.LNR_ECC_LAST.INDEX _ rfl, hset _ F.LNR_ECC_LAST.WORD _ rfl]

/-- The fields that the report of an uncorrectable error can change beside LNR_ECC_LAST. -/
def uncorrectedFields : List Field := pendF Ev.linerUncorrectable :: logFields

theorem State.getF_uncorrected {kind word area : Nat} {dirty : Bool} (h64 : f.hi < 64) (hlast : f.reg ≠ 0x80418)
    (h : ∀ g ∈ uncorrectedFields, f.apart g = true) : (s.uncorrected kind key word dirty area).getF f = s.getF f := by
  rw [uncorrectedFields, List.forall_mem_cons] at h
  obtain ⟨hpend, hlog⟩ := h
  have hnoted : (s.errorNoted kind key word dirty).getF f = s.getF f := State.getF_errorNoted hlast
  unfold State.uncorrected
  dsimp only
  split
  · exact hnoted
  · rw [State.getF_logWrite h64 hlog, State.getF_raise_apart hpend h64]
    exact hnoted

/-! ## A tag entry is lost (R490, Table 13-6) -/

@[simp] theorem State.tagWritten_ctxs (s : State) (key : Nat) : (s.tagWritten key).ctxs = s.ctxs := by
  unfold State.tagWritten
  dsimp only
  split <;> rfl

theorem State.tagWritten_unarmed (h : s.flag F.LNR_FLIP_CTRL.ARMED = false) (key : Nat) :
    s.tagWritten key = s.setFlips (33 * key + 32) (0, 0) := by
  have : (s.setFlips (33 * key + 32) (0, 0)).flag F.LNR_FLIP_CTRL.ARMED = false := h
  simp [State.tagWritten, this]

@[simp] theorem State.putLine_ctxs (s : State) (key : Nat) (x : Option LLine) : (s.putLine key x).ctxs = s.ctxs := by
  unfold State.putLine
  dsimp only
  split <;> simp

theorem State.tagWritten_putLine (h : s.flag F.LNR_FLIP_CTRL.ARMED = false) (key : Nat) (x : Option LLine) :
    ((s.putLine key x).tagWritten key).liner = { s.liner with
      lines := storePut (fun _ => none) s.liner.lines key x, flips := storePut (fun _ => (0, 0)) s.liner.flips (33 * key + 32) (0, 0) } := by
  have hput : ∀ g, (s.updLiner g).flag F.LNR_FLIP_CTRL.ARMED = false := fun _ => h
  have hclear : ∀ g k v, ((s.updLiner g).setFlips k v).flag F.LNR_FLIP_CTRL.ARMED = false := fun _ _ _ => h
  unfold State.putLine
  dsimp only
  split
  · rw [State.tagWritten_unarmed (hput _)]
    rfl
  · rw [State.tagWritten_unarmed (hput _), State.tagWritten_unarmed (hclear _ _ _)]
    simp [State.setFlips, State.updLiner, storePut_storePut_same]

/-- A tag entry with one code that counts two wrong bits is lost. -/
theorem State.eccRead_two {word : Nat} (h : ones (s.flipsAt (33 * key + word)).1 64 + ones (s.flipsAt (33 * key + word)).2 8 = 2) :
    s.eccRead key word = (2, s) := by
  simp [State.eccRead, h]

theorem State.tagCheck_lost {m : Nat × Nat} (hf : s.liner.flips = [(33 * key + 32, m)]) (hm : ones m.1 64 + ones m.2 8 = 2)
    (hw : key % 32 < s.cacheWays) : s.tagCheck (key / 32) = s.tagLost key := by
  have hat : s.flipsAt (33 * key + 32) = m := by simp [State.flipsAt, hf, storeGet]
  have hkey : (33 * key + 32) / 33 = key := by omega
  have hmod : (33 * key + 32) % 33 = 32 := by omega
  have hecc : s.eccRead key 32 = (2, s) := State.eccRead_two (by rw [hat, hm])
  simp [State.tagCheck, hf, storeKeys, hkey, hmod, hw, hecc]

theorem State.tagCheck_clean (hf : s.liner.flips = []) (set : Nat) : s.tagCheck set = s := by
  simp [State.tagCheck, hf, storeKeys]

@[simp] theorem State.spoilPin_liner (s : State) (l : Nat) : (s.spoilPin l).liner = s.liner := by
  unfold State.spoilPin
  split <;> rfl

@[simp] theorem State.spoilPin_getF (s : State) (l : Nat) (f : Field) : (s.spoilPin l).getF f = s.getF f := by
  unfold State.spoilPin
  split <;> rfl

theorem State.spoilPin_ctxs_congr {t : State} (hc : t.ctxs = s.ctxs) (hb : t.getF F.PTY_PIN_BASE.BASE = s.getF F.PTY_PIN_BASE.BASE)
    (hp : t.getF F.PTY_PIN_SIZE.PAGES = s.getF F.PTY_PIN_SIZE.PAGES) (l : Nat) : (t.spoilPin l).ctxs = (s.spoilPin l).ctxs := by
  have hin : t.inPin (256 * l) = s.inPin (256 * l) := by simp [State.inPin, hb, hp]
  unfold State.spoilPin
  rw [hin, hb]
  split
  · exact hc
  · exact congrArg (List.map _) hc

/-- The state in which the loss of a tag entry is reported and counted. -/
def State.lossReported (s : State) (key : Nat) : State := (s.uncorrected 1 key 0 true 0xFF).countSat F.LNR_ECC_CNT2.UNCORR_LOST 1

@[simp] theorem State.lossReported_ctxs (s : State) (key : Nat) : (s.lossReported key).ctxs = s.ctxs := by simp [State.lossReported]

@[simp] theorem State.lossReported_liner (s : State) (key : Nat) : (s.lossReported key).liner = s.liner := by simp [State.lossReported]

theorem State.getF_lossReported (h64 : f.hi < 64) (hlast : f.reg ≠ 0x80418)
    (h : ∀ g ∈ F.LNR_ECC_CNT2.UNCORR_LOST :: uncorrectedFields, f.apart g = true) : (s.lossReported key).getF f = s.getF f := by
  rw [List.forall_mem_cons] at h
  exact (State.getF_countSat_apart h64 h.1 (h.2 _ (by decide)) (h.2 _ (by decide))).trans (State.getF_uncorrected h64 hlast h.2)

section
variable {x : LLine} (hx : s.lineAt key = some x) (hd : x.dirty = true)
include hx hd

theorem State.tagLost_dirty : s.tagLost key = (((s.lossReported key).spoilPin x.tag).putLine key none).tagWritten key := by
  have hx' : (s.lossReported key).lineAt key = some x := by rw [← hx, State.lineAt, State.lossReported_liner, State.lineAt]
  show ((match (s.lossReported key).lineAt key with
    | some x => if x.dirty then (s.lossReported key).spoilPin x.tag else s.lossReported key
    | none => s.lossReported key).putLine key none).tagWritten key = _
  rw [hx']
  simp only [hd, if_true]

/-- With a dirty line of the pin region go the tiles that lie in it. -/
theorem State.tagLost_ctxs : (s.tagLost key).ctxs = (s.spoilPin x.tag).ctxs := by
  rw [State.tagLost_dirty hx hd, State.tagWritten_ctxs, State.putLine_ctxs]
  exact State.spoilPin_ctxs_congr (s.lossReported_ctxs key)
    (State.getF_lossReported (by decide) (by decide) (by decide)) (State.getF_lossReported (by decide) (by decide) (by decide)) _

theorem State.tagLost_liner (ha : s.flag F.LNR_FLIP_CTRL.ARMED = false) : (s.tagLost key).liner = { s.liner with
    lines := storePut (fun _ => none) s.liner.lines key none, flips := storePut (fun _ => (0, 0)) s.liner.flips (33 * key + 32) (0, 0) } := by
  have hf : ((s.lossReported key).spoilPin x.tag).getF F.LNR_FLIP_CTRL.ARMED = s.getF F.LNR_FLIP_CTRL.ARMED :=
    (State.spoilPin_getF _ _ _).trans (State.getF_lossReported (by decide) (by decide) (by decide))
  rw [State.tagLost_dirty hx hd, State.tagWritten_putLine (by rw [State.flag, hf]; exact ha), State.spoilPin_liner, State.lossReported_liner]

end

/-! ## Uncached writes (R473, R487) -/

theorem State.keyOf_no_lines (h : s.liner.lines = []) (l : Nat) : s.keyOf l = none := by
  have hnone : (List.range s.cacheWays).find? (fun _ => false) = none := List.find?_eq_none.2 (by simp)
  simp [State.keyOf, State.wayOf, State.lineAt, h, hnone]

theorem State.ucWrite_no_lines (hl : (s.tagCheck (s.lnSet l)).liner.lines = []) (hm : (s.tagCheck (s.lnSet l)).liner.merge = [])
    (a : Nat) (m : List Byte) : s.ucWrite l a m = s.tagCheck (s.lnSet l) := by
  simp [State.ucWrite, State.flushMerge, hm, State.keyOf_no_lines hl]

theorem State.ucWrite_empty (hf : s.liner.flips = []) (hl : s.liner.lines = []) (hm : s.liner.merge = []) (l a : Nat) (m : List Byte) :
    s.ucWrite l a m = s := by
  have hc := State.tagCheck_clean hf (s.lnSet l)
  rw [State.ucWrite_no_lines (by rw [hc, hl]) (by rw [hc, hm]), hc]

theorem State.fabWrite_pin_ctxs (h : s.linerOn = false) (p addr : Nat) (m : List Byte) :
    (s.fabWrite (.pin p) addr m).ctxs = ((linesOf addr m.length).foldl (fun s l => s.ucWrite l addr m) s).ctxs := by
  have huc : ∀ a, s.attrOf (.pin p) a = .uc := by simp [State.attrOf, FabWho.plain, h]
  simp [State.fabWrite, huc, State.fabAsk]

/-- An uncached write over the one line that the cache holds, dirty and with a tag entry that cannot be corrected, and over lines that follow. -/
theorem State.fabWrite_loses {x : LLine} {m : Nat × Nat} {rest : List Nat} (p addr : Nat) (t : List Byte) (hoff : s.linerOn = false)
    (ha : s.flag F.LNR_FLIP_CTRL.ARMED = false) (hlines : s.liner.lines = [(key, some x)]) (hd : x.dirty = true)
    (hflips : s.liner.flips = [(33 * key + 32, m)]) (htwo : ones m.1 64 + ones m.2 8 = 2) (hw : key % 32 < s.cacheWays)
    (hmerge : s.liner.merge = []) (hset : s.lnSet l = key / 32) (hl : linesOf addr t.length = l :: rest) :
    (s.fabWrite (.pin p) addr t).ctxs = (s.spoilPin x.tag).ctxs := by
  have hx : s.lineAt key = some x := by simp [State.lineAt, hlines, storeGet]
  have hcheck : s.tagCheck (s.lnSet l) = s.tagLost key := by rw [hset, State.tagCheck_lost hflips htwo hw]
  have hliner := State.tagLost_liner hx hd ha
  have hnone : (s.tagLost key).liner.lines = [] := by simp [hliner, hlines, storePut, storeDel]
  have hclean : (s.tagLost key).liner.flips = [] := by simp [hliner, hflips, storePut, storeDel]
  have hmerge' : (s.tagLost key).liner.merge = [] := by rw [hliner]; exact hmerge
  have hfirst : s.ucWrite l addr t = s.tagLost key := by
    rw [State.ucWrite_no_lines (hcheck ▸ hnone) (hcheck ▸ hmerge'), hcheck]
  rw [State.fabWrite_pin_ctxs hoff, hl, List.foldl_cons, hfirst, List.foldl_fixed' (fun k => State.ucWrite_empty hclean hnone hmerge' k addr t),
    State.tagLost_ctxs hx hd]

/-! ## TILE_INTAKE_DONE (R301) -/

/-- Is it a read of a tile for context `c`? -/
def FabReq.tileOf (c : Nat) (r : FabReq) : Bool := match r.who with | .tileIn k _ => k == c | _ => false

/-- Have all `n` tiles of an entry come, and may they be taken? -/
def State.intakeReady (s : State) (c n : Nat) : Bool :=
  s.awake && !s.pfail && (s.ctx c).state == .running && (s.ctx c).bufs != 0 && !(s.ctx c).taken && entIntake (s.ctx c).entry &&
    !(s.ctx c).ended && n == entCount (s.ctx c).entry && s.fab.any (FabReq.tileOf c) && !s.fab.any (fun r => r.tileOf c && !r.under)

theorem State.intakeReady_iff {n : Nat} : s.intakeReady c n = true ↔ s.awake = true ∧ s.pfail = false ∧ (s.ctx c).state = .running ∧
    (s.ctx c).bufs ≠ 0 ∧ (s.ctx c).taken = false ∧ entIntake (s.ctx c).entry = true ∧ (s.ctx c).ended = false ∧ n = entCount (s.ctx c).entry ∧
    s.fab.any (FabReq.tileOf c) = true ∧ s.fab.any (fun r => r.tileOf c && !r.under) = false := by
  simp only [State.intakeReady, Bool.and_eq_true, Bool.not_eq_true', beq_iff_eq, bne_iff_ne, and_assoc]

/-- The state in which the reads of an entry's tiles are over, and the buffers that its `n` tiles get. -/
def State.tilesRead (s : State) (c : Nat) : State :=
  State.fabPump { s with fab := s.fab.filter (fun r => match r.who with | .tileIn k _ => k != c | _ => true) }
def State.tilePlaces (s : State) (c n : Nat) : List Nat := ((s.tilesRead c).freePlaces (s.ctx c).bufs).take n

/-- The state in which an entry holds its tiles; in the fabric pool they are still to be written to the pin region. -/
def State.tilesHeld (s : State) (c : Nat) (tl : List (List Byte)) : State :=
  (s.tilesRead c).setCtx c { (s.tilesRead c).ctx c with
    taken := true, tiles := tl.mapIdx (fun i t => TileJob.mk 0 0 none 0 0 t ((s.tilePlaces c tl.length).getD i 0)) }

theorem tileIntakeDone_holds {l tl : List (List Byte)} (h : s.intakeReady c l.length = true)
    (htl : l.mapIdx (fun i t => s.readBytes (.tileIn c i) t) = tl) (hok : tl.findIdx? (fun t => !tileCrcOk t) = none) :
    exec (.tileIntakeDone c l) s = .next (if (s.ctx c).bufs = 1 then
      (List.range tl.length).foldl (fun u i => u.fabWrite (.pin ((s.tilePlaces c tl.length).getD i 0))
        (4096 * u.getF F.PTY_PIN_BASE.BASE + tileBytes * (s.tilePlaces c tl.length).getD i 0) (tl.getD i [])) (s.tilesHeld c tl)
      else s.tilesHeld c tl) := by
  subst htl
  refine congrArg Host.Outcome.next ((if_neg ?_).trans ?_)
  · rw [State.intakeReady_iff] at h
    show ¬(!s.awake || s.pfail || (s.ctx c).state != .running || (s.ctx c).bufs == 0 || (s.ctx c).taken || !entIntake (s.ctx c).entry ||
      (s.ctx c).ended || l.length != entCount (s.ctx c).entry || !s.fab.any (FabReq.tileOf c) ||
      s.fab.any (fun r => r.tileOf c && !r.under)) = true
    simp [h]
  · dsimp only
    rw [hok]
    rfl

/-! ## A tile lost on its way -/

/-- The Liner is being disabled, and a fabric pool of one tile lies in a pin region of two pages. -/
def disabling : State := ((State.reset.setF F.LNR_CTRL.STATE 2).setF F.PTY_PIN_SIZE.PAGES 2).setF F.PTY_PIN_STAT.FAB_TILES 1

/-- The Liner still holds one dirty line of the pin region, and two bits of the line's tag entry are wrong; the one tile of a WRITE has come and goes
over that line. -/
def losing : State := { disabling with
  phase := .on
  ctxs := [(0, { Ctx.zero with state := .running, entry := BitVec.ofNat 512 (2 ^ 224 + opWRITE), bufs := 1 })]
  fab := [FabReq.mk (.tileIn 0 0) false 0x100000 tileBytes (some (FabTag.mk 0 0 0 0)) false [] [] []]
  liner := { Liner.zero with lines := [(0, some (LLine.mk 0 true false allWords (List.replicate 256 0#8)))], flips := [(32, (3, 0))] } }

set_option exponentiation.threshold 512 in
theorem losing_ready : losing.intakeReady 0 1 = true := by decide

theorem losing_pool : (losing.ctx 0).bufs = 1 := rfl

theorem losing_places : losing.tilePlaces 0 1 = [0] := by decide

theorem losing_getF : losing.getF F.LNR_CTRL.STATE = 2 ∧ losing.getF F.LNR_FLIP_CTRL.ARMED = 0 ∧ losing.getF F.LNR_SP_WAYS.WAYS = 24 ∧
    losing.getF F.PTY_PIN_BASE.BASE = 0 ∧ losing.getF F.PTY_PIN_SIZE.PAGES = 2 := by decide

/-- The same, the tile taken. -/
def losingHeld (t : List Byte) : State := { losing with
  fab := [], ctxs := [(0, { losing.ctx 0 with taken := true, tiles := [TileJob.mk 0 0 none 0 0 t 0] })] }

section
variable {t : List Byte}

theorem losingHeld_getF (f : Field) : (losingHeld t).getF f = losing.getF f := by
  simp only [losingHeld, State.getF, State.reg]

/-- The line that is lost holds bytes of the first buffer alone. -/
theorem losingHeld_spoilPin : (losingHeld t).spoilPin 0 = (losingHeld t).spoilBuffers 1 [0] := by
  have hin : (losingHeld t).inPin 0 = true := by simp [State.inPin, losingHeld_getF, losing_getF]
  simp [State.spoilPin, hin, losingHeld_getF, losing_getF, fromTo, tileBytes]

theorem losing_tilesHeld : losing.tilesHeld 0 [t] = losingHeld t := by
  rw [State.tilesHeld, List.length_singleton, losing_places]
  rfl

variable (h : t.length = tileBytes)
include h

theorem losing_reads : [t].mapIdx (fun i t => losing.readBytes (.tileIn 0 i) t) = [t] := by
  have hall : slice t 0 tileBytes = t := by rw [slice, List.drop_zero, List.take_of_length_le (Nat.le_of_eq h)]
  rw [List.mapIdx_cons, List.mapIdx_nil]
  exact congrArg (fun x => [x]) hall

theorem losing_intake (hok : tileCrcOk t = true) :
    exec (.tileIntakeDone 0 [t]) losing = .next ((losingHeld t).fabWrite (.pin 0) 0 t) := by
  rw [tileIntakeDone_holds (l := [t]) losing_ready (losing_reads h) (by simp [hok]), if_pos losing_pool, losing_tilesHeld, List.length_singleton,
    losing_places]
  simp [losingHeld_getF, losing_getF]

/-- The tile is written over the line that is lost, and is lost with it. -/
theorem losing_spoils : (((losingHeld t).fabWrite (.pin 0) 0 t).ctx 0).tiles.map (·.data) = [spoilTile t] := by
  have hoff : (losingHeld t).linerOn = false := by simp [State.linerOn, losingHeld_getF, losing_getF]
  have hunarmed : (losingHeld t).flag F.LNR_FLIP_CTRL.ARMED = false := by simp [State.flag, losingHeld_getF, losing_getF]
  have hways : 0 % 32 < (losingHeld t).cacheWays := by simp [State.cacheWays, losingHeld_getF, losing_getF]
  have hset : (losingHeld t).lnSet 0 = 0 / 32 := by simp [State.lnSet, State.lnBank]
  have hlines : linesOf 0 t.length = 0 :: (List.range 16).map (· + 1) := by rw [h]; rfl
  have hctxs : ((losingHeld t).fabWrite (.pin 0) 0 t).ctxs = ((losingHeld t).spoilPin 0).ctxs :=
    State.fabWrite_loses (m := (3, 0)) 0 0 t hoff hunarmed rfl rfl rfl (by decide) hways rfl hset hlines
  rw [State.ctx, hctxs, losingHeld_spoilPin]
  rfl

end

/-- Refutes O48: where the tile of an entry is written into the pin region over a line whose tag entry cannot be corrected, the tile is spoiled, and the
entry does not hold the tile that came. -/
theorem not_tilesArePlaced : ¬ Obligations.TilesArePlaced := by
  unfold Obligations.TilesArePlaced
  rintro ⟨hintake, -⟩
  obtain ⟨t, hlen, hok⟩ : ∃ t : List Byte, t.length = tileBytes ∧ tileCrcOk t = true :=
    ⟨checkedTile (List.replicate 4124 0#8), checkedTile_length List.length_replicate, tileCrcOk_checkedTile List.length_replicate⟩
  obtain ⟨haw, hpf, hrun, hbufs, htaken, hin, hended, hcount, hasked, hunder⟩ := State.intakeReady_iff.1 losing_ready
  obtain ⟨-, hgood⟩ := hintake losing 0 [t] [t] haw hpf hrun hbufs htaken hin hended hcount hasked hunder (losing_reads hlen).symm
  obtain ⟨u, hu, -, -, hdata, -⟩ := hgood (by simp [hok])
  obtain rfl : _ = u := Host.Outcome.next.inj ((losing_intake hlen hok).symm.trans hu)
  exact spoilTile_ne hlen (List.head_eq_of_cons_eq ((losing_spoils hlen).symm.trans hdata))

end Sys2Proof.Machine
end

section
/-! SUPPORT. The tick boundary and the plan commit (R129, R131, R135): what closing a tick and opening the next leave of the registers, the
settings in force and the plans. -/

namespace Sys2Proof.Machine

variable {s t u : State} {l : List Nat}

/-! ## What the parts of a boundary keep -/

/-- The step from `s` to `t` keeps the build, the settings in force, the planner's own state and the registers of the list. -/
structure State.Keeps (l : List Nat) (s t : State) : Prop where
  build : t.build = s.build
  right : t.right = s.right
  phase : t.phase = s.phase
  latch : t.latch = s.latch
  pln : t.pln = s.pln
  reg : ∀ o ∈ l, t.reg o = s.reg o

theorem State.Keeps.refl (l : List Nat) (s : State) : State.Keeps l s s := ⟨rfl, rfl, rfl, rfl, rfl, fun _ _ => rfl⟩

theorem State.Keeps.trans (h : State.Keeps l s t) (h' : State.Keeps l t u) : State.Keeps l s u :=
  ⟨h'.build.trans h.build, h'.right.trans h.right, h'.phase.trans h.phase, h'.latch.trans h.latch, h'.pln.trans h.pln,
    fun o ho => (h'.reg o ho).trans (h.reg o ho)⟩

/-- A step that is taken for each member of a list. -/
theorem State.Keeps.foldl {α : Type} {f : State → α → State} {m : List α} (h : ∀ s, ∀ a ∈ m, State.Keeps l s (f s a)) (s : State) :
    State.Keeps l s (m.foldl f s) := List.foldlRecOn m f (.refl l s) fun u hu a ha => hu.trans (h u a ha)

theorem State.keeps_setF {f : Field} (v : Nat) (h : f.reg ∉ l) : State.Keeps l s (s.setF f v) :=
  ⟨rfl, rfl, rfl, rfl, rfl, fun _ ho => State.reg_setF_ne (ne_of_mem_of_not_mem ho h)⟩

theorem State.keeps_setQuad (q : Nat) (x : Quad) : State.Keeps l s (s.setQuad q x) := ⟨rfl, rfl, rfl, rfl, rfl, fun _ _ => rfl⟩

/-- The pending registers and the one of SAT_SEEN are none of the list. -/
def eventsApart (l : List Nat) : Bool := l.all (fun o => decide (o ≠ 0x400) && (decide (o < 0x20800) || decide (0x20840 ≤ o)))

section
variable (hl : eventsApart l = true)
include hl

theorem eventsApart_pending {src o : Nat} (hs : src < 512) (ho : o ∈ l) : o ≠ 0x20800 + 8 * (src / 64) := by
  have := List.all_eq_true.1 hl o ho
  simp only [Bool.and_eq_true, Bool.or_eq_true, decide_eq_true_eq] at this
  omega

theorem eventsApart_sat {o : Nat} (ho : o ∈ l) : o ≠ 0x400 := by
  have := List.all_eq_true.1 hl o ho
  simp only [Bool.and_eq_true, decide_eq_true_eq] at this
  exact this.1

theorem State.keeps_raise {src : Nat} (hs : src < 512) : State.Keeps l s (s.raise src) :=
  ⟨State.raise_build _ _, State.raise_right _ _, State.raise_phase _ _, State.raise_latch _ _, State.raise_pln _ _,
    fun _ ho => State.reg_raise (eventsApart_pending hl hs ho)⟩

theorem State.keeps_countSat {f : Field} (n : Nat) (h : f.reg ∉ l) : State.Keeps l s (s.countSat f n) :=
  ⟨State.countSat_build _ _ _, State.countSat_right _ _ _, State.countSat_phase _ _ _, State.countSat_latch _ _ _, State.countSat_pln _ _ _,
    fun _ ho => State.reg_countSat (ne_of_mem_of_not_mem ho h) (eventsApart_sat hl ho) (eventsApart_pending hl (by decide) ho)⟩

end

/-! ## The registers of a rail group and of a quad -/

/-- A register of a rail group, or of its namesake of the partner. -/
theorem rgF_reg (f : Nat → Field) (g : Nat) : (rgF f g).reg = (f g).reg ∧ g < 8 ∨ 2 ^ 24 ≤ (rgF f g).reg := by
  unfold rgF
  split
  next h => exact .inl ⟨rfl, h⟩
  next => exact .inr (Nat.le_add_left _ _)

theorem qF_reg (f : Nat → Field) (q : Nat) : (qF f q).reg = (f q).reg ∨ 2 ^ 24 ≤ (qF f q).reg := by
  unfold qF
  split
  next => exact .inl rfl
  next => exact .inr (Nat.le_add_left _ _)

/-- TICKNO and the registers of the settings that a boundary brings into force. -/
def boundaryRegs : List Nat := [0xB0008, 0xD0000, 0xD0400, 0xE0000, 0xE0100]
/-- What the unit's being at work, its holds and its channels are read from, TICKNO among them. -/
def unitRegs : List Nat := [0xB0008, 0xB0208, 0xB0308, 0x400008, 0x400010]

theorem zq_apart {f : Nat → Field} (hf : ∀ i, (f i).reg = 0x120004 + 64 * i) (q : Nat) : (qF f q).reg ∉ boundaryRegs := by
  have := qF_reg f q
  rw [hf] at this
  simp only [boundaryRegs, List.mem_cons, List.not_mem_nil, or_false]
  omega

theorem railStat_apart {f : Nat → Field} (hf : ∀ i, (f i).reg = 0xD0180 + 8 * i) (g : Nat) : (rgF f g).reg ∉ boundaryRegs ++ unitRegs := by
  have := rgF_reg f g
  rw [hf] at this
  simp only [boundaryRegs, unitRegs, List.mem_append, List.mem_cons, List.not_mem_nil, or_false]
  omega

/-! ## The tick that ended -/

/-- The ticks in range of a quad that a VCCQ sample held (R178). -/
def State.quadRange (s : State) (q : Nat) : State :=
  if (s.quad q).held then
    s.setQuad q { s.quad q with good := if s.vccqOff q (storeGet (fun _ => 0) s.telem.vccqMv q) 6 then 0 else (s.quad q).good + 1 }
  else s

/-- The ZQ codes of a quad that waited for the boundary (R199). -/
def State.takeZq (s : State) (q : Nat) : State :=
  match (s.quad q).zqNew with
  | some (up, down) =>
    ((s.setQuad q { s.quad q with zqNew := none }).setF (qF F.CHU_QUAD_ZQ.PULLUP q) up).setF (qF F.CHU_QUAD_ZQ.PULLDOWN q) down
  | none => s

/-- The ticks without work of a quad are counted (R612) before its ticks in range. -/
theorem State.quadTick_eq (s : State) (q : Nat) : ∃ u, s.quadTick q = (u.quadRange q).takeZq q ∧ State.Keeps l s u :=
  ⟨{ s with sleep := { s.sleep with quiet := storePut (fun _ => 0) s.sleep.quiet q (if s.quadQuiet q then cnt s.sleep.quiet q + 1 else 0) } }, rfl,
    rfl, rfl, rfl, rfl, rfl, fun _ _ => rfl⟩

theorem State.quadRange_keeps (s : State) (q : Nat) : State.Keeps l s (s.quadRange q) := by
  unfold State.quadRange
  split
  · exact State.keeps_setQuad _ _
  · exact .refl _ _

theorem State.takeZq_keeps (s : State) (q : Nat) : State.Keeps boundaryRegs s (s.takeZq q) := by
  unfold State.takeZq
  split
  · exact ((State.keeps_setQuad _ _).trans (State.keeps_setF _ (zq_apart (fun _ => rfl) q))).trans (State.keeps_setF _ (zq_apart (fun _ => rfl) q))
  · exact .refl _ _

theorem State.quadTick_keeps (s : State) (q : Nat) : State.Keeps boundaryRegs s (s.quadTick q) := by
  obtain ⟨u, hq, hquiet⟩ := s.quadTick_eq q
  rw [hq]
  exact hquiet.trans ((State.quadRange_keeps u q).trans (State.takeZq_keeps _ q))

/-- The lowest sample of a rail group in a tick. -/
def State.noteLowest (s : State) (g : Nat) (samples : List Nat) : State :=
  match samples with
  | [] => s
  | v :: rest => s.setF (rgF F.PLN_RAIL_STAT.MIN_MV g) (min 0xFFFF (rest.foldl min v))

/-- What adapting a rail group's factor comes to (R151): a droop sets it, counts and raises; else it is set. -/
theorem State.adaptRail_cases (s : State) (g : Nat) : ∃ samples f,
    s.adaptRail g = (s.noteLowest g samples).setF (rgF F.PLN_RAIL_STAT.FACTOR g) f ∨
    s.adaptRail g =
      (((s.noteLowest g samples).setF (rgF F.PLN_RAIL_STAT.FACTOR g) f).countSat (rgF F.PLN_RAIL_STAT.DROOPS g) 1).raise (Ev.railDroop g) := by
  let samples := storeGet (fun _ => []) s.pln.samples g
  let low := s.noteLowest g samples
  by_cases hd : samples.any (fun v => decide (low.getF (rgF F.PLN_RAIL_CFG.DROOP_MV g) + v < low.getF (rgF F.PLN_RAIL_CFG.NOMINAL_MV g))) = true
  · exact ⟨samples, _, .inr (if_pos hd)⟩
  · exact ⟨samples, _, .inl (if_neg hd)⟩

theorem State.adaptRail_keeps (s : State) {g : Nat} (hg : g < 16) : State.Keeps boundaryRegs s (s.adaptRail g) := by
  have happart : ∀ {f : Nat → Field}, (∀ i, (f i).reg = 0xD0180 + 8 * i) → (rgF f g).reg ∉ boundaryRegs :=
    fun hf hm => railStat_apart hf g (List.mem_append_left _ hm)
  have hlow : ∀ samples, State.Keeps boundaryRegs s (s.noteLowest g samples) := by
    intro samples
    cases samples with
    | nil => exact .refl _ _
    | cons v rest => exact State.keeps_setF _ (happart fun _ => rfl)
  obtain ⟨samples, f, hf | hf⟩ := s.adaptRail_cases g <;> rw [hf]
  · exact (hlow samples).trans (State.keeps_setF _ (happart fun _ => rfl))
  · have hsrc : Ev.railDroop g < 512 := by unfold Ev.railDroop; omega
    exact (((hlow samples).trans (State.keeps_setF _ (happart fun _ => rfl))).trans
      (State.keeps_countSat (by decide) _ (happart fun _ => rfl))).trans (State.keeps_raise (by decide) hsrc)

/-- The rail groups that are planned: 8 of its own and, fostering, 8 of the partner. -/
theorem State.lt_of_mem_railGroups {g : Nat} (hg : g ∈ s.railGroups) : g < 16 := by
  unfold State.railGroups at hg
  have := List.mem_range.1 hg
  split at this <;> omega

/-- Closing a tick leaves the settings and the plans for the next, and starts the counts of its items anew. -/
theorem State.closeTick_spec (s : State) : ∃ u f, s.closeTick = u.bumpPln f ∧ State.Keeps boundaryRegs s u ∧
    ∀ p, (f p).plans = p.plans ∧ (f p).planTick = p.planTick ∧ (f p).runItems = [] ∧ (f p).runCycles = [] := by
  let quads := (List.range s.build.quads).foldl (fun s q => s.quadTick q) s
  have hquads : State.Keeps boundaryRegs s quads := .foldl (fun s q _ => s.quadTick_keeps q) s
  have hrails : State.Keeps boundaryRegs quads (quads.railGroups.foldl (fun s g => s.adaptRail g) quads) :=
    .foldl (fun s g hg => s.adaptRail_keeps (State.lt_of_mem_railGroups hg)) quads
  exact ⟨quads.railGroups.foldl (fun s g => s.adaptRail g) quads,
    fun p => { p with samples := [], lastItems := p.runItems, lastCycles := p.runCycles, runItems := [], runCycles := [] },
    rfl, hquads.trans hrails, fun p => ⟨rfl, rfl, rfl, rfl⟩⟩

/-! ## The settings and plans of the next tick -/

/-- Writing a value for each key of a list: a key of the list reads its value, every other as before. -/
theorem storeGet_foldl_storePut {α : Type} [DecidableEq α] {d : Nat → α} (c : Nat → α) (m : Store α) (ks : List Nat) (k : Nat) :
    storeGet d (ks.foldl (fun m i => storePut d m i (c i)) m) k = if k ∈ ks then c k else storeGet d m k := by
  induction ks generalizing m with
  | nil => rfl
  | cons a ks ih =>
    rw [List.foldl_cons, ih, storeGet_storePut]
    by_cases hk : k = a
    · simp [hk]
    · simp [hk]

/-- A boundary brings the four settings into force (R129). -/
theorem State.regL_takeLatch (s : State) {o : Nat} (ho : o ∈ [0xD0000, 0xD0400, 0xE0000, 0xE0100]) : s.takeLatch.regL o = s.reg o :=
  (storeGet_foldl_storePut (d := regReset s.build s.right) s.reg s.latch _ o).trans (if_pos ho)

theorem State.censusHalt_keeps (s : State) (code : Nat) : State.Keeps [0xB0008] s (s.censusHalt code) :=
  ((State.keeps_setF _ (by decide)).trans (State.keeps_setF _ (by decide))).trans (State.keeps_raise (by decide) (by decide))

theorem State.pfailTick_keeps (s : State) : State.Keeps [0xB0008] s s.pfailTick := by
  have hsettle : ∀ u : State, State.Keeps [0xB0008] u u.settleCheck := by
    intro u
    unfold State.settleCheck
    split
    · exact u.censusHalt_keeps 6
    · exact .refl _ _
  unfold State.pfailTick
  split
  · exact (State.keeps_setF _ (by decide)).trans (hsettle _)
  · exact hsettle s

/-- The step from `s` to `t` keeps all that the unit's being at work and the holds of its channels are read from. -/
structure State.KeepsUnit (s t : State) : Prop extends State.Keeps unitRegs s t where
  chans : t.chans = s.chans
  quads : t.quads = s.quads
  pair : t.pair = s.pair
  fatal : t.fatal = s.fatal

theorem State.KeepsUnit.refl (s : State) : State.KeepsUnit s s := ⟨.refl _ _, rfl, rfl, rfl, rfl⟩

theorem State.KeepsUnit.trans (h : State.KeepsUnit s t) (h' : State.KeepsUnit t u) : State.KeepsUnit s u :=
  ⟨h.toKeeps.trans h'.toKeeps, h'.chans.trans h.chans, h'.quads.trans h.quads, h'.pair.trans h.pair, h'.fatal.trans h.fatal⟩

theorem State.KeepsUnit.foldl {α : Type} {f : State → α → State} {m : List α} (h : ∀ s, ∀ a ∈ m, State.KeepsUnit s (f s a)) (s : State) :
    State.KeepsUnit s (m.foldl f s) := List.foldlRecOn m f (.refl s) fun u hu a ha => hu.trans (h u a ha)

theorem State.fatal_congr (h : t.reg 0x400 = s.reg 0x400) : t.fatal = s.fatal := State.flag_congr h

theorem State.keepsUnit_setF {f : Field} (v : Nat) (h : f.reg ∉ 0x400 :: unitRegs) : State.KeepsUnit s (s.setF f v) :=
  ⟨State.keeps_setF v (fun hm => h (List.mem_cons_of_mem _ hm)), rfl, rfl, rfl,
    State.fatal_congr (State.reg_setF_ne fun he => h (he ▸ List.mem_cons_self))⟩

theorem State.keepsUnit_raise {src : Nat} (hs : src < 512) : State.KeepsUnit s (s.raise src) :=
  ⟨State.keeps_raise (by decide) hs, State.raise_chans _ _, State.raise_quads _ _, State.raise_pair _ _,
    State.fatal_congr (State.reg_raise (by omega))⟩

/-- SAT_SEEN is apart from FATAL, which stands in the same register. -/
theorem State.keepsUnit_countSat {f : Field} (n : Nat) (h : f.reg ∉ 0x400 :: unitRegs) : State.KeepsUnit s (s.countSat f n) := by
  refine ⟨State.keeps_countSat (by decide) n (fun hm => h (List.mem_cons_of_mem _ hm)), State.countSat_chans _ _ _, State.countSat_quads _ _ _,
    State.countSat_pair _ _ _, ?_⟩
  have hset : (s.setF f (satAdd (spanBits f.hi f.lo) (s.getF f) n)).fatal = s.fatal := (State.keepsUnit_setF _ h).fatal
  unfold State.countSat State.noteSat
  dsimp only
  split
  · refine (State.fatal_congr (State.reg_raise (by decide))).trans (Eq.trans ?_ hset)
    rw [State.fatal, State.flag, State.getF_setF_apart _ _ _ _ (by decide) (by decide)]
    rfl
  · exact hset

section
variable (h : State.KeepsUnit s t)
include h

theorem State.KeepsUnit.getF {f : Field} (hf : f.reg ∈ unitRegs) : t.getF f = s.getF f := State.getF_congr (h.reg _ hf)

theorem State.KeepsUnit.tickno : t.tickno = s.tickno := h.getF (by decide)

theorem State.KeepsUnit.asleep : t.asleep = s.asleep := by
  rw [State.asleep, h.getF (by decide), State.asleep]

theorem State.KeepsUnit.clocked : t.clocked = s.clocked := by
  have hsealed : t.flag F.PWR_PFAIL_STAT.SEALED = s.flag F.PWR_PFAIL_STAT.SEALED := by
    rw [State.flag, h.getF (by decide), State.flag]
  simp only [State.clocked, State.working, h.phase, h.fatal, hsealed, h.asleep, h.getF (f := F.PAIR_STAT.STATE) (by decide),
    h.getF (f := F.PWR_STAT.STATE) (by decide)]

theorem State.KeepsUnit.planChans : t.planChans = s.planChans := by
  have hfar : t.farQuads = s.farQuads := by rw [State.farQuads, h.right, State.farQuads]
  have hfostering : t.fostering = s.fostering := by
    simp only [State.fostering, h.build, hfar, h.getF (f := F.PAIR_HOME.HOME) (by decide)]
  simp only [State.planChans, h.build, hfostering]

theorem State.KeepsUnit.holdCause (c : Nat) : t.holdCause c = s.holdCause c := by
  have hchan : ∀ i, t.chan i = s.chan i := fun i => by rw [State.chan, h.chans, State.chan]
  have hquad : ∀ i, t.quad i = s.quad i := fun i => by rw [State.quad, h.quads, State.quad]
  have hof : t.chanOf c = s.chanOf c := by simp only [State.chanOf, State.c0, h.build, h.right]
  simp only [State.holdCause, hchan, hquad, hof, h.asleep, h.build, h.pair, h.getF (f := F.PAIR_STAT.STATE) (by decide),
    h.getF (f := F.PWR_STAT.STATE) (by decide)]

end

/-! ## The plans taken at a boundary -/

theorem State.planRegs_keepsUnit (s : State) : State.KeepsUnit s s.planRegs := by
  have hheld : ∀ k ∈ List.range 3, 0xD0300 + 4 * k ∉ 0x400 :: unitRegs := by decide
  have hused : ∀ g, (rgF F.PLN_RAIL_STAT.USED_MA g).reg ∉ 0x400 :: unitRegs := by
    intro g hm
    obtain hsat | hm := List.mem_cons.1 hm
    · have := rgF_reg F.PLN_RAIL_STAT.USED_MA g
      simp only [hsat, F.PLN_RAIL_STAT.USED_MA] at this
      omega
    · exact railStat_apart (fun _ => rfl) g (List.mem_append_right _ hm)
  exact (State.KeepsUnit.foldl (fun _ k hk => State.keepsUnit_setF _ (hheld k hk)) s).trans
    (.foldl (fun _ g _ => State.keepsUnit_setF _ (hused g)) _)

theorem State.keepsUnit_planOverrun (s : State) : State.KeepsUnit s ((s.countSat F.PLN_OVERRUNS.COUNT 1).raise Ev.planOverrun) :=
  (State.keepsUnit_countSat 1 (by decide)).trans (State.keepsUnit_raise (by decide))

/-- The plans committed for the tick are in execution. -/
def takenPlan (p : Planner) : Planner := { p with exec := p.plans, hold := p.nextHold, plans := [] }

/-- Why a channel is held in a tick without a plan (Table 4-2). -/
def State.missedCause (s : State) (h : Nat) : Nat :=
  if s.fatal then (if s.build.pair then 5 else 8) else if s.holdCause h ≠ 0 then s.holdCause h else if s.planDue then 1 else 0

/-- No plan was committed for the tick: every channel is held. -/
def State.missedPlan (s : State) (p : Planner) : Planner :=
  { p with exec := [], plans := [], hold := s.planChans.foldl (fun m h => storePut (fun _ => 0) m h (s.missedCause h)) [], railMa := [] }

theorem State.takePlans_taken (h : s.pln.planTick = s.tickno ∧ s.clocked = true) : s.takePlans = (s.bumpPln takenPlan).planRegs :=
  if_pos (by simpa using h)

theorem State.takePlans_missed (h : ¬ (s.pln.planTick = s.tickno ∧ s.clocked = true)) : s.takePlans =
    if s.planDue then ((s.bumpPln s.missedPlan).planRegs.countSat F.PLN_OVERRUNS.COUNT 1).raise Ev.planOverrun
    else (s.bumpPln s.missedPlan).planRegs :=
  if_neg (by simpa using h)

theorem State.missedPlan_hold {h : Nat} (hh : h ∈ s.planChans) (hf : s.fatal = false) (hc : s.holdCause h ≠ 0) :
    cnt (s.missedPlan s.pln).hold h = s.holdCause h := by
  refine (storeGet_foldl_storePut s.missedCause [] s.planChans h).trans ((if_pos hh).trans ?_)
  simp [State.missedCause, hf, hc]

/-- What taking the plans does (R131, R135, R136): the plans of the tick go into execution whole; without them nothing does, and each channel is
held, for its own cause where it has one. -/
theorem State.takePlans_spec (s : State) : ∃ f : Planner → Planner, State.KeepsUnit (s.bumpPln f) s.takePlans ∧
    (f s.pln).planTick = s.pln.planTick ∧ (f s.pln).runItems = s.pln.runItems ∧ (f s.pln).runCycles = s.pln.runCycles ∧
    (s.clocked = true → s.pln.planTick = s.tickno → (f s.pln).exec = s.pln.plans) ∧
    (s.pln.planTick ≠ s.tickno → (f s.pln).exec = [] ∧
      ∀ h ∈ s.planChans, s.fatal = false → s.holdCause h ≠ 0 → cnt (f s.pln).hold h = s.holdCause h) := by
  by_cases h : s.pln.planTick = s.tickno ∧ s.clocked = true
  · rw [State.takePlans_taken h]
    exact ⟨takenPlan, State.planRegs_keepsUnit _, rfl, rfl, rfl, fun _ _ => rfl, fun hne => absurd h.1 hne⟩
  · rw [State.takePlans_missed h]
    refine ⟨s.missedPlan, ?_, rfl, rfl, rfl, fun hc htick => absurd ⟨htick, hc⟩ h, fun _ => ⟨rfl, fun _ => State.missedPlan_hold⟩⟩
    split
    · exact (State.planRegs_keepsUnit _).trans (State.keepsUnit_planOverrun _)
    · exact State.planRegs_keepsUnit _

/-! ## The boundary -/

theorem State.Keeps.regL (h : State.Keeps l s t) (o : Nat) : t.regL o = s.regL o := by
  simp only [State.regL, h.build, h.right, h.latch]

/-- What a boundary brings before the plans are taken (R129): the next TICKNO, the settings written before, fresh counts of the tick's items. -/
theorem State.tickOpen_spec (s : State) : ∃ u : State, s.tickOpen = u.takePlans ∧ u.tickno = (s.tickno + 1) % 2 ^ 64 ∧
    (∀ o ∈ [0xD0000, 0xD0400, 0xE0000, 0xE0100], u.regL o = s.reg o) ∧
    u.pln.plans = s.pln.plans ∧ u.pln.runItems = [] ∧ u.pln.runCycles = [] := by
  obtain ⟨v, f, hclose, hv, hf⟩ := s.closeTick_spec
  obtain ⟨hplans, -, hitems, hcycles⟩ := hf v.pln
  let w : State := { (v.bumpPln f).setF F.TCK_TICKNO.TICKNO ((v.bumpPln f).tickno + 1) with subUs := (v.bumpPln f).subUs + s.periodUs }
  have hw : State.Keeps [0xB0008] w.takeLatch w.takeLatch.pfailTick := State.pfailTick_keeps _
  have hpln : w.takeLatch.pfailTick.pln = f v.pln := hw.pln
  refine ⟨w.takeLatch.pfailTick, ?_, ?_, fun o ho => ?_, ?_, ?_, ?_⟩
  · rw [State.tickOpen, hclose]
  · have htick : v.tickno = s.tickno := State.getF_congr (hv.reg 0xB0008 (by decide))
    calc w.takeLatch.pfailTick.tickno
      _ = ((v.bumpPln f).setF F.TCK_TICKNO.TICKNO (v.tickno + 1)).tickno := State.getF_congr (hw.reg 0xB0008 (by decide))
      _ = (v.tickno + 1) % 2 ^ 64 := State.getF_setF_self _ _ _ (by decide)
      _ = (s.tickno + 1) % 2 ^ 64 := by rw [htick]
  · have hset : o ∈ boundaryRegs ∧ o ≠ 0xB0008 := by
      revert o
      decide
    rw [hw.regL, State.regL_takeLatch _ ho]
    exact (State.reg_setF_ne hset.2 : ((v.bumpPln f).setF F.TCK_TICKNO.TICKNO _).reg o = _).trans (hv.reg o hset.1)
  · rw [hpln, hplans, hv.pln]
  · rw [hpln, hitems]
  · rw [hpln, hcycles]

/-! ## The commands -/

theorem exec_tick_ticking (h : s.ticking = true) : exec .tick s = .next s.tickOpen.tickWork.tickBeat :=
  congrArg (fun u => Host.Outcome.next (State.tickBeat u)) (if_pos h)

theorem exec_tick_stopped (h : s.ticking = false) : exec .tick s = .next s.tickBeat :=
  congrArg (fun u => Host.Outcome.next (State.tickBeat u)) (if_neg (by simp [h]))

/-- Only DZ3-96P has a partner to send heartbeats to. -/
theorem State.tickBeat_alone (h : s.build.pair = false) : s.tickBeat = s := by
  simp [State.tickBeat, State.sendBeat, h]

theorem State.tickWork_stopped (h : s.clocked = false) : s.tickWork = s := by
  simp [State.tickWork, h]

theorem State.commitPlans_planTick (s : State) : s.commitPlans.pln.planTick = s.tickno + 1 := rfl

theorem exec_planCommit_due (hc : s.clocked = true) (h : s.pln.planTick ≠ s.tickno + 1) : exec .planCommit s = .next s.commitPlans :=
  congrArg Host.Outcome.next (if_pos (by simp [hc, h]))

theorem exec_planCommit_done (h : s.pln.planTick = s.tickno + 1) : exec .planCommit s = .next s :=
  congrArg Host.Outcome.next (if_neg (by simp [h]))

/-- Settles O16: the boundary is `State.tickOpen`, whose last part takes the plans; a commit notes the tick that it was for. -/
theorem tickAndCommit : Obligations.TickAndCommit := by
  unfold Obligations.TickAndCommit
  refine ⟨fun s h => ?tick, fun s h hpair => ?stopped, fun s hc h => ?commit⟩
  case tick =>
    obtain ⟨u, hopen, htick, hlatch, hplans, hitems, hcycles⟩ := s.tickOpen_spec
    obtain ⟨f, hkeeps, hplanTick, hrunItems, hrunCycles, htaken, hmissed⟩ := u.takePlans_spec
    have hpln : u.takePlans.pln = f u.pln := hkeeps.pln
    have hsame : u.takePlans.tickno = u.tickno := hkeeps.tickno
    rw [← hsame] at htick
    refine ⟨u.takePlans, _, hopen ▸ exec_tick_ticking h, rfl, htick, fun o ho => (hkeeps.regL o).trans (hlatch o ho), ?_, ?_, ?_, ?_, ?_⟩
    · rw [hpln, hrunItems, hitems]
    · rw [hpln, hrunCycles, hcycles]
    · rw [hpln, hplanTick, hsame, ← hplans]
      exact fun hc => htaken (hkeeps.clocked ▸ hc)
    · rw [hpln, hplanTick, hsame]
      intro hne
      obtain ⟨hexec, hhold⟩ := hmissed hne
      refine ⟨hexec, fun c hc hfatal hcause => ?_⟩
      rw [hkeeps.planChans] at hc
      rw [hkeeps.fatal] at hfatal
      rw [hkeeps.holdCause] at hcause ⊢
      exact hhold c hc hfatal hcause
    · intro hc hpair
      rw [State.tickWork_stopped hc, State.tickBeat_alone hpair]
  case stopped => rw [exec_tick_stopped h, State.tickBeat_alone hpair]
  case commit =>
    refine ⟨_, exec_planCommit_due hc h, s.commitPlans_planTick, fun htick => exec_planCommit_done ?_⟩
    rw [s.commitPlans_planTick, htick]

end Sys2Proof.Machine
end

section
/-! SUPPORT. The items of a tick's plan (R132, R134, R192, R193): what the routine of an item changes, with and without a fault, and what a channel
unit does with the item at the front of its plan. -/

namespace Sys2Proof.Machine

variable {s : State} {h p : Nat} {it : Item} {rest : List Item} {data rdb : List Byte} {waits : List Nat} {x : Nat}

/-! ## What the routine of an item changes -/

/-- A microcode fault is recorded in the channel unit and its registers: the dies, the codeword reads and the plan are as before (R193). -/
theorem State.mseqFault_keeps (s : State) (h r code slot pc : Nat) : (s.mseqFault h r code slot pc).dies = s.dies ∧
    (s.mseqFault h r code slot pc).cws = s.cws ∧ (s.mseqFault h r code slot pc).pln = s.pln := by
  have hchan : ∀ (t : State) (c : Nat) (y : Chan), (t.setChan c y).dies = t.dies ∧ (t.setChan c y).cws = t.cws ∧ (t.setChan c y).pln = t.pln :=
    fun _ _ _ => ⟨rfl, rfl, rfl⟩
  unfold State.mseqFault State.errTrain
  dsimp only
  split
  · split <;> simp [hchan]
  · simp [hchan]

theorem State.runOne_keeps (s : State) (h p r limit : Nat) (args : List Nat) (rdb : List Byte) (waits : List Nat) :
    (s.runOne h p r limit args rdb waits).1.dies = s.dies ∧ (s.runOne h p r limit args rdb waits).1.cws = s.cws ∧
      (s.runOne h p r limit args rdb waits).1.pln = s.pln := by
  unfold State.runOne
  dsimp only
  split
  · exact State.mseqFault_keeps _ _ _ _ _ _
  · exact ⟨rfl, rfl, rfl⟩

/-- What a routine holds at its end is the microsequencer's alone. -/
theorem State.runOne_snd (s : State) (h p r limit : Nat) (args : List Nat) (rdb : List Byte) (waits : List Nat) :
    (s.runOne h p r limit args rdb waits).2 = s.runRoutine (s.famOf p) r h limit args rdb waits := by
  unfold State.runOne
  dsimp only
  split <;> rfl

/-- Without a fault a routine only drives the bus. -/
theorem State.runOne_of_no_fault {r limit : Nat} {args : List Nat} (hf : (s.runOne h p r limit args rdb waits).2.fault = none) :
    (s.runOne h p r limit args rdb waits).1 =
      s.emit (.bus (s.chanOf h) r (s.runRoutine (s.famOf p) r h limit args rdb waits).bus) := by
  rw [State.runOne_snd] at hf
  unfold State.runOne
  dsimp only
  rw [hf]

/-! ## The routine of an item, and the volume selection before it (R188) -/

/-- The item's own routine, `before` cycles into the item. -/
def State.ownRoutine (s : State) (h : Nat) (it : Item) (call : Nat × List Nat) (rdb : List Byte) (waits : List Nat) (before : Nat) :
    State × Option Nat × Option Nat :=
  let t := s.runOne h it.pdie call.1 it.cost call.2 rdb waits
  (t.1.noteRun h (before + t.2.cycles), if t.2.fault.isSome then none else some (t.2.reg 7), t.2.fault)

/-- The routine that selects the volume of the item's die. -/
def State.volRoutine (s : State) (h : Nat) (it : Item) (rdb : List Byte) (waits : List Nat) : State × Mseq :=
  s.runOne h it.pdie rtVol (s.costOf (s.famOf it.pdie) rtVol h) (s.itemArgs it.pdie 0 0 0 0 0) rdb waits

/-- A volume is selected on a channel. -/
def State.setVolume (s : State) (c v : Nat) : State := s.setChan c { s.chan c with vol := some v }

/-- The state in which the item's own routine begins where the volume had to be selected. -/
def State.volSelected (s : State) (h : Nat) (it : Item) (rdb : List Byte) (waits : List Nat) : State :=
  (s.emit (.bus (s.chanOf h) rtVol (s.volRoutine h it rdb waits).2.bus)).setVolume (s.chanOf h) (s.pdie it.pdie).volume

section
variable (hv : (s.chan (s.chanOf h)).vol = some (s.pdie it.pdie).volume)
include hv

theorem State.runItem_selected : s.runItem h it rdb waits = s.ownRoutine h it (s.itemCall it) rdb waits 0 := if_pos hv

end

section
variable (hv : (s.chan (s.chanOf h)).vol ≠ some (s.pdie it.pdie).volume)
include hv

theorem State.runItem_unselected_fault (hf : (s.volRoutine h it rdb waits).2.fault.isSome = true) : s.runItem h it rdb waits =
    ((s.volRoutine h it rdb waits).1.noteRun h (s.volRoutine h it rdb waits).2.cycles, none, (s.volRoutine h it rdb waits).2.fault) :=
  (if_neg hv).trans (if_pos hf)

theorem State.runItem_unselected (hf : (s.volRoutine h it rdb waits).2.fault = none) : s.runItem h it rdb waits =
    (s.volSelected h it rdb waits).ownRoutine h it (s.itemCall it) (s.volRoutine h it rdb waits).2.rdb (s.volRoutine h it rdb waits).2.waits
      (s.volRoutine h it rdb waits).2.cycles := by
  have hsel : (s.volRoutine h it rdb waits).1 = s.emit (.bus (s.chanOf h) rtVol (s.volRoutine h it rdb waits).2.bus) := by
    rw [State.volRoutine, State.runOne_of_no_fault hf, State.runOne_snd]
  have hgo : ¬ (s.volRoutine h it rdb waits).2.fault.isSome = true := by simp [hf]
  rw [State.volSelected, ← hsel]
  exact (if_neg hv).trans (if_neg hgo)

end

/-- What running an item comes to: its own routine, at once or behind the volume selection, or a fault of the volume selection. -/
theorem State.runItem_cases (s : State) (h : Nat) (it : Item) (rdb : List Byte) (waits : List Nat) :
    s.runItem h it rdb waits = s.ownRoutine h it (s.itemCall it) rdb waits 0 ∨
    (∃ c n, s.runItem h it rdb waits = ((s.volRoutine h it rdb waits).1.noteRun h n, none, some c)) ∨
    ∃ rdb' waits' before, s.runItem h it rdb waits = (s.volSelected h it rdb waits).ownRoutine h it (s.itemCall it) rdb' waits' before := by
  by_cases hv : (s.chan (s.chanOf h)).vol = some (s.pdie it.pdie).volume
  · exact .inl (State.runItem_selected hv)
  · cases hf : (s.volRoutine h it rdb waits).2.fault with
    | none => exact .inr (.inr ⟨_, _, _, State.runItem_unselected hv hf⟩)
    | some c =>
      have hfault := State.runItem_unselected_fault hv (Option.isSome_iff_exists.2 ⟨c, hf⟩)
      rw [hf] at hfault
      exact .inr (.inl ⟨c, _, hfault⟩)

/-! ## The item as a whole -/

section
variable (s : State) (h : Nat) (it : Item) (rdb : List Byte) (waits : List Nat)

/-- Whatever comes of an item's routine, the dies, the codeword reads and the items of the tick are as before. -/
theorem State.ownRoutine_keeps (call : Nat × List Nat) (before : Nat) : (s.ownRoutine h it call rdb waits before).1.dies = s.dies ∧
    (s.ownRoutine h it call rdb waits before).1.cws = s.cws ∧ (s.ownRoutine h it call rdb waits before).1.pln.exec = s.pln.exec := by
  obtain ⟨hdies, hcws, hpln⟩ := s.runOne_keeps h it.pdie call.1 it.cost call.2 rdb waits
  exact ⟨hdies, hcws, (congrArg Planner.exec hpln : _)⟩

theorem State.runItem_keeps : (s.runItem h it rdb waits).1.dies = s.dies ∧ (s.runItem h it rdb waits).1.cws = s.cws ∧
    (s.runItem h it rdb waits).1.pln.exec = s.pln.exec := by
  obtain hrun | ⟨c, n, hrun⟩ | ⟨rdb', waits', before, hrun⟩ := s.runItem_cases h it rdb waits <;> rw [hrun]
  · exact s.ownRoutine_keeps h it rdb waits _ 0
  · obtain ⟨hdies, hcws, hpln⟩ := s.runOne_keeps h it.pdie rtVol (s.costOf (s.famOf it.pdie) rtVol h) (s.itemArgs it.pdie 0 0 0 0 0) rdb waits
    exact ⟨hdies, hcws, (congrArg Planner.exec hpln : _)⟩
  · exact State.ownRoutine_keeps _ h it _ _ _ _

theorem State.exItems_runItem (k : Nat) : (s.runItem h it rdb waits).1.exItems k = s.exItems k := by
  rw [State.exItems, (s.runItem_keeps h it rdb waits).2.2]
  rfl

/-- What an item's routine ends with does not depend on the items behind it. -/
theorem State.runItem_setExec (l : List Item) : ((s.setExec h l).runItem h it rdb waits).2 = (s.runItem h it rdb waits).2 := by
  have hown : ∀ (t : State) (call : Nat × List Nat) (rdb : List Byte) (waits : List Nat) (before : Nat),
      ((t.setExec h l).ownRoutine h it call rdb waits before).2 = (t.ownRoutine h it call rdb waits before).2 := by
    intro t call rdb waits before
    simp only [State.ownRoutine, State.runOne_snd]
    rfl
  have hvol : ((s.setExec h l).volRoutine h it rdb waits).2 = (s.volRoutine h it rdb waits).2 := by
    simp only [State.volRoutine, State.runOne_snd]
    rfl
  have hsel : (s.setExec h l).volSelected h it rdb waits = (s.volSelected h it rdb waits).setExec h l := by
    rw [State.volSelected, hvol]
    rfl
  by_cases hv : (s.chan (s.chanOf h)).vol = some (s.pdie it.pdie).volume
  · rw [State.runItem_selected hv, State.runItem_selected (s := s.setExec h l) hv]
    exact hown s (s.itemCall it) rdb waits 0
  · cases hf : (s.volRoutine h it rdb waits).2.fault with
    | none =>
      have hf' : ((s.setExec h l).volRoutine h it rdb waits).2.fault = none := by rw [hvol, hf]
      rw [State.runItem_unselected hv hf, State.runItem_unselected (s := s.setExec h l) hv hf', hvol, hsel]
      exact hown _ (s.itemCall it) _ _ _
    | some c =>
      have hf' : ((s.setExec h l).volRoutine h it rdb waits).2.fault.isSome = true := by rw [hvol, hf]; rfl
      rw [State.runItem_unselected_fault hv (hf ▸ rfl), State.runItem_unselected_fault (s := s.setExec h l) hv hf', hvol]

end

/-- A fault leaves no result. -/
theorem State.runItem_of_fault {c : Nat} (hx : (s.runItem h it rdb waits).2.2 = some c) : (s.runItem h it rdb waits).2.1 = none := by
  have hown : ∀ (t : State) (call : Nat × List Nat) (rdb : List Byte) (waits : List Nat) (before : Nat),
      (t.ownRoutine h it call rdb waits before).2.2 = some c → (t.ownRoutine h it call rdb waits before).2.1 = none := by
    intro t call rdb waits before hc
    exact if_pos (Option.isSome_iff_exists.2 ⟨c, hc⟩)
  obtain hrun | ⟨c', n, hrun⟩ | ⟨rdb', waits', before, hrun⟩ := s.runItem_cases h it rdb waits <;> rw [hrun] at hx ⊢
  · exact hown _ _ _ _ _ hx
  · exact hown _ _ _ _ _ hx

/-- The state behind an item that ran without a fault: its channel unit, what left the block, and the items and cycles of the tick. -/
def State.ranItem (s : State) (chans : Store Chan) (out : List Out) (items cycles : Store Nat) : State :=
  { s with chans := chans, out := out, pln := { s.pln with runItems := items, runCycles := cycles } }

theorem State.ownRoutine_of_no_fault {call : Nat × List Nat} {before : Nat} (hx : (s.ownRoutine h it call rdb waits before).2.1 = some x) :
    ∃ out items cycles, (s.ownRoutine h it call rdb waits before).1 = s.ranItem s.chans out items cycles := by
  have hf : (s.runOne h it.pdie call.1 it.cost call.2 rdb waits).2.fault = none := by
    by_contra hc
    have hnone := (if_pos (Option.isSome_iff_ne_none.2 hc)).symm.trans hx
    cases hnone
  rw [State.ownRoutine, State.runOne_of_no_fault hf]
  exact ⟨_, _, _, rfl⟩

theorem State.runItem_of_no_fault (hx : (s.runItem h it rdb waits).2.1 = some x) :
    ∃ chans out items cycles, (s.runItem h it rdb waits).1 = s.ranItem chans out items cycles := by
  obtain hrun | ⟨c, n, hrun⟩ | ⟨rdb', waits', before, hrun⟩ := s.runItem_cases h it rdb waits <;> rw [hrun] at hx ⊢
  · obtain ⟨out, items, cycles, hran⟩ := State.ownRoutine_of_no_fault hx
    exact ⟨_, out, items, cycles, hran⟩
  · cases hx
  · obtain ⟨out, items, cycles, hran⟩ := State.ownRoutine_of_no_fault hx
    exact ⟨_, out, items, cycles, hran⟩

/-! ## The item at the front of a plan (R132) -/

theorem State.frontIs_cons (hc : s.clocked = true) (hx : s.exItems h = it :: rest) (is : Act → Bool) : s.frontIs h is = is it.act := by
  simp [State.frontIs, hc, hx]

section
variable {u : State} (hx : s.exItems h = it :: rest) (ha : s.itemAlive it = true)
  (hu : ((s.setExec h rest).runItem h it rdb waits).1 = u)
include hx ha hu

theorem State.frontRun_faults (hd : it.act = .dout → data.length = it.len) (hr : ((s.setExec h rest).runItem h it rdb waits).2.1 = none) :
    s.frontRun h data rdb waits = u.itemFault h it := by
  subst hu
  simp only [State.frontRun, hx, ha, hr, Bool.not_true, Bool.false_eq_true, if_false]
  exact if_neg (fun hlen => hlen.2 (hd hlen.1))

variable (hr : ((s.setExec h rest).runItem h it rdb waits).2.1 = some x)
include hr

theorem State.frontRun_status (hact : it.act = .status) : s.frontRun h data rdb waits = u.statusGot h it.pdie (x % 256) := by
  subst hu
  simp [State.frontRun, hx, ha, hr, hact]

theorem State.frontRun_cmd (hact : it.act ∈ [Act.read, .prog, .erase, .resetLun]) : s.frontRun h data rdb waits = u.cmdDone it := by
  subst hu
  simp only [List.mem_cons, List.not_mem_nil, or_false] at hact
  obtain hact | hact | hact | hact := hact <;> simp [State.frontRun, hx, ha, hr, hact]

/-- What a transfer from the die has put out joins the codeword's part (R133). -/
theorem State.frontRun_dout (hact : it.act = .dout) (hlen : data.length = it.len)
    (hpart : (u.cw (it.jobs.headD 0)).part.length + it.len < u.cwBytes (u.famOf it.pdie)) : s.frontRun h data rdb waits =
      u.setCw (it.jobs.headD 0) { u.cw (it.jobs.headD 0) with part := (u.cw (it.jobs.headD 0)).part ++ data, faults := 0 } := by
  subst hu
  simp only [State.frontRun, hx, ha, hr, hact, hlen, Bool.not_true, Bool.false_eq_true, if_false, ne_eq, not_true, and_false]
  refine if_neg (Nat.not_le.2 ?_)
  rw [List.length_append, hlen]
  exact hpart

/-- A transfer into the die sends the next piece of its codeword's stream (R133, R139). -/
theorem State.frontRun_din (hact : it.act = .din) : ∃ g, s.frontRun h data rdb waits =
      (u.emit (.din (u.chanOf h) (slice (u.dinStream (u.prog (it.jobs.headD 0)) (it.jobs.getD 1 0)) it.off it.len))).setProg (it.jobs.headD 0) g ∧
    (u.progLen (u.prog (it.jobs.headD 0)) (it.jobs.getD 1 0) ≤ it.off + it.len → g.input = it.jobs.getD 1 0 + 1 ∧ g.part = 0) ∧
    (it.off + it.len < u.progLen (u.prog (it.jobs.headD 0)) (it.jobs.getD 1 0) →
      g.input = (u.prog (it.jobs.headD 0)).input ∧ g.part = it.off + it.len) := by
  subst hu
  simp only [State.frontRun, hx, ha, hr, hact, Bool.not_true, Bool.false_eq_true, if_false, reduceCtorEq, false_and]
  split
  next hend => exact ⟨_, rfl, fun _ => ⟨rfl, rfl⟩, fun hmore => absurd hend (Nat.not_le.2 hmore)⟩
  next hend => exact ⟨_, rfl, fun hlast => absurd hlast hend, fun _ => ⟨rfl, rfl⟩⟩

end

/-! ## What a command starts on its die (R134) -/

/-- A sense has begun for a codeword read. -/
def State.senseCw (s : State) (i : Nat) : State := s.setCw i { s.cw i with stage := .sensing, faults := 0, part := [] }

/-- The codeword reads of an item that still want its sense. -/
def State.sensedBy (s : State) (it : Item) : List Nat :=
  it.jobs.filter (fun i => s.cws.any (fun e => e.1 == i && e.2.stage == .want && e.2.need != [] && e.2.pdie == it.pdie))

theorem State.cmdDone_read (hact : it.act = .read) : ∃ o b, o.kind = .read ∧ o.lastRun = s.tickno ∧ o.cls = it.cls ∧
    s.cmdDone it = (s.sensedBy it).foldl State.senseCw (s.setDie it.pdie
      { s.die it.pdie with read := some o, senses := ((s.die it.pdie).senses + 1) % 2 ^ 32, burst := b }) := by
  unfold State.cmdDone
  rw [hact]
  exact ⟨_, _, rfl, rfl, rfl, rfl⟩

theorem State.cmdDone_prog (hact : it.act = .prog) : ∃ o, o.kind = .prog ∧ o.job = it.jobs.headD 0 ∧ o.lastRun = s.tickno ∧
    s.cmdDone it = ((s.setDie it.pdie { s.die it.pdie with op := some o }).noteOpened (s.prog (it.jobs.headD 0))).setProg (it.jobs.headD 0)
      { s.prog (it.jobs.headD 0) with running := true, faultAt := 0 } := by
  unfold State.cmdDone
  rw [hact]
  exact ⟨_, rfl, rfl, rfl, rfl⟩

theorem State.cmdDone_erase (hact : it.act = .erase) : ∃ o, o.kind = .erase ∧ o.job = it.jobs.headD 0 ∧ o.lastRun = s.tickno ∧
    s.cmdDone it = (s.setDie it.pdie { s.die it.pdie with op := some o }).setErase (it.jobs.headD 0)
      { s.eraseJob (it.jobs.headD 0) with running := true, faults := 0 } := by
  unfold State.cmdDone
  rw [hact]
  exact ⟨_, rfl, rfl, rfl, rfl⟩

theorem State.cmdDone_resetLun (hact : it.act = .resetLun) : ∃ o n, o.kind = .reset ∧ s.cmdDone it =
    s.setDie it.pdie { s.die it.pdie with op := some o, susp := none, kept := none, resetPend := false, resetTill := n } := by
  unfold State.cmdDone
  rw [hact]
  exact ⟨_, _, rfl, rfl⟩

@[simp] theorem State.die_setErase (s : State) (k : Nat) (y : EraseJob) (q : Nat) : (s.setErase k y).die q = s.die q := rfl
@[simp] theorem State.die_setProg (s : State) (k : Nat) (y : Prog) (q : Nat) : (s.setProg k y).die q = s.die q := rfl

/-- The first program of a band writes down its OPENED, in the band alone (R313). -/
theorem State.noteOpened_bands (s : State) (g : Prog) : ∃ bands, s.noteOpened g = { s with bands := bands } := by
  unfold State.noteOpened
  split
  · exact ⟨_, rfl⟩
  · exact ⟨_, rfl⟩
  · dsimp only
    split
    · exact ⟨_, rfl⟩
    · exact ⟨_, rfl⟩

@[simp] theorem State.die_noteOpened (s : State) (g : Prog) (q : Nat) : (s.noteOpened g).die q = s.die q := by
  obtain ⟨bands, h⟩ := s.noteOpened_bands g
  rw [h]
  rfl

@[simp] theorem State.noteOpened_pln (s : State) (g : Prog) : (s.noteOpened g).pln = s.pln := by
  obtain ⟨bands, h⟩ := s.noteOpened_bands g
  rw [h]

theorem State.foldl_senseCw_cws (l : List Nat) (s : State) : l.foldl State.senseCw s = { s with cws := (l.foldl State.senseCw s).cws } := by
  induction l generalizing s with
  | nil => rfl
  | cons i l ih =>
    rw [List.foldl_cons, ih]
    rfl

/-- A codeword read that is sensing stays so, and each of the list comes to it. -/
theorem State.foldl_senseCw_stage (l : List Nat) (s : State) {i : Nat} (hi : i ∈ l ∨ (s.cw i).stage = .sensing) :
    ((l.foldl State.senseCw s).cw i).stage = .sensing := by
  induction l generalizing s with
  | nil => exact hi.resolve_left List.not_mem_nil
  | cons k l ih =>
    refine ih _ ?_
    by_cases hk : i = k
    · exact .inr (by rw [hk, State.senseCw, State.cw_setCw])
    · refine hi.imp (fun h => (List.mem_cons.1 h).resolve_left hk) (fun h => ?_)
      rw [State.senseCw, State.cw_setCw_ne hk, h]

/-- A command that starts something leaves the plan and every other die as they are. -/
theorem State.cmdDone_keeps (hact : it.act ∈ [Act.read, .prog, .erase, .resetLun]) :
    (s.cmdDone it).pln = s.pln ∧ ∀ q, q ≠ it.pdie → (s.cmdDone it).die q = s.die q := by
  simp only [List.mem_cons, List.not_mem_nil, or_false] at hact
  obtain hact | hact | hact | hact := hact
  · obtain ⟨o, b, -, -, -, hdone⟩ := State.cmdDone_read (s := s) hact
    rw [hdone, State.foldl_senseCw_cws]
    exact ⟨rfl, fun q hq => (State.die_setDie_ne hq : (s.setDie it.pdie _).die q = _)⟩
  · obtain ⟨o, -, -, -, hdone⟩ := State.cmdDone_prog (s := s) hact
    rw [hdone]
    exact ⟨State.noteOpened_pln _ _, fun q hq => by rw [State.die_setProg, State.die_noteOpened, State.die_setDie_ne hq]⟩
  · obtain ⟨o, -, -, -, hdone⟩ := State.cmdDone_erase (s := s) hact
    rw [hdone]
    exact ⟨rfl, fun q hq => by rw [State.die_setErase, State.die_setDie_ne hq]⟩
  · obtain ⟨o, n, -, hdone⟩ := State.cmdDone_resetLun (s := s) hact
    rw [hdone]
    exact ⟨rfl, fun q hq => State.die_setDie_ne hq⟩

theorem State.cmdDone_senses (hact : it.act = .read) :
    (∃ o, ((s.cmdDone it).die it.pdie).read = some o ∧ o.kind = .read ∧ o.lastRun = s.tickno ∧ o.cls = it.cls) ∧
      ((s.cmdDone it).die it.pdie).op = (s.die it.pdie).op ∧
      ((s.cmdDone it).die it.pdie).senses = ((s.die it.pdie).senses + 1) % 2 ^ 32 ∧
      ∀ i ∈ s.sensedBy it, ((s.cmdDone it).cw i).stage = .sensing := by
  obtain ⟨o, b, hkind, hrun, hcls, hdone⟩ := State.cmdDone_read (s := s) hact
  have hdie : (s.cmdDone it).die it.pdie =
      { s.die it.pdie with read := some o, senses := ((s.die it.pdie).senses + 1) % 2 ^ 32, burst := b } := by
    rw [hdone, State.foldl_senseCw_cws]
    exact State.die_setDie _ _ _
  rw [hdie]
  refine ⟨⟨o, rfl, hkind, hrun, hcls⟩, rfl, rfl, fun i hi => ?_⟩
  rw [hdone]
  exact State.foldl_senseCw_stage _ _ (.inl hi)

theorem State.cmdDone_programs (hact : it.act = .prog) :
    (∃ o, ((s.cmdDone it).die it.pdie).op = some o ∧ o.kind = .prog ∧ o.job = it.jobs.headD 0 ∧ o.lastRun = s.tickno) ∧
      ((s.cmdDone it).prog (it.jobs.headD 0)).running = true := by
  obtain ⟨o, hkind, hjob, hrun, hdone⟩ := State.cmdDone_prog (s := s) hact
  rw [hdone, State.die_setProg, State.die_noteOpened, State.die_setDie, State.prog_setProg]
  exact ⟨⟨o, rfl, hkind, hjob, hrun⟩, rfl⟩

theorem State.cmdDone_erases (hact : it.act = .erase) :
    (∃ o, ((s.cmdDone it).die it.pdie).op = some o ∧ o.kind = .erase ∧ o.job = it.jobs.headD 0 ∧ o.lastRun = s.tickno) ∧
      ((s.cmdDone it).eraseJob (it.jobs.headD 0)).running = true := by
  obtain ⟨o, hkind, hjob, hrun, hdone⟩ := State.cmdDone_erase (s := s) hact
  rw [hdone, State.die_setErase, State.die_setDie, State.eraseJob_setErase]
  exact ⟨⟨o, rfl, hkind, hjob, hrun⟩, rfl⟩

theorem State.cmdDone_resets (hact : it.act = .resetLun) :
    (∃ o, ((s.cmdDone it).die it.pdie).op = some o ∧ o.kind = .reset) ∧ ((s.cmdDone it).die it.pdie).resetPend = false ∧
      ((s.cmdDone it).die it.pdie).susp = none := by
  obtain ⟨o, n, hkind, hdone⟩ := State.cmdDone_resetLun (s := s) hact
  rw [hdone, State.die_setDie]
  exact ⟨⟨o, rfl, hkind⟩, rfl, rfl⟩

/-! ## A status read (R355) -/

section
variable {o : ArrayOp} {sr : Nat}
  (hsr : sr &&& s.fp (s.famOf p) "STATUS_EXPECT" 1 0 = s.fp (s.famOf p) "STATUS_EXPECT" 0 0 &&& s.fp (s.famOf p) "STATUS_EXPECT" 1 0)
  (hop : (s.die p).op = none) (hrd : (s.die p).read = some o)
include hsr hop hrd

theorem State.statusGot_ready (hrdy : sr.testBit 6 = true) : s.statusGot h p sr = s.readReady p := by
  simp [State.statusGot, hsr, hop, hrd, hrdy]

theorem State.statusGot_busy (hrdy : sr.testBit 6 = false) :
    s.statusGot h p sr = (s.lateOp p).dropItems h (fun i => i.pdie == p) := by
  simp [State.statusGot, hsr, hop, hrd, hrdy]

end

/-- A sense that ended is under way no more: its codewords are in the page register. -/
theorem State.readReady_spec (s : State) (p : Nat) : ((s.readReady p).die p).read = none ∧ (s.readReady p).pln = s.pln ∧
    (∀ q, q ≠ p → (s.readReady p).die q = s.die q) ∧ ∀ e ∈ (s.readReady p).cws, e.2.pdie = p → e.2.stage ≠ .sensing := by
  refine ⟨congrArg Die.read (State.die_setDie s p _), rfl, fun q hq => (State.die_setDie_ne hq : (s.setDie p _).die q = _), fun e he hp => ?_⟩
  obtain ⟨e, -, rfl⟩ := List.mem_map.1 he
  by_cases hs : e.2.pdie == p && e.2.stage == .sensing
  · simp [hs]
  · rw [if_neg hs] at hp ⊢
    simpa [hp] using hs

/-- What is late is noted on the die and in its count (R360). -/
theorem State.lateOp_eq (s : State) (p : Nat) : ∃ (counts : Bool) (d : Die), s.lateOp p =
    (if counts then s.noteSat (s.die p).lateReady (satAdd 32 (s.die p).lateReady 1) (2 ^ 32 - 1) else s).setDie p d := ⟨_, _, rfl⟩

theorem State.lateOp_keeps (s : State) (p : Nat) : (s.lateOp p).cws = s.cws ∧ (s.lateOp p).pln = s.pln ∧
    ∀ q, q ≠ p → (s.lateOp p).die q = s.die q := by
  obtain ⟨counts, d, hd⟩ := s.lateOp_eq p
  rw [hd]
  refine ⟨?_, ?_, fun q hq => (State.die_setDie_ne hq).trans ?_⟩ <;> cases counts <;> simp [State.setDie, State.die]

/-- A sense is late from the first busy status at or after its estimated end (R360). -/
theorem State.lateOp_read (s : State) (p : Nat) : ((s.lateOp p).die p).read =
    (s.die p).read.map (fun o => { o with late := o.late || decide (o.est ≤ s.tickno) }) := by
  unfold State.lateOp
  dsimp only
  rw [State.die_setDie]
  cases (s.die p).read with
  | none => rfl
  | some o =>
    obtain ⟨_, _, _, _, _, _, est, _, _, _, late⟩ := o
    cases late <;> by_cases he : est ≤ s.tickno <;> simp [he]

theorem State.exItems_dropItems (s : State) (h : Nat) (drop : Item → Bool) :
    (s.dropItems h drop).exItems h = (s.exItems h).filter (fun i => !drop i) := State.exItems_setExec _ _ _

/-! ## The first fault of a sense (R193) -/

theorem State.itemFault_read {j : Nat} (hact : it.act = .read) (hj : it.jobs = [j]) (hin : s.cws.any (fun e => e.1 == j) = true)
    (hf : (s.cw j).faults = 0) : s.itemFault h it =
      (s.setDie it.pdie { s.die it.pdie with kept := none }).setCw j { s.cw j with faults := 1 } := by
  have hin' : (s.setDie it.pdie { s.die it.pdie with kept := none }).cws.any (fun e => e.1 == j) = true := hin
  have hf' : ((s.setDie it.pdie { s.die it.pdie with kept := none }).cw j).faults = 0 := hf
  simp only [State.itemFault, hact, hj, List.foldl_cons, List.foldl_nil, hin', hf', Bool.not_true, Bool.false_eq_true, if_false, if_true]
  rfl

/-! ## The commands of a channel unit -/

section
variable (hc : s.clocked = true) (hx : s.exItems h = it :: rest)
include hc hx

theorem exec_cmdItem (hact : it.act ∈ [Act.read, .prog, .erase, .resetLun]) :
    exec (.cmdItem h rdb waits) s = .next (s.frontRun h [] rdb waits) := by
  have hcmd : Act.cmd it.act = true := by
    revert hact
    cases it.act <;> decide
  show execCmdItem h rdb waits s = _
  rw [execCmdItem, State.frontIs_cons hc hx, if_pos hcmd]

theorem exec_statusItem (hact : it.act = .status) : exec (.statusItem h rdb waits) s = .next (s.frontRun h [] rdb waits) := by
  show execStatusItem h rdb waits s = _
  rw [execStatusItem, State.frontIs_cons hc hx, if_pos (by rw [hact]; rfl)]

theorem exec_doutItem (hact : it.act = .dout) : exec (.doutItem h data rdb waits) s = .next (s.frontRun h data rdb waits) := by
  show execDoutItem h data rdb waits s = _
  rw [execDoutItem, State.frontIs_cons hc hx, if_pos (by rw [hact]; rfl)]

theorem exec_dinItem (hact : it.act = .din) : exec (.dinItem h rdb waits) s = .next (s.frontRun h [] rdb waits) := by
  show execDinItem h rdb waits s = _
  rw [execDinItem, State.frontIs_cons hc hx, if_pos (by rw [hact]; rfl)]

theorem exec_mseqOverrun (ht : it.act ≠ .train) (ha : s.itemAlive it = true) (hr : (s.runItem h it rdb waits).2.2 = some 1) :
    exec (.mseqOverrun h rdb waits) s = .next (s.frontRun h (List.replicate it.len 0#8) rdb waits) := by
  show execMseqOverrun h rdb waits s = _
  simp [execMseqOverrun, hx, hc, ha, hr, ht]

end

/-- Settles O29: the item's routine leaves the die to what it starts, or, where it faults, to the loss of its loaded offsets. -/
theorem commandItemsAndOverrun : Obligations.CommandItemsAndOverrun := by
  unfold Obligations.CommandItemsAndOverrun
  refine ⟨?command, ?overrun⟩
  case command =>
    intro s h it rest rdb waits x hc hx ha hr hact
    obtain ⟨chans, out, items, cycles, hu⟩ := State.runItem_of_no_fault hr
    refine ⟨_, (exec_cmdItem hc hx hact).trans (congrArg Host.Outcome.next (State.frontRun_cmd hx ha hu hr hact)), ?_⟩
    have hex : ((s.setExec h rest).ranItem chans out items cycles).exItems h = rest := State.exItems_setExec s h rest
    obtain ⟨hpln, hothers⟩ := State.cmdDone_keeps (s := (s.setExec h rest).ranItem chans out items cycles) hact
    refine ⟨?_, hothers, fun hread => ?_, State.cmdDone_programs, State.cmdDone_erases, State.cmdDone_resets⟩
    · rw [State.exItems, hpln]
      exact hex
    · obtain ⟨hdie, hop, hsenses, hstage⟩ := State.cmdDone_senses (s := (s.setExec h rest).ranItem chans out items cycles) hread
      exact ⟨hdie, hop, hsenses, fun i hi hwants => hstage i (List.mem_filter.2 ⟨hi, hwants⟩)⟩
  case overrun =>
    intro s h it rest rdb waits j hc hx ha hr hact hj hin hf
    obtain ⟨hdies, hcws, -⟩ := (s.setExec h rest).runItem_keeps h it rdb waits
    have hex : ((s.setExec h rest).runItem h it rdb waits).1.exItems h = rest := by
      rw [State.exItems_runItem, State.exItems_setExec]
    generalize hu : ((s.setExec h rest).runItem h it rdb waits).1 = u at hdies hcws hex
    have hnone : ((s.setExec h rest).runItem h it rdb waits).2.1 = none :=
      State.runItem_of_fault (by rw [State.runItem_setExec, hr])
    have hdie : ∀ q, u.die q = s.die q := fun q => by rw [State.die, hdies]; rfl
    have hcw : ∀ i, u.cw i = s.cw i := fun i => by rw [State.cw, hcws]; rfl
    have hin' : u.cws.any (fun e => e.1 == j) = true := by rw [hcws]; exact hin
    refine ⟨_, exec_mseqOverrun hc hx (by simp [hact]) ha hr, ?_⟩
    rw [State.frontRun_faults hx ha hu (by simp) hnone, State.itemFault_read hact hj hin' (hcw j ▸ hf), hcw, hdie]
    refine ⟨State.cw_setCw _ _ _, fun i hi => ?_, hex, State.die_setDie u _ _, fun q hq => ?_⟩
    · rw [State.cw_setCw_ne hi]
      exact hcw i
    · exact (State.die_setDie_ne hq : (u.setDie _ _).die q = _).trans (hdie q)

/-- Settles O30: a status read by what RDY says, a transfer by what its routine leaves of the codeword's part and stream. -/
theorem statusAndDataItems : Obligations.StatusAndDataItems := by
  unfold Obligations.StatusAndDataItems
  refine ⟨?status, ?data⟩
  case status =>
    intro s h it rest rdb waits x hc hx hact hr hsr o hop hrd
    have ha : s.itemAlive it = true := by rw [State.itemAlive, hact]
    have hbit : (x % 256).testBit 6 = x.testBit 6 := by simp [Nat.testBit_mod_two_pow x 8 6]
    obtain ⟨chans, out, items, cycles, hu⟩ := State.runItem_of_no_fault hr
    have hexec := (exec_statusItem (rdb := rdb) (waits := waits) hc hx hact).trans
      (congrArg Host.Outcome.next (State.frontRun_status hx ha hu hr hact))
    refine ⟨fun hrdy => ?_, fun hrdy => ?_⟩
    · rw [State.statusGot_ready (s := (s.setExec h rest).ranItem chans out items cycles) hsr hop hrd (hbit.trans hrdy)] at hexec
      obtain ⟨hnone, hpln, hothers, hcws⟩ := ((s.setExec h rest).ranItem chans out items cycles).readReady_spec it.pdie
      refine ⟨_, hexec, hnone, ?_, hcws, hothers⟩
      rw [State.exItems, hpln]
      exact State.exItems_setExec s h rest
    · rw [State.statusGot_busy (s := (s.setExec h rest).ranItem chans out items cycles) hsr hop hrd (hbit.trans hrdy)] at hexec
      obtain ⟨hcws, hpln, hothers⟩ := ((s.setExec h rest).ranItem chans out items cycles).lateOp_keeps it.pdie
      have hread := ((s.setExec h rest).ranItem chans out items cycles).lateOp_read it.pdie
      refine ⟨_, { o with late := o.late || decide (o.est ≤ s.tickno) }, hexec, ?_, rfl, by simp, ?_, hcws, hothers⟩
      · exact hread.trans (congrArg (Option.map _) hrd)
      · rw [State.exItems_dropItems, State.exItems, hpln]
        exact congrArg (List.filter _) (State.exItems_setExec s h rest)
  case data =>
    intro s h it rest data rdb waits x hc hx ha hr
    obtain ⟨chans, out, items, cycles, hu⟩ := State.runItem_of_no_fault hr
    have hex := State.exItems_setExec s h rest
    refine ⟨fun hact hlen hpart => ?_, fun hact => ?_⟩
    · refine ⟨_, (exec_doutItem hc hx hact).trans (congrArg Host.Outcome.next (State.frontRun_dout hx ha hu hr hact hlen hpart)), ?_⟩
      rw [State.cw_setCw]
      exact ⟨rfl, rfl, fun i hi => State.cw_setCw_ne hi, hex, rfl⟩
    · obtain ⟨g, hrun, hlast, hmore⟩ := State.frontRun_din (data := []) hx ha hu hr hact
      refine ⟨_, _, (exec_dinItem hc hx hact).trans (congrArg Host.Outcome.next hrun), rfl, ?_⟩
      rw [State.prog_setProg]
      exact ⟨hlast, hmore, fun j hj => State.prog_setProg_ne hj, hex, rfl⟩

end Sys2Proof.Machine
end

section
/-! SUPPORT. What enumeration, calibration and retraining share: a step taken for each member of a list, the registers of the channel units, and the
count and the failure of a ZQ calibration (R199, R200). -/

namespace Sys2Proof.Machine

variable {s : State} {f g : Field} {q : Nat}

/-! ## Steps taken for each member of a list -/

/-- What no step for a member of a list changes is, behind the list, as before it. -/
theorem foldl_keeps {α β γ : Type} {f : β → α → β} {g : β → γ} {l : List α} (hf : ∀ b, ∀ a ∈ l, g (f b a) = g b) (b : β) :
    g (l.foldl f b) = g b :=
  List.foldlRecOn l f (motive := fun c => g c = g b) rfl fun c hc a ha => (hf c a ha).trans hc

/-- What the step for one member alone changes is, behind the list, as behind that step. -/
theorem foldl_changes_once {α β γ : Type} {f : β → α → β} {g : β → γ} {l : List α} {a : α} (hl : l.Nodup) (ha : a ∈ l)
    (hf : ∀ b, ∀ c ∈ l, c ≠ a → g (f b c) = g b) (b : β) : ∃ b', g b' = g b ∧ g (l.foldl f b) = g (f b' a) := by
  obtain ⟨l₁, l₂, rfl⟩ := List.append_of_mem ha
  obtain ⟨-, hl₂, hne⟩ := List.nodup_append.1 hl
  refine ⟨l₁.foldl f b, foldl_keeps (fun b c hc => hf b c (by simp [hc]) (hne c hc a (by simp))) b, ?_⟩
  rw [List.foldl_append, List.foldl_cons]
  exact foldl_keeps (fun b c hc => hf b c (by simp [hc]) (fun e => (List.nodup_cons.1 hl₂).1 (e ▸ hc))) _

/-! ## Registers of the channel units -/

theorem Field.apart_of_reg_ne (h : f.reg ≠ g.reg) : f.apart g = true := by simp [Field.apart, h]

/-- The registers of the channel units stand above those of faults and events. -/
theorem State.reg_raise_above {src o : Nat} (hs : src < 512) (ho : 0x20840 ≤ o) : (s.raise src).reg o = s.reg o :=
  State.reg_raise (by omega)

theorem State.reg_countSat_above {n o : Nat} (hf : o ≠ f.reg) (ho : 0x20840 ≤ o) : (s.countSat f n).reg o = s.reg o :=
  State.reg_countSat hf (by omega) (by simp only [Ev.counterSaturated]; omega)

theorem State.getF_countSat_above {n : Nat} (h64 : f.hi < 64) (ho : 0x20840 ≤ f.reg) :
    (s.countSat f n).getF f = satAdd (spanBits f.hi f.lo) (s.getF f) n :=
  State.getF_countSat s f n h64 (by omega) (by simp only [Ev.counterSaturated]; omega)

/-- The channels and quads of the unit itself have the registers of the table. -/
theorem chF_home (f : Nat → Field) {h : Nat} (hh : h < 96) : chF f h = f h := if_pos hh
theorem qF_home (f : Nat → Field) (hq : q < 24) : qF f q = f q := if_pos hq

/-! ## ZQ calibration (R199, R200) -/

/-- A code at an end of its range. -/
def zqLimited (up down : Nat) : Bool := (up == 0 || decide (63 ≤ up)) || (down == 0 || decide (63 ≤ down))

theorem zqLimited_iff {up down : Nat} : zqLimited up down = true ↔ up = 0 ∨ 63 ≤ up ∨ down = 0 ∨ 63 ≤ down := by
  simp [zqLimited, or_assoc]

theorem zqLimited_false {up down : Nat} (hu : 0 < up) (hu' : up < 63) (hd : 0 < down) (hd' : down < 63) : zqLimited up down = false := by
  rw [← Bool.not_eq_true, zqLimited_iff]
  omega

/-- The state in which a calibration of a quad is counted, its tick and temperature noted. -/
def State.zqNoted (s : State) (q : Nat) : State :=
  (s.countWrap (F.CHU_QUAD_ZQ.CALS q) 1).setQuad q { s.quad q with zqTemp := s.quadTempOf q, zqTick := s.tickno }

/-- The state in which a calibration that ended at a limit is raised and counted on the quad's channels. -/
def State.zqFailed (s : State) (q : Nat) : State :=
  (List.range 4).foldl (fun s k => s.countSat (F.CHU_ERR.ZQ_FAILS (4 * q + k)) 1) (s.raise Ev.zqFault)

@[simp] theorem State.quad_zqNoted (s : State) (q : Nat) :
    (s.zqNoted q).quad q = { s.quad q with zqTemp := s.quadTempOf q, zqTick := s.tickno } := State.quad_setQuad _ _ _

theorem State.zqNoted_cals (s : State) (q : Nat) :
    (s.zqNoted q).getF (F.CHU_QUAD_ZQ.CALS q) = (s.getF (F.CHU_QUAD_ZQ.CALS q) + 1) % 2 ^ 15 := by
  rw [State.zqNoted, State.setQuad_getF, State.countWrap, State.getF_setF_self _ _ _ (by decide : 14 < 64)]
  rfl

theorem State.reg_zqNoted {o : Nat} (ho : o ≠ (F.CHU_QUAD_ZQ.CALS q).reg) : (s.zqNoted q).reg o = s.reg o := by
  rw [State.zqNoted, State.setQuad_reg, State.countWrap, State.reg_setF_ne ho]

theorem State.zqFailed_quads (s : State) (q : Nat) : (s.zqFailed q).quads = s.quads :=
  (foldl_keeps (g := State.quads) (fun s _ _ => State.countSat_quads s _ _) _).trans (State.raise_quads _ _)

theorem State.zqFailed_census (s : State) (q : Nat) : (s.zqFailed q).census = s.census :=
  (foldl_keeps (g := State.census) (fun s _ _ => State.countSat_census s _ _) _).trans (State.raise_census _ _)

/-- The registers of quads are none of those in which a failed calibration is counted. -/
theorem State.reg_zqFailed (hq : q < 24) {o : Nat} (ho : 0x120000 ≤ o) : (s.zqFailed q).reg o = s.reg o := by
  refine (foldl_keeps (g := fun s => State.reg s o) (fun s k hk => State.reg_countSat_above ?_ (by omega)) _).trans
    (State.reg_raise_above (by decide) (by omega))
  have := List.mem_range.1 hk
  simp only [F.CHU_ERR.ZQ_FAILS]
  omega

theorem State.zqFailed_raises (s : State) (q : Nat) : (s.zqFailed q).isPending Ev.zqFault = true := by
  refine (foldl_keeps (g := fun s => State.isPending s Ev.zqFault) (fun s _ _ => State.isPending_congr rfl ?_) _).trans
    (State.isPending_raise rfl rfl)
  refine State.getF_countSat_apart (by decide) (Field.apart_of_reg_ne ?_) (by decide) (by decide)
  simp only [pendF, Ev.zqFault, F.CHU_ERR.ZQ_FAILS]
  omega

/-- Each channel of the quad has a counter of its own. -/
theorem State.zqFailed_counts (s : State) (q : Nat) {k : Nat} (hk : k < 4) : (s.zqFailed q).getF (F.CHU_ERR.ZQ_FAILS (4 * q + k)) =
    satAdd 16 (s.getF (F.CHU_ERR.ZQ_FAILS (4 * q + k))) 1 := by
  have habove : ∀ i, 0x20840 ≤ (F.CHU_ERR.ZQ_FAILS i).reg := fun i => by simp only [F.CHU_ERR.ZQ_FAILS]; omega
  obtain ⟨u, hu, hk'⟩ := foldl_changes_once (g := fun s => State.getF s (F.CHU_ERR.ZQ_FAILS (4 * q + k)))
    (f := fun s k => s.countSat (F.CHU_ERR.ZQ_FAILS (4 * q + k)) 1) List.nodup_range (List.mem_range.2 hk)
    (fun s j _ hj => State.getF_congr (State.reg_countSat_above (by simp only [F.CHU_ERR.ZQ_FAILS]; omega) (habove _))) (s.raise Ev.zqFault)
  calc (s.zqFailed q).getF (F.CHU_ERR.ZQ_FAILS (4 * q + k))
      = satAdd 16 (u.getF (F.CHU_ERR.ZQ_FAILS (4 * q + k))) 1 := hk'.trans (State.getF_countSat_above (by decide : 15 < 64) (habove _))
    _ = satAdd 16 (s.getF (F.CHU_ERR.ZQ_FAILS (4 * q + k))) 1 := by
        rw [hu, State.getF_congr (State.reg_raise_above (by decide) (habove _))]

end Sys2Proof.Machine
end

section
/-! SUPPORT. Enumeration of a quad (R178, R199) and the idle check of a rail group (R219). -/

namespace Sys2Proof.Machine

variable {s : State} {q g mv up down : Nat} {l : List (List RomVolume)}

/-! ## ROM_ENUMERATE -/

/-- The state in which a quad's VCCQ reading is noted. -/
def State.vccqRead (s : State) (q mv : Nat) : State :=
  { s with telem := { s.telem with vccqMv := storePut (fun _ => 0) s.telem.vccqMv q mv } }

/-- What a long calibration leaves in the quad's registers: its codes, or LIMITED where it ended at a limit. -/
def State.zqLong (s : State) (q up down : Nat) : State :=
  if zqLimited up down then (s.setF (F.CHU_QUAD_ZQ.LIMITED q) 1).zqFailed q
  else (s.setF (F.CHU_QUAD_ZQ.PULLUP q) up).setF (F.CHU_QUAD_ZQ.PULLDOWN q) down

/-- The answers of a quad's channels to the ROM routine. -/
def romAnswers (q : Nat) (l : List (List RomVolume)) (c : Census) : Census :=
  { c with roms := c.roms ++ [q], rom := storePut (fun _ => []) c.rom q l }

section
variable (hw : s.working = true) (hp : s.pf.settle = false) (hs : s.stage = 2 ∨ s.stage = 3) (hi : s.census.imaged = true)
  (hq : s.quadWanted q = true) (hr : q ∉ s.census.roms) (hb : s.census.brought = false)
include hw hp hs hi hq hr hb

theorem exec_romEnumerate : exec (.romEnumerate q mv up down l) s = .next (
    if s.vccqOff q mv 5 then (s.vccqRead q mv).updCensus (fun (c : Census) => { c with roms := c.roms ++ [q], out := c.out ++ [q] })
    else (((s.vccqRead q mv).zqNoted q).zqLong q up down).updCensus (romAnswers q l)) := by
  show execRomEnumerate q mv up down l s = _
  rw [execRomEnumerate, if_neg (by rcases hs with hs | hs <;> simp [hw, hp, hs, hi, hq, hr, hb])]
  rfl

end

theorem State.quadWanted_lt (h : s.quadWanted q = true) : q < 24 := by
  simp only [State.quadWanted, Bool.and_eq_true, decide_eq_true_eq] at h
  have : s.build.quads ≤ 24 := by cases s.build <;> decide
  omega

theorem State.zqLong_quads (s : State) : (s.zqLong q up down).quads = s.quads := by
  unfold State.zqLong
  split
  · rw [State.zqFailed_quads, State.setF_quads]
  · rfl

theorem State.zqLong_census (s : State) : (s.zqLong q up down).census = s.census := by
  unfold State.zqLong
  split
  · rw [State.zqFailed_census, State.setF_census]
  · rfl

/-- LIMITED and the codes share a register with CALS, and no bits. -/
theorem State.zqLong_cals (hq : q < 24) : (s.zqLong q up down).getF (F.CHU_QUAD_ZQ.CALS q) = s.getF (F.CHU_QUAD_ZQ.CALS q) := by
  have h64 : (F.CHU_QUAD_ZQ.CALS q).hi < 64 := (by decide : 14 < 64)
  unfold State.zqLong
  split
  · rw [State.getF_congr (State.reg_zqFailed hq (Nat.le_add_right_of_le (by decide))),
      State.getF_setF_apart _ _ _ _ (by simp [Field.apart, F.CHU_QUAD_ZQ.CALS, F.CHU_QUAD_ZQ.LIMITED]) h64]
  · rw [State.getF_setF_apart _ _ _ _ (by simp [Field.apart, F.CHU_QUAD_ZQ.CALS, F.CHU_QUAD_ZQ.PULLDOWN]) h64,
      State.getF_setF_apart _ _ _ _ (by simp [Field.apart, F.CHU_QUAD_ZQ.CALS, F.CHU_QUAD_ZQ.PULLUP]) h64]

theorem State.zqLong_codes (hl : zqLimited up down = false) (hu : up < 64) (hd : down < 64) :
    (s.zqLong q up down).getF (F.CHU_QUAD_ZQ.PULLUP q) = up ∧ (s.zqLong q up down).getF (F.CHU_QUAD_ZQ.PULLDOWN q) = down ∧
    regsKept s (s.zqLong q up down) [(F.CHU_QUAD_ZQ.CALS q).reg] := by
  simp only [State.zqLong, hl, Bool.false_eq_true, if_false]
  refine ⟨?_, ?_, fun o ho => ?_⟩
  · rw [State.getF_setF_apart _ _ _ _ (by simp [Field.apart, F.CHU_QUAD_ZQ.PULLUP, F.CHU_QUAD_ZQ.PULLDOWN]) (by decide : 29 < 64),
      State.getF_setF_self _ _ _ (by decide : 29 < 64)]
    exact Nat.mod_eq_of_lt hu
  · rw [State.getF_setF_self _ _ _ (by decide : 21 < 64)]
    exact Nat.mod_eq_of_lt hd
  · have hne := List.ne_of_not_mem_cons ho
    exact (State.reg_setF_ne (f := F.CHU_QUAD_ZQ.PULLDOWN q) hne).trans (State.reg_setF_ne (f := F.CHU_QUAD_ZQ.PULLUP q) hne)

theorem State.zqLong_limited (hq : q < 24) (hl : zqLimited up down = true) :
    (s.zqLong q up down).flag (F.CHU_QUAD_ZQ.LIMITED q) = true ∧ (s.zqLong q up down).isPending Ev.zqFault = true ∧
    ∀ k, k < 4 → (s.zqLong q up down).getF (F.CHU_ERR.ZQ_FAILS (4 * q + k)) = satAdd 16 (s.getF (F.CHU_ERR.ZQ_FAILS (4 * q + k))) 1 := by
  simp only [State.zqLong, hl, if_true]
  refine ⟨?_, State.zqFailed_raises _ _, fun k hk => ?_⟩
  · rw [State.flag_congr (State.reg_zqFailed hq (Nat.le_add_right_of_le (by decide))), State.flag,
      State.getF_setF_self _ _ _ (by decide : 15 < 64)]
    rfl
  · rw [State.zqFailed_counts _ _ hk]
    congr 1
    exact State.getF_congr (State.reg_setF_ne (by simp only [F.CHU_ERR.ZQ_FAILS, F.CHU_QUAD_ZQ.LIMITED]; omega))

/-! ## RAIL_IDLE_CHECK -/

/-- How far a mean lies from the nominal value. -/
def offNominal (mean nom : Nat) : Nat := if mean ≤ nom then nom - mean else mean - nom

/-- The idle samples of a rail group. -/
def State.idleSamples (s : State) (g : Nat) : List Nat := storeGet (fun _ => []) s.census.idle g

/-- The state in which a rail group is decided. -/
def State.idleDecided (s : State) (g : Nat) : State := s.updCensus (fun (c : Census) => { c with idleDone := c.idleDone ++ [g] })

/-- The quads that a rail group feeds. -/
def State.railQuads (s : State) (g : Nat) : List Nat := (List.range s.build.quads).filter (fun q => s.railOf q == some g)

/-- What the idle check does with one rail group. -/
def State.idleCheck (s : State) (g : Nat) : State :=
  if s.census.idleDone.contains g ∨ (s.idleSamples g).length < 64 then s
  else if 10 * offNominal ((s.idleSamples g).sum / 64) (s.getF (F.PLN_RAIL_CFG.NOMINAL_MV g)) ≤ s.getF (F.PLN_RAIL_CFG.NOMINAL_MV g) then
    s.idleDecided g
  else ((s.idleDecided g).updCensus (fun (c : Census) => { c with out := c.out ++ s.railQuads g })).raise Ev.railFault

theorem exec_railIdleCheck (hw : s.working = true) (hs : s.stage = 2) (hi : s.census.imaged = true) (hp : s.pf.settle = false) :
    exec .railIdleCheck s = .next (s.railsInUse.foldl State.idleCheck s) := by
  show execRailIdleCheck s = _
  rw [execRailIdleCheck, if_neg (by simp [hw, hs, hi, hp])]
  rfl

theorem State.idleCheck_waits (h : (s.idleSamples g).length < 64) : s.idleCheck g = s := if_pos (.inr h)

section
variable (hd : g ∉ s.census.idleDone) (hl : 64 ≤ (s.idleSamples g).length)
include hd hl

theorem State.idleCheck_within (hm : 10 * offNominal ((s.idleSamples g).sum / 64) (s.getF (F.PLN_RAIL_CFG.NOMINAL_MV g)) ≤
    s.getF (F.PLN_RAIL_CFG.NOMINAL_MV g)) : s.idleCheck g = s.idleDecided g := by
  rw [State.idleCheck, if_neg (by simp [hd, hl]), if_pos hm]

theorem State.idleCheck_off (hm : s.getF (F.PLN_RAIL_CFG.NOMINAL_MV g) <
    10 * offNominal ((s.idleSamples g).sum / 64) (s.getF (F.PLN_RAIL_CFG.NOMINAL_MV g))) : s.idleCheck g =
    ((s.idleDecided g).updCensus (fun (c : Census) => { c with out := c.out ++ s.railQuads g })).raise Ev.railFault := by
  rw [State.idleCheck, if_neg (by simp [hd, hl]), if_neg (Nat.not_le.2 hm)]

end

/-- An event changes the registers and the event concentrator alone. -/
theorem State.raise_eq (s : State) (src : Nat) : s.raise src = { s with regs := (s.raise src).regs, evc := (s.raise src).evc } := by
  unfold State.raise
  split
  · rfl
  · dsimp only
    split <;> rfl

/-- Settles O25: a quad is left out, or its long calibration leaves codes or LIMITED; a rail group's idle samples are too few, within 10 %, or off. -/
theorem enumerationOfQuads : Obligations.EnumerationOfQuads := by
  unfold Obligations.EnumerationOfQuads
  refine ⟨?enumerate, ?idle⟩
  case enumerate =>
    intro s q mv up down l hw hp hs hi hq hr hb
    have hexec := exec_romEnumerate (mv := mv) (up := up) (down := down) (l := l) hw hp hs hi hq hr hb
    have hq24 := State.quadWanted_lt hq
    refine ⟨fun hoff => ?_, fun hoff => ?_⟩ <;> simp only [hoff, if_true, Bool.false_eq_true, if_false] at hexec
    · exact ⟨_, hexec, rfl, rfl⟩
    · have hout : (((s.vccqRead q mv).zqNoted q).zqLong q up down).census.out = s.census.out := congrArg Census.out (State.zqLong_census _)
      have hother : ∀ o, o ≠ (F.CHU_QUAD_ZQ.CALS q).reg → ((s.vccqRead q mv).zqNoted q).reg o = s.reg o := fun o ho => State.reg_zqNoted ho
      refine ⟨_, hexec, ?_, hout, storeGet_storePut_self, ?_, ?_, fun hu hu' hd hd' => ?_, fun hlim => ?_⟩
      · exact List.mem_append_right _ (List.mem_singleton_self q)
      · exact (State.zqLong_cals hq24).trans (State.zqNoted_cals _ q)
      · simp only [State.quad, State.updCensus_quads, State.zqLong_quads]
        exact congrArg Quad.zqTick (State.quad_zqNoted (s.vccqRead q mv) q)
      · obtain ⟨hup, hdown, hkept⟩ := State.zqLong_codes (s := (s.vccqRead q mv).zqNoted q) (q := q) (zqLimited_false hu hu' hd hd')
          (by omega) (by omega)
        exact ⟨hup, hdown, fun o ho => (hkept o ho).trans (hother o (List.ne_of_not_mem_cons ho))⟩
      · obtain ⟨hflag, hevent, hcounts⟩ := State.zqLong_limited (s := (s.vccqRead q mv).zqNoted q) hq24 (zqLimited_iff.2 hlim)
        refine ⟨hflag, hevent, fun k hk => (hcounts k hk).trans ?_⟩
        rw [State.getF_congr (hother _ (by simp only [F.CHU_ERR.ZQ_FAILS, F.CHU_QUAD_ZQ.CALS]; omega))]
  case idle =>
    intro s g l hw hs hi hp hg hl hd
    subst hl
    have hexec : exec .railIdleCheck s = .next (s.idleCheck g) := by rw [exec_railIdleCheck hw hs hi hp, hg]; rfl
    refine ⟨fun hlen => ?_, fun hlen d hoff => ⟨fun hm => ?_, fun hm => ?_⟩⟩
    · rw [hexec, State.idleCheck_waits hlen]
    · subst hoff
      exact ⟨_, hexec.trans (congrArg _ (State.idleCheck_within hd hlen hm)), rfl⟩
    · subst hoff
      refine ⟨_, hexec.trans (congrArg _ (State.idleCheck_off hd hlen hm)), State.isPending_raise rfl rfl, fun q hq hrail => ?_, ?_⟩
      · rw [State.raise_census]
        exact List.mem_append_right _ (List.mem_filter.2 ⟨List.mem_range.2 hq, beq_iff_eq.2 hrail⟩)
      · rw [State.raise_eq]
        rfl

end Sys2Proof.Machine
end

section
/-! SUPPORT. Retraining of channels (R205 to R207), the short ZQ calibration (R199) and the end of a VCCQ hold (R178). -/

namespace Sys2Proof.Machine

variable {s t u : State} {f : Field} {q h c : Nat}

/-! ## The edges of a retrained die (R207) -/

/-- Edges are accepted with a margin of 4 at least, and in order. -/
theorem newEdges_margin {e : Nat × Nat} {low high : List Bool} {a b : Nat} (hn : newEdges e low high = some (a, b)) :
    a ≤ b ∧ 4 ≤ margin (a, b) := by
  unfold newEdges at hn
  split at hn
  · dsimp only at hn
    split at hn
    next hok =>
      cases hn
      exact hok
    next => cases hn
  · cases hn

/-! ## Requests (R205) -/

theorem State.askTrain_failed {r : Nat → Field} (hf : (s.chan (s.chanOf h)).failed = true) : s.askTrain h r = s := if_pos hf

theorem State.askTrain_asks {r : Nat → Field} (hf : (s.chan (s.chanOf h)).failed = false) (hh : h < 96) : s.askTrain h r = s.setF (r h) 1 := by
  rw [State.askTrain, if_neg (by simp [hf]), chF_home r hh]

/-- A request changes registers alone. -/
theorem State.askTrain_eq (s : State) (h : Nat) (r : Nat → Field) : s.askTrain h r = { s with regs := (s.askTrain h r).regs } := by
  unfold State.askTrain
  split <;> rfl

theorem State.reg_askTrain {r : Nat → Field} {o : Nat} (hh : h < 96) (ho : o ≠ (r h).reg) : (s.askTrain h r).reg o = s.reg o := by
  unfold State.askTrain
  split
  · rfl
  · rw [chF_home r hh, State.reg_setF_ne ho]

/-- A field of one bit that is set reads as set. -/
theorem State.flag_setF_one (hb : f.hi = f.lo) (h64 : f.hi < 64) : (s.setF f 1).flag f = true := by
  rw [State.flag, State.getF_setF_self _ _ _ h64, hb, spanBits, Nat.add_sub_cancel_left]
  rfl

theorem exec_trainForce (hs : s.served = true) (ha : s.asleep = false) (hc : c < s.build.channels) :
    exec (.trainForce c) s = .next (s.askTrain c F.CHU_TRAIN_STAT.PEND_FW) := by
  show execTrainForce c s = _
  simp [execTrainForce, hs, ha, Nat.not_le.2 hc]

/-! ## What a retraining leaves until it is recorded -/

/-- The step from `s` to `t` keeps the dies, the plan, and what the record of a retraining of channel `h` starts from. -/
structure State.KeepsTraining (h : Nat) (s t : State) : Prop where
  dies : t.dies = s.dies
  pln : t.pln = s.pln
  chanOf : t.chanOf h = s.chanOf h
  badTrains : (t.chan (s.chanOf h)).badTrains = (s.chan (s.chanOf h)).badTrains
  tickno : t.tickno = s.tickno
  count : t.getF (F.CHU_TRAIN_STAT.COUNT h) = s.getF (F.CHU_TRAIN_STAT.COUNT h)

theorem State.KeepsTraining.refl (h : Nat) (s : State) : State.KeepsTraining h s s := ⟨rfl, rfl, rfl, rfl, rfl, rfl⟩

theorem State.KeepsTraining.trans (h₁ : State.KeepsTraining h s t) (h₂ : State.KeepsTraining h t u) : State.KeepsTraining h s u :=
  ⟨h₂.dies.trans h₁.dies, h₂.pln.trans h₁.pln, h₂.chanOf.trans h₁.chanOf,
    (h₁.chanOf ▸ h₂.badTrains).trans h₁.badTrains, h₂.tickno.trans h₁.tickno, h₂.count.trans h₁.count⟩

/-- A field of the channel units beside the count of retrainings. -/
def besideCount (h : Nat) (f : Field) : Prop := 0x100000 ≤ f.reg ∧ (F.CHU_TRAIN_STAT.COUNT h).apart f = true

theorem besideCount_of_above (hf : 0x100044 + 1024 * h < f.reg) : besideCount h f :=
  ⟨by omega, Field.apart_of_reg_ne (by simp only [F.CHU_TRAIN_STAT.COUNT]; omega)⟩

theorem State.keepsTraining_setF {v : Nat} (hf : besideCount h f) : State.KeepsTraining h s (s.setF f v) :=
  ⟨rfl, rfl, rfl, rfl,
    State.getF_congr (State.reg_setF_ne (Nat.ne_of_lt (Nat.lt_of_lt_of_le (by decide : 0xB0008 < 0x100000) hf.1))),
    State.getF_setF_apart _ _ _ _ hf.2 (by decide : 31 < 64)⟩

theorem State.keepsTraining_countSat {n : Nat} (hf : besideCount h f) : State.KeepsTraining h s (s.countSat f n) := by
  have habove := hf.1
  refine ⟨State.countSat_dies .., State.countSat_pln .., ?_, ?_, State.getF_congr (State.reg_countSat_above ?_ (by decide)), ?_⟩
  · simp [State.chanOf, State.c0]
  · simp [State.chan]
  · simp only [F.TCK_TICKNO.TICKNO]
    omega
  · refine State.getF_countSat_apart (by decide : 31 < 64) hf.2 (Field.apart_of_reg_ne ?_) (Field.apart_of_reg_ne ?_) <;>
      simp only [F.CHU_TRAIN_STAT.COUNT, F.GLB_FAULT_STAT.SAT_SEEN, pendF, Ev.counterSaturated] <;> omega

theorem State.keepsTraining_setChan {x : Chan} (hx : x.badTrains = (s.chan (s.chanOf h)).badTrains) :
    State.KeepsTraining h s (s.setChan (s.chanOf h) x) :=
  ⟨rfl, rfl, rfl, (congrArg Chan.badTrains (State.chan_setChan ..)).trans hx, rfl, rfl⟩

section
variable (hh : h < 96)
include hh

theorem State.busCheck_keepsTraining (s : State) : State.KeepsTraining h s (s.busCheck h) := by
  have hcheck : besideCount h (chF F.CHU_ERR.BUS_CHECK h) := by
    rw [chF_home _ hh]
    exact besideCount_of_above (by simp only [F.CHU_ERR.BUS_CHECK]; omega)
  have herr : ∀ u : State, State.KeepsTraining h u (u.errTrain h) := by
    intro u
    unfold State.errTrain
    split
    · exact .refl _ _
    · rw [chF_home _ hh]
      exact State.keepsTraining_setF ⟨Nat.le_add_right_of_le (by decide),
        by simp [Field.apart, F.CHU_TRAIN_STAT.COUNT, F.CHU_TRAIN_STAT.PEND_ERROR]⟩
  have hcounted := State.keepsTraining_countSat (s := s) (n := 1) hcheck
  have hnoted : ∀ l, State.KeepsTraining h s
      ((s.countSat (chF F.CHU_ERR.BUS_CHECK h) 1).setChan (s.chanOf h) { s.chan (s.chanOf h) with checkTicks := l }) := by
    intro l
    refine hcounted.trans (hcounted.chanOf ▸ State.keepsTraining_setChan ?_)
    rw [hcounted.chanOf]
    exact hcounted.badTrains.symm
  unfold State.busCheck
  dsimp only
  split
  · exact (hnoted _).trans (herr _)
  · exact hnoted _

theorem State.trainDie_keepsTraining (s : State) (d : TrainDie) (write : Bool) : State.KeepsTraining h s (s.trainDie h d write).1 := by
  have htrim : ∀ (f : Nat → Nat → Field), (∀ i j, (f i j).reg = 0x100100 + 1024 * i + 8 * j) → ∀ (u : State) v,
      State.KeepsTraining h u (u.setF (chF (fun c => f c d.slot) h) v) := by
    intro f hf u v
    rw [chF_home _ hh]
    exact State.keepsTraining_setF (besideCount_of_above (by rw [hf]; omega))
  have hwrite : ∀ (u : State) v w, State.KeepsTraining h u (if write then (u.setF (chF (fun c => F.CHU_DIE_TRIM.WR_CTR c d.slot) h) v).setF
      (chF (fun c => F.CHU_DIE_TRIM.WR_MARGIN c d.slot) h) w else u) := by
    intro u v w
    split
    · exact (htrim F.CHU_DIE_TRIM.WR_CTR (fun _ _ => rfl) _ _).trans (htrim F.CHU_DIE_TRIM.WR_MARGIN (fun _ _ => rfl) _ _)
    · exact .refl _ _
  unfold State.trainDie
  dsimp only
  split
  · refine .trans ?_ (hwrite _ _ _)
    refine ((((State.keepsTraining_setChan ?_).trans (htrim F.CHU_DIE_TRIM.RD_CTR (fun _ _ => rfl) _ _)).trans
      (htrim F.CHU_DIE_TRIM.RD_MARGIN (fun _ _ => rfl) _ _)).trans (htrim F.CHU_DIE_TRIM.GATE (fun _ _ => rfl) _ _)).trans
      (htrim F.CHU_DIE_TRIM.TEMP (fun _ _ => rfl) _ _)
    rfl
  · refine State.keepsTraining_countSat ?_
    rw [chF_home _ hh]
    exact besideCount_of_above (by simp only [F.CHU_ERR.TRAIN_FAILS]; omega)

end

/-! ## The record of a retraining -/

@[simp] theorem State.setChan_dies (s : State) (c : Nat) (x : Chan) : (s.setChan c x).dies = s.dies := rfl
@[simp] theorem State.setChan_pln (s : State) (c : Nat) (x : Chan) : (s.setChan c x).pln = s.pln := rfl
@[simp] theorem State.setChan_getF (s : State) (c : Nat) (x : Chan) (f : Field) : (s.setChan c x).getF f = s.getF f := rfl
@[simp] theorem State.setChan_flag (s : State) (c : Nat) (x : Chan) (f : Field) : (s.setChan c x).flag f = s.flag f := rfl

/-- The registers of a retraining that ended: counted, its result and tick noted, every request cleared (R206). -/
def State.trainRecorded (s : State) (h least res : Nat) : State :=
  let set (s : State) (f : Nat → Field) (v : Nat) : State := s.setF (chF f h) v
  let s' := s.countWrap (chF F.CHU_TRAIN_STAT.COUNT h) 1
  let s' := set (set (set s' F.CHU_TRAIN_STAT.MARGIN least) F.CHU_TRAIN_STAT.RESULT res) F.CHU_TRAIN_STAT.LAST_ERROR
    (s.getF (chF F.CHU_TRAIN_STAT.PEND_ERROR h))
  let s' := set (set (set s' F.CHU_TRAIN_STAT.PEND_ERROR 0) F.CHU_TRAIN_STAT.PEND_FW 0) F.CHU_TRAIN_STAT.PEND_TEMP 0
  set (set (set s' F.CHU_TRAIN_STAT.PEND_MARGIN 0) F.CHU_TRAIN_STAT.PEND_VCCQ 0) F.CHU_TRAIN_TICK.TICK s'.tickno

theorem State.trainRecorded_dies (s : State) (h least res : Nat) : (s.trainRecorded h least res).dies = s.dies := by
  simp only [State.trainRecorded, State.setF_dies, State.countWrap_dies]

theorem State.trainRecorded_pln (s : State) (h least res : Nat) : (s.trainRecorded h least res).pln = s.pln := by
  simp only [State.trainRecorded, State.setF_pln, State.countWrap_pln]

theorem State.trainRecorded_chans (s : State) (h least res : Nat) : (s.trainRecorded h least res).chans = s.chans := by
  simp only [State.trainRecorded, State.setF_chans, State.countWrap_chans]

/-- A retraining item is done with a record and no volume selected, where the channel's last retraining did not fail (R206, R207). -/
theorem exec_trainItem (hh : h < 96) (hf : s.frontIs h (· == .train) = true) (hb : (s.chan (s.chanOf h)).badTrains = 0) (dies : List TrainDie) :
    ∃ (u : State) (least res : Nat) (x : Chan), exec (.trainItem h dies) s = .next ((u.trainRecorded h least res).setChan (s.chanOf h) x) ∧
    x.vol = none ∧ State.KeepsTraining h ((s.setExec h []).noteRun h (s.usable h)) u ∧ 1 ≤ res ∧ res ≤ 3 := by
  obtain ⟨o, ho⟩ : ∃ o, execTrainItem h dies s = o := ⟨_, rfl⟩
  have hexec : exec (.trainItem h dies) s = o := ho
  rw [execTrainItem, if_neg (by simp [hf])] at ho
  extract_lets h' ch used s₀ ready s₁ go pick r s₂ failed res least err set s₃ s₄ s₅ s₆ chan bad s₇ at ho
  have hstatus : State.KeepsTraining h s₀ s₁ := by
    refine List.foldlRecOn dies _ (.refl h s₀) fun v hv d _ => hv.trans ?_
    dsimp only
    split
    · exact v.busCheck_keepsTraining hh
    · exact .refl h v
  have hdies : State.KeepsTraining h s₁ s₂ :=
    List.foldlRecOn go _ (motive := fun a : State × Nat => State.KeepsTraining h s₁ a.1) (.refl h s₁) fun a ha d _ =>
      ha.trans (a.1.trainDie_keepsTraining hh d _)
  have hkeeps := hstatus.trans hdies
  have hres : 1 ≤ res ∧ res ≤ 3 := by
    simp only [res]
    split
    · decide
    · split <;> decide
  clear_value s₂ res least
  have hrecorded : s₆ = s₂.trainRecorded h least res := rfl
  have hbad : ¬ 2 ≤ bad := by
    have hchan : chan.badTrains = 0 := by
      simp only [chan, hrecorded, State.chan, State.trainRecorded_chans]
      exact hkeeps.badTrains.trans hb
    simp only [bad, hchan]
    split <;> decide
  rw [if_neg hbad] at ho
  exact ⟨s₂, least, res, _, hexec.trans ho.symm, rfl, hkeeps, hres⟩

/-- Fields set one behind the other. -/
def State.setFields (s : State) (l : List (Field × Nat)) : State := l.foldl (fun s e => s.setF e.1 e.2) s

/-- Fields that share no bits each read what was written to them. -/
theorem State.getF_setFields {l : List (Field × Nat)} (hl : l.Pairwise (fun a b => a.1.apart b.1 = true)) {v : Nat}
    (he : (f, v) ∈ l) (h64 : f.hi < 64) (s : State) : (s.setFields l).getF f = v % 2 ^ spanBits f.hi f.lo := by
  induction l generalizing s with
  | nil => cases he
  | cons a l ih =>
    obtain ⟨ha, hl⟩ := List.pairwise_cons.1 hl
    rcases List.mem_cons.1 he with rfl | he
    · exact (foldl_keeps (g := fun s => State.getF s f) (fun s b hb => State.getF_setF_apart s _ _ _ (ha b hb) h64) _).trans
        (State.getF_setF_self s f v h64)
    · exact ih hl he _

/-- What a retraining writes to its registers. -/
def State.trainFields (s : State) (h least res : Nat) : List (Field × Nat) :=
  [(F.CHU_TRAIN_STAT.COUNT h, s.getF (F.CHU_TRAIN_STAT.COUNT h) + 1), (F.CHU_TRAIN_STAT.MARGIN h, least), (F.CHU_TRAIN_STAT.RESULT h, res),
    (F.CHU_TRAIN_STAT.LAST_ERROR h, s.getF (F.CHU_TRAIN_STAT.PEND_ERROR h)), (F.CHU_TRAIN_STAT.PEND_ERROR h, 0), (F.CHU_TRAIN_STAT.PEND_FW h, 0),
    (F.CHU_TRAIN_STAT.PEND_TEMP h, 0), (F.CHU_TRAIN_STAT.PEND_MARGIN h, 0), (F.CHU_TRAIN_STAT.PEND_VCCQ h, 0), (F.CHU_TRAIN_TICK.TICK h, s.tickno)]

theorem State.tickno_setF_train {v : Nat} (hf : f.reg = 0x100044 + 1024 * h) : (s.setF f v).tickno = s.tickno :=
  State.getF_congr (State.reg_setF_ne (by simp only [hf, F.TCK_TICKNO.TICKNO]; omega))

theorem State.trainRecorded_eq (s : State) (hh : h < 96) (least res : Nat) :
    s.trainRecorded h least res = s.setFields (s.trainFields h least res) := by
  simp only [State.trainRecorded, chF_home _ hh, State.countWrap, State.setFields, State.trainFields, List.foldl_cons, List.foldl_nil]
  rw [State.tickno_setF_train (f := F.CHU_TRAIN_STAT.PEND_TEMP h) rfl, State.tickno_setF_train (f := F.CHU_TRAIN_STAT.PEND_FW h) rfl,
    State.tickno_setF_train (f := F.CHU_TRAIN_STAT.PEND_ERROR h) rfl, State.tickno_setF_train (f := F.CHU_TRAIN_STAT.LAST_ERROR h) rfl,
    State.tickno_setF_train (f := F.CHU_TRAIN_STAT.RESULT h) rfl, State.tickno_setF_train (f := F.CHU_TRAIN_STAT.MARGIN h) rfl,
    State.tickno_setF_train (f := F.CHU_TRAIN_STAT.COUNT h) rfl]

theorem State.trainFields_apart (s : State) (h least res : Nat) :
    (s.trainFields h least res).Pairwise (fun a b => a.1.apart b.1 = true) := by
  simp [State.trainFields, Field.apart, F.CHU_TRAIN_STAT.COUNT, F.CHU_TRAIN_STAT.MARGIN, F.CHU_TRAIN_STAT.RESULT, F.CHU_TRAIN_STAT.LAST_ERROR,
    F.CHU_TRAIN_STAT.PEND_ERROR, F.CHU_TRAIN_STAT.PEND_FW, F.CHU_TRAIN_STAT.PEND_TEMP, F.CHU_TRAIN_STAT.PEND_MARGIN,
    F.CHU_TRAIN_STAT.PEND_VCCQ, F.CHU_TRAIN_TICK.TICK]

/-- What the registers read behind a retraining (R206). -/
theorem State.trainRecorded_spec (s : State) (hh : h < 96) (least res : Nat) :
    (s.trainRecorded h least res).getF (F.CHU_TRAIN_STAT.COUNT h) = (s.getF (F.CHU_TRAIN_STAT.COUNT h) + 1) % 2 ^ 16 ∧
    (s.trainRecorded h least res).getF (F.CHU_TRAIN_TICK.TICK h) = s.tickno ∧
    (∀ f ∈ [F.CHU_TRAIN_STAT.PEND_ERROR h, F.CHU_TRAIN_STAT.PEND_FW h, F.CHU_TRAIN_STAT.PEND_TEMP h, F.CHU_TRAIN_STAT.PEND_MARGIN h,
      F.CHU_TRAIN_STAT.PEND_VCCQ h], (s.trainRecorded h least res).flag f = false) ∧
    (s.trainRecorded h least res).getF (F.CHU_TRAIN_STAT.RESULT h) = res % 2 ^ 2 := by
  have hread : ∀ f v, (f, v) ∈ s.trainFields h least res → f.hi < 64 → (s.trainRecorded h least res).getF f = v % 2 ^ spanBits f.hi f.lo :=
    fun f v hm h64 => by rw [State.trainRecorded_eq s hh, State.getF_setFields (s.trainFields_apart h least res) hm h64]
  have hclear : ∀ f, (f, 0) ∈ s.trainFields h least res → f.hi < 64 → (s.trainRecorded h least res).flag f = false := fun f hm h64 => by
    rw [State.flag, hread f 0 hm h64, Nat.zero_mod]
    rfl
  refine ⟨?_, ?_, ?_, ?_⟩
  · rw [hread _ (s.getF (F.CHU_TRAIN_STAT.COUNT h) + 1) (by simp [State.trainFields]) (by decide : 31 < 64)]
    rfl
  · rw [hread _ s.tickno (by simp [State.trainFields]) (by decide : 63 < 64)]
    exact Nat.mod_eq_of_lt (State.getF_lt s F.TCK_TICKNO.TICKNO)
  · simp only [List.forall_mem_cons]
    exact ⟨hclear _ (by simp [State.trainFields]) (by decide : 7 < 64), hclear _ (by simp [State.trainFields]) (by decide : 6 < 64),
      hclear _ (by simp [State.trainFields]) (by decide : 5 < 64), hclear _ (by simp [State.trainFields]) (by decide : 4 < 64),
      hclear _ (by simp [State.trainFields]) (by decide : 3 < 64), List.forall_mem_nil _⟩
  · rw [hread _ res (by simp [State.trainFields]) (by decide : 1 < 64)]
    rfl

/-! ## ZQ_SHORT_CAL and VCCQ_HOLD_END -/

/-- What a short calibration comes to (R199, R200): codes that wait for the boundary, or a failure. -/
def State.zqShort (s : State) (q up down : Nat) : State :=
  if zqLimited up down then (s.zqNoted q).zqFailed q
  else (s.zqNoted q).setQuad q { (s.zqNoted q).quad q with zqNew := some (up, down) }

theorem State.zqShort_quad (s : State) (q up down : Nat) : (s.zqShort q up down).quad q = { s.quad q with
    zqTemp := s.quadTempOf q, zqTick := s.tickno, zqNew := if zqLimited up down then (s.quad q).zqNew else some (up, down) } := by
  unfold State.zqShort
  split
  · rw [State.quad, State.zqFailed_quads]
    exact s.quad_zqNoted q
  · rw [State.quad_setQuad, State.quad_zqNoted]

theorem State.zqShort_cals {up down : Nat} (hq : q < 24) :
    (s.zqShort q up down).getF (F.CHU_QUAD_ZQ.CALS q) = (s.getF (F.CHU_QUAD_ZQ.CALS q) + 1) % 2 ^ 15 := by
  rw [← State.zqNoted_cals]
  unfold State.zqShort
  split
  · exact State.getF_congr (State.reg_zqFailed hq (Nat.le_add_right_of_le (by decide)))
  · rw [State.setQuad_getF]

theorem State.zqShort_codes {up down : Nat} (hl : zqLimited up down = false) :
    regsKept s (s.zqShort q up down) [(F.CHU_QUAD_ZQ.CALS q).reg] := fun o ho => by
  rw [State.zqShort, if_neg (by simp [hl]), State.setQuad_reg, State.reg_zqNoted (List.ne_of_not_mem_cons ho)]

theorem State.zqShort_limited {up down : Nat} (hl : zqLimited up down = true) : (s.zqShort q up down).isPending Ev.zqFault = true ∧
    ∀ k, k < 4 → (s.zqShort q up down).getF (F.CHU_ERR.ZQ_FAILS (4 * q + k)) = satAdd 16 (s.getF (F.CHU_ERR.ZQ_FAILS (4 * q + k))) 1 := by
  rw [State.zqShort, if_pos hl]
  refine ⟨State.zqFailed_raises _ q, fun k hk => ?_⟩
  rw [State.zqFailed_counts _ q hk, State.getF_congr (State.reg_zqNoted (by simp only [F.CHU_ERR.ZQ_FAILS, F.CHU_QUAD_ZQ.CALS]; omega))]

theorem State.zqResult_eq {up down : Nat} (hq : q < 24) : s.zqResult q up down = s.zqShort q up down := by
  have hfails : (s.zqNoted q).zqFailed q = (List.range 4).foldl (fun s k => s.countSat (chF F.CHU_ERR.ZQ_FAILS (4 * q + k)) 1)
      ((s.zqNoted q).raise Ev.zqFault) := by
    refine List.foldl_ext _ _ _ fun u k hk => ?_
    have := List.mem_range.1 hk
    rw [chF_home _ (by omega)]
  rw [State.zqShort, hfails, State.zqResult, qF_home _ hq]
  rfl

theorem exec_zqShortCal {up down : Nat} (hq : q < 24) (hc : s.clocked = true) (he : s.flag (F.CHU_QUAD_CFG.ENABLED q) = true)
    (hd : (s.quad q).zqTick + s.gp "ZQ_PERIOD" 0 131072 ≤ s.tickno) : exec (.zqShortCal q up down) s = .next (s.zqShort q up down) := by
  show execZqShortCal q up down s = _
  simp only [execZqShortCal, qF_home _ hq, hc, he, hd, decide_true, Bool.true_or, Bool.not_true, Bool.false_eq_true, or_self, if_false]
  rw [State.zqResult_eq hq]

/-- The state in which a quad is held no longer. -/
def State.vccqReleased (s : State) (q : Nat) : State := s.setQuad q { s.quad q with held := false, good := 0 }

/-- The state in which each channel of a quad is asked to retrain for its VCCQ. -/
def State.vccqRetrains (s : State) (q : Nat) : State :=
  (List.range 4).foldl (fun s k => s.askTrain (4 * q + k) F.CHU_TRAIN_STAT.PEND_VCCQ) s

theorem exec_vccqHoldEnd (hc : s.clocked = true) (hh : (s.quad q).held = true) (hg : 16 ≤ (s.quad q).good) :
    exec (.vccqHoldEnd q) s = .next ((s.vccqReleased q).vccqRetrains q) := by
  show execVccqHoldEnd q s = _
  simp only [execVccqHoldEnd, hc, hh, Bool.not_true, Bool.false_eq_true, false_or, Nat.not_lt.2 hg, if_false]
  rfl

theorem State.vccqRetrains_eq (s : State) (q : Nat) : s.vccqRetrains q = { s with regs := (s.vccqRetrains q).regs } :=
  List.foldlRecOn (List.range 4) _ (motive := fun t : State => t = { s with regs := t.regs }) rfl fun t ht k _ => by
    rw [State.askTrain_eq, ht]

/-- A channel that has not failed is asked to retrain. -/
theorem State.vccqRetrains_asks (hq : q < 24) {k : Nat} (hk : k < 4) (hf : (s.chan (s.chanOf (4 * q + k))).failed = false) :
    (s.vccqRetrains q).flag (F.CHU_TRAIN_STAT.PEND_VCCQ (4 * q + k)) = true := by
  obtain ⟨u, hu, hasked⟩ := foldl_changes_once (a := k)
    (g := fun s => ((State.chan s (State.chanOf s (4 * q + k))).failed, State.flag s (F.CHU_TRAIN_STAT.PEND_VCCQ (4 * q + k))))
    (f := fun s k => s.askTrain (4 * q + k) F.CHU_TRAIN_STAT.PEND_VCCQ) List.nodup_range (List.mem_range.2 hk) (fun u j hj hjk => by
      have := List.mem_range.1 hj
      refine Prod.ext ?_ (State.flag_congr (State.reg_askTrain (by omega) (by simp only [F.CHU_TRAIN_STAT.PEND_VCCQ]; omega)))
      dsimp only
      rw [State.askTrain_eq]
      rfl) s
  have hnone : (u.chan (u.chanOf (4 * q + k))).failed = false := (congrArg Prod.fst hu).trans hf
  refine (congrArg Prod.snd hasked).trans ?_
  dsimp only
  rw [State.askTrain_asks hnone (by omega)]
  exact State.flag_setF_one rfl (by decide : 3 < 64)

/-- Settles O31: requests set their bit, a retraining ends in its record, a short calibration in codes or a failure, the end of a hold in requests. -/
theorem retrainingAndCalibration : Obligations.RetrainingAndCalibration := by
  unfold Obligations.RetrainingAndCalibration
  refine ⟨fun e low high a b => newEdges_margin, ?force, ?train, ?zq, ?vccq⟩
  case force =>
    intro s c hs ha hc
    have hexec := exec_trainForce hs ha hc
    refine ⟨fun hf => ?_, fun hf => ?_⟩
    · rw [hexec, State.askTrain_failed hf]
    · have hc96 : c < 96 := Nat.lt_of_lt_of_le hc (by cases s.build <;> decide)
      rw [State.askTrain_asks hf hc96] at hexec
      exact ⟨_, hexec, State.flag_setF_one rfl (by decide : 6 < 64),
        fun o ho => State.reg_setF_ne (f := F.CHU_TRAIN_STAT.PEND_FW c) (List.ne_of_not_mem_cons ho), rfl⟩
  case train =>
    intro s h dies hh hfront hbad
    obtain ⟨u, least, res, x, hexec, hvol, hkeeps, hpos, hres⟩ := exec_trainItem hh hfront hbad dies
    obtain ⟨hcount, htick, hclear, hresult⟩ := u.trainRecorded_spec hh least res
    refine ⟨_, hexec, ?_, ?_, ?_, ?_, ?_, ?_, ?_⟩
    · rw [State.exItems, State.setChan_pln, State.trainRecorded_pln, hkeeps.pln]
      exact State.exItems_setExec s h []
    · rw [State.setChan_getF, hcount, hkeeps.count]
      rfl
    · rw [State.setChan_getF, htick, hkeeps.tickno]
      rfl
    · exact fun f hf => (State.setChan_flag _ _ _ f).trans (hclear f hf)
    · rw [State.chan_setChan, hvol]
    · rw [State.setChan_getF, hresult]
      omega
    · rw [State.setChan_dies, State.trainRecorded_dies, hkeeps.dies]
      rfl
  case zq =>
    intro s q up down hq hc he hd
    have hquad := s.zqShort_quad q up down
    refine ⟨_, exec_zqShortCal hq hc he hd, by rw [hquad], by rw [hquad], State.zqShort_cals hq, fun hu hu' hd hd' => ?_, fun hlim => ?_⟩
    · have hl : zqLimited up down = false := zqLimited_false hu hu' hd hd'
      exact ⟨by rw [hquad, hl]; rfl, State.zqShort_codes hl⟩
    · have hl : zqLimited up down = true := zqLimited_iff.2 hlim
      obtain ⟨hevent, hcounts⟩ := State.zqShort_limited (s := s) (q := q) hl
      exact ⟨hevent, by rw [hquad, hl]; rfl, hcounts⟩
  case vccq =>
    intro s q hq hc hheld hgood
    have heq := (s.vccqReleased q).vccqRetrains_eq q
    refine ⟨_, exec_vccqHoldEnd hc hheld hgood, ?_, fun k hk => ?_, fun k hk hf => State.vccqRetrains_asks hq hk hf, ?_⟩
    · rw [heq]
      exact State.quad_setQuad s q _
    · rw [heq]
      exact State.quad_setQuad_ne hk
    · rw [heq]
      rfl

end Sys2Proof.Machine
end

section
/-! SUPPORT. Admission of an entry (R237, R258, R259, R266, R267): what each guard leaves ENTRY_ADMIT to do, and what an admission sets. -/

namespace Sys2Proof.Machine

variable {s : State} {c : Nat}

/-- The state in which the queue of an entry completes everything later with 0x0020 (R237). -/
def State.queueHalted (s : State) (c : Nat) : State :=
  s.setQueue (s.ctx c).queue { s.queue (s.ctx c).queue with halted := true }

theorem State.acked_of_no_mirror (h : s.mirror = false) (m : Option Nat) : s.acked m = true := by simp [State.acked, h]

/-! ## ENTRY_ADMIT -/

section
variable (ha : s.awake = true) (hp : s.pfail = false) (hc : s.sleep.closing = false) (hn : s.nextToAdmit c = true)
include ha hp hc hn

theorem entryAdmit_halts (hst : s.stage = 15) (hr : needsReady (entOp (s.ctx c).entry) ≠ 0) :
    exec (.entryAdmit c) s = .next ((s.queueHalted c).finish c 0x20 0 0 0 0) := by
  show execEntryAdmit c s = _
  simp [execEntryAdmit, State.queueHalted, ha, hp, hc, hn, hst, hr]

section
variable (hst : s.stage ≠ 15) (hr : s.readyFor (s.ctx c).queue (entOp (s.ctx c).entry) = true) (hm : s.mirror = false)
include hst hr hm

theorem entryAdmit_refuses {st d : Nat} (hcheck : s.check67 (s.qNs (s.ctx c).queue) (s.ctx c).entry = some (st, d)) :
    exec (.entryAdmit c) s = .next (s.finish c st d 0 0 0) := by
  show execEntryAdmit c s = _
  simp [execEntryAdmit, ha, hp, hc, hn, hst, hr, State.acked_of_no_mirror hm, hcheck]

theorem entryAdmit_admits (hcheck : s.check67 (s.qNs (s.ctx c).queue) (s.ctx c).entry = none) :
    exec (.entryAdmit c) s = .next (s.admitEntry c) := by
  show execEntryAdmit c s = _
  simp [execEntryAdmit, ha, hp, hc, hn, hst, hr, State.acked_of_no_mirror hm, hcheck]

end

end

/-! ## What an admission sets -/

/-- A ladder ceiling is at most 6: the queue's is, and an entry's own can only lower it (R259). -/
theorem State.entCeil_le (s : State) (q : Nat) (e : BitVec 512) : s.entCeil q e ≤ 6 := by
  unfold State.entCeil
  extract_lets qc b
  split
  · exact (Nat.min_le_left _ _).trans (Nat.min_le_left _ _)
  · exact Nat.min_le_left _ _

/-- The context of an entry that is admitted now. -/
def State.admittedCtx (s : State) (c : Nat) : Ctx :=
  { s.ctx c with
    state := .admitted
    level := s.entLevel (s.ctx c).queue (s.ctx c).entry
    ceil := s.entCeil (s.ctx c).queue (s.ctx c).entry
    deadline := s.entDeadline (s.ctx c).queue (s.ctx c).entry
    admTick := s.tickno
    admSeq := s.admSeq + 1 }

/-- Only a set definition asks for something at its admission: its member list (R261). -/
theorem State.admitEntry_of_not_vdie (h : entOp (s.ctx c).entry ≠ opVDIE) :
    s.admitEntry c = { s.setCtx c (s.admittedCtx c) with admSeq := s.admSeq + 1 } :=
  if_neg fun hv => h hv.1

theorem State.admitEntry_spec (h : entOp (s.ctx c).entry ≠ opVDIE) : (s.admitEntry c).ctx c = s.admittedCtx c ∧
    (∀ k, k ≠ c → (s.admitEntry c).ctx k = s.ctx k) ∧ s.admitEntry c = { s with ctxs := (s.admitEntry c).ctxs, admSeq := s.admSeq + 1 } := by
  rw [State.admitEntry_of_not_vdie h]
  exact ⟨State.ctx_setCtx s c (s.admittedCtx c), fun k hk => (State.ctx_setCtx_ne hk : (s.setCtx c (s.admittedCtx c)).ctx k = _), rfl⟩

/-- Settles O36: the queue is halted in stage 15; else the checks end the entry, or it is admitted. -/
theorem entryAdmission : Obligations.EntryAdmission := by
  unfold Obligations.EntryAdmission
  intro s c ha hp hc hn
  refine ⟨fun hst hr => ?halted, fun hst hr hm => ⟨fun st d hcheck => ?refused, fun hcheck hop => ?admitted⟩⟩
  case halted =>
    obtain ⟨t, hexec, hfinished⟩ := exists_finished (entryAdmit_halts ha hp hc hn hst hr)
    exact ⟨_, t, hexec, hfinished, congrArg Queue.halted (State.queue_setQueue _ _ _), rfl⟩
  case refused => exact exists_finished (entryAdmit_refuses ha hp hc hn hst hr hm hcheck)
  case admitted =>
    obtain ⟨hctx, hothers, hframe⟩ := State.admitEntry_spec hop
    exact ⟨_, entryAdmit_admits ha hp hc hn hst hr hm hcheck, congrArg Ctx.state hctx, congrArg Ctx.admSeq hctx, congrArg Ctx.admTick hctx,
      by rw [hctx]; exact s.entCeil_le _ _, (congrArg Ctx.entry hctx).trans rfl, hothers, hframe⟩

end Sys2Proof.Machine
end

section
/-! SUPPORT. Fields written one behind the other, with an event behind them: what they leave, and what the registers of open stripes follow. -/

namespace Sys2Proof.Machine

variable {s : State} {o : Nat}

/-! ## Fields written one behind the other -/

theorem State.setFields_regs (s : State) (l : List (Field × Nat)) : ∃ regs, s.setFields l = { s with regs := regs } := by
  refine List.foldlRecOn l _ (motive := fun t : State => ∃ regs, t = { s with regs := regs }) ⟨s.regs, rfl⟩ ?_
  rintro t ⟨regs, rfl⟩ e -
  exact ⟨_, rfl⟩

@[simp] theorem State.setFields_census (s : State) (l : List (Field × Nat)) : (s.setFields l).census = s.census := by
  obtain ⟨regs, h⟩ := s.setFields_regs l
  rw [h]

/-- The registers of the fields alone are written. -/
theorem State.reg_setFields {l : List (Field × Nat)} (h : ∀ e ∈ l, o ≠ e.1.reg) : (s.setFields l).reg o = s.reg o :=
  foldl_keeps (g := fun t => State.reg t o) (fun _ e he => State.reg_setF_ne (h e he)) s

/-- Fields and an event change the registers and the event concentrator alone. -/
theorem State.raise_setFields (s : State) (l : List (Field × Nat)) (src : Nat) : (s.setFields l).raise src =
    { s with regs := ((s.setFields l).raise src).regs, evc := ((s.setFields l).raise src).evc } := by
  obtain ⟨regs, h⟩ := s.setFields_regs l
  rw [h]
  exact State.raise_eq _ _

/-! ## What the registers of open stripes follow -/

@[simp] theorem State.ptyRegs_census (s : State) : s.ptyRegs.census = s.census := by simp only [State.ptyRegs, State.setF_census]

/-- PTY_OPEN and PTY_ROWSTORE alone follow the open rows. -/
theorem State.reg_ptyRegs (hopen : o ≠ 0xd0820) (hstore : o ≠ 0xd0818) : s.ptyRegs.reg o = s.reg o := by
  unfold State.ptyRegs
  dsimp only
  rw [State.reg_setF_ne (f := F.PTY_ROWSTORE.ACC_FREE_KIB) hstore, State.reg_setF_ne (f := F.PTY_OPEN.BANDS) hopen,
    State.reg_setF_ne (f := F.PTY_OPEN.STRIPES) hopen, State.reg_setF_ne (f := F.PTY_OPEN.RESERVED) hopen,
    State.reg_setF_ne (f := F.PTY_OPEN.CEILING) hopen]

end Sys2Proof.Machine
end

section
/-! SUPPORT. The hold-up bank (R221 to R224): the arithmetic of the limit, what its computation writes, and what follows a fault, a timeout and a
plateau that fell. -/

namespace Sys2Proof.Machine

variable {s : State} {f : Field} {cap v o : Nat}

/-! ## The limit from its energies (R222) -/

section
variable (av fix row : Nat)

theorem holdupLimit_le : holdupLimit av fix row ≤ 64 := by
  unfold holdupLimit
  split
  · exact Nat.zero_le _
  · exact Nat.min_le_left _ _

variable {av fix row}

theorem holdupLimit_of_le (h : av ≤ fix) : holdupLimit av fix row = 0 := if_pos h

theorem holdupLimit_of_lt (h : fix < av) : holdupLimit av fix row = min 64 ((av - fix) / row) := if_neg (Nat.not_le.2 h)

/-- The rows fit in what the fixed energy leaves. -/
theorem holdupLimit_fits (h : fix < av) : fix + row * holdupLimit av fix row ≤ av := by
  have hdiv : row * ((av - fix) / row) ≤ av - fix := Nat.mul_div_le _ _
  have hmul : row * holdupLimit av fix row ≤ row * ((av - fix) / row) :=
    Nat.mul_le_mul_left _ (holdupLimit_of_lt h ▸ Nat.min_le_right _ _)
  omega

/-- Below 64, one row more does not fit. -/
theorem holdupLimit_most (hrow : 0 < row) (h : fix < av) (hl : holdupLimit av fix row < 64) :
    av < fix + row * (holdupLimit av fix row + 1) := by
  rw [holdupLimit_of_lt h] at hl ⊢
  have hquot : min 64 ((av - fix) / row) = (av - fix) / row := by omega
  have hnext : av - fix < row * ((av - fix) / row + 1) := Nat.lt_mul_div_succ _ hrow
  rw [hquot]
  omega

end

/-! ## The computation (R222) -/

/-- The computation writes PWR_HOLDUP_E alone. -/
theorem State.reg_holdupCompute (s : State) (cap v : Nat) (ho : o ≠ 0xb0118) : (s.holdupCompute cap v).1.reg o = s.reg o := by
  have hwrite : ∀ x y, ((s.setF F.PWR_HOLDUP_E.AVAIL_UJ x).setF F.PWR_HOLDUP_E.FIXED_UJ y).reg o = s.reg o :=
    fun x y => (State.reg_setF_ne (f := F.PWR_HOLDUP_E.FIXED_UJ) ho).trans (State.reg_setF_ne (f := F.PWR_HOLDUP_E.AVAIL_UJ) ho)
  unfold State.holdupCompute
  split
  · rfl
  · dsimp only
    split <;> exact hwrite _ _

@[simp] theorem State.holdupCompute_census (s : State) (cap v : Nat) : (s.holdupCompute cap v).1.census = s.census := by
  unfold State.holdupCompute
  split
  · rfl
  · dsimp only
    split <;> simp only [State.draw_census, State.setF_census]

theorem State.holdupCompute_le (s : State) (cap v : Nat) : (s.holdupCompute cap v).2 ≤ 64 := by
  unfold State.holdupCompute
  split
  · exact Nat.zero_le _
  · dsimp only
    split
    · exact Nat.min_le_left _ _
    · exact holdupLimit_le _ _ _

/-- A plateau at or below V_MIN gives no row. -/
theorem State.holdupCompute_of_low (h : v ≤ s.gp "V_MIN" 0 0) : (s.holdupCompute cap v).2 = 0 := by
  simp [State.holdupCompute, holdupEnergy, h]

/-- SOURCE is a code of two bits. -/
theorem State.holdupCap_source_lt (s : State) : s.holdupCap.2 < 4 := by
  unfold State.holdupCap
  split
  · exact (by decide : 1 < 4)
  · split
    · exact (by decide : 3 < 4)
    · exact (by decide : 2 < 4)

/-! ## HOLDUP_LIMIT (R224) -/

/-- The state in which the limit is fixed. -/
def State.holdupDone (s : State) : State :=
  ((s.setF F.PWR_HOLDUP.HU_DONE 1).setF F.PWR_CENSUS.HU_DONE 1).updHu (fun (h : HoldUp) => { h with lastTick := s.tickno })

/-- What the limit was computed from, with the limit. -/
def State.holdupFields (s : State) (v : Nat) : List (Field × Nat) :=
  [(F.PWR_HOLDUP.LIMIT, (s.draw.holdupCompute s.holdupCap.1 v).2), (F.PWR_HOLDUP.CAP_UF, min s.holdupCap.1 (2 ^ 20 - 1)),
    (F.PWR_HOLDUP.SOURCE, s.holdupCap.2), (F.PWR_HOLDUP.VTOP_MV, v)]

/-- The state in which the limit for a plateau is written. -/
def State.holdupSized (s : State) (v : Nat) : State :=
  ((s.draw.holdupCompute s.holdupCap.1 v).1.setFields (s.holdupFields v)).ptyRegs

section
variable (hw : s.working = true) (hlo : 5 ≤ s.stage) (hhi : s.stage ≤ 7) (hd : s.flag F.PWR_HOLDUP.HU_DONE = false)
include hw hlo hhi hd

theorem exec_holdupLimit_fault (hf : s.flag F.PWR_HOLDUP.FAULT = true) :
    exec .holdupLimit s = .next (s.setF F.PWR_HOLDUP.LIMIT 0).holdupDone := by
  show execHoldupLimit s = _
  rw [execHoldupLimit, if_neg (by simp [hw, hd]; omega)]
  simp only [hf, if_true]
  rfl

section
variable (hf : s.flag F.PWR_HOLDUP.FAULT = false)
include hf

theorem exec_holdupLimit_waits (hv : s.census.hu.vTop = none) : exec .holdupLimit s = .next s := by
  show execHoldupLimit s = _
  rw [execHoldupLimit, if_neg (by simp [hw, hd]; omega)]
  simp [hf, hv]

theorem exec_holdupLimit_sizes (hv : s.census.hu.vTop = some v) : exec .holdupLimit s = .next (s.holdupSized v).holdupDone := by
  show execHoldupLimit s = _
  rw [execHoldupLimit, if_neg (by simp [hw, hd]; omega)]
  simp only [hf, hv, Bool.false_eq_true, if_false]
  rfl

end

end

theorem State.holdupDone_flags (s : State) : s.holdupDone.flag F.PWR_HOLDUP.HU_DONE = true ∧ s.holdupDone.flag F.PWR_CENSUS.HU_DONE = true := by
  refine ⟨?_, State.flag_setF_one (s := s.setF F.PWR_HOLDUP.HU_DONE 1) rfl (by decide)⟩
  exact (State.flag_congr (State.reg_setF_ne (s := s.setF F.PWR_HOLDUP.HU_DONE 1) (f := F.PWR_CENSUS.HU_DONE) (by decide))).trans
    (State.flag_setF_one rfl (by decide))

/-- The two flags alone change. -/
theorem State.getF_holdupDone (h64 : f.hi < 64) (h : f.apart F.PWR_HOLDUP.HU_DONE = true) (hc : f.apart F.PWR_CENSUS.HU_DONE = true) :
    s.holdupDone.getF f = s.getF f :=
  (State.getF_setF_apart (s.setF F.PWR_HOLDUP.HU_DONE 1) f _ _ hc h64).trans (State.getF_setF_apart s f _ _ h h64)

theorem State.reg_holdupDone (h : o ≠ F.PWR_HOLDUP.HU_DONE.reg) (hc : o ≠ F.PWR_CENSUS.HU_DONE.reg) : s.holdupDone.reg o = s.reg o :=
  (State.reg_setF_ne (s := s.setF F.PWR_HOLDUP.HU_DONE 1) hc).trans (State.reg_setF_ne h)

theorem State.holdupDone_hu (s : State) : s.holdupDone.census.hu = { s.census.hu with lastTick := s.tickno } := rfl

theorem State.holdupFields_apart (s : State) (v : Nat) : (s.holdupFields v).Pairwise (fun a b => a.1.apart b.1 = true) := by
  simp [State.holdupFields, Field.apart, F.PWR_HOLDUP.LIMIT, F.PWR_HOLDUP.CAP_UF, F.PWR_HOLDUP.SOURCE, F.PWR_HOLDUP.VTOP_MV]

/-- The fields read what was written to them. -/
theorem State.getF_holdupSized {x : Nat} (he : (f, x) ∈ s.holdupFields v) (h64 : f.hi < 64) (hr : f.reg = 0xb0110) :
    (s.holdupSized v).getF f = x % 2 ^ spanBits f.hi f.lo :=
  (State.getF_congr (State.reg_ptyRegs (by rw [hr]; decide) (by rw [hr]; decide))).trans
    (State.getF_setFields (s.holdupFields_apart v) he h64 _)

/-- PWR_HOLDUP, PWR_HOLDUP_E and the registers of open stripes alone are written. -/
theorem State.reg_holdupSized (hh : o ≠ 0xb0110) (he : o ≠ 0xb0118) (hopen : o ≠ 0xd0820) (hstore : o ≠ 0xd0818) :
    (s.holdupSized v).reg o = s.reg o := by
  have hfields : ∀ e ∈ s.holdupFields v, o ≠ e.1.reg := by
    simp [State.holdupFields, F.PWR_HOLDUP.LIMIT, F.PWR_HOLDUP.CAP_UF, F.PWR_HOLDUP.SOURCE, F.PWR_HOLDUP.VTOP_MV, hh]
  rw [State.holdupSized, State.reg_ptyRegs hopen hstore, State.reg_setFields hfields]
  exact s.draw.reg_holdupCompute _ _ he

theorem State.holdupSized_census (s : State) (v : Nat) : (s.holdupSized v).census = s.census := by
  rw [State.holdupSized, State.ptyRegs_census, State.setFields_census, State.holdupCompute_census, State.draw_census]

/-- What the sizing leaves to read once it is done. -/
theorem State.holdupSized_spec (s : State) (v : Nat) : (s.holdupSized v).holdupDone.limit = (s.draw.holdupCompute s.holdupCap.1 v).2 ∧
    (s.holdupSized v).holdupDone.getF F.PWR_HOLDUP.VTOP_MV = v % 2 ^ 16 ∧ (s.holdupSized v).holdupDone.getF F.PWR_HOLDUP.SOURCE = s.holdupCap.2 ∧
    (s.holdupSized v).holdupDone.census.hu = { s.census.hu with lastTick := s.tickno } := by
  refine ⟨?_, ?_, ?_, ?_⟩
  · rw [State.limit, State.getF_holdupDone (by decide) (by decide) (by decide),
      State.getF_holdupSized (x := (s.draw.holdupCompute s.holdupCap.1 v).2) (by simp [State.holdupFields]) (by decide) rfl]
    exact Nat.mod_eq_of_lt (Nat.lt_of_le_of_lt (s.draw.holdupCompute_le _ _) (by decide))
  · rw [State.getF_holdupDone (by decide) (by decide) (by decide),
      State.getF_holdupSized (x := v) (by simp [State.holdupFields]) (by decide) rfl]
    rfl
  · rw [State.getF_holdupDone (by decide) (by decide) (by decide),
      State.getF_holdupSized (x := s.holdupCap.2) (by simp [State.holdupFields]) (by decide) rfl]
    exact Nat.mod_eq_of_lt s.holdupCap_source_lt
  · have htick : (s.holdupSized v).tickno = s.tickno :=
      State.getF_congr (State.reg_holdupSized (by decide) (by decide) (by decide) (by decide))
    rw [State.holdupDone_hu, State.holdupSized_census, htick]

/-! ## HOLDUP_TIMEOUT (R223) -/

/-- What a bank that does not charge leaves: the fault, and no row. -/
def faultFields : List (Field × Nat) := [(F.PWR_HOLDUP.FAULT, 1), (F.PWR_HOLDUP.LIMIT, 0)]

/-- The state in which such a bank is declared faulty. -/
def State.holdupFaulty (s : State) : State := (s.setFields faultFields).raise Ev.holdUpFault

theorem exec_holdupTimeout (hw : s.working = true) (ho : s.windowsOpen = true) (hv : s.census.hu.tHi = none)
    (hf : s.flag F.PWR_HOLDUP.FAULT = false) (hd : s.flag F.PWR_HOLDUP.HU_DONE = false)
    (ht : 1000 * s.gp "HU_TIMEOUT" 0 500 ≤ s.sinceReset) : exec .holdupTimeout s = .next s.holdupFaulty := by
  show execHoldupTimeout s = _
  rw [execHoldupTimeout, if_neg (by simp [hw, ho, hv, hf, hd, ht])]
  rfl

theorem State.holdupFaulty_spec (s : State) : s.holdupFaulty.flag F.PWR_HOLDUP.FAULT = true ∧ s.holdupFaulty.limit = 0 ∧
    s.holdupFaulty.isPending Ev.holdUpFault = true ∧ regsKept s s.holdupFaulty [F.PWR_HOLDUP.LIMIT.reg, (pendF Ev.holdUpFault).reg] ∧
    s.holdupFaulty = { s with regs := s.holdupFaulty.regs, evc := s.holdupFaulty.evc } := by
  have happart : faultFields.Pairwise (fun a b => a.1.apart b.1 = true) := by decide
  refine ⟨?_, ?_, State.isPending_raise rfl rfl, fun o ho => ?_, s.raise_setFields _ _⟩
  · rw [State.holdupFaulty, State.flag, State.getF_raise_apart (by decide) (by decide),
      State.getF_setFields happart (v := 1) (by simp [faultFields]) (by decide)]
    rfl
  · rw [State.holdupFaulty, State.limit, State.getF_raise_apart (by decide) (by decide),
      State.getF_setFields happart (v := 0) (by simp [faultFields]) (by decide)]
    rfl
  · simp only [List.mem_cons, List.not_mem_nil, or_false, not_or] at ho
    obtain ⟨hlimit, hpend⟩ := ho
    rw [State.holdupFaulty, State.reg_raise hpend]
    exact State.reg_setFields (by simpa [faultFields] using ⟨hlimit, hlimit⟩)

/-! ## HOLDUP_REMEASURE (R224) -/

/-- The state in which the policy engine has measured the bank. -/
def State.huMeasured (s : State) : State := (s.peStep 7).updHu (fun (h : HoldUp) => { h with lastTick := s.tickno })

/-- The state after a plateau that fell by more than 2 %: the event, and a lower limit where one results. -/
def State.plateauFell (s : State) (v : Nat) : State :=
  let r := s.holdupCompute (s.getF F.PWR_HOLDUP.CAP_UF) v
  let u := r.1.raise Ev.holdUpLow
  if r.2 < u.limit then ((u.setF F.PWR_HOLDUP.LIMIT r.2).setF F.PWR_HOLDUP.VTOP_MV v).ptyRegs else u

theorem exec_holdupRemeasure (ha : s.awake = true) (hp : s.pfail = false) (hh : s.flag F.GLB_WDOG_STAT.PE_HALTED = false) (hlo : 6 ≤ s.stage)
    (hhi : s.stage ≤ 7) (hd : s.flag F.PWR_HOLDUP.HU_DONE = true) (ht : s.census.hu.lastTick + 65536 ≤ s.tickno) (v : Nat) :
    exec (.holdupRemeasure v) s = .next (if 98 * s.getF F.PWR_HOLDUP.VTOP_MV ≤ 100 * min v (s.gp "V_TOP_MAX" 0 0) then s.huMeasured
      else s.huMeasured.plateauFell (min v (s.gp "V_TOP_MAX" 0 0))) := by
  show execHoldupRemeasure v s = _
  rw [execHoldupRemeasure, if_neg (by simp [ha, hp, hh, hd]; omega)]
  rfl

theorem State.limit_fellReported (s : State) (cap v : Nat) : ((s.holdupCompute cap v).1.raise Ev.holdUpLow).limit = s.limit := by
  rw [State.limit, State.getF_raise_apart (by decide) (by decide)]
  exact State.getF_congr (s.reg_holdupCompute cap v (by decide))

theorem State.plateauFell_spec (s : State) (v : Nat) : (s.plateauFell v).limit ≤ s.limit ∧ (s.plateauFell v).isPending Ev.holdUpLow = true ∧
    (s.plateauFell v).census = s.census ∧ ((s.plateauFell v).limit < s.limit → (s.plateauFell v).getF F.PWR_HOLDUP.VTOP_MV = v % 2 ^ 16) := by
  have hlimit := s.limit_fellReported (s.getF F.PWR_HOLDUP.CAP_UF) v
  have hcensus : ((s.holdupCompute (s.getF F.PWR_HOLDUP.CAP_UF) v).1.raise Ev.holdUpLow).census = s.census := by
    rw [State.raise_census, State.holdupCompute_census]
  have hpend : ((s.holdupCompute (s.getF F.PWR_HOLDUP.CAP_UF) v).1.raise Ev.holdUpLow).isPending Ev.holdUpLow = true := State.isPending_raise rfl rfl
  unfold State.plateauFell
  dsimp only
  generalize (s.holdupCompute (s.getF F.PWR_HOLDUP.CAP_UF) v).1.raise Ev.holdUpLow = u at hlimit hcensus hpend
  split
  case isTrue hlow =>
    have hread : ∀ {f : Field}, f.reg = 0xb0110 ∨ f.reg = (pendF Ev.holdUpLow).reg → ∀ w : State, w.ptyRegs.getF f = w.getF f := by
      rintro f (hf | hf) w <;> exact State.getF_congr (State.reg_ptyRegs (by rw [hf]; decide) (by rw [hf]; decide))
    refine ⟨?_, ?_, ?_, fun _ => ?_⟩
    · rw [State.limit, hread (.inl rfl), State.getF_setF_apart _ _ _ _ (by decide) (by decide), State.getF_setF_self _ _ _ (by decide), ← hlimit]
      exact (Nat.mod_le _ _).trans hlow.le
    · refine (State.isPending_congr rfl ((hread (.inr rfl) _).trans ?_)).trans hpend
      rw [State.getF_setF_apart _ _ _ _ (by decide) (by decide), State.getF_setF_apart _ _ _ _ (by decide) (by decide)]
    · rw [State.ptyRegs_census, State.setF_census, State.setF_census, hcensus]
    · exact (hread (.inl rfl) _).trans (State.getF_setF_self _ _ _ (by decide))
  case isFalse => exact ⟨hlimit.le, hpend, hcensus, fun hlow => (hlow.ne hlimit).elim⟩

/-- Settles O22: the limit's arithmetic, then each command by the state it leads to. -/
theorem holdUpLimit : Obligations.HoldUpLimit := by
  unfold Obligations.HoldUpLimit
  refine ⟨?arithmetic, ?limit, ?timeout, ?remeasure⟩
  case arithmetic =>
    exact fun av fix row => ⟨holdupLimit_le av fix row, holdupLimit_of_le, fun hrow h => ⟨holdupLimit_fits h, holdupLimit_most hrow h⟩⟩
  case limit =>
    intro s hw hlo hhi hd
    refine ⟨fun hf => ?_, exec_holdupLimit_waits hw hlo hhi hd, fun v hf hv => ?_⟩
    · obtain ⟨hdone, hcensus⟩ := (s.setF F.PWR_HOLDUP.LIMIT 0).holdupDone_flags
      refine ⟨_, exec_holdupLimit_fault hw hlo hhi hd hf, ?_, hdone, hcensus, ?_, fun o ho => ?_⟩
      · rw [State.limit, State.getF_holdupDone (by decide) (by decide) (by decide)]
        exact State.getF_setF_self _ _ _ (by decide)
      · have htick : (s.setF F.PWR_HOLDUP.LIMIT 0).tickno = s.tickno := State.getF_setF_apart _ _ _ _ (by decide) (by decide)
        rw [State.holdupDone_hu, htick]
        rfl
      · simp only [List.mem_cons, List.not_mem_nil, or_false, not_or] at ho
        obtain ⟨hlimit, hstage⟩ := ho
        rw [State.reg_holdupDone hlimit hstage, State.reg_setF_ne hlimit]
    · obtain ⟨hdone, hcensus⟩ := (s.holdupSized v).holdupDone_flags
      obtain ⟨hlimit, hvtop, hsource, hhu⟩ := s.holdupSized_spec v
      refine ⟨_, exec_holdupLimit_sizes hw hlo hhi hd hf hv, hdone, hcensus, ?_, hvtop, hsource, hhu, fun hmin => ?_⟩
      · rw [hlimit]
        exact s.draw.holdupCompute_le _ _
      · rw [hlimit]
        exact State.holdupCompute_of_low (s := s.draw) hmin
  case timeout =>
    exact fun s hw ho hv hf hd ht => ⟨_, exec_holdupTimeout hw ho hv hf hd ht, s.holdupFaulty_spec⟩
  case remeasure =>
    intro s v ha hp hh hlo hhi hd ht
    have hexec := exec_holdupRemeasure ha hp hh hlo hhi hd ht v
    by_cases hkept : 98 * s.getF F.PWR_HOLDUP.VTOP_MV ≤ 100 * min v (s.gp "V_TOP_MAX" 0 0)
    · rw [if_pos hkept] at hexec
      exact ⟨_, hexec, le_rfl, rfl, fun _ => ⟨fun _ _ => rfl, rfl⟩, fun hfell => absurd hfell (Nat.not_lt.2 hkept)⟩
    · rw [if_neg hkept] at hexec
      obtain ⟨hle, hpend, hcensus, hvtop⟩ := s.huMeasured.plateauFell_spec (min v (s.gp "V_TOP_MAX" 0 0))
      exact ⟨_, hexec, hle, congrArg Census.hu hcensus, fun h => absurd h hkept, fun _ => ⟨hpend, hvtop⟩⟩

end Sys2Proof.Machine
end

section
/-! SUPPORT. The write path of a band with no resident row (R311, R312, R324): pages of padding, completions, its close and its reservation leave the
census and the band's rows alone. -/

namespace Sys2Proof.Machine

variable {s t u : State} {g b : Nat}

/-! ## What the write path of a band keeps -/

/-- Neither the census nor the image's parameters change, nor do the rows of a band. -/
structure State.KeepsRows (g b : Nat) (s t : State) : Prop where
  census : t.census = s.census
  stage : t.stage = s.stage
  params : t.params = s.params
  rows : (t.wband g b).rows = (s.wband g b).rows

theorem State.KeepsRows.refl (s : State) : State.KeepsRows g b s s := ⟨rfl, rfl, rfl, rfl⟩

theorem State.KeepsRows.trans (h₁ : State.KeepsRows g b s t) (h₂ : State.KeepsRows g b t u) : State.KeepsRows g b s u :=
  ⟨h₂.census.trans h₁.census, h₂.stage.trans h₁.stage, h₂.params.trans h₁.params, h₂.rows.trans h₁.rows⟩

theorem State.keepsRows_foldl {α : Type} {f : State → α → State} (hf : ∀ u a, State.KeepsRows g b u (f u a)) (l : List α) (s : State) :
    State.KeepsRows g b s (l.foldl f s) :=
  List.foldlRecOn l f (motive := State.KeepsRows g b s) (.refl s) fun u hu a _ => hu.trans (hf u a)

theorem State.keepsRows_setF {f : Field} (hf : f.reg ≠ 0xb0108) (v : Nat) : State.KeepsRows g b s (s.setF f v) :=
  ⟨rfl, State.getF_congr (State.reg_setF_ne (Ne.symm hf)), rfl, rfl⟩

theorem State.keepsRows_setPoolFree (s : State) (pool n : Nat) : State.KeepsRows g b s (s.setPoolFree pool n) := by
  unfold State.setPoolFree
  split <;> exact State.keepsRows_setF (by decide) n

theorem State.keepsRows_ptyRegs (s : State) : State.KeepsRows g b s s.ptyRegs := by
  unfold State.ptyRegs
  extract_lets s₁ s₂ s₃ s₄
  have h₁ : State.KeepsRows g b s s₁ := State.keepsRows_setF (by decide) _
  have h₂ : State.KeepsRows g b s₁ s₂ := State.keepsRows_setF (by decide) _
  have h₃ : State.KeepsRows g b s₂ s₃ := State.keepsRows_setF (by decide) _
  have h₄ : State.KeepsRows g b s₃ s₄ := State.keepsRows_setF (by decide) _
  exact (((h₁.trans h₂).trans h₃).trans h₄).trans (State.keepsRows_setF (by decide) _)

theorem State.keepsRows_setWband {x : WBand} (hx : x.rows = (s.wband g b).rows) : State.KeepsRows g b s (s.setWband g b x) :=
  ⟨rfl, rfl, rfl, (congrArg WBand.rows (State.wband_setWband s g b x)).trans hx⟩

theorem State.keepsRows_addProg (s : State) (p : Prog) : State.KeepsRows g b s (s.addProg p) := ⟨rfl, rfl, rfl, rfl⟩

theorem State.keepsRows_finish (s : State) (c status detail r0 r1 r2 : Nat) :
    State.KeepsRows g b s (s.finish c status detail r0 r1 r2) := ⟨rfl, rfl, rfl, rfl⟩

theorem State.keepsRows_setJournal (s : State) (ns : Nat) (x : Journal) : State.KeepsRows g b s (s.setJournal ns x) := ⟨rfl, rfl, rfl, rfl⟩

theorem State.keepsRows_setBand (s : State) (g' b' : Nat) (x : Band) : State.KeepsRows g b s (s.setBand g' b' x) := ⟨rfl, rfl, rfl, rfl⟩

theorem State.keepsRows_journalPump (s : State) (ns : Nat) : State.KeepsRows g b s (s.journalPump ns) := by
  unfold State.journalPump
  extract_lets j d cut recs flags progs first s₁ x s₂
  split
  · exact .refl s
  · have hprogs : State.KeepsRows g b s s₁ := State.keepsRows_foldl State.keepsRows_addProg progs s
    exact (hprogs.trans (State.keepsRows_setBand _ _ _ _)).trans (State.keepsRows_setJournal s₂ _ _)

theorem State.keepsRows_journalAdd (s : State) (ns : Nat) (l : List JItem) : State.KeepsRows g b s (s.journalAdd ns l) :=
  (State.keepsRows_setJournal s ns { s.journal ns with pend := (s.journal ns).pend ++ l }).trans (State.keepsRows_journalPump _ ns)

/-! ## The pump -/

theorem WBand.markDone_rows (w : WBand) (pos row : Nat) : (w.markDone pos row).rows = w.rows := by
  unfold WBand.markDone
  split <;> rfl

/-- Padding of a closing band's last wordline: programs, and pages that no die takes. -/
theorem State.keepsRows_fillPages (s : State) : State.KeepsRows g b s (s.fillPages g b) := by
  unfold State.fillPages
  extract_lets d x w pu top
  split
  · exact .refl s
  · refine State.keepsRows_foldl (fun u i => State.keepsRows_foldl (fun u pos => ?_) _ u) _ s
    extract_lets row w
    have hmark : State.KeepsRows g b u (u.setWband g b (w.markDone pos row)) := State.keepsRows_setWband (WBand.markDone_rows _ _ _)
    split
    · exact .refl u
    · split
      · exact hmark
      · split
        · exact hmark
        · exact State.keepsRows_addProg u _

theorem State.keepsRows_writesDone (s : State) : State.KeepsRows g b s (s.writesDone g b) := by
  refine State.keepsRows_foldl (fun u e => ?_) _ s
  dsimp only
  split
  · exact State.keepsRows_finish u _ _ _ _ _ _
  · exact .refl u

theorem State.keepsRows_closeCheck (s : State) : State.KeepsRows g b s (s.closeCheck g b) := by
  unfold State.closeCheck
  extract_lets x w
  split
  · exact .trans (t := s.setWband g b { w with closers := [] }) (State.keepsRows_setWband rfl) (State.keepsRows_journalAdd _ _ _)
  · split
    · exact State.keepsRows_setWband rfl
    · exact .refl s

theorem State.keepsRows_dropRes (s : State) : State.KeepsRows g b s (s.dropRes g b) := by
  unfold State.dropRes
  extract_lets w s₁
  split
  · have hpool : State.KeepsRows g b s s₁ := State.keepsRows_setPoolFree _ _ _
    have hband : State.KeepsRows g b s₁ (s₁.setWband g b { w with reserved := false }) := State.keepsRows_setWband hpool.rows.symm
    exact (hpool.trans hband).trans (State.keepsRows_ptyRegs _)
  · exact .refl s

/-- With no row resident nothing is programmed for rows, no parity ends and no row drains. -/
theorem State.keepsRows_writePump (h : (s.wband g b).rows = []) : State.KeepsRows g b s (s.writePump g b) := by
  unfold State.writePump
  simp only [h, List.map_nil, List.foldl_nil]
  exact (((s.keepsRows_fillPages.trans (State.keepsRows_writesDone _)).trans (State.keepsRows_closeCheck _)).trans
    (State.keepsRows_dropRes _)).trans (State.keepsRows_ptyRegs _)

theorem State.padRow_of_no_rows (h : (s.wband g b).rows = []) : s.padRow g b = s := by
  simp [State.padRow, WBand.rowAt, h]

theorem State.keepsRows_startClose (h : (s.wband g b).rows = []) (l : List Nat) : State.KeepsRows g b s (s.startClose g b l) := by
  unfold State.startClose
  extract_lets w s₁
  have hclosing : State.KeepsRows g b s s₁ := State.keepsRows_setWband rfl
  have hnone : (s₁.wband g b).rows = [] := hclosing.rows.trans h
  rw [State.padRow_of_no_rows hnone]
  exact hclosing.trans (State.keepsRows_writePump hnone)

/-! ## Pages per wordline and lookahead (R292) -/

theorem State.fp_congr (h : t.params = s.params) (fam : Nat) (name : String) (i d : Nat) : t.fp fam name i d = s.fp fam name i d := by
  simp only [State.fp, State.param, h]

theorem State.puOf_congr (h : t.params = s.params) (fam mode : Nat) : t.puOf fam mode = s.puOf fam mode := by
  simp only [State.puOf, State.fp_congr h]

theorem State.laOf_congr (h : t.params = s.params) (fam mode : Nat) : t.laOf fam mode = s.laOf fam mode := by
  simp only [State.laOf, State.ordOf, State.famPages, State.fp_congr h]

end Sys2Proof.Machine
end

section
/-! SUPPORT. From stage 6 to WRITE_READY (R236), the assumed gap (R234) and the census record (R225). -/

namespace Sys2Proof.Machine

variable {s : State} {g b : Nat}

/-! ## RECOVERY_ROW_CLOSE -/

theorem State.stage_of_censusRuns {n : Nat} (h : s.censusRuns n = true) : s.stage = n := by
  simp only [State.censusRuns, Bool.and_eq_true, beq_iff_eq] at h
  obtain ⟨⟨⟨-, hstage⟩, -⟩, -⟩ := h
  exact hstage

theorem exec_recoveryRowClose (hc : s.censusRuns 6 = true) :
    exec .recoveryRowClose s = .next (s.census.close.foldl (fun s e => s.rowClose e.1 e.2) s) := by
  show execRecoveryRowClose s = _
  simp [execRecoveryRowClose, hc]

/-- The state in which a band is no longer among those that census closes. -/
def State.closeDropped (s : State) (g b : Nat) : State :=
  s.updCensus (fun (c : Census) => { c with close := c.close.filter (fun e => e != (g, b)) })

@[simp] theorem State.closeDropped_stage (s : State) (g b : Nat) : (s.closeDropped g b).stage = s.stage := rfl
@[simp] theorem State.closeDropped_wband (s : State) (g b : Nat) : (s.closeDropped g b).wband = s.wband := rfl
@[simp] theorem State.closeDropped_close (s : State) (g b : Nat) :
    (s.closeDropped g b).census.close = s.census.close.filter (fun e => e != (g, b)) := rfl

/-- A band with no row left whose pages cannot be carried is closed. -/
theorem State.rowClose_of_no_rows (h : (s.wband g b).rows = [])
    (hcarry : ¬ (s.puOf (s.sset g).family (s.sset g).mode = 1 ∧ s.laOf (s.sset g).family (s.sset g).mode = 0)) :
    s.rowClose g b = ((s.writePump g b).closeDropped g b).startClose g b [] := by
  have hkeeps := State.keepsRows_writePump h
  have hnone : ((s.writePump g b).wband g b).rows = [] := hkeeps.rows.trans h
  rw [← State.puOf_congr hkeeps.params, ← State.laOf_congr hkeeps.params] at hcarry
  unfold State.rowClose
  extract_lets d s₁ drop
  have hs₁ : s₁ = s.writePump g b := by simp only [s₁, State.padRow_of_no_rows h]
  rw [if_neg (by rw [hs₁, hnone]; decide), if_neg (hs₁ ▸ hcarry), hs₁]
  rfl

/-- The last band that census closes leaves none, in stage 6 as before. -/
theorem State.rowClose_last (hc : s.census.close = [(g, b)]) (h : (s.wband g b).rows = [])
    (hcarry : ¬ (s.puOf (s.sset g).family (s.sset g).mode = 1 ∧ s.laOf (s.sset g).family (s.sset g).mode = 0)) :
    (s.rowClose g b).census.close = [] ∧ (s.rowClose g b).stage = s.stage := by
  have hpump := State.keepsRows_writePump h
  have hnone : (((s.writePump g b).closeDropped g b).wband g b).rows = [] := by rw [State.closeDropped_wband, hpump.rows, h]
  have hclose := State.keepsRows_startClose hnone []
  rw [State.rowClose_of_no_rows h hcarry, hclose.census, hclose.stage, State.closeDropped_close, State.closeDropped_stage, hpump.census, hc]
  exact ⟨by simp, hpump.stage⟩

/-! ## WRITE_READY -/

/-- What WRITE_READY shows. -/
def readyFields : List (Field × Nat) := [(F.PWR_CENSUS.STAGE, 7), (F.PWR_CENSUS.WRITE_READY, 1)]

/-- The state in which WRITE_READY is reached. -/
def State.writesReady (s : State) : State := (s.setFields readyFields).raise Ev.writeReady

/-- The state in which the host function is told, where its fundamental reset is complete (Table 17-5). -/
def State.hostReady (s : State) : State :=
  if s.flag F.GLB_HFN_STATUS.PRESENT ∧ s.host.resets = [] then s.setF F.GLB_HFN_STATUS.READY 1 else s

theorem exec_writeReady (hc : s.censusRuns 6 = true) (hd : s.flag F.PWR_CENSUS.HU_DONE = true) (hcl : s.census.close = [])
    (ho : s.openRows = []) (hw : s.wbands.any (fun e => e.2.closing) = false) : exec .writeReady s = .next s.writesReady.hostReady := by
  show execWriteReady s = _
  rw [execWriteReady, if_neg (by simp only [hc, hd, hcl, ho, hw]; decide)]
  rfl

theorem State.writesReady_spec (s : State) : s.writesReady.stage = 7 ∧ s.writesReady.flag F.PWR_CENSUS.WRITE_READY = true ∧
    s.writesReady.isPending Ev.writeReady = true ∧ regsKept s s.writesReady [F.PWR_CENSUS.STAGE.reg, (pendF Ev.writeReady).reg] ∧
    s.writesReady = { s with regs := s.writesReady.regs, evc := s.writesReady.evc } := by
  have happart : readyFields.Pairwise (fun a b => a.1.apart b.1 = true) := by decide
  refine ⟨?_, ?_, State.isPending_raise rfl rfl, fun o ho => ?_, s.raise_setFields _ _⟩
  · rw [State.writesReady, State.stage, State.getF_raise_apart (by decide) (by decide),
      State.getF_setFields happart (v := 7) (by simp [readyFields]) (by decide)]
    rfl
  · rw [State.writesReady, State.flag, State.getF_raise_apart (by decide) (by decide),
      State.getF_setFields happart (v := 1) (by simp [readyFields]) (by decide)]
    rfl
  · simp only [List.mem_cons, List.not_mem_nil, or_false, not_or] at ho
    obtain ⟨hstage, hpend⟩ := ho
    rw [State.writesReady, State.reg_raise hpend]
    exact State.reg_setFields (by simpa [readyFields] using ⟨hstage, hstage⟩)

/-- The host function's READY alone changes. -/
theorem State.hostReady_spec (s : State) : (s.flag F.GLB_HFN_STATUS.PRESENT = true → s.host.resets = [] →
      s.hostReady.flag F.GLB_HFN_STATUS.READY = true) ∧ regsKept s s.hostReady [F.GLB_HFN_STATUS.READY.reg] ∧
    s.hostReady = { s with regs := s.hostReady.regs } := by
  unfold State.hostReady
  split
  case isTrue => exact ⟨fun _ _ => State.flag_setF_one rfl (by decide), fun o ho => State.reg_setF_ne (List.ne_of_not_mem_cons ho), rfl⟩
  case isFalse hno => exact ⟨fun hp hr => absurd ⟨hp, hr⟩ hno, fun _ _ => rfl, rfl⟩

/-! ## GAP_ASSUMED -/

/-- The state in which the worst-case gap is added to MediaTime and reported. -/
def State.gapTaken (s : State) : State :=
  (((s.advanceTime s.worstGap).setF F.PWR_CENSUS.GAP_ASSUMED 1).updCensus (fun (c : Census) => { c with gap := s.worstGap })).raise Ev.gapAssumed

theorem exec_gapAssumed (ha : s.awake = true) (hn : s.census.anchor = none) (hg : s.flag F.PWR_CENSUS.GAP_ASSUMED = false)
    (hlo : 4 ≤ s.stage) (hst : s.stage ≠ 15) : exec .gapAssumed s =
    .next (if s.flag F.PWR_CENSUS.FIRST = true ∨ s.tickno < 1048576 then s else s.gapTaken.afterGap) := by
  show execGapAssumed s = _
  simp only [execGapAssumed, ha, hn, hg, Nat.not_lt.2 hlo, hst, Bool.not_true, Bool.false_eq_true, Option.isSome_none, false_or, or_false]
  rfl

/-- What follows a gap is work for patrol and for the level tables (R386, R409). -/
theorem State.afterGap_eq (s : State) : ∃ patrol levels, s.afterGap = { s with patrol := patrol, levels := levels } := by
  unfold State.afterGap
  dsimp only
  split
  · exact ⟨_, _, rfl⟩
  · split <;> exact ⟨_, _, rfl⟩

theorem State.gapTaken_spec (s : State) : s.gapTaken.flag F.PWR_CENSUS.GAP_ASSUMED = true ∧
    s.gapTaken.getF F.TCK_MTIME.MEDIATIME = (s.getF F.TCK_MTIME.MEDIATIME + s.worstGap) % 2 ^ 64 ∧ s.gapTaken.census.gap = s.worstGap ∧
    s.gapTaken.isPending Ev.gapAssumed = true ∧ s.gapTaken.getF F.TCK_FRAC.ACC = s.getF F.TCK_FRAC.ACC := by
  refine ⟨?_, ?_, ?_, State.isPending_raise rfl rfl, ?_⟩
  · rw [State.gapTaken, State.flag, State.getF_raise_apart (by decide) (by decide), State.updCensus_getF, State.getF_setF_self _ _ _ (by decide)]
    rfl
  · rw [State.gapTaken, State.getF_raise_apart (by decide) (by decide), State.updCensus_getF,
      State.getF_setF_apart _ _ _ _ (by decide) (by decide), State.advanceTime, State.updCensus_getF, State.getF_setF_self _ _ _ (by decide)]
    rfl
  · rw [State.gapTaken, State.raise_census]
    rfl
  · rw [State.gapTaken, State.getF_raise_apart (by decide) (by decide), State.updCensus_getF,
      State.getF_setF_apart _ _ _ _ (by decide) (by decide), State.advanceTime, State.updCensus_getF,
      State.getF_setF_apart _ _ _ _ (by decide) (by decide)]

/-! ## CENSUS_RECORD_COMMIT -/

/-- The state in which a record of the census is taken as committed at this tick. -/
def State.recordTaken (s : State) : State := s.updCensus (fun (c : Census) => { c with recDue := false, lastRecord := s.tickno })

theorem exec_censusRecordCommit (ha : s.awake = true) (hp : s.pfail = false) (hs : s.pf.settle = false) (hlo : 4 ≤ s.stage) (hhi : s.stage ≤ 7) :
    exec .censusRecordCommit s = .next (if s.census.recDue = true ∨ 6 ≤ s.stage ∧ s.census.lastRecord + 1048576 ≤ s.tickno then
      s.recordTaken.commitRecord (s.censusPayload 0) else s) := by
  show execCensusRecordCommit s = _
  rw [execCensusRecordCommit, if_neg (by simp [ha, hp, hs]; omega)]
  rfl

/-- A NOR operation under way lets no other start (R558). -/
theorem State.norPump_of_busy (h : s.cfs.cur ≠ none) : s.norPump = s := if_pos (.inr (Option.isSome_iff_ne_none.2 h))

/-- A record waits while the port is busy. -/
theorem State.commitRecord_of_busy (hf : s.flag F.CFS_DEV.FORMATTED = true) (h : s.cfs.cur ≠ none) (payload : List Byte) :
    s.commitRecord payload = s.updCfs (fun c => { c with appends := c.appends ++ [Append.mk .block payload] }) :=
  (if_pos hf).trans (State.norPump_of_busy h)

/-- Settles O28: the last band's close by what the write path keeps, the rest by the state each command leads to. -/
theorem writeReadyAndRecord : Obligations.WriteReadyAndRecord := by
  unfold Obligations.WriteReadyAndRecord
  refine ⟨?rowClose, ?ready, ?gap, ?record⟩
  case rowClose =>
    intro s hc
    have hexec := exec_recoveryRowClose hc
    refine ⟨fun hnone => ?_, fun g b hlast hrows hcarry => ?_⟩
    · rw [hexec, hnone]
      rfl
    · obtain ⟨hclose, hstage⟩ := State.rowClose_last hlast hrows hcarry
      rw [hlast, List.foldl_cons, List.foldl_nil] at hexec
      exact ⟨_, hexec, hclose, hstage.trans (State.stage_of_censusRuns hc)⟩
  case ready =>
    intro s hc hd hcl ho hw
    obtain ⟨hstage, hready, hevent, hregs, hframe⟩ := s.writesReady_spec
    obtain ⟨hhost, hhostRegs, hhostFrame⟩ := s.writesReady.hostReady_spec
    have hkept : ∀ {f : Field}, f.reg ≠ F.GLB_HFN_STATUS.READY.reg → s.writesReady.hostReady.getF f = s.writesReady.getF f :=
      fun hf => State.getF_congr (hhostRegs _ (by simpa using hf))
    refine ⟨_, exec_writeReady hc hd hcl ho hw, (hkept (by decide)).trans hstage, ?_, ?_, fun hp hr => hhost ?_ ?_, fun o ho => ?_, ?_⟩
    · rw [State.flag, hkept (by decide)]
      exact hready
    · exact (State.isPending_congr rfl (hkept (by decide))).trans hevent
    · rw [State.flag_congr (hregs _ (by decide))]
      exact hp
    · rw [hframe]
      exact hr
    · simp only [List.mem_cons, List.not_mem_nil, or_false, not_or] at ho
      obtain ⟨hstageReg, hpendReg, hreadyReg⟩ := ho
      rw [hhostRegs o (by simpa using hreadyReg), hregs o (by simp [hstageReg, hpendReg])]
    · rw [hhostFrame, hframe]
  case gap =>
    intro s ha hg hn hlo hst
    have hexec := exec_gapAssumed ha hn hg hlo hst
    refine ⟨fun hno => by rw [hexec, if_pos hno], fun hfirst htick => ?_⟩
    rw [if_neg (by simp [hfirst, htick])] at hexec
    obtain ⟨patrol, levels, hafter⟩ := s.gapTaken.afterGap_eq
    rw [hafter] at hexec
    exact ⟨_, hexec, s.gapTaken_spec⟩
  case record =>
    intro s ha hp hs hlo hhi
    have hexec := exec_censusRecordCommit ha hp hs hlo hhi
    refine ⟨fun hdue hlate => ?_, fun hdue hf hcur => ?_⟩
    · rw [hexec, if_neg (by simp only [hdue, Bool.false_eq_true, false_or]; omega)]
    · rw [if_pos hdue, State.commitRecord_of_busy (s := s.recordTaken) hf hcur] at hexec
      exact ⟨_, hexec, rfl, rfl, rfl⟩

end Sys2Proof.Machine
end

section
/-! SUPPORT. Requests of the fabric, and the Liner while it is off (R473, R487, R629): what asking, answering and abandoning leave unchanged, and that
every access passes an empty cache by. -/

namespace Sys2Proof.Machine

variable {s t u : State} {who : FabWho}

/-! ## What the fabric's requests change -/

/-- The requests of the fabric alone differ, and more may have been sent. -/
structure State.FabOnly (s t : State) : Prop where
  frame : t = { s with fab := t.fab, out := t.out }
  sent : ∃ m, t.out = s.out ++ m

namespace State.FabOnly

theorem refl (s : State) : State.FabOnly s s := ⟨rfl, [], (List.append_nil _).symm⟩

theorem trans (h : State.FabOnly s t) (h' : State.FabOnly t u) : State.FabOnly s u := by
  obtain ⟨m, hm⟩ := h.sent
  obtain ⟨m', hm'⟩ := h'.sent
  exact ⟨by rw [h'.frame, h.frame], m ++ m', by rw [hm', hm, List.append_assoc]⟩

theorem foldl {α : Type} {f : State → α → State} (hf : ∀ u a, State.FabOnly u (f u a)) (l : List α) (s : State) : State.FabOnly s (l.foldl f s) :=
  List.foldlRecOn l f (motive := State.FabOnly s) (refl s) fun u hu a _ => hu.trans (hf u a)

section
variable (h : State.FabOnly s t)
include h

theorem ctxs : t.ctxs = s.ctxs := by rw [h.frame]
theorem queues : t.queues = s.queues := by rw [h.frame]
theorem liner : t.liner = s.liner := by rw [h.frame]
theorem wbands : t.wbands = s.wbands := by rw [h.frame]
theorem reg (o : Nat) : t.reg o = s.reg o := by rw [h.frame]; rfl
theorem getF (f : Field) : t.getF f = s.getF f := State.getF_congr (h.reg _)
theorem ctx (c : Nat) : t.ctx c = s.ctx c := by rw [State.ctx, h.ctxs, State.ctx]
theorem queue (q : Nat) : t.queue q = s.queue q := by rw [State.queue, h.queues, State.queue]

end

end State.FabOnly

theorem State.fabIssue_sent (l : List FabReq) : ∀ (s : State) (before : List FabReq), ∃ m, (s.fabIssue before l).out = s.out ++ m := by
  induction l with
  | nil => exact fun s _ => ⟨[], (List.append_nil _).symm⟩
  | cons r rest ih =>
    intro s before
    unfold State.fabIssue
    split
    · exact ih _ _
    · split
      · exact ih _ _
      · obtain ⟨m, hm⟩ := ih (s.emit _) (before ++ [_])
        exact ⟨_, hm.trans (List.append_assoc _ _ _)⟩

/-- Requests that are issued keep their purposes and their order. -/
theorem State.fabIssue_whos (l : List FabReq) : ∀ (s : State) (before : List FabReq),
    (s.fabIssue before l).fab.map (·.who) = (before ++ l).map (·.who) := by
  induction l with
  | nil => exact fun s before => by rw [State.fabIssue, List.append_nil]
  | cons r rest ih =>
    intro s before
    unfold State.fabIssue
    split
    · rw [ih, List.append_assoc]; rfl
    · split
      · rw [ih, List.append_assoc]; rfl
      · rw [ih, List.append_assoc]; simp

theorem State.fabPump_whos (s : State) : s.fabPump.fab.map (·.who) = s.fab.map (·.who) := State.fabIssue_whos s.fab s []

theorem State.fabPump_fabOnly (s : State) : State.FabOnly s s.fabPump := ⟨State.fabIssue_frame _ _ _, State.fabIssue_sent _ _ _⟩

/-- A pump after the list of requests was changed. -/
theorem State.fabOnly_pump (s : State) (l : List FabReq) : State.FabOnly s (State.fabPump { s with fab := l }) := by
  have h := State.fabPump_fabOnly { s with fab := l }
  exact ⟨by rw [h.frame], h.sent⟩

theorem State.fabAsk_fabOnly (s : State) (who : FabWho) (write : Bool) (addr len : Nat) : State.FabOnly s (s.fabAsk who write addr len) :=
  s.fabOnly_pump _

theorem State.fabAsk_whos (s : State) (who : FabWho) (write : Bool) (addr len : Nat) :
    (s.fabAsk who write addr len).fab.map (·.who) = s.fab.map (·.who) ++ [who] :=
  (State.fabPump_whos _).trans (List.map_append ..)

theorem State.fabAnswered_fabOnly (s : State) (who : FabWho) : State.FabOnly s (s.fabAnswered who) := s.fabOnly_pump _

/-! ## Requests that are abandoned -/

/-- A pump after the requests and their epochs were changed. -/
theorem State.fabPump_of_epochs {l : List FabReq} (h : ∃ e, t = { s with epochs := e }) :
    State.fabPump { t with fab := l } = { s with
      fab := (State.fabPump { t with fab := l }).fab
      epochs := (State.fabPump { t with fab := l }).epochs
      out := (State.fabPump { t with fab := l }).out } := by
  obtain ⟨e, rfl⟩ := h
  rw [(State.fabPump_fabOnly _).frame]

theorem State.fabAbandon_frame (s : State) (drop : FabWho → Bool) : s.fabAbandon drop = { s with
    fab := (s.fabAbandon drop).fab, epochs := (s.fabAbandon drop).epochs, out := (s.fabAbandon drop).out } := by
  refine State.fabPump_of_epochs (List.foldlRecOn s.fab _ (motive := fun t : State => ∃ e, t = { s with epochs := e }) ⟨s.epochs, rfl⟩ ?_)
  rintro t ⟨e, rfl⟩ r -
  split
  · split <;> exact ⟨_, rfl⟩
  · exact ⟨_, rfl⟩

/-- No request that was to be dropped is left. -/
theorem State.fabAbandon_drops (s : State) (drop : FabWho → Bool) : ∀ r ∈ (s.fabAbandon drop).fab, drop r.who = false := by
  intro r hr
  have hwho : r.who ∈ (s.fab.filter (fun r => !drop r.who)).map (·.who) := by
    rw [← State.fabPump_whos { s.fab.foldl _ s with fab := s.fab.filter (fun r => !drop r.who) }]
    exact List.mem_map_of_mem hr
  obtain ⟨x, hx, hxr⟩ := List.mem_map.1 hwho
  rw [← hxr]
  simpa using (List.mem_filter.1 hx).2

/-! ## Accesses with the Liner off (R473, R487) -/

theorem State.uncached_congr (hl : t.liner = s.liner) (hr : t.reg 0x80000 = s.reg 0x80000) (h : s.uncached) : t.uncached := by
  have hon : t.linerOn = s.linerOn := congrArg (· == 1) (State.getF_congr (f := F.LNR_CTRL.STATE) hr)
  unfold State.uncached at h ⊢
  rwa [hl, hon]

theorem State.FabOnly.uncached (h : State.FabOnly s t) (hs : s.uncached) : t.uncached := State.uncached_congr h.liner (h.reg _) hs

section
variable (h : s.uncached)
include h

theorem State.flushMerge_uncached (l : Nat) : s.flushMerge l = s := by
  obtain ⟨-, -, hmerge, -⟩ := h
  simp [State.flushMerge, hmerge]

theorem State.flushAll_uncached : s.flushAll = s := by
  obtain ⟨-, -, hmerge, -⟩ := h
  simp [State.flushAll, hmerge]

theorem State.ucRead_uncached (l : Nat) : s.ucRead l = s := by
  have hmerge := State.flushMerge_uncached h l
  obtain ⟨-, hlines, -, -, -, hflips⟩ := h
  simp [State.ucRead, State.tagCheck_clean hflips, hmerge, State.keyOf_no_lines hlines]

theorem State.ucWrite_uncached (l a : Nat) (m : List Byte) : s.ucWrite l a m = s := by
  obtain ⟨-, hlines, hmerge, -, -, hflips⟩ := h
  exact State.ucWrite_empty hflips hlines hmerge l a m

theorem State.attrOf_uncached (who : FabWho) (a : Nat) : s.attrOf who a = if who.plain then .nonAlloc else .uc := by
  simp [State.attrOf, h.1]

theorem State.fabRead_uncached (who : FabWho) (addr len : Nat) : s.fabRead who addr len = s.fabAsk who false addr len := by
  have hattr : ∀ a, s.attrOf who a = .nonAlloc ∨ s.attrOf who a = .uc := fun a => by rw [State.attrOf_uncached h]; cases who.plain <;> simp
  simp [State.fabRead, hattr, List.foldl_fixed' (State.ucRead_uncached h)]

theorem State.fabPage_uncached (hw : who.plain = false) (addr len : Nat) (fields : List (Nat × Nat × Nat)) :
    s.fabPage who addr len fields = (s.fabAsk who true addr len).emit (.page addr len fields) := by
  have hlines : (linesOf addr len).foldl (fun s l => s.ucWrite l addr (pageBytes len fields)) s = s :=
    List.foldl_fixed' (fun l => State.ucWrite_uncached h l addr _) _
  simp [State.fabPage, State.attrOf_uncached h, hw, hlines]

/-- With no request under way there is nothing for the Liner to do. -/
theorem State.lnRun_uncached (hf : s.fab = []) : s.lnRun = s := by
  obtain ⟨hoff, -, -, -, hops, -⟩ := h
  have hserve : s.lnServe = s := by
    unfold State.lnServe
    rw [hf]
    show { s with fab := s.fab.filter _ } = s
    rw [hf, List.filter_nil, ← hf]
  have hmaint : s.maintStep = s := by rw [State.maintStep, hops, List.foldl_nil]
  rw [State.lnRun, hserve, hmaint, State.prefetchRun, hoff]
  rfl

end

end Sys2Proof.Machine
end

section
/-! SUPPORT. QUERY (R262, R280): each command serves its page, and a page goes to a buffer of one fragment in one write. -/

namespace Sys2Proof.Machine

variable {s : State} {c a page : Nat} {i : Instr}

/-- The commands of a QUERY entry, each with the page it serves. -/
def queryCommands (c : Nat) : List (Instr × Nat) :=
  [(.queryVdieMap c, 0x0100), (.querySet c, 0x0101), (.queryBand c, 0x0102), (.querySpares c, 0x0103), (.queryPlanner c, 0x0200),
    (.queryQueue c, 0x0700), (.queryDecoder c, 0x0900), (.queryChannelRead c, 0x0901), (.queryLevels c, 0x0A00), (.queryLlr c, 0x0A01),
    (.queryPatrol c, 0x0B00), (.queryPartnerPlan c, 0x1200), (.queryTelemetry c, 0x1400)]

theorem exec_queryCommands : ∀ e ∈ queryCommands c, exec e.1 s = .next (s.serveQuery c e.2) := by
  simp only [queryCommands, List.forall_mem_cons, List.not_mem_nil, false_imp_iff, implies_true, and_true]
  exact ⟨rfl, rfl, rfl, rfl, rfl, rfl, rfl, rfl, rfl, rfl, rfl, rfl, rfl⟩

/-- The page that an entry asks for. -/
def State.askedPage (s : State) (c page : Nat) : List (Nat × Nat × Nat) :=
  s.queryPage page (ent (s.ctx c).entry 40 8) (s.qNs (s.ctx c).queue)

theorem exec_query (hi : (i, page) ∈ queryCommands c) (hs : s.starts c opQUERY = true) (he : ent (s.ctx c).entry 32 2 = page) :
    exec i s = .next ((s.pageOut c (s.askedPage c page)).finish c 0 0 s.tickno 0 0) := by
  rw [exec_queryCommands (i, page) hi]
  simp [State.serveQuery, State.askedPage, hs, he]

theorem State.pageOut_of_no_frags (h : (s.ctx c).frags = []) (l : List (Nat × Nat × Nat)) : s.pageOut c l = s := by
  rw [State.pageOut, h, State.pageParts]

/-- The fields of a page that lie in its 4,096 bytes. -/
def shownFields (l : List (Nat × Nat × Nat)) : List (Nat × Nat × Nat) := l.filter (fun e => decide (e.1 < 4096))

theorem State.pageOut_one_frag (h : (s.ctx c).frags = [Frag.mk a 4096]) (hu : s.uncached) (l : List (Nat × Nat × Nat)) :
    s.pageOut c l = (s.fabAsk (.result c) true a 4096).emit (.page a 4096 (shownFields l)) := by
  rw [State.pageOut, h, State.pageParts, State.pageParts, State.fabPage_uncached hu rfl]
  simp [shownFields]

/-- Settles O42: every page ends its entry at once, and one fragment takes the page whole. -/
theorem queriesAnswerTheirPage : Obligations.QueriesAnswerTheirPage := by
  unfold Obligations.QueriesAnswerTheirPage
  intro s c i page hi hs he
  have hexec := exec_query hi hs he
  refine ⟨fun hf => ?_, fun a hf hu => ?_⟩
  · rw [State.pageOut_of_no_frags hf] at hexec
    exact exists_finished hexec
  · rw [State.pageOut_one_frag hf hu] at hexec
    have hask := s.fabAsk_fabOnly (.result c) true a 4096
    obtain ⟨m, hm⟩ := hask.sent
    obtain ⟨t, ht, hfin⟩ := exists_finished hexec
    refine ⟨_, t, m, ht, hfin, hask.ctxs, ?_, fun o _ => ?_⟩
    · rw [hfin.2.2, ← hm]
      rfl
    · rw [hfin.2.2]
      exact hask.reg o

end Sys2Proof.Machine
end

section
/-! SUPPORT. Entries that move data (R300, R326, R371): a WRITE or COPY joins its band's order of placement, and the pools that serve it leave every
entry's state and the bands alone; the codeword of each slot of a raw read. -/

namespace Sys2Proof.Machine

variable {s t u : State} {c m : Nat} {i : Instr}

/-! ## Intake (R300) -/

/-- Buffers are assigned and tiles asked for: no entry changes its state, and no band its order of placement. -/
structure State.Intake (s t : State) : Prop where
  liner : t.liner = s.liner
  linerCtrl : t.reg 0x80000 = s.reg 0x80000
  wbands : t.wbands = s.wbands
  state : ∀ k, (t.ctx k).state = (s.ctx k).state
  entry : ∀ k, (t.ctx k).entry = (s.ctx k).entry

theorem State.Intake.refl (s : State) : State.Intake s s := ⟨rfl, rfl, rfl, fun _ => rfl, fun _ => rfl⟩

theorem State.Intake.trans (h : State.Intake s t) (h' : State.Intake t u) : State.Intake s u :=
  ⟨h'.liner.trans h.liner, h'.linerCtrl.trans h.linerCtrl, h'.wbands.trans h.wbands, fun k => (h'.state k).trans (h.state k),
    fun k => (h'.entry k).trans (h.entry k)⟩

theorem State.Intake.uncached (h : State.Intake s t) (hs : s.uncached) : t.uncached := State.uncached_congr h.liner h.linerCtrl hs

theorem State.FabOnly.intake (h : State.FabOnly s t) : State.Intake s t :=
  ⟨h.liner, h.reg _, h.wbands, fun k => congrArg Ctx.state (h.ctx k), fun k => congrArg Ctx.entry (h.ctx k)⟩

theorem State.intake_setF {f : Field} (v : Nat) (h : f.reg ≠ 0x80000) : State.Intake s (s.setF f v) :=
  ⟨rfl, State.reg_setF_ne (Ne.symm h), rfl, fun _ => rfl, fun _ => rfl⟩

theorem State.intake_setCtx {x : Ctx} (hs : x.state = (s.ctx c).state) (he : x.entry = (s.ctx c).entry) : State.Intake s (s.setCtx c x) := by
  refine ⟨rfl, rfl, rfl, fun k => ?_, fun k => ?_⟩
  all_goals
    by_cases hk : k = c
    · rw [hk, State.ctx_setCtx]; assumption
    · rw [State.ctx_setCtx_ne hk]

theorem State.intake_takeBufs (h : s.takeBufs c = some t) : State.Intake s t := by
  unfold State.takeBufs at h
  extract_lets x n pool r s' at h
  split at h
  · obtain rfl := Option.some.inj h
    have hpool : State.Intake s s' := by
      show State.Intake s (s.setPoolFree _ _)
      unfold State.setPoolFree
      split <;> exact State.intake_setF _ (by decide)
    exact hpool.trans (State.intake_setCtx (hpool.state c).symm (hpool.entry c).symm)
  · cases h

/-- Steps that each ask the fabric alone, as long as the Liner is off. -/
theorem State.FabOnly.foldl_uncached {α : Type} {f : State → α → State} (hf : ∀ u a, u.uncached → State.FabOnly u (f u a)) (l : List α)
    (h : s.uncached) : State.FabOnly s (l.foldl f s) :=
  List.foldlRecOn l f (motive := State.FabOnly s) (.refl s) fun u hu a _ => hu.trans (hf u a (hu.uncached h))

theorem State.fabRead_fabOnly (h : s.uncached) (who : FabWho) (addr len : Nat) : State.FabOnly s (s.fabRead who addr len) := by
  rw [State.fabRead_uncached h]
  exact s.fabAsk_fabOnly who false addr len

theorem State.askTiles_fabOnly (h : s.uncached) (c : Nat) : State.FabOnly s (s.askTiles c) :=
  .foldl_uncached (fun _ _ hu => .foldl_uncached (fun _ _ hv => State.fabRead_fabOnly hv _ _ _) _ hu) _ h

theorem State.intake_intakeServe (l : List Nat) : ∀ {s : State}, s.uncached → State.Intake s (s.intakeServe l) := by
  induction l with
  | nil => exact fun {s} _ => .refl s
  | cons c rest ih =>
    intro s h
    unfold State.intakeServe
    split
    next t ht =>
      have htaken := State.intake_takeBufs ht
      have hu := htaken.uncached h
      split
      · have hasked := htaken.trans (State.askTiles_fabOnly hu c).intake
        exact hasked.trans (ih (hasked.uncached h))
      · exact htaken.trans (ih hu)
    next => exact .refl s

theorem State.intake_intakePump (h : s.uncached) : State.Intake s s.intakePump :=
  have hfirst := State.intake_intakeServe (s.intakeWait 1) h
  hfirst.trans (State.intake_intakeServe _ (hfirst.uncached h))

/-! ## WRITE and COPY (R300, R326) -/

theorem State.startWrite_refused {st d : Nat} (h : s.destRefusal c = some (st, d)) : s.startWrite c = s.finish c st d 0 0 0 := by
  simp only [State.startWrite, h]

/-- The state in which an entry has joined its band's order of placement. -/
def State.joined (s : State) (c : Nat) : State :=
  (s.setCtx c { s.ctx c with state := .running, openMsg := none }).setWband (s.destSet c) (s.destBand c)
    { s.wband (s.destSet c) (s.destBand c) with entries := (s.wband (s.destSet c) (s.destBand c)).entries ++ [c] }

theorem State.startWrite_joins (h : s.destRefusal c = none) : s.startWrite c =
    if ((s.joined c).intakePump.ctx c).bufs = 0 then (s.joined c).intakePump.countWrap F.PTY_WFAIL.INTAKE_WAITS 1 else (s.joined c).intakePump := by
  simp only [State.startWrite, h]
  rfl

theorem State.joined_spec (s : State) (c : Nat) : (s.joined c).ctx c = { s.ctx c with state := .running, openMsg := none } ∧
    ((s.joined c).wband (s.destSet c) (s.destBand c)).entries = (s.wband (s.destSet c) (s.destBand c)).entries ++ [c] :=
  ⟨State.ctx_setCtx s c { s.ctx c with state := .running, openMsg := none }, congrArg WBand.entries (State.wband_setWband _ _ _ _)⟩

theorem State.startWrite_spec (h : s.destRefusal c = none) (hu : s.uncached) : ((s.startWrite c).ctx c).state = .running ∧
    ((s.startWrite c).ctx c).entry = (s.ctx c).entry ∧ ((s.startWrite c).wband (s.destSet c) (s.destBand c)).entries =
      (s.wband (s.destSet c) (s.destBand c)).entries ++ [c] := by
  obtain ⟨hctx, hentries⟩ := s.joined_spec c
  have hpump : State.Intake (s.joined c) (s.joined c).intakePump := State.intake_intakePump (State.uncached_congr rfl rfl hu)
  have hstart : State.Intake (s.joined c) (s.startWrite c) := by
    rw [State.startWrite_joins h]
    split
    · exact hpump.trans (State.intake_setF _ (by decide))
    · exact hpump
  refine ⟨?_, ?_, ?_⟩
  · rw [hstart.state, hctx]
  · rw [hstart.entry, hctx]
  · rw [State.wband, hstart.wbands]
    exact hentries

theorem exec_placing (h : (i = .write c ∧ s.starts c opWRITE = true) ∨
    (i = .copyMedia c ∧ s.starts c opCOPY = true ∧ entSrcMem (s.ctx c).entry = false) ∨
      (i = .copyMemory c ∧ s.starts c opCOPY = true ∧ entSrcMem (s.ctx c).entry = true)) : exec i s = .next (s.startWrite c) := by
  rcases h with ⟨rfl, hs⟩ | ⟨rfl, hs, hm⟩ | ⟨rfl, hs, hm⟩
  · exact congrArg Host.Outcome.next (if_pos hs)
  · exact congrArg Host.Outcome.next (if_pos (by rw [hs, hm]; rfl))
  · exact congrArg Host.Outcome.next (if_pos (by rw [hs, hm]; rfl))

/-! ## SCRUB_RANGE (R259) -/

/-- The ladder ceiling of a SCRUB_RANGE: its own where it names one, never above the entry's. -/
def State.scrubCeil (s : State) (c : Nat) : Nat :=
  min 6 (if (ent (s.ctx c).entry 36 4).testBit 11 then min (s.ctx c).ceil (ent (s.ctx c).entry 36 4 / 256 % 8) else (s.ctx c).ceil)

theorem exec_scrubRange (h : s.starts c opSCRUB = true) :
    exec (.scrubRange c) s = .next (s.setCtx c { s.ctx c with state := .running, ceil := s.scrubCeil c, deadline := 0 }) :=
  congrArg Host.Outcome.next (if_pos h)

/-! ## READ_RAW (R371) -/

/-- The vdie that a raw read names, its family's slots of a page, and the slots it reads. -/
def State.rawVdie (s : State) (c : Nat) : Nat := nsVdie (s.qNs (s.ctx c).queue) (addrVdie (entMaddr (s.ctx c).entry))
def State.rawSlots (s : State) (c : Nat) : Nat := s.famSlots (s.vdie (s.rawVdie c)).family
def State.rawEnd (s : State) (c : Nat) : Nat := addrSlot (entMaddr (s.ctx c).entry) + entCount (s.ctx c).entry

/-- The codeword of slot `k` of a raw read. -/
def State.rawCw (s : State) (c k : Nat) : Cw :=
  let x := s.ctx c
  let a := entMaddr x.entry
  let y := s.vdie (s.rawVdie c)
  { Cw.zero with
    use := .raw c k, cls := 1, level := x.level, order := x.admSeq, ceil := 1, deadline := x.deadline, admTick := x.admTick
    vdie := s.rawVdie c
    spare := y.state == 1 && y.oldPdie == noPdie
    pdie := if y.state = 1 ∧ y.oldPdie ≠ noPdie then y.oldPdie else y.pdie
    plane := addrPlane a, block := addrBlock a, page := addrPage a, slot := addrSlot a + k
    slc := decide (s.vdieMode (s.rawVdie c) = 1 ∨ s.journalIndex (s.qNs x.queue) (s.rawVdie c) (addrBlock a) = true)
    tracked := if ent x.entry 36 1 = 1 then (List.range 15).map (fun j => byteS8 (BitVec.ofNat 8 (ent x.entry (40 + j) 1))) else [] }

/-- The state in which a raw read runs, no slot of it sensed. -/
def State.rawBegun (s : State) (c : Nat) : State :=
  s.setCtx c { s.ctx c with
    state := .running
    tiles := (List.range (entCount (s.ctx c).entry)).map (fun k => TileJob.mk (addrSlot (entMaddr (s.ctx c).entry) + k) 0 none 0 0 [] 0) }

section
variable (hi : (i, m) ∈ [(Instr.readRawMode0 c, 0), (.readRawMode1 c, 1), (.readRawMode2 c, 2)]) (hs : s.starts c opREADRAW = true)
  (hm : ent (s.ctx c).entry 32 1 = m)
include hi hs hm

theorem exec_readRaw : exec i s = .next (if s.rawSlots c < s.rawEnd c then s.finish c 0x40 28 0 0 0
    else (List.range (entCount (s.ctx c).entry)).foldl (fun x k => x.beginCw (s.rawCw c k)) (s.rawBegun c)) := by
  have hexec : exec i s = .next (s.startRaw c m) := by
    simp only [List.mem_cons, Prod.mk.injEq, List.not_mem_nil, or_false] at hi
    rcases hi with ⟨rfl, rfl⟩ | ⟨rfl, rfl⟩ | ⟨rfl, rfl⟩ <;> rfl
  rw [hexec]
  refine congrArg Host.Outcome.next ((if_neg ?_).trans rfl)
  simp [hs, hm]

end

/-- Settles O39: each entry begins or is refused at once. -/
theorem dataEntriesStart : Obligations.DataEntriesStart := by
  unfold Obligations.DataEntriesStart
  refine ⟨?read, ?scrub, ?place, ?raw⟩
  case read =>
    intro s c hs
    exact ⟨_, congrArg Host.Outcome.next (if_pos hs), s.runCtx_spec c⟩
  case scrub =>
    intro s c hs
    refine ⟨_, s.scrubCeil c, exec_scrubRange hs, Nat.min_le_left _ _, fun hb => ?_, fun hb => ?_, State.ctx_setCtx s c _,
      fun k hk => State.ctx_setCtx_ne hk, rfl⟩
    · simp [State.scrubCeil, hb]
    · simp [State.scrubCeil, hb]
  case place =>
    intro s c i hi
    have hexec := exec_placing hi
    refine ⟨fun st d hr => ?_, fun hr hu => ⟨_, hexec, State.startWrite_spec hr hu⟩⟩
    rw [State.startWrite_refused hr] at hexec
    exact exists_finished hexec
  case raw =>
    intro s c i m hi hs hm
    have hexec := exec_readRaw hi hs hm
    refine ⟨fun hbeyond => ?_, fun hwithin => ?_⟩
    · rw [if_pos (show s.rawSlots c < s.rawEnd c from hbeyond)] at hexec
      exact exists_finished hexec
    · rw [if_neg (show ¬ s.rawSlots c < s.rawEnd c from Nat.not_lt.2 hwithin)] at hexec
      have hctx : (s.rawBegun c).ctx c = _ := State.ctx_setCtx s c _
      exact ⟨_, _, s.rawCw c, hexec, rfl, fun k => ⟨rfl, rfl, rfl, rfl, rfl, rfl, rfl⟩, congrArg Ctx.state hctx,
        by rw [hctx]; simp, fun k hk => State.ctx_setCtx_ne hk, rfl⟩

end Sys2Proof.Machine
end

section
/-! SUPPORT. READ_RESOLVE of a READ whose COUNT is 0 (R328): there is no tile whose end could complete it. -/

namespace Sys2Proof.Machine

variable {s : State} {c : Nat}

/-- An entry without tiles has none that ended. -/
theorem State.tilesDone_of_no_tiles (h : (s.ctx c).tiles = []) : s.tilesDone c = s := by
  refine if_pos (.inl ?_)
  simp [Ctx.allEnded, h]

/-- A READ of no slot resolves to no tile, and is not completed. -/
theorem readResolve_of_count_zero (ha : s.awake = true) (hp : s.pfail = false) (hs : (s.ctx c).state = .running)
    (hop : entOp (s.ctx c).entry = opREAD) (ht : (s.ctx c).tiles = []) (he : (s.ctx c).ended = false) (hb : (s.ctx c).aborting = 0)
    (hn : entCount (s.ctx c).entry = 0) : exec (.readResolve c) s = .next (s.setCtx c { s.ctx c with tiles := [] }) := by
  have hscrub : ¬ entOp (s.ctx c).entry = opSCRUB := by rw [hop]; decide
  refine congrArg Host.Outcome.next ((if_neg ?_).trans ?_)
  · simp [ha, hp, hs, hop, ht, he, hb]
  · dsimp only
    rw [if_neg hscrub, hn]
    exact State.tilesDone_of_no_tiles (congrArg Ctx.tiles (State.ctx_setCtx s c { s.ctx c with tiles := [] }))

/-- A READ that completes without a status array is the next in the order of readiness. -/
theorem State.finishRead_readySeq (h : entSptr (s.ctx c).entry = 0) : (s.finishRead c).readySeq = s.readySeq + 1 := by
  unfold State.finishRead
  dsimp only
  rw [if_pos h]
  rfl

/-- A READ with COUNT 0 is under way. -/
def emptyRead : State := { State.reset with phase := .on, ctxs := [(0, { Ctx.zero with state := .running, entry := BitVec.ofNat 512 opREAD })] }

set_option exponentiation.threshold 512 in
theorem emptyRead_entry : entOp (emptyRead.ctx 0).entry = opREAD ∧ entCount (emptyRead.ctx 0).entry = 0 ∧ entSptr (emptyRead.ctx 0).entry = 0 := by
  decide

theorem emptyRead_runs : emptyRead.awake = true ∧ emptyRead.pfail = false := by decide

/-- Refutes O46: its first clause does not ask that the READ has a tile. A READ of COUNT 0 (which the checks at its fetch refuse, R266) resolves to no
tile, so that none ends, and it is not completed. -/
theorem not_readsResolveAndDecode : ¬ Obligations.ReadsResolveAndDecode := by
  unfold Obligations.ReadsResolveAndDecode
  rintro ⟨hresolve, -⟩
  obtain ⟨hop, hcount, hsptr⟩ := emptyRead_entry
  obtain ⟨hawake, hpfail⟩ := emptyRead_runs
  obtain ⟨u, t, hexec, ht, -, hentry, -, hframe⟩ := hresolve emptyRead 0 hawake hpfail rfl hop rfl rfl rfl _ rfl (by simp [hcount])
  have hstays : t = emptyRead.setCtx 0 { emptyRead.ctx 0 with tiles := [] } := Host.Outcome.next.inj (hexec.symm.trans
    (readResolve_of_count_zero hawake hpfail rfl hop rfl rfl rfl hcount))
  have hcompleted : t.readySeq = u.readySeq + 1 := by
    rw [ht, State.finishRead_readySeq (by rw [hentry]; exact hsptr)]
  rw [hstays, hframe] at hcompleted
  cases hcompleted

end Sys2Proof.Machine
end

section
/-! SUPPORT. Work queues are enabled and shut down (R245, R281, R282): the registers of a queue, what ENABLE writes, and how a shutdown ends every entry that
waits. -/

namespace Sys2Proof.Machine

/-! ## Stores whose keys rise -/

section
variable {α : Type} {d : Nat → α} {m : Store α} {lo : Option Nat} {k : Nat} {e : Nat × α}

theorem storeSorted_lt {b : Nat} (h : storeSorted (some b) m = true) : ∀ e ∈ m, b < e.1 := by
  induction m generalizing b with
  | nil => simp
  | cons x t ih =>
    simp only [storeSorted, Bool.and_eq_true, decide_eq_true_eq] at h
    exact List.forall_mem_cons.2 ⟨h.1, fun e he => h.1.trans (ih h.2 e he)⟩

theorem storeKeys_nodup (h : storeSorted lo m = true) : (storeKeys m).Nodup := by
  induction m generalizing lo with
  | nil => exact List.nodup_nil
  | cons x t ih =>
    simp only [storeSorted, Bool.and_eq_true] at h
    refine List.nodup_cons.2 ⟨fun hx => ?_, ih h.2⟩
    obtain ⟨e, he, hk⟩ := List.mem_map.1 hx
    exact (storeSorted_lt h.2 e he).ne hk.symm

/-- What is listed is what its key reads as. -/
theorem storeGet_of_mem (h : storeSorted lo m = true) (he : e ∈ m) : storeGet d m e.1 = e.2 := by
  induction m generalizing lo with
  | nil => cases he
  | cons x t ih =>
    simp only [storeSorted, Bool.and_eq_true] at h
    rcases List.mem_cons.1 he with rfl | he
    · exact if_pos rfl
    · exact (if_neg (storeSorted_lt h.2 e he).ne').trans (ih h.2 he)

/-- A key that does not read as an unlisted one is listed. -/
theorem storeGet_mem (h : storeGet d m k ≠ d k) : (k, storeGet d m k) ∈ m := by
  induction m with
  | nil => exact absurd rfl h
  | cons x t ih =>
    by_cases hk : k = x.1
    · have hx : storeGet d (x :: t) k = x.2 := if_pos hk
      rw [hx, hk]
      exact List.mem_cons_self
    · have hx : storeGet d (x :: t) k = storeGet d t k := if_neg hk
      rw [hx] at h ⊢
      exact List.mem_cons_of_mem _ (ih h)

end

variable {s t : State} {q c status : Nat} {bar : Bool}

/-! ## Enabling (R245) -/

theorem State.qWriteOk_lt {stop : Bool} (h : s.qWriteOk bar stop q = true) : q < 1024 := by
  simp only [State.qWriteOk, Bool.and_eq_true, decide_eq_true_eq] at h
  exact h.1.1.1.1

theorem exec_queueEnable (ha : s.asleep = false) (h : s.qWriteOk bar false q = true) : exec (.queueEnable bar q) s = .next (s.enableQueue q) := by
  show execQueueEnable bar q s = _
  simp [execQueueEnable, ha, h]

theorem State.enableCause_le (s : State) (q : Nat) : s.enableCause q ≤ 5 := by
  unfold State.enableCause
  dsimp only
  split_ifs <;> decide

theorem State.enableQueue_of_state (h : s.qState q ≠ 0) : s.enableQueue q = s := if_pos h

theorem State.enableQueue_refused (h : s.qState q = 0) (hc : s.enableCause q ≠ 0) :
    s.enableQueue q = s.setF (F.WQ_STATUS.CAUSE q) (s.enableCause q) :=
  (if_neg (not_not.2 h)).trans (if_pos hc)

theorem State.cuffSend_unpaired (h : s.build.pair = false) (type : Nat) (head payload : List Byte) : s.cuffSend type head payload = s := by
  simp [State.cuffSend, h]

theorem State.sendQcfg_unpaired (h : s.build.pair = false) (q : Nat) : s.sendQcfg q = s := State.cuffSend_unpaired h _ _ _

/-- The fields that an enable writes. -/
def enableFields (q : Nat) : List (Field × Nat) :=
  [(F.WQ_STATUS.SQ_CI q, 0), (F.WQ_OUT.CQ_PI q, 0), (F.WQ_STATUS.CAUSE q, 0), (F.WQ_STATUS.STATE q, 1)]

theorem enableFields_apart (q : Nat) : (enableFields q).Pairwise (fun a b => a.1.apart b.1 = true) := by
  simp [enableFields, Field.apart, F.WQ_STATUS.SQ_CI, F.WQ_OUT.CQ_PI, F.WQ_STATUS.CAUSE, F.WQ_STATUS.STATE]

/-- A queue with nothing polled or fetched, its settings those of its registers. -/
def State.freshQueue (s : State) (q : Nat) : Queue :=
  let x := { Queue.zero with poll := s.reg (F.WQ_POLL.INTERVAL q).reg, arb := s.reg (F.WQ_ARB.WEIGHT q).reg }
  { x with credit := x.weight }

/-- The state in which a queue is ENABLED. -/
def State.enabled (s : State) (q : Nat) : State := (s.setQueue q (s.freshQueue q)).setFields (enableFields q)

theorem State.enabled_queue (s : State) (q : Nat) : (s.enabled q).queue q = s.freshQueue q ∧ (∀ k, k ≠ q → (s.enabled q).queue k = s.queue k) ∧
    s.enabled q = { s with regs := (s.enabled q).regs, queues := (s.enabled q).queues } := by
  obtain ⟨regs, h⟩ := (s.setQueue q (s.freshQueue q)).setFields_regs (enableFields q)
  have hq : (s.enabled q).queues = (s.setQueue q (s.freshQueue q)).queues := by rw [State.enabled, h]
  refine ⟨?_, fun k hk => ?_, by rw [State.enabled, h]; rfl⟩
  · rw [State.queue, hq]
    exact State.queue_setQueue s q (s.freshQueue q)
  · rw [State.queue, hq]
    exact State.queue_setQueue_ne (s := s) (x := s.freshQueue q) hk

theorem State.enableQueue_enables (h : s.qState q = 0) (hc : s.enableCause q = 0) (hp : s.build.pair = false) : s.enableQueue q = s.enabled q := by
  unfold State.enableQueue
  rw [if_neg (not_not.2 h), if_neg (not_not.2 hc)]
  exact State.sendQcfg_unpaired (s := s.enabled q) (by rw [(s.enabled_queue q).2.2]; exact hp) q

theorem State.enabled_fields (s : State) (q : Nat) : (s.enabled q).qState q = 1 ∧ (s.enabled q).getF (F.WQ_STATUS.CAUSE q) = 0 ∧
    (s.enabled q).getF (F.WQ_STATUS.SQ_CI q) = 0 ∧ (s.enabled q).getF (F.WQ_OUT.CQ_PI q) = 0 := by
  have hfield : ∀ f v, (f, v) ∈ enableFields q → f.hi < 64 → (s.enabled q).getF f = v % 2 ^ spanBits f.hi f.lo :=
    fun f v he h64 => State.getF_setFields (enableFields_apart q) he h64 _
  exact ⟨hfield (F.WQ_STATUS.STATE q) 1 (by simp [enableFields]) (show 31 < 64 by decide),
    hfield (F.WQ_STATUS.CAUSE q) 0 (by simp [enableFields]) (show 29 < 64 by decide),
    hfield (F.WQ_STATUS.SQ_CI q) 0 (by simp [enableFields]) (show 15 < 64 by decide),
    hfield (F.WQ_OUT.CQ_PI q) 0 (by simp [enableFields]) (show 31 < 64 by decide)⟩

theorem State.enabled_regsKept (s : State) (q : Nat) : regsKept s (s.enabled q) [(F.WQ_STATUS.STATE q).reg, (F.WQ_OUT.CQ_PI q).reg] := by
  intro o ho
  simp only [List.mem_cons, List.not_mem_nil, or_false, not_or] at ho
  obtain ⟨hstatus, hout⟩ := ho
  refine State.reg_setFields ?_
  simp only [enableFields, List.forall_mem_cons, List.not_mem_nil, false_imp_iff, implies_true, and_true]
  exact ⟨hstatus, hout, hstatus, hstatus⟩

theorem State.refused_fields (h : s.qState q = 0) : (s.setF (F.WQ_STATUS.CAUSE q) (s.enableCause q)).getF (F.WQ_STATUS.CAUSE q) = s.enableCause q ∧
    (s.setF (F.WQ_STATUS.CAUSE q) (s.enableCause q)).qState q = 0 := by
  refine ⟨(State.getF_setF_self s (F.WQ_STATUS.CAUSE q) _ (show 29 < 64 by decide)).trans (Nat.mod_eq_of_lt ?_), ?_⟩
  · exact Nat.lt_of_le_of_lt (s.enableCause_le q) (show 5 < 2 ^ 6 by decide)
  · exact (State.getF_setF_apart _ _ _ _ (by simp [Field.apart, F.WQ_STATUS.STATE, F.WQ_STATUS.CAUSE]) (show 31 < 64 by decide)).trans h

/-! ## Shutdown (R281) -/

theorem exec_queueShutdown (ha : s.asleep = false) (h : s.qWriteOk bar true q = true) :
    exec (.queueShutdown bar q) s = .next (s.stopQueue q 0x10 (s.flag (F.WQ_CTRL.DISCARD q))) := by
  show execQueueShutdown bar q s = _
  simp [execQueueShutdown, ha, h]

/-- A poll of a queue, or a fetch from its ring. -/
def FabWho.ofRing (q : Nat) : FabWho → Bool
  | .fetch k _ => k == q
  | .poll k => k == q
  | _ => false

/-- The state in which a queue shuts down, no entry of it ended yet: it is not polled or fetched any more, and its copies are gone. -/
def State.ringStopped (s : State) (q status : Nat) (discard : Bool) : State :=
  ((s.setF (F.WQ_STATUS.STATE q) 2).setQueue q { s.queue q with
    abort := status, discard := discard, shutTick := (s.setF (F.WQ_STATUS.STATE q) 2).tickno, copies := []
    fetchPos := (s.setF (F.WQ_STATUS.STATE q) 2).getF (F.WQ_STATUS.SQ_CI q), idxMsg := none }).fabAbandon (FabWho.ofRing q)

theorem State.stopQueue_of_state (h : s.qState q = 0 ∨ s.qState q = 2) (d : Bool) : s.stopQueue q status d = s :=
  if_neg (by omega)

theorem State.stopQueue_stops (h : s.qState q = 1 ∨ s.qState q = 3) (d : Bool) : s.stopQueue q status d = (s.ringStopped q status d).abortQueue q status := by
  refine (if_pos h).trans ?_
  rfl

/-- Registers, queues and contexts are as the stop left them: abandoned requests do not touch them. -/
theorem State.ringStopped_frame (s : State) (q status : Nat) (d : Bool) :
    (s.ringStopped q status d).ctxs = s.ctxs ∧ (s.ringStopped q status d).qState q = 2 ∧
      ((s.ringStopped q status d).queue q).copies = [] ∧ ((s.ringStopped q status d).queue q).abort = status := by
  unfold State.ringStopped
  rw [State.fabAbandon_frame]
  refine ⟨rfl, State.getF_setF_self s (F.WQ_STATUS.STATE q) 2 (show 31 < 64 by decide), ?_, ?_⟩
  · exact congrArg Queue.copies (State.queue_setQueue (s.setF (F.WQ_STATUS.STATE q) 2) q _)
  · exact congrArg Queue.abort (State.queue_setQueue (s.setF (F.WQ_STATUS.STATE q) 2) q _)

/-- Nothing of the queue's ring is asked for any more. -/
theorem State.ringStopped_fab (s : State) (q status : Nat) (d : Bool) :
    ∀ r ∈ (s.ringStopped q status d).fab, r.who ≠ .poll q ∧ ∀ p, r.who ≠ .fetch q p := by
  intro r hr
  have hdrop := State.fabAbandon_drops _ (FabWho.ofRing q) r hr
  refine ⟨fun h => ?_, fun p h => ?_⟩ <;> simp [h, FabWho.ofRing] at hdrop

theorem State.ctxsOf_congr (h : t.ctxs = s.ctxs) (q : Nat) : t.ctxsOf q = s.ctxsOf q := by rw [State.ctxsOf, h, State.ctxsOf]

/-- A queue without entries is DISABLED as soon as it shuts down (R282). -/
theorem State.abortQueue_empty (h : s.qState q = 2) (he : s.ctxsOf q = []) : s.abortQueue q status = s.setF (F.WQ_STATUS.STATE q) 0 := by
  simp [State.abortQueue, h, he]

/-! ### Entries that wait -/

theorem State.abortEntry_waiting (h : (s.ctx c).state = .waiting) : s.abortEntry c status = s.finish c status 0 0 0 0 := by
  simp only [State.abortEntry, h]

/-- The state in which the entries of a list have ended. -/
def State.abortAll (s : State) (status : Nat) (l : List (Nat × Ctx)) : State := l.foldl (fun s e => s.abortEntry e.1 status) s

/-- Entries that wait, each in a context of its own, all end with the status; the other contexts stay as they are. -/
theorem State.abortAll_waiting (l : List (Nat × Ctx)) : ∀ {s : State}, (l.map (·.1)).Nodup → (∀ e ∈ l, (s.ctx e.1).state = .waiting) →
    (∀ e ∈ l, ((s.abortAll status l).ctx e.1).state = .ready ∧ ((s.abortAll status l).ctx e.1).status = status ∧
      ((s.abortAll status l).ctx e.1).entry = (s.ctx e.1).entry ∧ ((s.abortAll status l).ctx e.1).queue = (s.ctx e.1).queue) ∧
    (∀ k, k ∉ l.map (·.1) → (s.abortAll status l).ctx k = s.ctx k) ∧ ∀ o, (s.abortAll status l).reg o = s.reg o := by
  induction l with
  | nil => exact fun {s} _ _ => ⟨by simp, fun _ _ => rfl, fun _ => rfl⟩
  | cons e l ih =>
    intro s hl hw
    obtain ⟨he, hl⟩ := List.nodup_cons.1 hl
    obtain ⟨hwe, hw⟩ := List.forall_mem_cons.1 hw
    have hcons : s.abortAll status (e :: l) = (s.finish e.1 status 0 0 0 0).abortAll status l := by
      rw [State.abortAll, List.foldl_cons, State.abortEntry_waiting hwe, State.abortAll]
    obtain ⟨hself, hother, -⟩ := s.finish_spec e.1 status 0 0 0 0
    have hkeep : ∀ x ∈ l, (s.finish e.1 status 0 0 0 0).ctx x.1 = s.ctx x.1 := fun x hx => hother _ fun h => he (List.mem_map.2 ⟨x, hx, h⟩)
    obtain ⟨hended, hrest, hregs⟩ := ih hl fun x hx => (congrArg Ctx.state (hkeep x hx)).trans (hw x hx)
    rw [hcons]
    refine ⟨List.forall_mem_cons.2 ⟨?_, fun x hx => ?_⟩, fun k hk => ?_, hregs⟩
    · rw [hrest e.1 he, hself]
      exact ⟨rfl, rfl, rfl, rfl⟩
    · rw [← hkeep x hx]
      exact hended x hx
    · simp only [List.map_cons, List.mem_cons, not_or] at hk
      rw [hrest k hk.2, hother k hk.1]

/-- The entries of a queue in the order of their fetch. -/
def State.byFetch (s : State) (q : Nat) : List (Nat × Ctx) := (s.ctxsOf q).mergeSort (fun a b => decide (a.2.seq ≤ b.2.seq))

theorem State.abortQueue_eq : s.abortQueue q status = if (s.abortAll status (s.byFetch q)).qState q = 2 ∧
    (s.abortAll status (s.byFetch q)).ctxsOf q = [] then (s.abortAll status (s.byFetch q)).setF (F.WQ_STATUS.STATE q) 0
      else s.abortAll status (s.byFetch q) := rfl

theorem State.ctxsOf_ne_nil (hq : (s.ctx c).queue = q) (hs : (s.ctx c).state = .ready) : s.ctxsOf q ≠ [] := by
  have hmem : (c, s.ctx c) ∈ s.ctxs := storeGet_mem fun h => by
    have hstate := congrArg Ctx.state h
    rw [show (storeGet (fun _ => Ctx.zero) s.ctxs c).state = .ready from hs] at hstate
    cases hstate
  refine List.ne_nil_of_mem (List.mem_filter.2 ⟨hmem, ?_⟩)
  simp [hq, hs]

/-- Where every context is an entry of the queue that waits, all end, and the queue goes on shutting down. -/
theorem State.abortQueue_waiting (hst : s.qState q = 2) (hne : s.ctxsOf q ≠ []) (hall : s.ctxsOf q = s.ctxs)
    (hw : ∀ e ∈ s.ctxs, e.2.state = .waiting) (hwf : storeWf (fun _ => Ctx.zero) s.ctxs = true) :
    (s.abortQueue q status).qState q = 2 ∧ ∀ e ∈ s.ctxs, ((s.abortQueue q status).ctx e.1).state = .ready ∧
      ((s.abortQueue q status).ctx e.1).status = status ∧ ((s.abortQueue q status).ctx e.1).entry = e.2.entry := by
  have hsorted : storeSorted none s.ctxs = true := by
    simp only [storeWf, Bool.and_eq_true] at hwf
    exact hwf.1
  have hget : ∀ e ∈ s.ctxs, s.ctx e.1 = e.2 := fun e he => storeGet_of_mem hsorted he
  have hperm : (s.byFetch q).Perm s.ctxs := hall ▸ List.mergeSort_perm _ _
  have hnodup : ((s.byFetch q).map (·.1)).Nodup := (hperm.map _).nodup_iff.2 (storeKeys_nodup hsorted)
  obtain ⟨hended, -, hregs⟩ := State.abortAll_waiting (s := s) (status := status) _ hnodup fun e he => by
    rw [hget e (hperm.mem_iff.1 he)]
    exact hw e (hperm.mem_iff.1 he)
  have hstate : (s.abortAll status (s.byFetch q)).qState q = 2 := (State.getF_congr (hregs _)).trans hst
  have hleft : (s.abortAll status (s.byFetch q)).ctxsOf q ≠ [] := by
    obtain ⟨e, he⟩ := List.exists_mem_of_ne_nil _ hne
    obtain ⟨hready, -, -, hqueue⟩ := hended e (hperm.mem_iff.2 (hall ▸ he))
    refine State.ctxsOf_ne_nil (hqueue.trans ?_) hready
    rw [hget e (hall ▸ he)]
    exact eq_of_beq (Bool.and_eq_true_iff.1 (List.mem_filter.1 he).2).1
  rw [State.abortQueue_eq, if_neg fun h => hleft h.2]
  refine ⟨hstate, fun e he => ?_⟩
  obtain ⟨hready, hst, hentry, -⟩ := hended e (hperm.mem_iff.2 he)
  exact ⟨hready, hst, hentry.trans (congrArg Ctx.entry (hget e he))⟩

/-- Settles O33: the checks decide an enable, and a shutdown ends what waits. -/
theorem queueEnableAndShutdown : Obligations.QueueEnableAndShutdown := by
  unfold Obligations.QueueEnableAndShutdown
  intro s bar q ha
  refine ⟨fun hok => ?enable, fun hok => ?shutdown⟩
  case enable =>
    have hexec := exec_queueEnable ha hok
    refine ⟨fun hst => by rw [hexec, State.enableQueue_of_state hst], fun hst hc => ?_, fun hst hc hp => ?_⟩
    · rw [State.enableQueue_refused hst hc] at hexec
      obtain ⟨hcause, hstate⟩ := State.refused_fields hst
      exact ⟨_, hexec, hcause, hstate, fun o ho => State.reg_setF_ne (by simpa using ho), rfl⟩
    · rw [State.enableQueue_enables hst hc hp] at hexec
      obtain ⟨hself, hother, hframe⟩ := s.enabled_queue q
      obtain ⟨hstate, hcause, hci, hpi⟩ := s.enabled_fields q
      exact ⟨_, hexec, hstate, hcause, hci, hpi, congrArg Queue.piSeen hself, congrArg Queue.fetchPos hself, congrArg Queue.copies hself, hother,
        s.enabled_regsKept q, hframe⟩
  case shutdown =>
    have hexec := exec_queueShutdown ha hok
    refine ⟨fun hst => by rw [hexec, State.stopQueue_of_state hst], fun hst => ?_⟩
    rw [State.stopQueue_stops hst] at hexec
    obtain ⟨hctxs, hstate, hcopies, habort⟩ := s.ringStopped_frame q 0x10 (s.flag (F.WQ_CTRL.DISCARD q))
    have hof := State.ctxsOf_congr hctxs q
    refine ⟨fun he => ?_, fun hne hall hw hwf => ?_⟩
    · rw [State.abortQueue_empty hstate (hof.trans he)] at hexec
      exact ⟨_, hexec, State.getF_setF_self _ _ _ (show 31 < 64 by decide), hcopies, habort, s.ringStopped_fab q _ _⟩
    · have hended := State.abortQueue_waiting (status := 0x10) hstate (hof ▸ hne) (hof.trans (hall.trans hctxs.symm)) (hctxs ▸ hw) (hctxs ▸ hwf)
      rw [hctxs] at hended
      exact ⟨_, hexec, hended⟩

end Sys2Proof.Machine
end

section
/-! SUPPORT. Completions (R268 to R272, R283): what a completion that is posted, signalled or discarded leaves of its ring's registers, its queue and the
contexts. -/

namespace Sys2Proof.Machine

variable {s t u : State} {c k q v o : Nat} {f : Field}

theorem State.ctx_of_ctxs (h : t.ctxs = s.ctxs) (c : Nat) : t.ctx c = s.ctx c := by rw [State.ctx, h, State.ctx]

/-! ## The context of an entry that ended is freed (R270, R277, R282) -/

theorem storeDel_key_ne {α : Type} (m : Store α) : ∀ e ∈ storeDel k m, e.1 ≠ k := by
  induction m with
  | nil => simp [storeDel]
  | cons x t ih =>
    obtain ⟨a, b⟩ := x
    by_cases h : k = a
    · rw [storeDel, if_pos h]
      exact ih
    · rw [storeDel, if_neg h]
      exact List.forall_mem_cons.2 ⟨Ne.symm h, ih⟩

/-- Other contexts than one, and the order of readiness, alone change. -/
structure State.CtxsBut (c : Nat) (s t : State) : Prop where
  frame : t = { s with ctxs := t.ctxs, readySeq := t.readySeq }
  same : t.ctx c = s.ctx c

theorem State.CtxsBut.refl (c : Nat) (s : State) : State.CtxsBut c s s := ⟨rfl, rfl⟩

theorem State.CtxsBut.trans (h : State.CtxsBut c s t) (h' : State.CtxsBut c t u) : State.CtxsBut c s u :=
  ⟨by rw [h'.frame, h.frame], h'.same.trans h.same⟩

section
variable (h : State.CtxsBut c s t)
include h

theorem State.CtxsBut.out : t.out = s.out := by rw [h.frame]
theorem State.CtxsBut.queues : t.queues = s.queues := by rw [h.frame]
theorem State.CtxsBut.reg (o : Nat) : t.reg o = s.reg o := by rw [h.frame]; rfl

end

theorem State.ctxsBut_setCtx (h : c ≠ k) (x : Ctx) : State.CtxsBut c s (s.setCtx k x) := ⟨rfl, State.ctx_setCtx_ne h⟩

theorem State.ctxsBut_finish (h : c ≠ k) (status detail r0 r1 r2 : Nat) : State.CtxsBut c s (s.finish k status detail r0 r1 r2) :=
  ⟨rfl, (s.finish_spec k status detail r0 r1 r2).2.1 c h⟩

/-- Fences that wait for an entry go on; a context that is free is none of them. -/
theorem State.releaseFences_ctxsBut (h : ∀ e ∈ s.ctxs, e.1 ≠ c) : State.CtxsBut c s (s.releaseFences c) := by
  refine List.foldlRecOn s.ctxs _ (motive := State.CtxsBut c s) (.refl c s) fun t ht e he => ht.trans ?_
  dsimp only
  split
  · split
    · exact (State.ctxsBut_setCtx (h e he).symm _).trans (State.ctxsBut_finish (h e he).symm _ _ _ _ _)
    · exact State.ctxsBut_setCtx (h e he).symm _
  · exact .refl c t

@[simp] theorem State.getF_setCtx (s : State) (k : Nat) (x : Ctx) (f : Field) : (s.setCtx k x).getF f = s.getF f := rfl

theorem State.setF_setCtx (s : State) (k v : Nat) (x : Ctx) (f : Field) : (s.setCtx k x).setF f v = (s.setF f v).setCtx k x := rfl

/-- The state in which a context is free and counts no longer as outstanding. -/
def State.ctxEmptied (s : State) (c q : Nat) : State :=
  (s.setF (F.WQ_OUT.OUTSTANDING q) (s.getF (F.WQ_OUT.OUTSTANDING q) - 1)).setCtx c Ctx.zero

/-- The same, no fence waiting for it. -/
def State.ctxFreed (s : State) (c q : Nat) : State := (s.ctxEmptied c q).releaseFences c

theorem State.ctxFreed_ctxsBut (s : State) (c q : Nat) : State.CtxsBut c (s.ctxEmptied c q) (s.ctxFreed c q) := by
  have hdel : (s.ctxEmptied c q).ctxs = storeDel c s.ctxs := by simp [State.ctxEmptied, State.setCtx, storePut]
  refine State.releaseFences_ctxsBut ?_
  rw [hdel]
  exact storeDel_key_ne _

theorem State.freeCtx_eq (h : (s.ctx c).queue = q) : s.freeCtx c =
    if (s.ctxFreed c q).qState q = 2 ∧ (s.ctxFreed c q).ctxsOf q = [] then (s.ctxFreed c q).setF (F.WQ_STATUS.STATE q) 0 else s.ctxFreed c q := by
  subst h
  unfold State.freeCtx
  dsimp only
  rw [State.getF_setCtx, State.setF_setCtx]
  rfl

/-- A context that is freed is empty, and counts no longer as outstanding; its queue and ring stay. -/
theorem State.freeCtx_spec (h : (s.ctx c).queue = q) : (s.freeCtx c).ctx c = Ctx.zero ∧ (s.freeCtx c).out = s.out ∧
    (s.freeCtx c).queues = s.queues ∧ (s.freeCtx c).getF (F.WQ_OUT.CQ_PI q) = s.getF (F.WQ_OUT.CQ_PI q) ∧
    (s.freeCtx c).getF (F.WQ_OUT.OUTSTANDING q) = s.getF (F.WQ_OUT.OUTSTANDING q) - 1 := by
  have hbut := s.ctxFreed_ctxsBut c q
  have hreg : ∀ o, (s.ctxFreed c q).reg o = (s.setF (F.WQ_OUT.OUTSTANDING q) (s.getF (F.WQ_OUT.OUTSTANDING q) - 1)).reg o :=
    fun o => (hbut.reg o).trans (State.reg_setCtx _ _ _ _)
  have hpi : (s.ctxFreed c q).getF (F.WQ_OUT.CQ_PI q) = s.getF (F.WQ_OUT.CQ_PI q) := (State.getF_congr (hreg _)).trans
    (State.getF_setF_apart _ _ _ _ (by simp [Field.apart, F.WQ_OUT.CQ_PI, F.WQ_OUT.OUTSTANDING]) (show 31 < 64 by decide))
  have hout : (s.ctxFreed c q).getF (F.WQ_OUT.OUTSTANDING q) = s.getF (F.WQ_OUT.OUTSTANDING q) - 1 := by
    refine (State.getF_congr (hreg _)).trans ((State.getF_setF_self _ _ _ (show 15 < 64 by decide)).trans (Nat.mod_eq_of_lt ?_))
    exact Nat.lt_of_le_of_lt (Nat.sub_le _ _) (s.getF_lt _)
  have hsent : (s.ctxFreed c q).out = s.out := hbut.out.trans (State.setCtx_out _ _ _)
  have hqueues : (s.ctxFreed c q).queues = s.queues := hbut.queues.trans (State.setCtx_queues _ _ _)
  have hctx : (s.ctxFreed c q).ctx c = Ctx.zero := hbut.same.trans (State.ctx_setCtx _ c Ctx.zero)
  have hstatus : ∀ f : Field, f.reg = 0x40030 + 64 * q → ((s.ctxFreed c q).setF (F.WQ_STATUS.STATE q) 0).getF f = (s.ctxFreed c q).getF f :=
    fun f hf => State.getF_congr (State.reg_setF_ne (by rw [hf, F.WQ_STATUS.STATE]; dsimp only; omega))
  rw [State.freeCtx_eq h]
  split
  · exact ⟨(State.ctx_of_ctxs (State.setF_ctxs _ _ _) c).trans hctx, (State.setF_out _ _ _).trans hsent, (State.setF_queues _ _ _).trans hqueues, (hstatus _ rfl).trans hpi,
      (hstatus _ rfl).trans hout⟩
  · exact ⟨hctx, hsent, hqueues, hpi, hout⟩

/-! ## Counting and signalling (R515, R531, Table 7-13) -/

/-- Counting a completion touches the queue, SAT_SEEN and counter-saturated alone. -/
theorem State.countCompletion_frame (s : State) (q status : Nat) (late : Bool) : (s.countCompletion q status late).out = s.out ∧
    (s.countCompletion q status late).ctxs = s.ctxs ∧
    (o ≠ 0x400 → o ≠ 0x20800 + 8 * (Ev.counterSaturated / 64) → (s.countCompletion q status late).reg o = s.reg o) := by
  refine ⟨by simp [State.countCompletion], by simp [State.countCompletion], fun h h' => ?_⟩
  unfold State.countCompletion
  dsimp only
  rw [State.reg_setQueue, State.reg_noteSat h h', State.reg_noteSat h h', State.reg_noteSat h h']

theorem State.countCompletion_queue (s : State) (q status : Nat) (late : Bool) :
    ((s.countCompletion q status late).queue q).completed = ((s.queue q).completed + 1) % 2 ^ 32 ∧
      ((s.countCompletion q status late).queue q).cqPhase = (s.queue q).cqPhase := by
  unfold State.countCompletion
  dsimp only
  rw [State.queue_setQueue]
  exact ⟨rfl, by simp [State.queue]⟩

theorem State.reg_hostSignal (h : o ≠ 0x22100 + 8 * (v / 64)) : (s.hostSignal v).reg o = s.reg o := by
  unfold State.hostSignal
  split
  · split <;> rfl
  · split
    · exact (State.reg_setHostMod _ _ _ _).trans (State.reg_setF_ne (f := hintxF v) h)
    · rfl

theorem State.hostSignal_sent (s : State) (v : Nat) : ∃ m, (s.hostSignal v).out = s.out ++ m := by
  unfold State.hostSignal
  split
  · split
    · exact ⟨[], (List.append_nil _).symm⟩
    · exact ⟨_, rfl⟩
  · split <;> exact ⟨[], (List.append_nil _).symm⟩

/-- A completion is signalled through the event concentrator, the host's vectors or a message. -/
theorem State.signalQueue_frame (s : State) (q : Nat) : (s.signalQueue q).ctxs = s.ctxs ∧ (s.signalQueue q).queues = s.queues ∧
    (∃ m, (s.signalQueue q).out = s.out ++ m) ∧ (0x30000 ≤ o → (s.signalQueue q).reg o = s.reg o) := by
  have hv : s.getF (F.WQ_CFG.VECTOR q) < 1024 := s.getF_lt _
  unfold State.signalQueue
  extract_lets v
  split
  · unfold State.hostRaise
    extract_lets m t
    split
    · refine ⟨by simp [t], by simp [t], t.hostSignal_sent v, fun ho => ?_⟩
      rw [State.reg_hostSignal (by omega)]
      rfl
    · exact ⟨rfl, rfl, ⟨[], (List.append_nil _).symm⟩, fun _ => rfl⟩
  · split
    · exact ⟨by simp, by simp, ⟨[], by simp⟩, fun ho => State.reg_raise (by omega)⟩
    · exact ⟨rfl, rfl, ⟨[], (List.append_nil _).symm⟩, fun _ => rfl⟩

/-! ## COMPLETION_POST -/

theorem State.writesHeld_of_no_fab (hf : s.fab = []) (c : Nat) : s.writesHeld c = false := by simp [State.writesHeld, hf]

section
variable (hu : s.uncached) (hf : s.fab = [])
include hu hf

/-- With no request under way and the Liner off, every write of an entry is visible already. -/
theorem State.writesVisible_uncached (c : Nat) : s.writesVisible c = s := by
  have hmerging : ({ s.liner with merging := [] } : Liner) = s.liner := by
    obtain ⟨-, -, -, h, -⟩ := hu
    rw [← h]
  have hfab : ({ s with fab := [] } : State) = s := congrArg (fun l => { s with fab := l }) hf.symm
  have hpump : s.fabPump = s := by rw [State.fabPump, hf, State.fabIssue, hfab]
  unfold State.writesVisible
  rw [hmerging, hf, List.filter_nil]
  show (State.lnRun { s with fab := [] }).fabPump = s
  rw [hfab, State.lnRun_uncached hu hf, hpump]

end

/-- The state in which a completion was written to its ring. -/
def State.posted (s : State) (c q : Nat) : State :=
  (s.emit (.completion q (s.cqBase q + 32 * s.getF (F.WQ_OUT.CQ_PI q)) (s.completionEntry c))).fabAsk (.post q) true
    (s.cqBase q + 32 * s.getF (F.WQ_OUT.CQ_PI q)) 32

/-- The same, the ring's index moved on and the phase turned over at its end (R269). -/
def State.ringMoved (s : State) (c q : Nat) : State :=
  let t := (s.posted c q).setF (F.WQ_OUT.CQ_PI q) ((s.getF (F.WQ_OUT.CQ_PI q) + 1) % s.depth q)
  if s.getF (F.WQ_OUT.CQ_PI q) + 1 = s.depth q then t.setQueue q { t.queue q with cqPhase := !(t.queue q).cqPhase } else t

theorem State.postCompletion_eq (hu : s.uncached) (hf : s.fab = []) (hq : (s.ctx c).queue = q) : s.postCompletion c =
    (((s.ringMoved c q).countCompletion q (s.ctx c).status (s.ctx c).late).signalQueue q).freeCtx c := by
  subst hq
  unfold State.postCompletion
  rw [State.flushAll_uncached hu, State.writesVisible_uncached hu hf]
  dsimp only
  rw [List.foldl_fixed' fun l => State.ucWrite_uncached hu l _ _]
  rfl

theorem State.posted_spec (s : State) (c q : Nat) : (s.posted c q).ctxs = s.ctxs ∧ (s.posted c q).queues = s.queues ∧
    (∀ o, (s.posted c q).reg o = s.reg o) ∧
    ∃ m, (s.posted c q).out = s.out ++ Out.completion q (s.cqBase q + 32 * s.getF (F.WQ_OUT.CQ_PI q)) (s.completionEntry c) :: m := by
  have hask := (s.emit (.completion q (s.cqBase q + 32 * s.getF (F.WQ_OUT.CQ_PI q)) (s.completionEntry c))).fabAsk_fabOnly (.post q) true
    (s.cqBase q + 32 * s.getF (F.WQ_OUT.CQ_PI q)) 32
  obtain ⟨m, hm⟩ := hask.sent
  exact ⟨hask.ctxs, hask.queues, hask.reg, m, hm.trans (List.append_assoc _ _ _)⟩

theorem State.depth_lt (s : State) (q : Nat) : s.depth q ≤ 2 ^ 16 := by
  have h : s.getF (F.WQ_CFG.DEPTH_M1 q) < 2 ^ 16 := s.getF_lt _
  unfold State.depth
  omega

theorem State.depth_pos (s : State) (q : Nat) : 2 ≤ s.depth q := by
  unfold State.depth
  omega

theorem State.ringMoved_spec (s : State) (c q : Nat) : (s.ringMoved c q).ctxs = s.ctxs ∧
    (s.ringMoved c q).getF (F.WQ_OUT.CQ_PI q) = (s.getF (F.WQ_OUT.CQ_PI q) + 1) % s.depth q ∧
    (s.ringMoved c q).getF (F.WQ_OUT.OUTSTANDING q) = s.getF (F.WQ_OUT.OUTSTANDING q) ∧
    ((s.ringMoved c q).queue q).completed = (s.queue q).completed ∧
    (((s.ringMoved c q).queue q).cqPhase = (s.queue q).cqPhase ↔ s.getF (F.WQ_OUT.CQ_PI q) + 1 ≠ s.depth q) ∧
    ∃ m, (s.ringMoved c q).out = s.out ++ Out.completion q (s.cqBase q + 32 * s.getF (F.WQ_OUT.CQ_PI q)) (s.completionEntry c) :: m := by
  obtain ⟨hctxs, hqueues, hreg, hsent⟩ := s.posted_spec c q
  have hqueue : (s.posted c q).queue q = s.queue q := by rw [State.queue, hqueues, State.queue]
  have hpi : ((s.posted c q).setF (F.WQ_OUT.CQ_PI q) ((s.getF (F.WQ_OUT.CQ_PI q) + 1) % s.depth q)).getF (F.WQ_OUT.CQ_PI q) =
      (s.getF (F.WQ_OUT.CQ_PI q) + 1) % s.depth q := by
    refine (State.getF_setF_self _ _ _ (show 31 < 64 by decide)).trans (Nat.mod_eq_of_lt ?_)
    exact (Nat.mod_lt _ (Nat.lt_of_lt_of_le Nat.two_pos (s.depth_pos q))).trans_le (s.depth_lt q)
  have hout : ((s.posted c q).setF (F.WQ_OUT.CQ_PI q) ((s.getF (F.WQ_OUT.CQ_PI q) + 1) % s.depth q)).getF (F.WQ_OUT.OUTSTANDING q) =
      s.getF (F.WQ_OUT.OUTSTANDING q) :=
    (State.getF_setF_apart _ _ _ _ (by simp [Field.apart, F.WQ_OUT.CQ_PI, F.WQ_OUT.OUTSTANDING]) (show 15 < 64 by decide)).trans
      (State.getF_congr (hreg _))
  unfold State.ringMoved
  extract_lets t
  have ht : t.queue q = s.queue q := hqueue
  split
  next hend =>
    refine ⟨hctxs, hpi, hout, ?_, ?_, hsent⟩
    · rw [State.queue_setQueue]
      show (t.queue q).completed = _
      rw [ht]
    · rw [State.queue_setQueue, ht]
      simp [hend]
  next hend => exact ⟨hctxs, hpi, hout, by rw [ht], by simp [ht, hend], hsent⟩

section
variable (hw : s.working = true) (hp : s.pfail = false) (hr : s.firstReady c = true) (hq : (s.ctx c).queue = q) (hf : s.fab = []) (hm : s.mirror = false)
include hw hp hr hq hf hm

theorem exec_completionPost : exec (.completionPost c) s = .next
    (if (!(s.queue q).discard && (s.ringFull q || (s.hostOwned q && s.hostBlocked))) = true then s
    else if (s.queue q).discard = true then ((s.writesVisible c).noteHostAbort c).freeCtx c else s.postCompletion c) := by
  subst hq
  show execCompletionPost c s = _
  simp [execCompletionPost, hw, hp, hr, hm, State.writesHeld_of_no_fab hf, State.acked_of_no_mirror hm]

end

/-- What is left once a completion was posted: its place in the ring is taken, its context free. -/
theorem State.postCompletion_spec (hu : s.uncached) (hf : s.fab = []) (hlt : q < 1024) (hq : (s.ctx c).queue = q) :
    (∃ m, (s.postCompletion c).out =
      s.out ++ Out.completion q (s.cqBase q + 32 * s.getF (F.WQ_OUT.CQ_PI q)) (s.completionEntry c) :: m) ∧
    (s.postCompletion c).getF (F.WQ_OUT.CQ_PI q) = (s.getF (F.WQ_OUT.CQ_PI q) + 1) % s.depth q ∧
    (s.postCompletion c).getF (F.WQ_OUT.OUTSTANDING q) = s.getF (F.WQ_OUT.OUTSTANDING q) - 1 ∧ (s.postCompletion c).ctx c = Ctx.zero ∧
    ((s.postCompletion c).queue q).completed = ((s.queue q).completed + 1) % 2 ^ 32 ∧
    (((s.postCompletion c).queue q).cqPhase = (s.queue q).cqPhase ↔ s.getF (F.WQ_OUT.CQ_PI q) + 1 ≠ s.depth q) := by
  obtain ⟨hmctxs, hmpi, hmout, hmcompleted, hmphase, m, hmsent⟩ := s.ringMoved_spec c q
  obtain ⟨hcsent, hcctxs, hcreg⟩ := (s.ringMoved c q).countCompletion_frame (o := 0x40030 + 64 * q) q (s.ctx c).status (s.ctx c).late
  obtain ⟨hccompleted, hcphase⟩ := (s.ringMoved c q).countCompletion_queue q (s.ctx c).status (s.ctx c).late
  obtain ⟨hsctxs, hsqueues, ⟨m', hssent⟩, hsreg⟩ :=
    ((s.ringMoved c q).countCompletion q (s.ctx c).status (s.ctx c).late).signalQueue_frame (o := 0x40030 + 64 * q) q
  have hreg := (hsreg (by omega)).trans (hcreg (by omega) (by simp only [Ev.counterSaturated]; omega))
  have hqueue := (State.ctx_of_ctxs (hsctxs.trans (hcctxs.trans hmctxs)) c).symm ▸ hq
  obtain ⟨hctx, hsent, hqueues, hpi, hout⟩ := State.freeCtx_spec hqueue
  have hfinal := congrArg (storeGet (fun _ => Queue.zero) · q) (hqueues.trans hsqueues)
  rw [State.postCompletion_eq hu hf hq]
  refine ⟨⟨m ++ m', ?_⟩, ?_, ?_, hctx, ?_, ?_⟩
  · rw [hsent, hssent, hcsent, hmsent, List.append_assoc]
    rfl
  · exact hpi.trans ((State.getF_congr hreg).trans hmpi)
  · rw [hout, State.getF_congr (f := F.WQ_OUT.OUTSTANDING q) hreg, hmout]
  · exact (congrArg Queue.completed hfinal).trans (hccompleted.trans (by rw [hmcompleted]))
  · rw [← hmphase, ← hcphase]
    exact Iff.of_eq (congrArg (· = (s.queue q).cqPhase) (congrArg Queue.cqPhase hfinal))

/-- The end of an entry of a host queue is noted in the event log alone (R578). -/
theorem State.noteHostAbort_frame (s : State) (c : Nat) : (s.noteHostAbort c).ctxs = s.ctxs ∧ (s.noteHostAbort c).out = s.out ∧
    (f.hi < 64 → (∀ g ∈ logFields, f.apart g = true) → (s.noteHostAbort c).getF f = s.getF f) := by
  unfold State.noteHostAbort
  dsimp only
  split
  · exact ⟨rfl, rfl, fun _ _ => rfl⟩
  · exact ⟨by simp, by simp, fun h64 h => State.getF_logWrite h64 h⟩

/-- The registers of the queues are none of those that the event log writes. -/
theorem apart_logFields (h : 0x30000 ≤ f.reg) : ∀ g ∈ logFields, f.apart g = true := by
  have hreg : ∀ g ∈ logFields, g.reg < 0x30000 := by decide
  intro g hg
  have hne : f.reg ≠ g.reg := ((hreg g hg).trans_le h).ne'
  simp [Field.apart, hne]

/-- Settles O37: the first completion is posted, waits for room, or is discarded. -/
theorem completionIsWritten : Obligations.CompletionIsWritten := by
  unfold Obligations.CompletionIsWritten
  intro s c q hlt hw hp hr hq hf hu hm
  have hexec := exec_completionPost hw hp hr hq hf hm
  refine ⟨fun hd hfull => ?waits, fun hd hfull hhost => ?written, fun hd => ?discarded⟩
  case waits => rw [hexec, hd, hfull]; rfl
  case written =>
    have hopen : (s.hostOwned q && s.hostBlocked) = false := by
      cases ho : s.hostOwned q
      · rfl
      · exact hhost ho
    obtain ⟨⟨m, hsent⟩, hrest⟩ := State.postCompletion_spec hu hf hlt hq
    rw [hd, hfull, hopen] at hexec
    exact ⟨_, m, hexec, hsent, hrest⟩
  case discarded =>
    obtain ⟨hctxs, hsent, -⟩ := s.noteHostAbort_frame (f := F.WQ_OUT.CQ_PI q) c
    have hkeep : ∀ f : Field, f.hi < 64 → f.reg = 0x40030 + 64 * q → (s.noteHostAbort c).getF f = s.getF f :=
      fun f h64 hreg => (s.noteHostAbort_frame c).2.2 h64 (apart_logFields (by omega))
    obtain ⟨hctx, hout, -, hpi, houtstanding⟩ := State.freeCtx_spec ((State.ctx_of_ctxs hctxs c).symm ▸ hq)
    rw [hd, State.writesVisible_uncached hu hf] at hexec
    rw [hkeep _ (show 15 < 64 by decide) rfl] at houtstanding
    exact ⟨_, hexec, hctx, hout.trans hsent, hpi.trans (hkeep _ (show 31 < 64 by decide) rfl), houtstanding⟩

end Sys2Proof.Machine
end

section
/-! SUPPORT. The fetch of an entry and of its fragment tables (R249, R250, R263 to R266): what a copy that arrives changes, when it is accepted, and what the
checks make of an entry. -/

namespace Sys2Proof.Machine

variable {s t : State} {c q pos : Nat} {e : BitVec 512} {l : List (BitVec 128)}

/-! ## The checks of an entry (Table 7-6) -/

/-- Steps 1 to 5 refuse an entry with 0x0041, 0x0030 or 0x0040. -/
theorem State.check15_status {r : Nat × Nat} (h : s.check15 q e = some r) : r.1 ∈ [0x30, 0x40, 0x41, 0x42] := by
  unfold State.check15 at h
  dsimp only at h
  split at h
  · obtain rfl := Option.some.inj h; simp
  · split at h
    · obtain rfl := Option.some.inj h; simp
    · split at h
      · obtain rfl := Option.some.inj h; simp
      · split_ifs at h <;> obtain rfl := Option.some.inj h <;> simp

theorem State.check15_opcode (h : entOp e = 0 ∨ 0x0F < entOp e) : s.check15 q e = some (0x41, 0) := if_pos h

theorem State.check8_status {r : Nat × Nat} (h : s.check8 q e = some r) : r.1 ∈ [0x30, 0x40, 0x41, 0x42] := by
  unfold State.check8 at h
  dsimp only at h
  split at h
  · cases h
  · split_ifs at h <;> obtain rfl := Option.some.inj h <;> simp

theorem State.check9_status {ns : Nat} {r : Nat × Nat} (h : s.check9 ns e = some r) : r.1 ∈ [0x30, 0x40, 0x41, 0x42] := by
  unfold State.check9 at h
  split at h
  · cases h
  · split_ifs at h
    obtain rfl := Option.some.inj h
    simp

/-- What the checks make of an entry in context `c` without fragments: it waits for admission, or is refused; nothing else changes. -/
structure State.Checked (c : Nat) (s t : State) : Prop where
  frame : t = { s with ctxs := t.ctxs, readySeq := t.readySeq }
  entry : (t.ctx c).entry = (s.ctx c).entry
  queue : (t.ctx c).queue = (s.ctx c).queue
  seq : (t.ctx c).seq = (s.ctx c).seq
  outcome : (t.ctx c).state = .waiting ∨ (t.ctx c).state = .ready ∧ (t.ctx c).status ∈ [0x30, 0x40, 0x41, 0x42]

theorem State.checked_finish {st : Nat} (h : st ∈ [0x30, 0x40, 0x41, 0x42]) (d : Nat) : State.Checked c s (s.finish c st d 0 0 0) := by
  obtain ⟨hctx, -, -⟩ := s.finish_spec c st d 0 0 0
  exact ⟨rfl, by rw [hctx], by rw [hctx], by rw [hctx],
    .inr ⟨congrArg Ctx.state hctx, (congrArg Ctx.status hctx).symm ▸ h⟩⟩

theorem State.checked_waits (frags : List Frag) : State.Checked c s (s.setCtx c { s.ctx c with state := .waiting, frags := frags }) := by
  have hctx := State.ctx_setCtx s c { s.ctx c with state := .waiting, frags := frags }
  exact ⟨rfl, by rw [hctx], by rw [hctx], by rw [hctx], .inl (congrArg Ctx.state hctx)⟩

theorem State.checkEntry_checked (h : entFrag (s.ctx c).entry = false) : State.Checked c s (s.checkEntry c) := by
  unfold State.checkEntry
  dsimp only
  split
  next st d hcheck => exact State.checked_finish (State.check15_status hcheck) d
  next =>
    split
    next st d hcheck => exact State.checked_finish (State.check8_status hcheck) d
    next =>
      split
      next st d hcheck => exact State.checked_finish (State.check9_status hcheck) d
      next =>
        rw [h, Bool.and_false, if_neg Bool.false_ne_true]
        exact State.checked_waits _

theorem State.checkEntry_opcode (h : entOp (s.ctx c).entry = 0 ∨ 0x0F < entOp (s.ctx c).entry) : ((s.checkEntry c).ctx c).state = .ready ∧
    ((s.checkEntry c).ctx c).status = 0x41 := by
  have hcheck : s.checkEntry c = s.finish c 0x41 0 0 0 0 := by simp only [State.checkEntry, State.check15_opcode h]
  obtain ⟨hctx, -, -⟩ := s.finish_spec c 0x41 0 0 0 0
  rw [hcheck]
  exact ⟨congrArg Ctx.state hctx, congrArg Ctx.status hctx⟩

/-! ## An entry is accepted (R249, R254) -/

/-- The queue when its next entry has left the ring. -/
def State.queueTaken (s : State) (q : Nat) : Queue :=
  { s.queue q with
    fetched := ((s.queue q).fetched + 1) % 2 ^ 32
    sqPhase := if s.getF (F.WQ_STATUS.SQ_CI q) + 1 = s.depth q then !(s.queue q).sqPhase else (s.queue q).sqPhase
    copies := (s.queue q).copies.filter (fun k => k.1 != s.getF (F.WQ_STATUS.SQ_CI q)) }

/-- The state in which the next entry has left the ring. -/
def State.ringTaken (s : State) (q : Nat) : State :=
  (s.setQueue q (s.queueTaken q)).setF (F.WQ_STATUS.SQ_CI q) ((s.getF (F.WQ_STATUS.SQ_CI q) + 1) % s.depth q)

/-- The same, the entry counted as outstanding. -/
def State.entryTaken (s : State) (q : Nat) : State :=
  (s.ringTaken q).setF (F.WQ_OUT.OUTSTANDING q) ((s.ringTaken q).getF (F.WQ_OUT.OUTSTANDING q) + 1)

/-- The context of an entry that was just fetched. -/
def State.fetchedCtx (s : State) (q : Nat) (e : BitVec 512) : Ctx :=
  { Ctx.zero with state := .waiting, queue := q, seq := s.fetchSeq, entry := e }

/-- The state in which an entry stands in a context, next in the order of fetch. -/
def State.entryOpened (s : State) (q : Nat) (e : BitVec 512) : State :=
  { (s.entryTaken q).setCtx (leastFree 0 s.ctxs) (s.fetchedCtx q e) with fetchSeq := s.fetchSeq + 1 }

theorem State.entryTaken_getF (s : State) (q : Nat) :
    (s.entryTaken q).getF (F.WQ_STATUS.SQ_CI q) = (s.getF (F.WQ_STATUS.SQ_CI q) + 1) % s.depth q ∧
    (s.entryTaken q).getF (F.WQ_OUT.OUTSTANDING q) = (s.getF (F.WQ_OUT.OUTSTANDING q) + 1) % 2 ^ 16 := by
  have hout : (s.ringTaken q).getF (F.WQ_OUT.OUTSTANDING q) = s.getF (F.WQ_OUT.OUTSTANDING q) :=
    State.getF_setF_apart _ _ _ _ (by simp [Field.apart, F.WQ_STATUS.SQ_CI, F.WQ_OUT.OUTSTANDING]) (show 15 < 64 by decide)
  refine ⟨?_, (State.getF_setF_self _ _ _ (show 15 < 64 by decide)).trans (by rw [hout]; rfl)⟩
  refine (State.getF_setF_apart _ _ _ _ (by simp [Field.apart, F.WQ_STATUS.SQ_CI, F.WQ_OUT.OUTSTANDING]) (show 15 < 64 by decide)).trans ?_
  refine (State.getF_setF_self _ _ _ (show 15 < 64 by decide)).trans (Nat.mod_eq_of_lt ?_)
  exact (Nat.mod_lt _ (Nat.lt_of_lt_of_le Nat.two_pos (s.depth_pos q))).trans_le (s.depth_lt q)

theorem State.entryTaken_regsKept (s : State) (q : Nat) :
    regsKept s (s.entryTaken q) [(F.WQ_STATUS.SQ_CI q).reg, (F.WQ_OUT.OUTSTANDING q).reg] := by
  intro o ho
  simp only [List.mem_cons, List.not_mem_nil, or_false, not_or] at ho
  obtain ⟨hci, hout⟩ := ho
  exact (State.reg_setF_ne hout).trans ((State.reg_setF_ne hci).trans (State.reg_setQueue _ _ _ _))

theorem State.entryOpened_ctx (s : State) (q : Nat) (e : BitVec 512) :
    (s.entryOpened q e).ctx (leastFree 0 s.ctxs) = s.fetchedCtx q e := State.ctx_setCtx (s.entryTaken q) _ (s.fetchedCtx q e)

theorem State.entryOpened_queue (s : State) (q : Nat) (e : BitVec 512) : (s.entryOpened q e).queue q = s.queueTaken q := by
  have hqueues : (s.entryOpened q e).queues = (s.setQueue q (s.queueTaken q)).queues := by
    simp only [State.entryOpened, State.entryTaken, State.ringTaken, State.setCtx_queues, State.setF_queues]
  rw [State.queue, hqueues]
  exact State.queue_setQueue s q _

theorem State.mirror_unpaired (h : s.build.pair = false) : s.mirror = false := by simp [State.mirror, h]

theorem State.acceptEntry_unpaired (h : s.build.pair = false) (q : Nat) (e : BitVec 512) :
    s.acceptEntry q e = (s.entryOpened q e).checkEntry (leastFree 0 s.ctxs) := by
  have hmirror : (s.entryTaken q).mirror = false := State.mirror_unpaired h
  unfold State.acceptEntry
  extract_lets d x ci s₁ s₂ s₃ c m s₄ z s₅
  have hm : m = false := hmirror
  have hs₄ : s₄ = s.entryTaken q := State.cuffSend_unpaired (s := s.entryTaken q) h _ _ _
  have hs₅ : s₅ = (s.entryTaken q).setCtx c (s.fetchedCtx q e) := by
    simp only [s₅, hs₄, hm, Bool.false_eq_true, if_false]
    rfl
  rw [hs₅]
  rfl

/-! ## Copies that have arrived (R250) -/

/-- Nothing is accepted where the block stands at its fetch position, or the next copy has not come. -/
theorem State.drainCopies_waits (h : s.getF (F.WQ_STATUS.SQ_CI q) = (s.queue q).fetchPos ∨
    (s.queue q).copies.find? (fun k => k.1 == s.getF (F.WQ_STATUS.SQ_CI q)) = none) (n : Nat) : s.drainCopies q n = s := by
  cases n with
  | zero => rfl
  | succ n =>
    unfold State.drainCopies
    dsimp only
    split
    · rfl
    · next hgo =>
      rw [h.resolve_left fun hci => hgo (.inr hci)]

theorem State.drainCopies_accepts {k : Nat × BitVec 512} (hst : s.qState q = 1) (hci : s.getF (F.WQ_STATUS.SQ_CI q) ≠ (s.queue q).fetchPos)
    (hk : (s.queue q).copies.find? (fun k => k.1 == s.getF (F.WQ_STATUS.SQ_CI q)) = some k) (hm : s.mirror = false) (n : Nat) :
    s.drainCopies q (n + 1) = ((s.setQueue q { s.queue q with idxMsg := none }).acceptEntry q k.2).drainCopies q n := by
  have hgo : ¬ (s.qState q ≠ 1 ∨ s.getF (F.WQ_STATUS.SQ_CI q) = (s.queue q).fetchPos) := by simp [hst, hci]
  rw [State.drainCopies]
  dsimp only
  rw [if_neg hgo, hk]
  simp [hm, State.acked_of_no_mirror hm]

/-- The state in which the copy of position `pos` has arrived (R250). -/
def State.copyArrived (s : State) (q pos : Nat) (e : BitVec 512) : State :=
  (s.fabAnswered (.fetch q pos)).setQueue q { s.queue q with copies := (s.queue q).copies ++ [(pos, e)] }

theorem State.copyArrived_frame (s : State) (q pos : Nat) (e : BitVec 512) :
    ∃ f o qs, s.copyArrived q pos e = { s with fab := f, out := o, queues := qs } := by
  rw [State.copyArrived, (s.fabAnswered_fabOnly _).frame]
  exact ⟨_, _, _, rfl⟩

theorem exec_entryFetchDone (hw : s.working = true) (hp : s.pfail = false) (hopen : s.fabOpen (.fetch q pos) = true) (hst : s.qState q = 1)
    (e : BitVec 512) : exec (.entryFetchDone q pos e) s = .next ((s.copyArrived q pos e).drainCopies q (s.depth q)) := by
  have h := s.fabAnswered_fabOnly (.fetch q pos)
  have hst' : (s.fabAnswered (.fetch q pos)).qState q = 1 := (h.getF _).trans hst
  have hdepth : (s.fabAnswered (.fetch q pos)).depth q = s.depth q := congrArg (max 1 · + 1) (h.getF _)
  show execEntryFetchDone q pos e s = _
  simp only [execEntryFetchDone, hw, hp, hopen, hst', hdepth, h.queue]
  rfl

/-- An entry without fragments that was accepted stands in the lowest free context, and the checks have been made of it. -/
theorem State.acceptEntry_checked (h : s.build.pair = false) (he : entFrag e = false) (q : Nat) :
    State.Checked (leastFree 0 s.ctxs) (s.entryOpened q e) (s.acceptEntry q e) := by
  rw [State.acceptEntry_unpaired h]
  refine State.checkEntry_checked ?_
  rw [State.entryOpened_ctx]
  exact he

theorem State.acceptEntry_opcode (h : s.build.pair = false) (he : entOp e = 0 ∨ 0x0F < entOp e) (q : Nat) :
    ((s.acceptEntry q e).ctx (leastFree 0 s.ctxs)).state = .ready ∧ ((s.acceptEntry q e).ctx (leastFree 0 s.ctxs)).status = 0x41 := by
  rw [State.acceptEntry_unpaired h]
  refine State.checkEntry_opcode ?_
  rw [State.entryOpened_ctx]
  exact he

theorem State.acceptEntry_queue (h : s.build.pair = false) (he : entFrag e = false) (q : Nat) :
    (((s.acceptEntry q e).queue q).copies = (s.queue q).copies.filter (fun k => k.1 != s.getF (F.WQ_STATUS.SQ_CI q))) ∧
    ((s.acceptEntry q e).queue q).fetched = ((s.queue q).fetched + 1) % 2 ^ 32 := by
  have hq : (s.acceptEntry q e).queue q = (s.entryOpened q e).queue q := by rw [(State.acceptEntry_checked h he q).frame]; rfl
  rw [hq, State.entryOpened_queue]
  exact ⟨rfl, rfl⟩

theorem State.acceptEntry_reg (h : s.build.pair = false) (he : entFrag e = false) (q : Nat) (o : Nat) :
    (s.acceptEntry q e).reg o = (s.entryTaken q).reg o := by
  have hreg : (s.acceptEntry q e).reg o = (s.entryOpened q e).reg o := by rw [(State.acceptEntry_checked h he q).frame]; rfl
  exact hreg.trans (State.reg_setCtx (s.entryTaken q) (leastFree 0 s.ctxs) (s.fetchedCtx q e) o)

/-! ## ENTRY_FETCH_DONE (R249, R250, R254) -/

/-- A copy that is ahead of its grant, or out of order, is kept. -/
theorem entryFetchDone_keeps (hw : s.working = true) (hp : s.pfail = false) (hopen : s.fabOpen (.fetch q pos) = true) (hst : s.qState q = 1)
    (hcopies : (s.queue q).copies = []) (hwait : s.getF (F.WQ_STATUS.SQ_CI q) = (s.queue q).fetchPos ∨ pos ≠ s.getF (F.WQ_STATUS.SQ_CI q)) :
    ∃ t, exec (.entryFetchDone q pos e) s = .next t ∧ t.queue q = { s.queue q with copies := [(pos, e)] } ∧ t.ctxs = s.ctxs ∧ regsKept s t [] := by
  obtain ⟨f, o, qs, hf⟩ := s.copyArrived_frame q pos e
  have hq : (s.copyArrived q pos e).queue q = { s.queue q with copies := [(pos, e)] } := by
    rw [State.copyArrived, State.queue_setQueue, hcopies, List.nil_append]
  have hreg : ∀ o, (s.copyArrived q pos e).reg o = s.reg o := fun o => by rw [hf]; rfl
  have hci : (s.copyArrived q pos e).getF (F.WQ_STATUS.SQ_CI q) = s.getF (F.WQ_STATUS.SQ_CI q) := State.getF_congr (hreg _)
  have hdrain := State.drainCopies_waits (s := s.copyArrived q pos e) (q := q) (by
    rw [hq, hci]
    refine hwait.imp id fun hne => ?_
    simp [hne]) (s.depth q)
  exact ⟨s.copyArrived q pos e, by rw [exec_entryFetchDone hw hp hopen hst, hdrain], hq, by rw [hf], fun o _ => hreg o⟩

/-- The same state, the copy about to be accepted. -/
def State.copyGranted (s : State) (q pos : Nat) (e : BitVec 512) : State :=
  (s.copyArrived q pos e).setQueue q { (s.copyArrived q pos e).queue q with idxMsg := none }

theorem State.copyGranted_frame (s : State) (q pos : Nat) (e : BitVec 512) :
    ∃ f o qs, s.copyGranted q pos e = { s with fab := f, out := o, queues := qs } := by
  obtain ⟨f, o, qs, hf⟩ := s.copyArrived_frame q pos e
  rw [State.copyGranted, hf]
  exact ⟨_, _, _, rfl⟩

theorem State.copyArrived_queue (hcopies : (s.queue q).copies = []) (pos : Nat) (e : BitVec 512) :
    (s.copyArrived q pos e).queue q = { s.queue q with copies := [(pos, e)] } := by
  rw [State.copyArrived, State.queue_setQueue, hcopies, List.nil_append]

theorem State.copyGranted_queue (hcopies : (s.queue q).copies = []) (pos : Nat) (e : BitVec 512) :
    (s.copyGranted q pos e).queue q = { s.queue q with copies := [(pos, e)], idxMsg := none } := by
  rw [State.copyGranted, State.queue_setQueue, State.copyArrived_queue hcopies]

theorem State.copyGranted_getF (s : State) (q pos : Nat) (e : BitVec 512) (f : Field) : (s.copyGranted q pos e).getF f = s.getF f := by
  obtain ⟨_, _, _, hf⟩ := s.copyGranted_frame q pos e
  rw [hf]
  rfl

theorem State.copyGranted_unpaired (hpair : s.build.pair = false) (q pos : Nat) (e : BitVec 512) : (s.copyGranted q pos e).build.pair = false := by
  obtain ⟨_, _, _, hf⟩ := s.copyGranted_frame q pos e
  rw [hf]
  exact hpair

theorem State.copyGranted_drained (hpair : s.build.pair = false) (hcopies : (s.queue q).copies = []) (he : entFrag e = false) (n : Nat) :
    ((s.copyGranted q (s.getF (F.WQ_STATUS.SQ_CI q)) e).acceptEntry q e).drainCopies q n =
      (s.copyGranted q (s.getF (F.WQ_STATUS.SQ_CI q)) e).acceptEntry q e := by
  have hcopies' := (State.acceptEntry_queue (State.copyGranted_unpaired hpair q (s.getF (F.WQ_STATUS.SQ_CI q)) e) he q).1
  rw [State.copyGranted_queue hcopies, State.copyGranted_getF] at hcopies'
  refine State.drainCopies_waits (.inr ?_) n
  rw [hcopies']
  simp

/-- The copy at the consumer index is accepted, and the next one is waited for. -/
theorem State.copyArrived_drained (hst : s.qState q = 1) (hpair : s.build.pair = false) (hcopies : (s.queue q).copies = [])
    (hci : s.getF (F.WQ_STATUS.SQ_CI q) ≠ (s.queue q).fetchPos) (he : entFrag e = false) :
    (s.copyArrived q (s.getF (F.WQ_STATUS.SQ_CI q)) e).drainCopies q (s.depth q) =
      (s.copyGranted q (s.getF (F.WQ_STATUS.SQ_CI q)) e).acceptEntry q e := by
  have hq := State.copyArrived_queue hcopies (s.getF (F.WQ_STATUS.SQ_CI q)) e
  obtain ⟨n, hn⟩ : ∃ n, s.depth q = n + 1 := ⟨s.depth q - 1, by have := s.depth_pos q; omega⟩
  have hdrained := State.copyGranted_drained hpair hcopies he n
  obtain ⟨f, o, qs, hf⟩ := s.copyArrived_frame q (s.getF (F.WQ_STATUS.SQ_CI q)) e
  have hget : ∀ f, (s.copyArrived q (s.getF (F.WQ_STATUS.SQ_CI q)) e).getF f = s.getF f := fun f => by rw [hf]; rfl
  have hpair' : (s.copyArrived q (s.getF (F.WQ_STATUS.SQ_CI q)) e).build.pair = false := by rw [hf]; exact hpair
  rw [hn, State.drainCopies_accepts (k := (s.getF (F.WQ_STATUS.SQ_CI q), e)) ((hget _).trans hst) (by rw [hget, hq]; exact hci)
    (by rw [hq, hget]; simp) (State.mirror_unpaired hpair')]
  exact hdrained

/-- The entry at the consumer index leaves the ring for the lowest free context, and its checks are run. -/
theorem entryFetchDone_accepts (hw : s.working = true) (hp : s.pfail = false) (hopen : s.fabOpen (.fetch q pos) = true) (hpair : s.build.pair = false)
    (hst : s.qState q = 1) (hcopies : (s.queue q).copies = []) (hci : s.getF (F.WQ_STATUS.SQ_CI q) ≠ (s.queue q).fetchPos)
    (hpos : pos = s.getF (F.WQ_STATUS.SQ_CI q)) (he : entFrag e = false) :
    ∃ t, exec (.entryFetchDone q pos e) s = .next t ∧ t.getF (F.WQ_STATUS.SQ_CI q) = (pos + 1) % s.depth q ∧
      t.getF (F.WQ_OUT.OUTSTANDING q) = (s.getF (F.WQ_OUT.OUTSTANDING q) + 1) % 2 ^ 16 ∧ (t.queue q).copies = [] ∧
      (t.queue q).fetched = ((s.queue q).fetched + 1) % 2 ^ 32 ∧ (t.ctx (leastFree 0 s.ctxs)).entry = e ∧
      (t.ctx (leastFree 0 s.ctxs)).queue = q ∧ (t.ctx (leastFree 0 s.ctxs)).seq = s.fetchSeq ∧
      ((t.ctx (leastFree 0 s.ctxs)).state = .waiting ∨
        (t.ctx (leastFree 0 s.ctxs)).state = .ready ∧ (t.ctx (leastFree 0 s.ctxs)).status ∈ [0x30, 0x40, 0x41, 0x42]) ∧
      (entOp e = 0 ∨ 0x0F < entOp e → (t.ctx (leastFree 0 s.ctxs)).state = .ready ∧ (t.ctx (leastFree 0 s.ctxs)).status = 0x41) ∧
      regsKept s t [(F.WQ_STATUS.SQ_CI q).reg, (F.WQ_OUT.OUTSTANDING q).reg] := by
  subst hpos
  have hexec := exec_entryFetchDone hw hp hopen hst e
  rw [State.copyArrived_drained hst hpair hcopies hci he] at hexec
  have hget := s.copyGranted_getF q (s.getF (F.WQ_STATUS.SQ_CI q)) e
  have hqueue := State.copyGranted_queue hcopies (s.getF (F.WQ_STATUS.SQ_CI q)) e
  have hpair' := State.copyGranted_unpaired hpair q (s.getF (F.WQ_STATUS.SQ_CI q)) e
  have hframe := s.copyGranted_frame q (s.getF (F.WQ_STATUS.SQ_CI q)) e
  revert hexec hget hqueue hpair' hframe
  generalize s.copyGranted q (s.getF (F.WQ_STATUS.SQ_CI q)) e = v
  rintro hexec hget hqueue hpair' ⟨f, o, qs, hf⟩
  have hctxs : v.ctxs = s.ctxs := by rw [hf]
  have hseq : v.fetchSeq = s.fetchSeq := by rw [hf]
  have hreg : ∀ o, v.reg o = s.reg o := fun o => by rw [hf]; rfl
  have hdepth : v.depth q = s.depth q := congrArg (max 1 · + 1) (hget _)
  obtain ⟨hcopies', hfetched⟩ := State.acceptEntry_queue hpair' he q
  obtain ⟨-, hentry, hq, hs, hstate⟩ := State.acceptEntry_checked hpair' he q
  have hgetF : ∀ f, (v.acceptEntry q e).getF f = (v.entryTaken q).getF f := fun f => State.getF_congr (State.acceptEntry_reg hpair' he q _)
  have hkept : regsKept s (v.acceptEntry q e) [(F.WQ_STATUS.SQ_CI q).reg, (F.WQ_OUT.OUTSTANDING q).reg] := fun o ho => by
    rw [State.acceptEntry_reg hpair' he, v.entryTaken_regsKept q o ho, hreg]
  obtain ⟨hnext, hout⟩ := v.entryTaken_getF q
  rw [State.entryOpened_ctx] at hentry hq hs
  rw [hctxs] at hentry hq hs hstate
  rw [hget, hdepth] at hnext
  rw [hget] at hout
  have hop := fun ho => State.acceptEntry_opcode (e := e) hpair' ho q
  rw [hctxs] at hop
  refine ⟨_, hexec, by rw [hgetF, hnext], by rw [hgetF, hout], ?_, ?_, hentry, hq, hs.trans hseq, hstate, hop, hkept⟩
  · rw [hcopies', hqueue, hget]
    simp
  · rw [hfetched, hqueue]

/-! ## FRAGMENT_TABLE_FETCH of a last table (R263 to R266) -/

/-- The context of an entry with one more table of fragments, without a fault of form. -/
def State.tableCtx (s : State) (c : Nat) (l : List (BitVec 128)) : Ctx :=
  { s.ctx c with
    detail := 0
    nEntries := (s.ctx c).nEntries + l.length
    frags := (s.ctx c).frags ++ l.map (fun f => Frag.mk (fragAddr f) (fragLen f)) }

/-- Without a chained table, every entry of a table is a data fragment. -/
theorem filter_fragments (h : l.all (fun f => !fragChain f) = true) : l.filter (fun f => !fragChain f) = l :=
  List.filter_eq_self.2 (List.all_eq_true.1 h)

theorem State.tableTake_outside (hlast : l.all (fun f => !fragChain f) = true)
    (hwin : l.all (fun f => s.inWindows (s.ctx c).queue (fragAddr f) (fragLen f) (!entReads (s.ctx c).entry)) = false) :
    s.tableTake c l = s.finish c 0x30 4 0 0 0 := by
  unfold State.tableTake
  dsimp only
  rw [filter_fragments hlast, if_pos]
  rw [hwin]
  rfl

theorem State.tableTake_last (hlast : l.all (fun f => !fragChain f) = true) (hdetail : (s.ctx c).detail = 0) (hform : tableErr l = 0)
    (hwin : l.all (fun f => s.inWindows (s.ctx c).queue (fragAddr f) (fragLen f) (!entReads (s.ctx c).entry)) = true) :
    s.tableTake c l = (s.setCtx c (s.tableCtx c l)).chainEnd c := by
  have herr : (if (s.ctx c).detail ≠ 0 then (s.ctx c).detail else tableErr l) = 0 := by rw [hform, hdetail]; rfl
  unfold State.tableTake
  dsimp only
  rw [filter_fragments hlast, if_neg (by rw [hwin]; exact Bool.false_ne_true), herr]
  cases hget : l.getLast? with
  | none => rfl
  | some f =>
    have hchain : fragChain f = false := by simpa using List.all_eq_true.1 hlast f (List.mem_of_getLast? hget)
    dsimp only
    rw [if_neg (by simp [hchain])]
    rfl

/-- A chain without a fault whose fragments make up the data length waits for admission; another one fails step 9. -/
theorem State.chainEnd_good (hdetail : (s.ctx c).detail = 0) (hcount : (s.ctx c).nEntries ≤ 4096) :
    s.chainEnd c = if s.dataLen (s.qNs (s.ctx c).queue) (s.ctx c).entry = some ((s.ctx c).frags.foldl (fun a f => a + f.len) 0)
      then s.setCtx c { s.ctx c with state := .waiting, nextTable := none } else s.finish c 0x42 2 0 0 0 := by
  unfold State.chainEnd
  dsimp only
  rw [if_neg (not_not.2 hdetail), if_neg (Nat.not_lt.2 hcount), ite_not]
  simp only [eq_comm]

/-- The last table of a chain, inside the windows and without a fault: the fragments make up the data length, or the entry ends with 0x0042. -/
theorem State.tableTake_inside (hlast : l.all (fun f => !fragChain f) = true) (hdetail : (s.ctx c).detail = 0) (hform : tableErr l = 0)
    (hcount : (s.ctx c).nEntries + l.length ≤ 4096)
    (hwin : l.all (fun f => s.inWindows (s.ctx c).queue (fragAddr f) (fragLen f) (!entReads (s.ctx c).entry)) = true) :
    (∀ k, k ≠ c → (s.tableTake c l).ctx k = s.ctx k) ∧ (∀ o, (s.tableTake c l).reg o = s.reg o) ∧
    (s.dataLen (s.qNs (s.ctx c).queue) (s.ctx c).entry = some ((s.tableCtx c l).frags.foldl (fun a f => a + f.len) 0) →
      ((s.tableTake c l).ctx c).state = .waiting ∧ ((s.tableTake c l).ctx c).frags = (s.tableCtx c l).frags) ∧
    (s.dataLen (s.qNs (s.ctx c).queue) (s.ctx c).entry ≠ some ((s.tableCtx c l).frags.foldl (fun a f => a + f.len) 0) →
      ((s.tableTake c l).ctx c).state = .ready ∧ ((s.tableTake c l).ctx c).status = 0x42 ∧ ((s.tableTake c l).ctx c).detail = 2) := by
  have hctx : (s.setCtx c (s.tableCtx c l)).ctx c = s.tableCtx c l := State.ctx_setCtx _ _ _
  have hother : ∀ k, k ≠ c → (s.setCtx c (s.tableCtx c l)).ctx k = s.ctx k := fun k hk => State.ctx_setCtx_ne hk
  have hreg : ∀ o, (s.setCtx c (s.tableCtx c l)).reg o = s.reg o := fun o => State.reg_setCtx _ _ _ _
  have hlen : (s.setCtx c (s.tableCtx c l)).dataLen ((s.setCtx c (s.tableCtx c l)).qNs (s.tableCtx c l).queue) (s.tableCtx c l).entry =
    s.dataLen (s.qNs (s.ctx c).queue) (s.ctx c).entry := rfl
  rw [State.tableTake_last hlast hdetail hform hwin, State.chainEnd_good (by rw [hctx]; rfl) (by rw [hctx]; exact hcount), hctx, hlen]
  split
  next hdata =>
    refine ⟨fun k hk => (State.ctx_setCtx_ne hk).trans (hother k hk), fun o => (State.reg_setCtx _ _ _ _).trans (hreg o), fun _ => ?_,
      fun hne => absurd hdata hne⟩
    rw [State.ctx_setCtx]
    exact ⟨rfl, rfl⟩
  next hdata =>
    obtain ⟨hc, hk, hframe⟩ := (s.setCtx c (s.tableCtx c l)).finish_spec c 0x42 2 0 0 0
    have hreg' : ∀ o, ((s.setCtx c (s.tableCtx c l)).finish c 0x42 2 0 0 0).reg o = (s.setCtx c (s.tableCtx c l)).reg o := fun o => by rw [hframe]; rfl
    exact ⟨fun k hne => (hk k hne).trans (hother k hne), fun o => (hreg' o).trans (hreg o), fun heq => absurd heq hdata,
      fun _ => ⟨congrArg Ctx.state hc, congrArg Ctx.status hc, congrArg Ctx.detail hc⟩⟩

theorem exec_fragmentTableFetch (hw : s.working = true) (hp : s.pfail = false) (hst : (s.ctx c).state = .tables)
    (hopen : s.fabOpen (.table c ((s.ctx c).nTables - 1)) = true) (hlen : (s.ctx c).nextTable.map (·.2) = some l.length) :
    exec (.fragmentTableFetch c l) s = .next ((s.fabAnswered (.table c ((s.ctx c).nTables - 1))).tableTake c l) := by
  show execFragmentTableFetch c l s = _
  unfold execFragmentTableFetch
  dsimp only
  rw [if_pos (by simp [hw, hp, hst, hopen, hlen])]

/-- What the windows and the data length say of an entry depends on the registers and the virtual dies alone. -/
theorem State.FabOnly.inWindows (h : State.FabOnly s t) (q addr len : Nat) (write : Bool) : t.inWindows q addr len write = s.inWindows q addr len write := by
  rw [h.frame]; rfl

theorem State.FabOnly.dataLen (h : State.FabOnly s t) (q : Nat) (e : BitVec 512) : t.dataLen (t.qNs q) e = s.dataLen (s.qNs q) e := by
  rw [h.frame]; rfl

theorem fragmentTableFetch_outside (hw : s.working = true) (hp : s.pfail = false) (hst : (s.ctx c).state = .tables)
    (hopen : s.fabOpen (.table c ((s.ctx c).nTables - 1)) = true) (hlen : (s.ctx c).nextTable.map (·.2) = some l.length)
    (hlast : l.all (fun f => !fragChain f) = true)
    (hwin : l.all (fun f => s.inWindows (s.ctx c).queue (fragAddr f) (fragLen f) (!entReads (s.ctx c).entry)) = false) :
    ∃ t, exec (.fragmentTableFetch c l) s = .next t ∧ (t.ctx c).state = .ready ∧ (t.ctx c).status = 0x30 ∧ (t.ctx c).detail = 4 := by
  have h := s.fabAnswered_fabOnly (.table c ((s.ctx c).nTables - 1))
  refine ⟨_, exec_fragmentTableFetch hw hp hst hopen hlen, ?_⟩
  rw [State.tableTake_outside hlast (by simp only [h.inWindows, h.ctx]; exact hwin)]
  obtain ⟨hctx, -, -⟩ := State.finish_spec (s.fabAnswered (.table c ((s.ctx c).nTables - 1))) c 0x30 4 0 0 0
  exact ⟨congrArg Ctx.state hctx, congrArg Ctx.status hctx, congrArg Ctx.detail hctx⟩

theorem fragmentTableFetch_inside (hw : s.working = true) (hp : s.pfail = false) (hst : (s.ctx c).state = .tables)
    (hopen : s.fabOpen (.table c ((s.ctx c).nTables - 1)) = true) (hlen : (s.ctx c).nextTable.map (·.2) = some l.length)
    (hdetail : (s.ctx c).detail = 0) (hform : tableErr l = 0) (hlast : l.all (fun f => !fragChain f) = true) (hcount : (s.ctx c).nEntries + l.length ≤ 4096)
    (hwin : l.all (fun f => s.inWindows (s.ctx c).queue (fragAddr f) (fragLen f) (!entReads (s.ctx c).entry)) = true) :
    ∃ t, exec (.fragmentTableFetch c l) s = .next t ∧ (∀ k, k ≠ c → t.ctx k = s.ctx k) ∧ regsKept s t [] ∧
      (s.dataLen (s.qNs (s.ctx c).queue) (s.ctx c).entry = some ((s.tableCtx c l).frags.foldl (fun a f => a + f.len) 0) →
        (t.ctx c).state = .waiting ∧ (t.ctx c).frags = (s.tableCtx c l).frags) ∧
      (s.dataLen (s.qNs (s.ctx c).queue) (s.ctx c).entry ≠ some ((s.tableCtx c l).frags.foldl (fun a f => a + f.len) 0) →
        (t.ctx c).state = .ready ∧ (t.ctx c).status = 0x42 ∧ (t.ctx c).detail = 2) := by
  have h := s.fabAnswered_fabOnly (.table c ((s.ctx c).nTables - 1))
  have hx : (s.fabAnswered (.table c ((s.ctx c).nTables - 1))).tableCtx c l = s.tableCtx c l := by rw [State.tableCtx, h.ctx, State.tableCtx]
  obtain ⟨hother, hreg, hgood, hshort⟩ := State.tableTake_inside (s := s.fabAnswered (.table c ((s.ctx c).nTables - 1))) (c := c) (l := l) hlast
    (by rw [h.ctx]; exact hdetail) hform (by rw [h.ctx]; exact hcount) (by simp only [h.inWindows, h.ctx]; exact hwin)
  rw [hx, h.ctx, h.dataLen] at hgood hshort
  exact ⟨_, exec_fragmentTableFetch hw hp hst hopen hlen, fun k hk => (hother k hk).trans (h.ctx k), fun o _ => (hreg o).trans (h.reg o), hgood, hshort⟩

/-- Settles O35: a copy takes effect at the consumer index alone, and a last table's fragments are checked against the windows, then summed. -/
theorem fetchedEntryAndItsFragments : Obligations.FetchedEntryAndItsFragments := by
  refine ⟨fun s q pos e _ hw hp hopen _ hpair hst hcopies => ⟨entryFetchDone_keeps hw hp hopen hst hcopies,
    entryFetchDone_accepts hw hp hopen hpair hst hcopies⟩, fun s c l hw hp hst hopen hlen hdetail hform hlast hcount => ⟨?_, ?_⟩⟩
  · exact fragmentTableFetch_outside hw hp hst hopen hlen hlast
  · exact fragmentTableFetch_inside hw hp hst hopen hlen hdetail hform hlast hcount

end Sys2Proof.Machine
end

section
/-! SUPPORT. The polls of the index words (R247, R248, R271, R284). -/

namespace Sys2Proof.Machine

variable {s t : State} {q : Nat} {w : Word}

theorem State.FabOnly.depth (h : State.FabOnly s t) (q : Nat) : t.depth q = s.depth q := congrArg (max 1 · + 1) (h.getF _)

/-! ## The ERROR state (R284) -/

/-- A queue in ERROR shows its cause, and the source is pending; registers apart from the log and the event sources are kept. -/
theorem State.queueError_getF (hst : s.qState q = 1) (cause addr : Nat) {f : Field} (h64 : f.hi < 64) (hreg : 0x30000 ≤ f.reg) :
    (s.queueError q cause addr).getF f = ((s.setF (F.WQ_STATUS.STATE q) 3).setF (F.WQ_STATUS.CAUSE q) cause).getF f := by
  have hpend : f.apart (pendF Ev.queueError) = true := by
    have : (pendF Ev.queueError).reg < 0x30000 := by decide
    simp only [Field.apart, Bool.or_eq_true, bne_iff_ne]
    exact .inl (.inl (by omega))
  unfold State.queueError
  rw [if_pos hst]
  exact (State.getF_raise_apart hpend h64).trans (State.getF_logWrite h64 (apart_logFields hreg))

theorem State.queueError_pending (hst : s.qState q = 1) (cause addr : Nat) : (s.queueError q cause addr).isPending Ev.queueError = true := by
  unfold State.queueError
  rw [if_pos hst]
  refine State.isPending_raise ?_ (by decide)
  cases (State.build _).pair <;> decide

theorem State.queueError_queues (hst : s.qState q = 1) (cause addr : Nat) : (s.queueError q cause addr).queues = s.queues := by
  unfold State.queueError
  rw [if_pos hst]
  simp only [State.raise_queues, State.logWrite_queues, State.setF_queues]

theorem State.queueError_state (hst : s.qState q = 1) {cause : Nat} (hcause : cause < 2 ^ 6) (addr : Nat) :
    (s.queueError q cause addr).qState q = 3 ∧ (s.queueError q cause addr).getF (F.WQ_STATUS.CAUSE q) = cause := by
  constructor
  · refine (State.queueError_getF hst _ _ (show 31 < 64 by decide) (by simp only [F.WQ_STATUS.STATE]; omega)).trans ?_
    refine (State.getF_setF_apart _ _ _ _ (by simp [Field.apart, F.WQ_STATUS.STATE, F.WQ_STATUS.CAUSE]) (show 31 < 64 by decide)).trans ?_
    exact State.getF_setF_self _ _ _ (show 31 < 64 by decide)
  · refine (State.queueError_getF hst _ _ (show 29 < 64 by decide) (by simp only [F.WQ_STATUS.CAUSE]; omega)).trans ?_
    exact (State.getF_setF_self _ _ _ (show 29 < 64 by decide)).trans (Nat.mod_eq_of_lt hcause)

/-! ## POLL_RESULT -/

/-- Is the sample window left as it is? It is over in state 4 alone. -/
theorem State.windowEnd_awake (h : s.getF F.PWR_STAT.STATE ≠ 4) : s.windowEnd = s := by
  have hover : s.windowOver = false := by simp [State.windowOver, h]
  simp [State.windowEnd, hover]

theorem exec_pollResult (hq : q < 1024) (hw : s.working = true) (hopen : s.fabOpen (.poll q) = true)
    (hstate : ((s.fabAnswered (.poll q)).pollTake q w).getF F.PWR_STAT.STATE ≠ 4) :
    exec (.pollResult q w) s = .next ((s.fabAnswered (.poll q)).pollTake q w) := by
  show execPollResult q w s = _
  unfold execPollResult
  dsimp only
  rw [hw, hopen, Bool.and_true, if_pos rfl, if_neg (by omega), if_neg (fun hmitten => hstate hmitten.1), State.windowEnd_awake hstate]

/-- Indices inside the ring and consistent with what was fetched take effect. -/
theorem State.pollTake_accepts (hst : s.qState q = 1) (hpi : getBits w 15 0 < s.depth q) (hci : getBits w 31 16 < s.depth q)
    (hforward : ringDist (s.depth q) (s.queue q).fetchPos (s.queue q).piSeen ≤ ringDist (s.depth q) (s.queue q).fetchPos (getBits w 15 0))
    (hroom : ringDist (s.depth q) (s.queue q).fetchPos (getBits w 15 0) + ringDist (s.depth q) (s.getF (F.WQ_STATUS.SQ_CI q)) (s.queue q).fetchPos ≤
      s.depth q - 1 - s.getF (F.WQ_OUT.OUTSTANDING q)) :
    s.pollTake q w = s.setQueue q { s.queue q with piSeen := getBits w 15 0, ciSeen := getBits w 31 16 } := by
  unfold State.pollTake
  dsimp only
  rw [if_pos hst, if_neg (not_or.2 ⟨Nat.not_le.2 hpi, Nat.not_le.2 hci⟩), if_neg (not_or.2 ⟨Nat.not_lt.2 hforward, Nat.not_lt.2 hroom⟩)]

theorem State.pollTake_beyond (hst : s.qState q = 1) (hbeyond : s.depth q ≤ getBits w 15 0 ∨ s.depth q ≤ getBits w 31 16) :
    s.pollTake q w = s.queueError q 16 (s.idxAddr q) := by
  unfold State.pollTake
  dsimp only
  rw [if_pos hst, if_pos hbeyond]

theorem State.pollTake_stopped (hst : s.qState q ≠ 1) :
    s.pollTake q w = if getBits w 31 16 < s.depth q then s.setQueue q { s.queue q with ciSeen := getBits w 31 16 } else s := by
  unfold State.pollTake
  dsimp only
  rw [if_neg hst]

theorem pollResult_accepts (hq : q < 1024) (hw : s.working = true) (hopen : s.fabOpen (.poll q) = true) (hstate : s.getF F.PWR_STAT.STATE ≠ 4)
    (hst : s.qState q = 1) (hpi : getBits w 15 0 < s.depth q) (hci : getBits w 31 16 < s.depth q)
    (hforward : ringDist (s.depth q) (s.queue q).fetchPos (s.queue q).piSeen ≤ ringDist (s.depth q) (s.queue q).fetchPos (getBits w 15 0))
    (hroom : ringDist (s.depth q) (s.queue q).fetchPos (getBits w 15 0) + ringDist (s.depth q) (s.getF (F.WQ_STATUS.SQ_CI q)) (s.queue q).fetchPos ≤
      s.depth q - 1 - s.getF (F.WQ_OUT.OUTSTANDING q)) :
    ∃ t, exec (.pollResult q w) s = .next t ∧ t.queue q = { s.queue q with piSeen := getBits w 15 0, ciSeen := getBits w 31 16 } ∧
      t.qState q = 1 ∧ regsKept s t [] ∧ (∀ k, k ≠ q → t.queue k = s.queue k) := by
  have h := s.fabAnswered_fabOnly (.poll q)
  have htake : (s.fabAnswered (.poll q)).pollTake q w = (s.fabAnswered (.poll q)).setQueue q _ :=
    State.pollTake_accepts ((h.getF _).trans hst) (by rwa [h.depth]) (by rwa [h.depth]) (by rwa [h.depth, h.queue])
      (by rwa [h.depth, h.queue, h.getF, h.getF])
  have hreg : ∀ o, ((s.fabAnswered (.poll q)).pollTake q w).reg o = s.reg o := fun o => by rw [htake]; exact h.reg o
  refine ⟨_, exec_pollResult hq hw hopen (by rwa [State.getF_congr (hreg _)]), ?_, (State.getF_congr (hreg _)).trans hst, fun o _ => hreg o, fun k hk => ?_⟩
  · rw [htake, State.queue_setQueue, h.queue]
  · rw [htake, State.queue_setQueue_ne hk, h.queue]

theorem pollResult_beyond (hq : q < 1024) (hw : s.working = true) (hopen : s.fabOpen (.poll q) = true) (hstate : s.getF F.PWR_STAT.STATE ≠ 4)
    (hst : s.qState q = 1) (hbeyond : s.depth q ≤ getBits w 15 0 ∨ s.depth q ≤ getBits w 31 16) :
    ∃ t, exec (.pollResult q w) s = .next t ∧ t.qState q = 3 ∧ t.getF (F.WQ_STATUS.CAUSE q) = 16 ∧ t.isPending Ev.queueError = true ∧
      t.queues = s.queues := by
  have h := s.fabAnswered_fabOnly (.poll q)
  have hst' : (s.fabAnswered (.poll q)).qState q = 1 := (h.getF _).trans hst
  have htake := State.pollTake_beyond (s := s.fabAnswered (.poll q)) (w := w) hst' (by rwa [h.depth])
  have hpower : ∀ (f : Field) v, f.reg < 0x60000 → ∀ u : State, (u.setF f v).getF F.PWR_STAT.STATE = u.getF F.PWR_STAT.STATE := fun f v hf u =>
    State.getF_setF_apart _ _ _ _ (by
      have hne : F.PWR_STAT.STATE.reg ≠ f.reg := by simp only [F.PWR_STAT.STATE]; omega
      simp only [Field.apart, Bool.or_eq_true, bne_iff_ne]
      exact .inl (.inl hne)) (by decide)
  have hkept : ((s.fabAnswered (.poll q)).pollTake q w).getF F.PWR_STAT.STATE = s.getF F.PWR_STAT.STATE := by
    rw [htake, State.queueError_getF hst' _ _ (by decide) (by decide), hpower _ _ (by simp only [F.WQ_STATUS.CAUSE]; omega),
      hpower _ _ (by simp only [F.WQ_STATUS.STATE]; omega), h.getF]
  obtain ⟨hstate', hcause⟩ := State.queueError_state hst' (cause := 16) (by decide) ((s.fabAnswered (.poll q)).idxAddr q)
  refine ⟨_, exec_pollResult hq hw hopen (by rwa [hkept]), ?_⟩
  rw [htake]
  exact ⟨hstate', hcause, State.queueError_pending hst' _ _, (State.queueError_queues hst' _ _).trans h.queues⟩

theorem pollResult_stopped (hq : q < 1024) (hw : s.working = true) (hopen : s.fabOpen (.poll q) = true) (hstate : s.getF F.PWR_STAT.STATE ≠ 4)
    (hst : s.qState q ≠ 1) :
    ∃ t, exec (.pollResult q w) s = .next t ∧ regsKept s t [] ∧
      t.queue q = { s.queue q with ciSeen := if getBits w 31 16 < s.depth q then getBits w 31 16 else (s.queue q).ciSeen } := by
  have h := s.fabAnswered_fabOnly (.poll q)
  have htake := State.pollTake_stopped (s := s.fabAnswered (.poll q)) (w := w) fun hst' => hst ((h.getF _).symm.trans hst')
  rw [h.depth, h.queue] at htake
  have hreg : ∀ o, ((s.fabAnswered (.poll q)).pollTake q w).reg o = s.reg o := fun o => by
    rw [htake]
    split <;> exact h.reg o
  refine ⟨_, exec_pollResult hq hw hopen (by rwa [State.getF_congr (hreg _)]), fun o _ => hreg o, ?_⟩
  rw [htake]
  split
  · exact State.queue_setQueue _ _ _
  · exact h.queue q

end Sys2Proof.Machine
end

section
/-! SUPPORT. Arbitration among the queues (R252 to R254) and the positions a grant takes (R249, R250). -/

namespace Sys2Proof.Machine

variable {s t u : State} {q n : Nat}

/-! ## Credits -/

/-- A queue with its credit loaded anew. -/
def Queue.reloaded (x : Queue) : Queue := { x with credit := x.weight }

theorem Queue.weight_pos (x : Queue) : 0 < x.weight := Nat.lt_of_lt_of_le Nat.zero_lt_one (Nat.le_max_left _ _)

/-- The credits of some queues are loaded anew; nothing else changes. -/
structure State.Recredited (s t : State) : Prop where
  frame : t = { s with queues := t.queues }
  queue : ∀ q, t.queue q = s.queue q ∨ t.queue q = (s.queue q).reloaded

namespace State.Recredited

theorem refl (s : State) : State.Recredited s s := ⟨rfl, fun _ => .inl rfl⟩

theorem trans (h : State.Recredited s t) (h' : State.Recredited t u) : State.Recredited s u := by
  refine ⟨by rw [h'.frame, h.frame], fun q => ?_⟩
  rcases h.queue q with hq | hq <;> rcases h'.queue q with hq' | hq' <;> rw [hq', hq]
  · exact .inl rfl
  · exact .inr rfl
  · exact .inr rfl
  · exact .inr rfl

theorem reload (s : State) (q : Nat) : State.Recredited s (s.setQueue q { s.queue q with credit := (s.queue q).weight }) := by
  refine ⟨rfl, fun k => ?_⟩
  by_cases hk : k = q
  · subst hk
    exact .inr (State.queue_setQueue _ _ _)
  · exact .inl (State.queue_setQueue_ne hk)

/-- Loading anew what was loaded anew changes nothing. -/
theorem reloaded (h : State.Recredited s t) (hq : s.queue q = (u.queue q).reloaded) : t.queue q = (u.queue q).reloaded := by
  rcases h.queue q with ht | ht <;> rw [ht, hq]
  rfl

section
variable (h : State.Recredited s t)
include h

theorem getF (f : Field) : t.getF f = s.getF f := by rw [h.frame]; rfl
theorem qState (q : Nat) : t.qState q = s.qState q := h.getF _
theorem depth (q : Nat) : t.depth q = s.depth q := by rw [h.frame]; rfl
theorem maxOut (q : Nat) : t.maxOut q = s.maxOut q := by rw [h.frame]; rfl
theorem ctxUsed : t.ctxUsed = s.ctxUsed := by rw [h.frame]; rfl

theorem arb (q : Nat) : (t.queue q).arb = (s.queue q).arb := by rcases h.queue q with hq | hq <;> rw [hq]; rfl
theorem fetchPos (q : Nat) : (t.queue q).fetchPos = (s.queue q).fetchPos := by rcases h.queue q with hq | hq <;> rw [hq]; rfl
theorem piSeen (q : Nat) : (t.queue q).piSeen = (s.queue q).piSeen := by rcases h.queue q with hq | hq <;> rw [hq]; rfl
theorem copies (q : Nat) : (t.queue q).copies = (s.queue q).copies := by rcases h.queue q with hq | hq <;> rw [hq]; rfl
theorem poll (q : Nat) : (t.queue q).poll = (s.queue q).poll := by rcases h.queue q with hq | hq <;> rw [hq]; rfl

theorem burst (q : Nat) : (t.queue q).burst = (s.queue q).burst := congrArg (getBits · 21 16 + 1) (h.arb q)

theorem credit_le (q : Nat) : (t.queue q).credit ≤ max (s.queue q).credit (s.queue q).weight := by
  rcases h.queue q with hq | hq <;> rw [hq]
  · exact Nat.le_max_left _ _
  · exact Nat.le_max_right _ _

theorem urgent (q : Nat) : t.urgent q = s.urgent q := by rw [State.urgent, h.arb, h.getF, State.urgent]

theorem avail (q : Nat) : t.avail q = s.avail q := by
  unfold State.avail
  dsimp only
  rw [h.qState, h.depth, h.maxOut, h.getF, h.getF, h.fetchPos, h.piSeen, h.ctxUsed]

end

end State.Recredited

theorem State.reloadCredits_recredited (s : State) : State.Recredited s s.reloadCredits :=
  List.foldlRecOn (storeKeys s.queues) _ (motive := State.Recredited s) (State.Recredited.refl s) fun u hu q _ => hu.trans (State.Recredited.reload u q)

/-- Every queue that has left reset has its weight as credit. -/
theorem State.reloadCredits_queue (hq : q ∈ storeKeys s.queues) : s.reloadCredits.queue q = (s.queue q).reloaded := by
  have key : ∀ (l : List Nat) (u : State), State.Recredited s u → q ∈ l →
      (l.foldl (fun s q => s.setQueue q { s.queue q with credit := (s.queue q).weight }) u).queue q = (s.queue q).reloaded := by
    intro l
    induction l with
    | nil => exact fun u _ hmem => absurd hmem List.not_mem_nil
    | cons k l ih =>
      intro u hu hmem
      by_cases hl : q ∈ l
      · exact ih _ (hu.trans (State.Recredited.reload u k)) hl
      · obtain rfl : q = k := (List.mem_cons.1 hmem).resolve_right hl
        have hloaded : (u.setQueue q { u.queue q with credit := (u.queue q).weight }).queue q = (s.queue q).reloaded := by
          rw [State.queue_setQueue]
          rcases hu.queue q with hu | hu <;> rw [hu] <;> rfl
        exact (List.foldlRecOn l _ (motive := State.Recredited (u.setQueue q _)) (State.Recredited.refl _)
          fun v hv k _ => hv.trans (State.Recredited.reload v k)).reloaded hloaded
  exact key _ s (State.Recredited.refl s) hq

/-! ## grant (R252, R253) -/

theorem State.mem_rrOrder (s : State) (last q : Nat) : q ∈ s.rrOrder last ↔ q ∈ storeKeys s.queues := by
  simp only [State.rrOrder, List.mem_append, List.mem_filter, decide_eq_true_eq]
  have := Nat.lt_or_ge last q
  tauto

/-- A grant of the urgent class. -/
theorem State.grantU_some (h : s.grantU = some (q, n)) : s.urgent q = true ∧ 0 < n ∧ n ≤ s.avail q ∧ n ≤ (s.queue q).burst := by
  unfold State.grantU at h
  split at h
  next k hk =>
    obtain ⟨rfl, rfl⟩ := Prod.mk.inj (Option.some.inj h)
    have hpick := List.find?_some hk
    obtain ⟨hurgent, havail⟩ := Bool.and_eq_true_iff.1 hpick
    exact ⟨hurgent, Nat.lt_min.2 ⟨of_decide_eq_true havail, Nat.succ_pos _⟩, Nat.min_le_left _ _, Nat.min_le_right _ _⟩
  next => cases h

/-- Without one, no urgent queue has an entry available. -/
theorem State.grantU_none (h : s.grantU = none) : ∀ k ∈ storeKeys s.queues, s.urgent k = true → s.avail k = 0 := by
  unfold State.grantU at h
  split at h
  next => cases h
  next hnone =>
    intro k hk hurgent
    have hfail := List.find?_eq_none.1 hnone k ((s.mem_rrOrder _ _).2 hk)
    simpa [hurgent] using hfail

/-- A grant of the weighted class spends credit. -/
theorem State.grantW_some (h : s.grantW = some (q, n)) :
    s.urgent q = false ∧ 0 < n ∧ n ≤ s.avail q ∧ n ≤ (s.queue q).burst ∧ n ≤ (s.queue q).credit := by
  unfold State.grantW at h
  split at h
  next k hk =>
    obtain ⟨rfl, rfl⟩ := Prod.mk.inj (Option.some.inj h)
    have hpick := List.find?_some hk
    obtain ⟨hclass, hcredit⟩ := Bool.and_eq_true_iff.1 hpick
    obtain ⟨hurgent, havail⟩ := Bool.and_eq_true_iff.1 hclass
    exact ⟨by simpa using hurgent, Nat.lt_min.2 ⟨of_decide_eq_true havail, Nat.lt_min.2 ⟨Nat.succ_pos _, of_decide_eq_true hcredit⟩⟩,
      Nat.min_le_left _ _, (Nat.min_le_right _ _).trans (Nat.min_le_left _ _), (Nat.min_le_right _ _).trans (Nat.min_le_right _ _)⟩
  next => cases h

/-- The state after a weighted grant: the queue's credit is spent. -/
def State.creditSpent (s : State) (q n : Nat) : State :=
  { s.setQueue q { s.queue q with credit := (s.queue q).credit - n } with lastW := q }

/-- The ways of arbitration: the urgent class, the weighted class at once or after its credits were loaded anew, or no grant. -/
theorem State.grant_cases (s : State) :
    (∃ q n, s.grantU = some (q, n) ∧ s.grant = (some (q, n), { s with lastU := q })) ∨
    (s.grantU = none ∧ ∃ v, State.Recredited s v ∧ ∃ q n, v.grantW = some (q, n) ∧ s.grant = (some (q, n), v.creditSpent q n)) ∨
    s.grant = (none, s.reloadCredits.reloadCredits) := by
  unfold State.grant
  split
  next q n hu => exact .inl ⟨q, n, hu, rfl⟩
  next hu =>
    split
    next q n hw => exact .inr (.inl ⟨hu, s, State.Recredited.refl s, q, n, hw, rfl⟩)
    next =>
      dsimp only
      split
      next q n hw => exact .inr (.inl ⟨hu, _, s.reloadCredits_recredited, q, n, hw, rfl⟩)
      next => exact .inr (.inr rfl)

theorem grant_bounds (h : s.grant = (some (q, n), u)) : 0 < n ∧ n ≤ s.avail q ∧ n ≤ (s.queue q).burst ∧
    (s.urgent q = false → (∀ k ∈ storeKeys s.queues, s.urgent k = true → s.avail k = 0) ∧ n ≤ max (s.queue q).credit (s.queue q).weight) ∧
    (s.urgent q = true → u = { s with lastU := q }) := by
  rcases s.grant_cases with ⟨q', n', hu, hg⟩ | ⟨hu, v, hv, q', n', hw, hg⟩ | hg <;> rw [h] at hg <;> cases hg
  · obtain ⟨hurgent, hpos, havail, hburst⟩ := State.grantU_some hu
    exact ⟨hpos, havail, hburst, fun hno => absurd hurgent (by simp [hno]), fun _ => rfl⟩
  · obtain ⟨hurgent, hpos, havail, hburst, hcredit⟩ := State.grantW_some hw
    rw [hv.urgent] at hurgent
    rw [hv.avail] at havail
    rw [hv.burst] at hburst
    exact ⟨hpos, havail, hburst, fun _ => ⟨State.grantU_none hu, hcredit.trans (hv.credit_le q)⟩, fun hyes => absurd hyes (by simp [hurgent])⟩

theorem arbGrant_none (ha : s.awake = true) (hl : s.locked = true) (hp : s.pfail = false) (hnone : s.grant.1 = none) :
    ∃ t, exec .arbGrant s = .next t ∧ (∀ q ∈ storeKeys s.queues, t.queue q = { s.queue q with credit := (s.queue q).weight }) ∧
      t = { s with queues := t.queues } := by
  have hg : s.grant = (none, s.reloadCredits.reloadCredits) := by
    rcases s.grant_cases with ⟨q, n, -, hg⟩ | ⟨-, v, -, q, n, -, hg⟩ | hg
    · rw [hg] at hnone; cases hnone
    · rw [hg] at hnone; cases hnone
    · exact hg
  refine ⟨s.reloadCredits.reloadCredits, ?_, fun q hq => ?_, (s.reloadCredits_recredited.trans s.reloadCredits.reloadCredits_recredited).frame⟩
  · show execArbGrant s = _
    simp only [execArbGrant, ha, hl, hp, hg, Bool.not_false, Bool.and_self, if_true]
  · exact s.reloadCredits.reloadCredits_recredited.reloaded (State.reloadCredits_queue hq)

/-! ## The positions a grant takes (R249, R250) -/

/-- The state in which the position at the fetch position has been asked for, with no copy of it. -/
def State.positionTaken (s : State) (q : Nat) : State :=
  if s.fab.any (fun r => r.who == .fetch q (s.queue q).fetchPos) then
    s.setQueue q { s.queue q with fetchPos := ((s.queue q).fetchPos + 1) % s.depth q }
  else
    (s.setQueue q { s.queue q with fetchPos := ((s.queue q).fetchPos + 1) % s.depth q }).fabRead (.fetch q (s.queue q).fetchPos)
      (s.sqBase q + 64 * (s.queue q).fetchPos) 64

theorem State.takePositions_succ (h : (s.queue q).copies = []) (n : Nat) : s.takePositions q (n + 1) = (s.positionTaken q).takePositions q n := by
  rw [State.takePositions, State.positionTaken]
  dsimp only
  rw [h, List.find?_nil]
  dsimp only
  split <;> rfl

/-- The positions taken change the queue's fetch position and the requests alone. -/
structure State.Positions (q : Nat) (s t : State) : Prop where
  frame : t = { s with fab := t.fab, out := t.out, queues := t.queues }
  queue : t.queue q = { s.queue q with fetchPos := (t.queue q).fetchPos }
  whos : ∀ k ∈ s.fab.map (·.who), k ∈ t.fab.map (·.who)

namespace State.Positions

theorem refl (q : Nat) (s : State) : State.Positions q s s := ⟨rfl, rfl, fun _ hk => hk⟩

theorem trans (h : State.Positions q s t) (h' : State.Positions q t u) : State.Positions q s u :=
  ⟨by rw [h'.frame, h.frame], by rw [h'.queue, h.queue], fun k hk => h'.whos k (h.whos k hk)⟩

theorem advance (s : State) (q p : Nat) : State.Positions q s (s.setQueue q { s.queue q with fetchPos := p }) :=
  ⟨rfl, by rw [State.queue_setQueue], fun _ hk => hk⟩

section
variable (h : State.Positions q s t)
include h

theorem reg (o : Nat) : t.reg o = s.reg o := by rw [h.frame]; rfl
theorem ctxs : t.ctxs = s.ctxs := by rw [h.frame]
theorem depth : t.depth q = s.depth q := by rw [h.frame]; rfl
theorem copies : (t.queue q).copies = (s.queue q).copies := by rw [h.queue]
theorem poll : (t.queue q).poll = (s.queue q).poll := by rw [h.queue]
theorem uncached (hs : s.uncached) : t.uncached := State.uncached_congr (by rw [h.frame]) (h.reg _) hs

end

end State.Positions

/-- A position that is taken has a request open, and the fetch position moves on. -/
theorem State.positionTaken_spec (h : s.uncached) (q : Nat) : State.Positions q s (s.positionTaken q) ∧
    ((s.positionTaken q).queue q).fetchPos = ((s.queue q).fetchPos + 1) % s.depth q ∧
    FabWho.fetch q (s.queue q).fetchPos ∈ (s.positionTaken q).fab.map (·.who) := by
  have hadv := State.Positions.advance s q (((s.queue q).fetchPos + 1) % s.depth q)
  unfold State.positionTaken
  split
  next hopen =>
    obtain ⟨r, hr, hwho⟩ := List.any_eq_true.1 hopen
    exact ⟨hadv, by rw [State.queue_setQueue], List.mem_map.2 ⟨r, hr, eq_of_beq hwho⟩⟩
  next =>
    rw [State.fabRead_uncached (hadv.uncached h)]
    have hfab := (s.setQueue q { s.queue q with fetchPos := ((s.queue q).fetchPos + 1) % s.depth q }).fabAsk_fabOnly
      (.fetch q (s.queue q).fetchPos) false (s.sqBase q + 64 * (s.queue q).fetchPos) 64
    refine ⟨hadv.trans ⟨by rw [hfab.frame], by rw [hfab.queue], fun k hk => ?_⟩, by rw [hfab.queue, State.queue_setQueue], ?_⟩
    · rw [State.fabAsk_whos]
      exact List.mem_append_left _ hk
    · rw [State.fabAsk_whos]
      exact List.mem_append_right _ (List.mem_singleton_self _)

/-- The positions granted are asked for in ring order. -/
theorem State.takePositions_spec (q n : Nat) : ∀ s : State, s.uncached → (s.queue q).copies = [] → (s.queue q).fetchPos < s.depth q →
    State.Positions q s (s.takePositions q n) ∧ ((s.takePositions q n).queue q).fetchPos = ((s.queue q).fetchPos + n) % s.depth q ∧
    ∀ i < n, FabWho.fetch q (((s.queue q).fetchPos + i) % s.depth q) ∈ (s.takePositions q n).fab.map (·.who) := by
  induction n with
  | zero => exact fun s _ _ hlt => ⟨State.Positions.refl q s, (Nat.mod_eq_of_lt hlt).symm, fun i hi => absurd hi (Nat.not_lt_zero i)⟩
  | succ n ih =>
    intro s hs hcopies hlt
    obtain ⟨hpos, hnext, hasked⟩ := State.positionTaken_spec hs q
    have hlt' : ((s.positionTaken q).queue q).fetchPos < (s.positionTaken q).depth q := by
      rw [hpos.depth, hnext]
      exact Nat.mod_lt _ (Nat.lt_of_lt_of_le Nat.two_pos (s.depth_pos q))
    obtain ⟨hrest, hend, hall⟩ := ih _ (hpos.uncached hs) (hpos.copies.trans hcopies) hlt'
    rw [hpos.depth, hnext] at hend hall
    rw [State.takePositions_succ hcopies]
    refine ⟨hpos.trans hrest, by rw [hend, Nat.mod_add_mod, Nat.add_assoc, Nat.add_comm 1 n], fun i hi => ?_⟩
    cases i with
    | zero =>
      rw [Nat.add_zero, Nat.mod_eq_of_lt hlt]
      exact hrest.whos _ hasked
    | succ i =>
      have hi' := hall i (Nat.lt_of_succ_lt_succ hi)
      rwa [Nat.mod_add_mod, Nat.add_assoc, Nat.add_comm 1 i] at hi'

/-- What a grant leaves of the state it was made in: the credits and the places of arbitration alone have changed. -/
theorem grant_keeps (h : s.grant = (some (q, n), u)) : u = { s with queues := u.queues, lastU := u.lastU, lastW := u.lastW } ∧
    (u.queue q).fetchPos = (s.queue q).fetchPos ∧ (u.queue q).copies = (s.queue q).copies ∧ (u.queue q).poll = (s.queue q).poll := by
  rcases s.grant_cases with ⟨q', n', -, hg⟩ | ⟨-, v, hv, q', n', -, hg⟩ | hg <;> rw [h] at hg <;> cases hg
  · exact ⟨rfl, rfl, rfl, rfl⟩
  · have hq : (v.creditSpent q n).queue q = { v.queue q with credit := (v.queue q).credit - n } :=
      State.queue_setQueue v q { v.queue q with credit := (v.queue q).credit - n }
    rw [hq]
    exact ⟨by rw [hv.frame]; rfl, hv.fetchPos q, hv.copies q, hv.poll q⟩

theorem exec_arbGrant (ha : s.awake = true) (hl : s.locked = true) (hp : s.pfail = false) (hg : s.grant = (some (q, n), u)) :
    exec .arbGrant s = .next (((u.takePositions q n).drainCopies q n).prefetch q (((u.takePositions q n).drainCopies q n).queue q).piSeen
      (min 8 (getBits (((u.takePositions q n).drainCopies q n).queue q).poll 11 8))) := by
  show execArbGrant s = _
  simp only [execArbGrant, ha, hl, hp, hg, Bool.not_false, Bool.and_self, if_true]

theorem arbGrant_takes (ha : s.awake = true) (hl : s.locked = true) (hp : s.pfail = false) (hg : s.grant.1 = some (q, n)) (hs : s.uncached)
    (hcopies : (s.queue q).copies = []) (hlt : (s.queue q).fetchPos < s.depth q) (hpoll : getBits (s.queue q).poll 11 8 = 0) :
    ∃ t, exec .arbGrant s = .next t ∧ (t.queue q).fetchPos = ((s.queue q).fetchPos + n) % s.depth q ∧
      (∀ i, i < n → t.fab.any (fun r => r.who == .fetch q (((s.queue q).fetchPos + i) % s.depth q)) = true) ∧ t.ctxs = s.ctxs ∧ regsKept s t [] := by
  have hgrant : s.grant = (some (q, n), s.grant.2) := by rw [← hg]
  obtain ⟨hframe, hfetch, hcopies', hpoll'⟩ := grant_keeps hgrant
  have hexec := exec_arbGrant ha hl hp hgrant
  revert hframe hfetch hcopies' hpoll' hexec
  generalize s.grant.2 = u
  intro hframe hfetch hcopies' hpoll' hexec
  have hdepth : u.depth q = s.depth q := by rw [hframe]; rfl
  have hreg : ∀ o, u.reg o = s.reg o := fun o => by rw [hframe]; rfl
  obtain ⟨hpos, hend, hall⟩ := State.takePositions_spec q n u (State.uncached_congr (by rw [hframe]) (hreg _) hs) (hcopies'.trans hcopies)
    (by rwa [hfetch, hdepth])
  have hdrain : (u.takePositions q n).drainCopies q n = u.takePositions q n :=
    State.drainCopies_waits (.inr (by rw [hpos.copies, hcopies', hcopies]; rfl)) n
  rw [hdrain, hpos.poll, hpoll', hpoll] at hexec
  rw [hfetch, hdepth] at hend hall
  refine ⟨u.takePositions q n, hexec, hend, fun i hi => ?_, ?_, fun o _ => (hpos.reg o).trans (hreg o)⟩
  · obtain ⟨r, hr, hwho⟩ := List.mem_map.1 (hall i hi)
    exact List.any_eq_true.2 ⟨r, hr, beq_iff_eq.2 hwho⟩
  · rw [hpos.ctxs, hframe]

/-- Settles O34: a poll is judged by the ring's depth and the fetch position; a grant is bounded by what is available, the burst and the credit, and its
positions are asked for in ring order. -/
theorem pollAndArbitration : Obligations.PollAndArbitration := by
  refine ⟨fun s q w hq hw hopen hstate => ⟨?_, ?_, ?_⟩, fun s q n u h => grant_bounds h, fun s ha hl hp hnone => arbGrant_none ha hl hp hnone,
    fun s q n ha hl hp hg _ hs _ hcopies hlt hpoll => arbGrant_takes ha hl hp hg hs hcopies hlt hpoll⟩
  · exact fun hst hpi hci hforward hroom => pollResult_accepts hq hw hopen hstate hst hpi hci hforward hroom
  · exact fun hst hbeyond => pollResult_beyond hq hw hopen hstate hst hbeyond
  · exact fun hst => pollResult_stopped hq hw hopen hstate hst

end Sys2Proof.Machine
end

section
/-! SUPPORT. OPEN, CLOSE and ERASE of a band (R296, R323 to R325): the outcome of each command, the reservation that an OPEN takes, and what asking for
the erases of a band's blocks leaves of the state. -/

namespace Sys2Proof.Machine

variable {s t u : State} {c g b : Nat}

/-! ## Entries of a store -/

theorem mem_storeIns_self {α : Type} (k : Nat) (v : α) (m : Store α) : (k, v) ∈ storeIns k v m := by
  induction m with
  | nil => exact List.mem_singleton_self _
  | cons x rest ih =>
    unfold storeIns
    split
    · exact List.mem_cons_self
    · split
      · exact List.mem_cons_self
      · exact List.mem_cons_of_mem _ ih

theorem mem_storeIns_of_key_ne {α : Type} {k : Nat} {v : α} {m : Store α} {e : Nat × α} (he : e ∈ m) (hk : e.1 ≠ k) : e ∈ storeIns k v m := by
  induction m with
  | nil => cases he
  | cons x rest ih =>
    unfold storeIns
    split
    · exact List.mem_cons_of_mem _ he
    · split
      · rcases List.mem_cons.1 he with rfl | he
        · exact absurd (Eq.symm ‹_›) hk
        · exact List.mem_cons_of_mem _ he
      · rcases List.mem_cons.1 he with rfl | he
        · exact List.mem_cons_self
        · exact List.mem_cons_of_mem _ (ih he)

/-! ## What erases asked for and journal rows leave of the state -/

/-- The journal may have begun a row and erases may have been asked for: the bands keep their blocks, the job numbers rise, the erases that have their
numbers stay, and nothing else changes. -/
structure State.Asked (s t : State) : Prop where
  frame : t = { s with progs := t.progs, bands := t.bands, journals := t.journals, nextJob := t.nextJob, erases := t.erases }
  blocks : ∀ g b, (t.band g b).blocks = (s.band g b).blocks
  nextJob : s.nextJob ≤ t.nextJob
  erases : ∀ e ∈ s.erases, e.1 < s.nextJob → e ∈ t.erases

theorem State.Asked.refl (s : State) : State.Asked s s := ⟨rfl, fun _ _ => rfl, Nat.le_refl _, fun _ he _ => he⟩

theorem State.Asked.trans (h : State.Asked s t) (h' : State.Asked t u) : State.Asked s u :=
  ⟨by rw [h'.frame, h.frame], fun g b => (h'.blocks g b).trans (h.blocks g b), Nat.le_trans h.nextJob h'.nextJob,
    fun e he hk => h'.erases e (h.erases e he hk) (Nat.lt_of_lt_of_le hk h.nextJob)⟩

theorem State.asked_foldl {α : Type} {f : State → α → State} (hf : ∀ u a, State.Asked u (f u a)) (l : List α) (s : State) :
    State.Asked s (l.foldl f s) :=
  List.foldlRecOn l f (motive := State.Asked s) (.refl s) fun u hu a _ => hu.trans (hf u a)

theorem State.asked_setJournal (s : State) (ns : Nat) (x : Journal) : State.Asked s (s.setJournal ns x) :=
  ⟨rfl, fun _ _ => rfl, Nat.le_refl _, fun _ he _ => he⟩

theorem State.asked_addProg (s : State) (p : Prog) : State.Asked s (s.addProg p) :=
  ⟨rfl, fun _ _ => rfl, Nat.le_succ _, fun _ he _ => he⟩

theorem State.asked_setBand {x : Band} (hx : x.blocks = (s.band g b).blocks) : State.Asked s (s.setBand g b x) := by
  refine ⟨rfl, fun g' b' => ?_, Nat.le_refl _, fun _ he _ => he⟩
  rw [State.band, State.setBand, storeGet_storePut]
  split
  · rw [hx, State.band, State.band, ‹bandKey g' b' = bandKey g b›]
  · rfl

theorem State.asked_journalPump (s : State) (ns : Nat) : State.Asked s (s.journalPump ns) := by
  unfold State.journalPump
  extract_lets j d cut recs flags progs first s₁ x s₂
  split
  · exact .refl s
  · have hprogs : State.Asked s s₁ := State.asked_foldl State.asked_addProg progs s
    have hband : State.Asked s₁ s₂ := State.asked_setBand rfl
    exact (hprogs.trans hband).trans (State.asked_setJournal s₂ _ _)

theorem State.asked_journalAdd (s : State) (ns : Nat) (l : List JItem) : State.Asked s (s.journalAdd ns l) :=
  (State.asked_setJournal s ns { s.journal ns with pend := (s.journal ns).pend ++ l }).trans (State.asked_journalPump _ ns)

theorem State.asked_addErase (s : State) (x : EraseJob) : State.Asked s (s.addErase x) :=
  ⟨rfl, fun _ _ => rfl, Nat.le_succ _, fun _ he hk => mem_storeIns_of_key_ne he (Nat.ne_of_lt hk)⟩

theorem State.asked_askErase (s : State) (use : EraseFor) (ns p i planes cls level reason : Nat) (slc : Bool) :
    State.Asked s (s.askErase use ns p i planes cls level reason slc) :=
  (State.asked_addErase s _).trans (State.asked_journalAdd _ _ _)

/-- An erase that is asked for takes the next job number, and stands under it. -/
theorem State.askErase_mem (s : State) (use : EraseFor) (ns p i planes cls level reason : Nat) (slc : Bool) :
    let t := s.askErase use ns p i planes cls level reason slc
    s.nextJob < t.nextJob ∧ ∃ x, (s.nextJob, x) ∈ t.erases ∧ x.use = use ∧ x.pdie = p ∧ x.block = i := by
  let x : EraseJob := { EraseJob.zero with use := use, cls := cls, level := level, pdie := p, block := i, planes := planes, slc := slc }
  have hjournal : State.Asked (s.addErase x) (s.askErase use ns p i planes cls level reason slc) := State.asked_journalAdd _ _ _
  exact ⟨hjournal.nextJob, { x with order := s.nextJob }, hjournal.erases _ (mem_storeIns_self s.nextJob _ s.erases) (Nat.lt_succ_self _), rfl, rfl, rfl⟩

/-! ## Where a band's blocks are erased -/

theorem State.eraseLoc_congr (hsets : t.sets = s.sets) (hvdies : t.vdies = s.vdies) (htasks : t.tasks = s.tasks)
    (hblocks : (t.band g b).blocks = (s.band g b).blocks) (pos : Nat) : t.eraseLoc g b pos = s.eraseLoc g b pos := by
  have hsset : t.sset = s.sset := funext fun g => by rw [State.sset, hsets, State.sset]
  have hvdie : t.vdie = s.vdie := funext fun v => by rw [State.vdie, hvdies, State.vdie]
  have hrebuild : t.rebuildOf = s.rebuildOf := funext fun v => by rw [State.rebuildOf, htasks, State.rebuildOf]
  rw [State.eraseLoc, State.memberFailed, State.progLoc, hsset, hvdie, hrebuild, hblocks]
  rfl

theorem State.Asked.eraseLoc (h : State.Asked s t) (g b pos : Nat) : t.eraseLoc g b pos = s.eraseLoc g b pos :=
  State.eraseLoc_congr (by rw [h.frame]) (by rw [h.frame]) (by rw [h.frame]) (h.blocks g b) pos

/-- The erase of the block at one member position of a band is asked for, if the member has one. -/
def State.askBlock (d : SetDesc) (level g b : Nat) (s : State) (pos : Nat) : State :=
  match s.eraseLoc g b pos with
  | some l => s.askErase (.band g b pos) (nsOf g) l.pdie l.block d.planes 1 level 1 d.slc
  | none => s

section
variable (d : SetDesc) (level g b : Nat)

theorem State.askBlock_of_loc {pos : Nat} {l : Loc} (h : s.eraseLoc g b pos = some l) :
    s.askBlock d level g b pos = s.askErase (.band g b pos) (nsOf g) l.pdie l.block d.planes 1 level 1 d.slc := by
  simp only [State.askBlock, h]

theorem State.asked_askBlock (s : State) (pos : Nat) : State.Asked s (s.askBlock d level g b pos) := by
  unfold State.askBlock
  split
  · exact State.asked_askErase s _ _ _ _ _ _ _ _ _
  · exact .refl s

/-- Each position is judged as in the state before the first erase was asked for, and an erase asked for stays. -/
theorem State.foldl_askBlock_mem {pos : Nat} {l : Loc} (ps : List Nat) : ∀ s : State, pos ∈ ps → s.eraseLoc g b pos = some l →
    ∃ e ∈ (ps.foldl (State.askBlock d level g b) s).erases, e.2.use = .band g b pos ∧ e.2.pdie = l.pdie ∧ e.2.block = l.block := by
  induction ps with
  | nil => exact fun s hpos => absurd hpos List.not_mem_nil
  | cons p rest ih =>
    intro s hpos hl
    rcases List.mem_cons.1 hpos with rfl | hpos
    · obtain ⟨hjob, x, hx, hspec⟩ := s.askErase_mem (.band g b pos) (nsOf g) l.pdie l.block d.planes 1 level 1 d.slc
      rw [← State.askBlock_of_loc d level g b hl] at hjob hx
      have hrest := State.asked_foldl (State.asked_askBlock d level g b) rest (s.askBlock d level g b pos)
      exact ⟨_, hrest.erases _ hx hjob, hspec⟩
    · exact ih _ hpos (((State.asked_askBlock d level g b s p).eraseLoc g b pos).trans hl)

end

/-! ## OPEN (R296, R323) -/

theorem State.setPoolFree_frame (s : State) (pool n : Nat) : s.setPoolFree pool n = { s with regs := (s.setPoolFree pool n).regs } := by
  unfold State.setPoolFree
  split <;> rfl

@[simp] theorem State.ptyRegs_ctxs (s : State) : s.ptyRegs.ctxs = s.ctxs := by simp only [State.ptyRegs, State.setF_ctxs]
@[simp] theorem State.ptyRegs_wbands (s : State) : s.ptyRegs.wbands = s.wbands := by simp only [State.ptyRegs, State.setF_wbands]
@[simp] theorem State.ptyRegs_journals (s : State) : s.ptyRegs.journals = s.journals := by simp only [State.ptyRegs, State.setF_journals]
@[simp] theorem State.ptyRegs_bands (s : State) : s.ptyRegs.bands = s.bands := by simp only [State.ptyRegs, State.setF_bands]

/-- A reservation that is taken shows in the band; entries, bands and journals are left alone. -/
theorem State.takeRes_spec (s : State) (g b : Nat) : (s.takeRes g b).ctxs = s.ctxs ∧ ((s.takeRes g b).wband g b).reserved = true ∧
    (s.takeRes g b).journals = s.journals ∧ (s.takeRes g b).bands = s.bands := by
  simp only [State.takeRes, State.wband, State.ptyRegs_ctxs, State.ptyRegs_wbands, State.ptyRegs_journals, State.ptyRegs_bands]
  rw [State.setPoolFree_frame]
  exact ⟨rfl, congrArg WBand.reserved storeGet_storePut_self, rfl, rfl⟩

/-- The state in which an OPEN runs and has taken its reservation. -/
def State.openReserved (s : State) (c g b : Nat) : State := ((s.runCtx c).setWband g b WBand.none).takeRes g b

theorem State.openReserved_spec (s : State) (c g b : Nat) : ((s.openReserved c g b).ctx c).state = .running ∧
    ((s.openReserved c g b).wband g b).reserved = true ∧ (s.openReserved c g b).journals = s.journals ∧ (s.openReserved c g b).bands = s.bands := by
  obtain ⟨hctxs, hres, hjournals, hbands⟩ := ((s.runCtx c).setWband g b WBand.none).takeRes_spec g b
  obtain ⟨hrun, -, -⟩ := s.runCtx_spec c
  exact ⟨congrArg Ctx.state ((State.ctx_of_ctxs hctxs c).trans hrun), hres, hjournals, hbands⟩

section
variable (h : s.starts c opOPEN = true)
include h

theorem bandOpen_not_erased (hst : (s.band (s.srcSet c) (s.srcBand c)).state ≠ 2) :
    exec (.bandOpen c) s = .next (s.finish c 0x31 (s.band (s.srcSet c) (s.srcBand c)).state 0 0 0) := by
  show execBandOpen c s = _
  simp [execBandOpen, h, hst]

variable (hst : (s.band (s.srcSet c) (s.srcBand c)).state = 2) (hr : (s.wband (s.srcSet c) (s.srcBand c)).reserved = false)
include hst hr

theorem bandOpen_unwritable (hw : s.setWritable (s.sset (s.srcSet c)) = false) : exec (.bandOpen c) s = .next (s.finish c 0x31 0xFF 0 0 0) := by
  show execBandOpen c s = _
  simp [execBandOpen, h, hst, hr, hw]

variable (hw : s.setWritable (s.sset (s.srcSet c)) = true)
include hw

theorem bandOpen_beyond_limit (hf : s.resFits (s.sset (s.srcSet c)) = false) : exec (.bandOpen c) s = .next (s.finish c 0x32 0 0 0 0) := by
  show execBandOpen c s = _
  simp [execBandOpen, h, hst, hr, hw, hf]

theorem bandOpen_reserves (hf : s.resFits (s.sset (s.srcSet c)) = true) :
    exec (.bandOpen c) s = .next ((s.openReserved c (s.srcSet c) (s.srcBand c)).journalAdd (nsOf (s.srcSet c))
      [jBand (s.srcSet c) (s.srcBand c) 3 0 0 0 (.band (s.srcSet c) (s.srcBand c) 3 0 0), jFinish c 0 0 0]) := by
  show execBandOpen c s = _
  simp [execBandOpen, h, hst, hr, hw, hf, State.openReserved, State.runCtx]

end

/-! ## CLOSE (R324) -/

section
variable (h : s.starts c opCLOSE = true)
include h

theorem bandClose_closed (hst : (s.band (s.srcSet c) (s.srcBand c)).state = 4) : exec (.bandClose c) s = .next (s.finish c 0 0 0 0 0) := by
  show execBandClose c s = _
  simp [execBandClose, h, hst]

theorem bandClose_refused (hopen : (s.band (s.srcSet c) (s.srcBand c)).state ≠ 3) (hclosed : (s.band (s.srcSet c) (s.srcBand c)).state ≠ 4) :
    exec (.bandClose c) s = .next (s.finish c 0x31 (s.band (s.srcSet c) (s.srcBand c)).state 0 0 0) := by
  show execBandClose c s = _
  simp [execBandClose, h, hopen, hclosed]

theorem bandClose_joins (hst : (s.band (s.srcSet c) (s.srcBand c)).state = 3) (hc : (s.wband (s.srcSet c) (s.srcBand c)).closing = true) :
    exec (.bandClose c) s = .next ((s.runCtx c).setWband (s.srcSet c) (s.srcBand c)
      { s.wband (s.srcSet c) (s.srcBand c) with closers := (s.wband (s.srcSet c) (s.srcBand c)).closers ++ [c] }) := by
  show execBandClose c s = _
  simp [execBandClose, h, hst, hc, State.runCtx]

end

/-! ## ERASE (R325) -/

/-- A band that no task copies leaves the queue of re-homes. -/
theorem State.endRehome_of_no_tasks (h : s.tasks = []) : s.endRehome g b = s.unqueue g b := by
  simp only [State.endRehome, h, List.find?_nil]

/-- The entry of an erase runs, and the band is in no queue. -/
def State.eraseRun (s : State) (c g b : Nat) : State := (s.endRehome g b).runCtx c

theorem State.eraseRun_spec (h : s.tasks = []) : ((s.eraseRun c g b).ctx c).state = .running ∧
    (∀ e ∈ (s.eraseRun c g b).requeue, ¬ (e.set = g ∧ e.band = b)) ∧ ∀ pos, (s.eraseRun c g b).eraseLoc g b pos = s.eraseLoc g b pos := by
  rw [State.eraseRun, State.endRehome_of_no_tasks h]
  refine ⟨congrArg Ctx.state ((s.unqueue g b).runCtx_spec c).1, fun e he ⟨hset, hband⟩ => ?_, State.eraseLoc_congr rfl rfl rfl rfl⟩
  simpa [hset, hband] using (List.mem_filter.1 he).2

/-- What an ERASE of a CLOSED band does: the band is told to the journal as ERASING, and the erase of each of its blocks is asked for. -/
def State.askErases (s : State) (c g b : Nat) : State :=
  (List.range (s.sset g).w).foldl (State.askBlock (s.sset g) ((s.eraseRun c g b).ctx c).level g b)
    ((s.eraseRun c g b).journalAdd (nsOf g) [jBand g b 1 (s.band g b).opened (s.band g b).closedAt 0 (.band g b 1 0 0)])

theorem State.askErases_spec (h : s.tasks = []) : ((s.askErases c g b).ctx c).state = .running ∧
    (∀ e ∈ (s.askErases c g b).requeue, ¬ (e.set = g ∧ e.band = b)) ∧
    ∀ pos, pos < (s.sset g).w → ∀ l, s.eraseLoc g b pos = some l →
      (s.askErases c g b).erases.any (fun e => e.2.use == .band g b pos && e.2.pdie == l.pdie && e.2.block == l.block) = true := by
  obtain ⟨hrun, hqueue, hloc⟩ := State.eraseRun_spec (c := c) (g := g) (b := b) h
  have htold := State.asked_journalAdd (s.eraseRun c g b) (nsOf g)
    [jBand g b 1 (s.band g b).opened (s.band g b).closedAt 0 (.band g b 1 0 0)]
  have hasked : State.Asked (s.eraseRun c g b) (s.askErases c g b) := htold.trans (State.asked_foldl (State.asked_askBlock _ _ g b) _ _)
  have hctxs : (s.askErases c g b).ctxs = (s.eraseRun c g b).ctxs := by rw [hasked.frame]
  have hrequeue : (s.askErases c g b).requeue = (s.eraseRun c g b).requeue := by rw [hasked.frame]
  refine ⟨by rw [State.ctx_of_ctxs hctxs, hrun], by rwa [hrequeue], fun pos hpos l hl => ?_⟩
  obtain ⟨e, he, huse, hpdie, hblock⟩ := State.foldl_askBlock_mem (s.sset g) ((s.eraseRun c g b).ctx c).level g b _ _ (List.mem_range.2 hpos)
    (((htold.eraseLoc g b pos).trans (hloc pos)).trans hl)
  exact List.any_eq_true.2 ⟨e, he, by simp [huse, hpdie, hblock]⟩

section
variable (h : s.starts c opERASE = true)
include h

theorem eraseBand_erased (hst : (s.band (s.srcSet c) (s.srcBand c)).state = 2) : exec (.eraseBand c) s = .next (s.finish c 0 0 0 0 0) := by
  show execEraseBand c s = _
  simp [execEraseBand, h, hst]

theorem eraseBand_refused (hst : (s.band (s.srcSet c) (s.srcBand c)).state = 1 ∨ (s.band (s.srcSet c) (s.srcBand c)).state = 3) :
    exec (.eraseBand c) s = .next (s.finish c 0x31 (s.band (s.srcSet c) (s.srcBand c)).state 0 0 0) := by
  show execEraseBand c s = _
  rcases hst with hst | hst <;> simp [execEraseBand, h, hst]

variable (hst : (s.band (s.srcSet c) (s.srcBand c)).state = 4)
include hst

theorem eraseBand_waits (hu : s.unresolvedBefore (s.srcSet c) (s.srcBand c) (s.ctx c).admSeq = true) : exec (.eraseBand c) s = .next s := by
  show execEraseBand c s = _
  simp [execEraseBand, h, hst, hu]

theorem eraseBand_asks (hu : s.unresolvedBefore (s.srcSet c) (s.srcBand c) (s.ctx c).admSeq = false)
    (he : s.erasesBand (s.srcSet c) (s.srcBand c) = false) : exec (.eraseBand c) s = .next (s.askErases c (s.srcSet c) (s.srcBand c)) := by
  refine congrArg Host.Outcome.next ((if_neg ?_).trans <| (if_neg ?_).trans <| (if_neg ?_).trans <| if_neg ?_)
  · simp [h]
  · simp [hst]
  · simp [hst]
  · simp [hu, he]

end

/-- Settles O40: each command by the outcome that the band's state leads to; an ERASE asks for every block of the band, since no erase that it asks for
moves another block or takes another erase's number. -/
theorem bandEntries : Obligations.BandEntries := by
  rintro s c g b rfl rfl
  refine ⟨fun h => ⟨?_, ?_, ?_, ?_⟩, fun h => ⟨?_, ?_, ?_⟩, fun h => ⟨?_, ?_, ?_, ?_⟩⟩
  · exact fun hst => exists_finished (bandOpen_not_erased h hst)
  · exact fun hst hr hw => exists_finished (bandOpen_unwritable h hst hr hw)
  · exact fun hst hr hw hf => exists_finished (bandOpen_beyond_limit h hst hr hw hf)
  · intro hst hr hw hf
    obtain ⟨hrun, hres, hjournals, hbands⟩ := s.openReserved_spec c (s.srcSet c) (s.srcBand c)
    exact ⟨_, _, bandOpen_reserves h hst hr hw hf, rfl, hrun, hres, hjournals, hbands⟩
  · exact fun hst => exists_finished (bandClose_closed h hst)
  · exact fun hopen hclosed => exists_finished (bandClose_refused h hopen hclosed)
  · exact fun hst hc => ⟨_, bandClose_joins h hst hc, congrArg Ctx.state (s.runCtx_spec c).1, State.wband_setWband _ _ _ _, rfl⟩
  · exact fun hst => exists_finished (eraseBand_erased h hst)
  · exact fun hst => exists_finished (eraseBand_refused h hst)
  · exact fun hst hu => eraseBand_waits h hst hu
  · exact fun hst hu he htasks => ⟨_, eraseBand_asks h hst hu he, State.askErases_spec htasks⟩

end Sys2Proof.Machine
end

section
/-! SUPPORT. Dies that do not answer (R356, R361, R362): what giving up a suspension, a timeout and an unresponsive die change before a criterion
of Table 11-4 is looked at. -/

namespace Sys2Proof.Machine

variable {s t : State} {p : Nat}

/-! ## Dies and codeword reads -/

theorem State.die_of_dies (h : t.dies = s.dies) (k : Nat) : t.die k = s.die k := by rw [State.die, h, State.die]

theorem State.noteSat_eq (s : State) (v v' m : Nat) :
    s.noteSat v v' m = { s with regs := (s.noteSat v v' m).regs, evc := (s.noteSat v v' m).evc } := by
  unfold State.noteSat
  split
  · rw [State.raise_eq]
    rfl
  · rfl

/-- With no codeword read on the die, only its array read is over. -/
theorem State.readFails_of_no_cws (h : ∀ e ∈ s.cws, e.2.pdie ≠ p) : s.readFails p true = s.setDie p { s.die p with read := none } := by
  have hnone (stage : CwStage) : s.cws.filter (fun e => e.2.pdie == p && e.2.stage == stage) = [] :=
    List.filter_eq_nil_iff.2 fun e he => by simp [h e he]
  have hsame : s.cws.map (fun e => if e.2.pdie == p && e.2.stage == .inReg then (e.1, { e.2 with stage := .want, part := [] }) else e) = s.cws :=
    (List.map_congr_left fun e he => if_neg (by simp [h e he])).trans (List.map_id _)
  simp only [State.readFails, hnone, storeKeys, List.map_nil, List.foldl_nil, if_true, State.setDie_cws, hsame]
  rfl

@[simp] theorem State.die_inputLost (s : State) (p k : Nat) : (s.inputLost p).die k = s.die k := rfl

theorem State.isPending_inputLost_setDie (s : State) (p : Nat) (x : Die) (src : Nat) :
    ((s.inputLost p).setDie p x).isPending src = s.isPending src := rfl

theorem State.opEnd_of_idle (h : (s.die p).op = none) (ok : Bool) : s.opEnd p ok = s := by simp only [State.opEnd, h]

/-! ## The alarm of a die -/

/-- The event of a die is raised and logged, and the items still planned for it in this tick are dropped. -/
def State.dieAlarmed (s : State) (p src kind : Nat) : State :=
  let s := (s.raise src).dieLog p kind 0
  s.dropItems (s.homeIx p) (fun x => x.pdie == p)

theorem dieAlarms_pending : ∀ src ∈ [Ev.dieTimeout, Ev.dieUnresponsive], (∀ pair, Ev.assigned pair src = true) ∧ Ev.level src = false ∧
    (pendF src).hi < 64 ∧ ∀ g ∈ logFields, (pendF src).apart g = true := by decide

theorem State.dieAlarmed_spec {src : Nat} (hsrc : src ∈ [Ev.dieTimeout, Ev.dieUnresponsive]) (s : State) (kind : Nat) :
    (s.dieAlarmed p src kind).isPending src = true ∧ (s.dieAlarmed p src kind).dies = s.dies ∧ (s.dieAlarmed p src kind).cws = s.cws ∧
      (s.dieAlarmed p src kind).progs = s.progs := by
  obtain ⟨hassigned, hlevel, h64, hlog⟩ := dieAlarms_pending src hsrc
  refine ⟨?_, ?_, ?_, ?_⟩
  · exact (State.isPending_congr (s := s.raise src) hlevel (State.getF_logWrite h64 hlog)).trans (State.isPending_raise (hassigned _) hlevel)
  · exact (State.logWrite_dies _ _ _ _).trans (State.raise_dies _ _)
  · exact (State.logWrite_cws _ _ _ _).trans (State.raise_cws _ _)
  · exact (State.logWrite_progs _ _ _ _).trans (State.raise_progs _ _)

/-- A die's record is changed and its alarm follows: no other die changes, nor any codeword read or program. -/
theorem State.setDie_dieAlarmed {src : Nat} (hsrc : src ∈ [Ev.dieTimeout, Ev.dieUnresponsive]) (s : State) (x : Die) (kind : Nat) :
    let t := (s.setDie p x).dieAlarmed p src kind
    t.die p = x ∧ (∀ k, k ≠ p → t.die k = s.die k) ∧ t.isPending src = true ∧ t.cws = s.cws ∧ t.progs = s.progs := by
  obtain ⟨hpending, hdies, hcws, hprogs⟩ := State.dieAlarmed_spec (p := p) hsrc (s.setDie p x) kind
  exact ⟨(State.die_of_dies hdies p).trans (State.die_setDie s p x),
    fun k hk => (State.die_of_dies hdies k).trans (State.die_setDie_ne hk), hpending, hcws, hprogs⟩

/-! ## SUSPEND_ABANDON (R356) -/

/-- The die whose suspension `u` of operation `o` was not taken. -/
def Die.suspensionGone (d : Die) (o : ArrayOp) (u : Susp) : Die :=
  { d with
    notTaken := satAdd 32 d.notTaken 1, op := some { o with susps := o.susps + 1 }
    susp := some { u with gone := true, fixed := true, joined := [] } }

/-- The suspension is given up, and counted. -/
def State.suspensionDropped (s : State) (p : Nat) (o : ArrayOp) (u : Susp) : State :=
  (s.noteSat (s.die p).notTaken (satAdd 32 (s.die p).notTaken 1) (2 ^ 32 - 1)).setDie p ((s.die p).suspensionGone o u)

theorem State.suspensionDropped_spec (s : State) (p : Nat) (o : ArrayOp) (u : Susp) :
    (s.suspensionDropped p o u).die p = (s.die p).suspensionGone o u ∧ (∀ k, k ≠ p → (s.suspensionDropped p o u).die k = s.die k) ∧
      s.suspensionDropped p o u =
        { s with dies := (s.suspensionDropped p o u).dies, regs := (s.suspensionDropped p o u).regs, evc := (s.suspensionDropped p o u).evc } := by
  refine ⟨State.die_setDie _ _ _, fun k hk => (State.die_setDie_ne hk).trans (State.die_of_dies (State.noteSat_dies _ _ _ _) k), ?_⟩
  rw [State.suspensionDropped, State.noteSat_eq]
  rfl

theorem exec_suspendAbandon {o : ArrayOp} {u : Susp} (hc : s.clocked = true) (ho : (s.die p).op = some o) (hu : (s.die p).susp = some u)
    (ht : u.taken = false) (hg : u.gone = false) (hstart : u.start + 4 ≤ s.tickno) :
    exec (.suspendAbandon p) s = .next (s.suspensionDropped p o u) := by
  have hgo : ¬ ((!s.clocked) = true ∨ u.taken = true ∨ u.gone = true ∨ s.tickno < u.start + 4) := by
    simp [hc, ht, hg, hstart]
  show execSuspendAbandon p s = _
  simp only [execSuspendAbandon, ho, hu, if_neg hgo]
  rfl

/-! ## DIE_TIMEOUT (R361) -/

/-- The die timed out: it is to be reset for an operation of class `cls`, and its timeouts are counted. -/
def Die.timeoutNoted (d : Die) (cls : Nat) : Die :=
  { d with timeouts := satAdd 32 d.timeouts 1, resetPend := true, resetCls := cls, kept := none }

/-- The timeout is counted, raised and logged. -/
def State.timeoutAlarmed (s : State) (p cls : Nat) : State :=
  let n := satAdd 32 (s.die p).timeouts 1
  ((s.noteSat (s.die p).timeouts n (2 ^ 32 - 1)).setDie p ((s.die p).timeoutNoted cls)).dieAlarmed p Ev.dieTimeout 1

theorem State.timeoutAlarmed_spec (s : State) (p cls : Nat) : (s.timeoutAlarmed p cls).die p = (s.die p).timeoutNoted cls ∧
    (∀ k, k ≠ p → (s.timeoutAlarmed p cls).die k = s.die k) ∧ (s.timeoutAlarmed p cls).isPending Ev.dieTimeout = true ∧
    (s.timeoutAlarmed p cls).cws = s.cws := by
  let n := satAdd 32 (s.die p).timeouts 1
  obtain ⟨hdie, hother, hpending, hcws, -⟩ := (s.noteSat (s.die p).timeouts n (2 ^ 32 - 1)).setDie_dieAlarmed (p := p)
    (src := Ev.dieTimeout) (by decide) ((s.die p).timeoutNoted cls) 1
  exact ⟨hdie, fun k hk => (hother k hk).trans (State.die_of_dies (State.noteSat_dies _ _ _ _) k), hpending,
    hcws.trans (State.noteSat_cws _ _ _ _)⟩

/-- A timeout up to the criterion that it may meet: what ran on the die has failed, and its page registers are lost. -/
def State.dieTimedOut (s : State) (p cls : Nat) : State := (((s.timeoutAlarmed p cls).opEnd p false).inputLost p).readFails p true

theorem exec_dieTimeout {o : ArrayOp} (hc : s.clocked = true) (hr : (s.die p).read = some o) (ht : s.timedOut p o = true) :
    exec (.dieTimeout p) s = .next ((s.dieTimedOut p o.cls).noteTimeout p) := by
  show execDieTimeout p s = _
  simp only [execDieTimeout, hr, ht, hc, if_true, Bool.not_true, Bool.false_eq_true, if_false, State.dieTimedOut, State.timeoutAlarmed,
    State.dieAlarmed, Die.timeoutNoted]

section
variable (hop : (s.die p).op = none) (hcws : ∀ e ∈ s.cws, e.2.pdie ≠ p) (cls : Nat)
include hop hcws

/-- Where nothing else ran on the die, the timeout ends the array read alone. -/
theorem State.dieTimedOut_eq : s.dieTimedOut p cls =
    ((s.timeoutAlarmed p cls).inputLost p).setDie p { (s.die p).timeoutNoted cls with read := none } := by
  obtain ⟨hdie, -, -, hkept⟩ := s.timeoutAlarmed_spec p cls
  have hidle : ((s.timeoutAlarmed p cls).die p).op = none := (congrArg Die.op hdie).trans hop
  have hfree : ∀ e ∈ ((s.timeoutAlarmed p cls).inputLost p).cws, e.2.pdie ≠ p := by
    show ∀ e ∈ (s.timeoutAlarmed p cls).cws, _
    rwa [hkept]
  rw [State.dieTimedOut, State.opEnd_of_idle hidle, State.readFails_of_no_cws hfree, State.die_inputLost, hdie]

theorem State.dieTimedOut_spec : (s.dieTimedOut p cls).die p = { (s.die p).timeoutNoted cls with read := none } ∧
    (∀ k, k ≠ p → (s.dieTimedOut p cls).die k = s.die k) ∧ (s.dieTimedOut p cls).isPending Ev.dieTimeout = true := by
  obtain ⟨-, hother, hpending, -⟩ := s.timeoutAlarmed_spec p cls
  rw [State.dieTimedOut_eq hop hcws]
  exact ⟨State.die_setDie _ _ _, fun k hk => (State.die_setDie_ne hk).trans (hother k hk),
    (State.isPending_inputLost_setDie _ p _ _).trans hpending⟩

end

/-! ## DIE_UNRESPONSIVE (R362) -/

/-- The die is taken out of the plan. -/
def Die.silenced (d : Die) : Die := { d with unresp := true, op := none, susp := none, resetPend := false, kept := none }

/-- A die that answers no more, up to the criterion that it meets. -/
def State.dieSilenced (s : State) (p : Nat) : State :=
  ((s.setDie p (s.die p).silenced).dieAlarmed p Ev.dieUnresponsive 2).readFails p true

theorem exec_dieUnresponsive {o : ArrayOp} (hc : s.clocked = true) (ho : (s.die p).op = some o) (hk : o.kind = .reset) (hl : o.late = true)
    (ht : (s.die p).resetTill ≤ s.tickno) : exec (.dieUnresponsive p) s = .next (s.dieSilent p) := by
  show execDieUnresponsive p s = _
  simp [execDieUnresponsive, ho, hc, hk, hl, ht]

section
variable (hcws : ∀ e ∈ s.cws, e.2.pdie ≠ p)
include hcws

theorem State.dieSilenced_spec : (s.dieSilenced p).die p = { (s.die p).silenced with read := none } ∧
    (∀ k, k ≠ p → (s.dieSilenced p).die k = s.die k) ∧ (s.dieSilenced p).isPending Ev.dieUnresponsive = true ∧
    (s.dieSilenced p).progs = s.progs := by
  obtain ⟨hdie, hother, hpending, hkept, hprogs⟩ := s.setDie_dieAlarmed (p := p) (src := Ev.dieUnresponsive) (by decide) (s.die p).silenced 2
  rw [State.dieSilenced, State.readFails_of_no_cws (by rwa [hkept])]
  refine ⟨?_, fun k hk => ?_, hpending, hprogs⟩
  · rw [State.die_setDie, hdie]
  · exact (State.die_setDie_ne hk).trans (hother k hk)

/-- Where the die has no codeword read and no program, none is to be failed. -/
theorem State.dieSilent_eq (hprogs : ∀ e ∈ s.progs, e.2.pdie ≠ p) : s.dieSilent p = (s.dieSilenced p).dieFails p false 1 := by
  obtain ⟨-, -, -, hcws', -⟩ := s.setDie_dieAlarmed (p := p) (src := Ev.dieUnresponsive) (by decide) (s.die p).silenced 2
  obtain ⟨-, -, -, hprogs'⟩ := State.dieSilenced_spec hcws
  have hreads : ((s.setDie p (s.die p).silenced).dieAlarmed p Ev.dieUnresponsive 2).cws.filter
      (fun e => e.2.pdie == p && e.2.stage != .decode && e.2.stage != .helpers) = [] := by
    rw [hcws']
    exact List.filter_eq_nil_iff.2 fun e he => by simp [hcws e he]
  have hjobs : (s.dieSilenced p).progs.filter (fun e => e.2.pdie == p) = [] := by
    rw [hprogs']
    exact List.filter_eq_nil_iff.2 fun e he => by simp [hprogs e he]
  unfold State.dieSilent
  extract_lets d s₁ s₂ s₃ reads s₄ s₅ s₆
  have h₃ : s₃ = (s.setDie p (s.die p).silenced).dieAlarmed p Ev.dieUnresponsive 2 := rfl
  have hr : reads = [] := congrArg storeKeys (h₃ ▸ hreads)
  have h₅ : s₅ = s.dieSilenced p := by
    show reads.foldl _ _ = _
    rw [hr]
    rfl
  have h₆ : s₆ = s.dieSilenced p := by
    show (storeKeys (s₅.progs.filter _)).foldl _ s₅ = _
    rw [h₅, hjobs]
    rfl
  rw [h₆]

end

/-- Settles O32: the suspension, the timeout and the failed reset each come to one change of the die's record, an alarm and the end of its array read. -/
theorem diesThatDoNotAnswer : Obligations.DiesThatDoNotAnswer := by
  refine ⟨fun s p o u hc ho hu ht hg hstart => ?_, fun s p o hc hop hr ht hcws => ?_, fun s p o hc ho hk hl hbound hcws hprogs => ?_⟩
  · obtain ⟨hdie, hother, hframe⟩ := s.suspensionDropped_spec p o u
    exact ⟨_, exec_suspendAbandon hc ho hu ht hg hstart, congrArg Die.notTaken hdie, congrArg Die.susp hdie, congrArg Die.op hdie, hother, hframe⟩
  · obtain ⟨hdie, hother, hpending⟩ := State.dieTimedOut_spec hop hcws o.cls
    exact ⟨_, _, exec_dieTimeout hc hr ht, rfl, congrArg Die.timeouts hdie, congrArg Die.resetPend hdie, congrArg Die.resetCls hdie,
      congrArg Die.read hdie, hpending, hother⟩
  · obtain ⟨hdie, hother, hpending, -⟩ := State.dieSilenced_spec hcws
    exact ⟨_, _, exec_dieUnresponsive hc ho hk hl hbound, State.dieSilent_eq hcws hprogs, congrArg Die.unresp hdie, congrArg Die.op hdie,
      congrArg Die.read hdie, hpending, hother⟩

end Sys2Proof.Machine
end

section
/-! SUPPORT. SELF_TEST (R370): the decoders that an entry names, the entry that waits for a test under way, and the one with nothing to test. -/

namespace Sys2Proof.Machine

variable {s : State} {c : Nat}

/-- The one entry put into a store is the one found, where `f` holds of it and of no entry before. -/
theorem filter_storeIns_of_none {α : Type} {f : Nat × α → Bool} {k : Nat} {v : α} (hv : f (k, v) = true) (m : Store α)
    (hm : ∀ e ∈ m, f e = false) : (storeIns k v m).filter f = [(k, v)] := by
  have hnone : ∀ n : Store α, (∀ e ∈ n, f e = false) → n.filter f = [] := fun n hn => List.filter_eq_nil_iff.2 fun e he => by simp [hn e he]
  induction m with
  | nil => simp [storeIns, hv]
  | cons e rest ih =>
    obtain ⟨he, hrest⟩ := List.forall_mem_cons.1 hm
    unfold storeIns
    split
    · rw [List.filter_cons_of_pos hv, hnone _ hm]
    · split
      · rw [List.filter_cons_of_pos hv, hnone _ hrest]
      · rw [List.filter_cons_of_neg (by simp [he]), ih hrest]

/-! ## What an entry names -/

/-- The decoders that may be tested among those an entry names: all `n` from `lo` on, or the one at its index. -/
def State.namedDecoders (s : State) (lo n ix : Nat) : List Nat :=
  if ix = 255 then ((List.range n).map (· + lo)).filter s.mayTest else [lo + ix].filter s.mayTest

theorem State.namedDecoders_none {lo n ix : Nat} (hix : ix ≠ 255 → ix < n) (h : ∀ d, d < n → s.mayTest (lo + d) = false) :
    s.namedDecoders lo n ix = [] := by
  unfold State.namedDecoders
  split
  · refine List.filter_eq_nil_iff.2 fun d hd => ?_
    obtain ⟨j, hj, rfl⟩ := List.mem_map.1 hd
    rw [Nat.add_comm, h j (List.mem_range.1 hj)]
    exact Bool.false_ne_true
  · simp [h ix (hix ‹_›)]

/-- The entry waits for its decoders to be tested. -/
def State.selfWaits (s : State) (c : Nat) (l : List Nat) : State := s.setCtx c { s.ctx c with state := .running, waitsFor := l }

theorem exec_selfTest {i : Instr} {k lo n : Nat}
    (hi : (i, k, lo, n) ∈ [(Instr.selfTestHard c, 1, 0, s.hardNo), (.selfTestSoft c, 2, s.hardNo, s.softNo)])
    (hs : s.starts c opSELFTEST = true) (hk : ent (s.ctx c).entry 32 1 = k) {ix : Nat} (hix : ix = ent (s.ctx c).entry 33 1) :
    exec i s = .next (if ix ≠ 255 ∧ (n ≤ ix ∨ s.decRetired (lo + ix) = true) then s.finish c 0x40 33 0 0 0
      else (s.selfWaits c (s.namedDecoders lo n ix)).selfPump) := by
  have hgo : (!s.starts c opSELFTEST || ent (s.ctx c).entry 32 1 != k) = false := by simp [hs, hk]
  subst hix
  simp only [List.mem_cons, Prod.mk.injEq, List.not_mem_nil, or_false] at hi
  rcases hi with ⟨rfl, rfl, rfl, rfl⟩ | ⟨rfl, rfl, rfl, rfl⟩
  · show Host.Outcome.next (s.startSelf c 1) = _
    simp only [State.startSelf, hgo, Bool.false_eq_true, if_false, if_true]
    rfl
  · show Host.Outcome.next (s.startSelf c 2) = _
    simp only [State.startSelf, hgo, Bool.false_eq_true, if_false]
    rfl

/-! ## The test begins, or there is none -/

theorem State.selfPump_of_busy (h : s.decs.cur ≠ none) : s.selfPump = s :=
  if_pos (.inl (Option.isSome_iff_ne_none.2 h))

/-- The state in which an entry without decoders to test ends: its results are counted from zero. -/
def State.selfEmpty (s : State) (c : Nat) : State :=
  { s.selfWaits c [] with decs := { s.decs with todo := [], ctx := none, tested := 0, failed := 0, retired := 0 } }

/-- No other entry runs, so this one is the next; it has nothing to test and ends. -/
theorem State.selfPump_of_nothing (hop : entOp (s.ctx c).entry = opSELFTEST) (hcur : s.decs.cur = none) (hctx : s.decs.ctx = none)
    (hidle : ∀ e ∈ s.ctxs, e.2.state ≠ .running) : (s.selfWaits c []).selfPump = (s.selfEmpty c).finish c 0 0 0 0 0 := by
  let x : Ctx := { s.ctx c with state := .running, waitsFor := [] }
  have hrunning : CtxState.running ≠ Ctx.zero.state := by decide
  have hne : x ≠ Ctx.zero := fun h => hrunning (congrArg Ctx.state h)
  have hctxs : (s.selfWaits c []).ctxs = storeIns c x s.ctxs := by
    show storePut (fun _ => Ctx.zero) s.ctxs c x = _
    rw [storePut, if_neg hne]
  have hmine : (s.selfWaits c []).ctxs.filter (fun e => e.2.state == .running && entOp e.2.entry == opSELFTEST) = [(c, x)] := by
    rw [hctxs]
    exact filter_storeIns_of_none (by simp [x, hop]) _ fun e he => by simp [hidle e he]
  have hfree : ¬ ((s.selfWaits c []).decs.cur.isSome = true ∨ (s.selfWaits c []).decs.ctx.isSome = true) := by
    show ¬ (s.decs.cur.isSome = true ∨ s.decs.ctx.isSome = true)
    simp [hcur, hctx]
  rw [State.selfPump, if_neg hfree, hmine, List.mergeSort_singleton]
  rfl

/-- Settles O44: an entry that names a decoder it may not ends; one that finds a test under way waits; one with nothing to test ends at once. -/
theorem selfTestEntries : Obligations.SelfTestEntries := by
  intro s c k lo n ix i hi hs hk hix
  have hexec := exec_selfTest hi hs hk hix
  refine ⟨fun h255 hbad => exists_finished (hexec.trans (by rw [if_pos ⟨h255, hbad⟩])), fun hgood => ?_⟩
  rw [if_neg hgood] at hexec
  refine ⟨fun hcur => ?_, fun hcur hctx hidle hnone => ?_⟩
  · rw [State.selfPump_of_busy (s := s.selfWaits c _) hcur] at hexec
    exact ⟨_, hexec, rfl, fun k hk => State.ctx_setCtx_ne hk, State.ctx_setCtx _ _ _⟩
  · have hop : entOp (s.ctx c).entry = opSELFTEST := by
      simp only [State.starts, Bool.and_eq_true, beq_iff_eq] at hs
      exact hs.2
    have hin : ix ≠ 255 → ix < n := fun h => Nat.lt_of_not_le fun hle => hgood ⟨h, .inl hle⟩
    rw [State.namedDecoders_none hin hnone, State.selfPump_of_nothing hop hcur hctx hidle] at hexec
    obtain ⟨hend, -⟩ := (s.selfEmpty c).finish_spec c 0 0 0 0 0
    exact ⟨_, hexec, by rw [hend], by rw [hend], by rw [hend], by rw [hend], by rw [hend]⟩

end Sys2Proof.Machine
end

section
/-! SUPPORT. What the policy engine measures (R366 to R368, R381, R386, R398): the tables that are verified, the zones that are measured, and the
decoders that are tested. -/

namespace Sys2Proof.Machine

variable {s t : State} {v z d : Nat} {sp : Bool}

/-! ## Level tables (R380) -/

/-- The key of the tables of a vdie, or of its spare. -/
def levKey (v : Nat) (sp : Bool) : Nat := 2 * v + (if sp then 1 else 0)

theorem levKey_div_mod (k : Nat) : levKey (k / 2) (k % 2 == 1) = k := by
  rcases Nat.mod_two_eq_zero_or_one k with h | h <;> simp [levKey, h] <;> omega

theorem levKey_half (v : Nat) (sp : Bool) : levKey v sp / 2 = v := by
  unfold levKey
  split <;> omega

theorem levKey_odd (v : Nat) (sp : Bool) : (levKey v sp % 2 == 1) = sp := by
  cases sp <;> simp [levKey]

theorem State.lev_of_levels (h : t.levels = s.levels) (v : Nat) (sp : Bool) : t.lev v sp = s.lev v sp := by rw [State.lev, h, State.lev]

theorem State.cuffSend_eq (s : State) (type : Nat) (head payload : List Byte) : s.cuffSend type head payload =
    { s with pair := (s.cuffSend type head payload).pair, out := (s.cuffSend type head payload).out } := by
  unfold State.cuffSend
  split <;> rfl

/-- Tables that are set are told to the partner where they change (R583); nothing else follows. -/
theorem State.setLev_eq (s : State) (v : Nat) (sp : Bool) (x : Levels) : s.setLev v sp x =
    { s with levels := storePut (fun _ => Levels.zero) s.levels (levKey v sp) x, pair := (s.setLev v sp x).pair, out := (s.setLev v sp x).out } := by
  unfold State.setLev
  extract_lets y s₁ s₂
  have hsend (u : State) (table : Nat) (l : List Int) :
      u.sendLevels v sp table l = { u with pair := (u.sendLevels v sp table l).pair, out := (u.sendLevels v sp table l).out } := u.cuffSend_eq _ _ _
  have h₂ : s₂ = { s₁ with pair := s₂.pair, out := s₂.out } := by
    unfold s₂
    split
    · exact hsend _ _ _
    · rfl
  split
  · rw [hsend, h₂]
    rfl
  · rw [h₂]
    rfl

theorem State.setLev_levels (s : State) (v : Nat) (sp : Bool) (x : Levels) :
    (s.setLev v sp x).levels = storePut (fun _ => Levels.zero) s.levels (levKey v sp) x := by rw [State.setLev_eq]

@[simp] theorem State.setLev_dies (s : State) (v : Nat) (sp : Bool) (x : Levels) : (s.setLev v sp x).dies = s.dies := by rw [State.setLev_eq]

@[simp] theorem State.lev_setLev (s : State) (v : Nat) (sp : Bool) (x : Levels) : (s.setLev v sp x).lev v sp = x := by
  rw [State.lev, State.setLev_levels]
  exact storeGet_storePut_self

theorem State.lev_setLev_ne {w : Nat} {sq : Bool} {x : Levels} (h : levKey w sq ≠ levKey v sp) : (s.setLev v sp x).lev w sq = s.lev w sq := by
  rw [State.lev, State.setLev_levels]
  exact storeGet_storePut_ne h

@[simp] theorem Levels.zone_setZone (x : Levels) (z : Nat) (y : Zone) : (x.setZone z y).zone z = y := storeGet_storePut_self

/-! ## TABLE_SCAN (R381) -/

/-- There are no tables, or both check words match. -/
def Levels.matching (x : Levels) : Prop := x.applied = [] ∨ (tableCrc x.applied = x.crcA ∧ tableCrc x.target = x.crcT)

/-- The tables after a check (Table 10-2): a table whose check word fails takes the other, and two that fail take `init`. -/
def Levels.repaired (x : Levels) (init : List Int) : Levels :=
  if (!(tableCrc x.applied == x.crcA)) && (tableCrc x.target == x.crcT) then { x with applied := x.target, crcA := x.crcT }
  else if (tableCrc x.applied == x.crcA) && !(tableCrc x.target == x.crcT) then { x with target := x.applied, crcT := x.crcA }
  else { x with
    applied := init, target := init, crcA := tableCrc init, crcT := tableCrc init
    zones := (List.range 16).map (fun z => (z, { x.zone z with suspect := true })) }

theorem Levels.repaired_matching (x : Levels) (init : List Int) : (x.repaired init).matching := by
  unfold Levels.repaired
  split
  · rename_i h
    simp only [Bool.and_eq_true, beq_iff_eq] at h
    exact .inr ⟨h.2, h.2⟩
  · split
    · rename_i h
      simp only [Bool.and_eq_true, beq_iff_eq] at h
      exact .inr ⟨h.1, h.1⟩
    · exact .inr ⟨rfl, rfl⟩

/-- Tables that match stay; others are repaired. -/
theorem State.verifyTables_cases (s : State) (v : Nat) (sp : Bool) : ((s.lev v sp).matching ∧ s.verifyTables v sp = s) ∨
    (s.verifyTables v sp).levels = (s.setLev v sp ((s.lev v sp).repaired (s.initTable (s.vdie v).family (s.vdieMode v)))).levels := by
  unfold State.verifyTables
  extract_lets x a t y u
  split
  · exact .inl ⟨.inl ‹_›, rfl⟩
  · split
    · rename_i h
      simp only [a, t, Bool.and_eq_true, beq_iff_eq] at h
      exact .inl ⟨.inr h, rfl⟩
    · refine .inr ?_
      rw [State.raise_levels, State.countSat_levels]
      rfl

theorem State.verifyTables_matching (s : State) (v : Nat) (sp : Bool) : ((s.verifyTables v sp).lev v sp).matching := by
  rcases s.verifyTables_cases v sp with ⟨hm, h⟩ | h
  · rwa [h]
  · rw [State.lev_of_levels h, State.lev_setLev]
    exact Levels.repaired_matching _ _

theorem State.verifyTables_other {w : Nat} {sq : Bool} (hk : levKey w sq ≠ levKey v sp) : (s.verifyTables v sp).lev w sq = s.lev w sq := by
  rcases s.verifyTables_cases v sp with ⟨-, h⟩ | h
  · rw [h]
  · rw [State.lev_of_levels h, State.lev_setLev_ne hk]

/-- The tables of one key are verified. -/
def State.verifyKey (s : State) (k : Nat) : State := s.verifyTables (k / 2) (k % 2 == 1)

theorem State.verifyKey_levKey (s : State) (v : Nat) (sp : Bool) : s.verifyKey (levKey v sp) = s.verifyTables v sp := by
  rw [State.verifyKey, levKey_half, levKey_odd]

theorem State.verifyKey_other {k : Nat} (hk : levKey v sp ≠ k) : (s.verifyKey k).lev v sp = s.lev v sp :=
  State.verifyTables_other (by rwa [levKey_div_mod])

/-- A scan leaves tables that match where it verified them or they matched before. -/
theorem State.foldl_verifyKey_matching (v : Nat) (sp : Bool) (l : List Nat) : ∀ s : State, levKey v sp ∈ l ∨ (s.lev v sp).matching →
    ((l.foldl State.verifyKey s).lev v sp).matching := by
  induction l with
  | nil => exact fun s h => h.resolve_left List.not_mem_nil
  | cons k rest ih =>
    intro s h
    refine ih _ ?_
    by_cases hk : levKey v sp = k
    · subst hk
      rw [State.verifyKey_levKey]
      exact .inr (s.verifyTables_matching v sp)
    · rw [State.verifyKey_other hk]
      exact h.imp_left fun hm => (List.mem_cons.1 hm).resolve_left hk

theorem State.lev_unlisted (h : levKey v sp ∉ storeKeys s.levels) : s.lev v sp = Levels.zero :=
  not_not.1 fun hne => h (List.mem_map_of_mem (f := (·.1)) (storeGet_mem hne))

theorem exec_tableScan (ha : s.awake = true) : exec .tableScan s = .next (if s.tickno % 65536 = 0 then (storeKeys s.levels).foldl State.verifyKey s else s) := by
  show execTableScan s = _
  simp only [execTableScan, ha, Bool.true_and, beq_iff_eq]
  rfl

theorem State.tableScan_matching (s : State) (v : Nat) (sp : Bool) : (((storeKeys s.levels).foldl State.verifyKey s).lev v sp).matching := by
  refine State.foldl_verifyKey_matching v sp _ s ?_
  by_cases h : levKey v sp ∈ storeKeys s.levels
  · exact .inl h
  · exact .inr (.inl (by rw [State.lev_unlisted h]; rfl))

/-! ## LEVEL_SAMPLE and VALLEY_SEARCH (R386, R398) -/

/-- The zone whose sample begins in `plane` goes to the next plane at its next one. -/
def State.planeTaken (s : State) (v : Nat) (sp : Bool) (z plane : Nat) : State :=
  (s.setLev v sp ((s.lev v sp).setZone z { (s.lev v sp).zone z with plane := plane + 1 })).peStep 5

theorem State.planeTaken_spec (s : State) (v : Nat) (sp : Bool) (z plane : Nat) : (s.planeTaken v sp z plane).wdog.activity = 5 ∧
    (s.planeTaken v sp z plane).dies = s.dies ∧ (((s.planeTaken v sp z plane).lev v sp).zone z).plane = plane + 1 := by
  refine ⟨rfl, State.setLev_dies s v sp _, ?_⟩
  show (((s.setLev v sp _).lev v sp).zone z).plane = _
  rw [State.lev_setLev, Levels.zone_setZone]

section
variable {g b w : Nat} {l : Loc} (hr : s.peRuns = true) (hh : s.flagL F.CAL_CTRL.HOLD = false) (hl : s.zoneLoc v sp z = some (g, b, w, l))
include hr hh hl

theorem exec_levelSample (hf : s.allZones.find? (fun e => s.sampleDue e.1 e.2.1 e.2.2) = some (v, sp, z)) : exec .levelSample s = .next
    ((s.planeTaken v sp z (((s.lev v sp).zone z).plane % max 1 (s.sset g).planes)).startBurst v sp z false none g b w
      (((s.lev v sp).zone z).plane % max 1 (s.sset g).planes) l) := by
  show execLevelSample s = _
  simp only [execLevelSample, hr, hh, hf, hl, Bool.not_true, Bool.or_false, Bool.false_eq_true, if_false]
  rfl

theorem exec_valleySearch (hf : s.allZones.find? (fun e => s.searchOk e.1 e.2.1 e.2.2) = some (v, sp, z)) :
    exec .valleySearch s = .next ((s.peStep 5).startBurst v sp z true none g b w 0 l) := by
  show execValleySearch s = _
  simp only [execValleySearch, hr, hh, hf, hl, Bool.not_true, Bool.or_false, Bool.false_eq_true, if_false]

end

/-! ## Tests of decoders (R366 to R368) -/

/-- Only the fields of DEC_POOL change. -/
structure State.PoolSet (s t : State) : Prop where
  frame : t = { s with regs := t.regs }
  reg : ∀ o, o ≠ F.DEC_POOL.HARD_ACTIVE.reg → t.reg o = s.reg o

theorem State.PoolSet.refl (s : State) : State.PoolSet s s := ⟨rfl, fun _ _ => rfl⟩

theorem State.PoolSet.setF {f : Field} {n : Nat} (h : State.PoolSet s t) (hf : f.reg = F.DEC_POOL.HARD_ACTIVE.reg := by rfl) :
    State.PoolSet s (t.setF f n) :=
  ⟨by rw [h.frame]; rfl, fun o ho => (State.reg_setF_ne (hf ▸ ho)).trans (h.reg o ho)⟩

theorem State.PoolSet.ite {u : State} {c : Prop} [Decidable c] (h : State.PoolSet s t) (h' : State.PoolSet s u) :
    State.PoolSet s (if c then t else u) := by
  split <;> assumption

theorem State.PoolSet.decs (h : State.PoolSet s t) : t.decs = s.decs := by rw [h.frame]

theorem State.PoolSet.busy (h : State.PoolSet s t) : t.flag F.DEC_TEST.BUSY = s.flag F.DEC_TEST.BUSY :=
  State.flag_congr (h.reg _ (by decide))

/-- The decoder under test. -/
def Decoders.testing (k : Decoders) (d : Nat) (again : Bool) : Decoders :=
  { k with cur := some d, again := again, tests := (k.tests + 1) % 2 ^ 32 }

/-- The test of a decoder begins; what stands in for the decoder is said in DEC_POOL (R367). -/
theorem State.testDecoder_poolSet (s : State) (d : Nat) (again : Bool) :
    State.PoolSet (({ s with decs := s.decs.testing d again } : State).setF F.DEC_TEST.BUSY 1) (s.testDecoder d again) := by
  unfold State.testDecoder
  extract_lets k s₁ s₂
  have h := State.PoolSet.refl s₂
  exact h.ite ((h.ite (h.setF.ite h.setF)).ite ((h.ite (h.setF.ite h.setF)).ite (h.setF.setF.ite h.setF.setF)))

theorem State.testDecoder_spec (s : State) (d : Nat) (again : Bool) : (s.testDecoder d again).decs = s.decs.testing d again ∧
    (s.testDecoder d again).flag F.DEC_TEST.BUSY = true :=
  ⟨(s.testDecoder_poolSet d again).decs, (s.testDecoder_poolSet d again).busy.trans (State.flag_setF_one rfl (by decide))⟩

/-- What stood in for the decoder is free again. -/
theorem State.testOver_poolSet (s : State) (d : Nat) : State.PoolSet (s.setF F.DEC_TEST.BUSY 0) (s.testOver d) := by
  unfold State.testOver
  extract_lets s₁
  have h := State.PoolSet.refl s₁
  exact h.ite ((h.setF.setF.ite h.setF).ite (h.setF.setF.ite h.setF))

theorem State.testOver_spec (s : State) (d : Nat) : (s.testOver d).decs = s.decs ∧ (s.testOver d).flag F.DEC_TEST.BUSY = false := by
  refine ⟨(s.testOver_poolSet d).decs, (s.testOver_poolSet d).busy.trans ?_⟩
  rw [State.flag, State.getF_setF_self _ _ _ (by decide)]
  rfl

theorem State.retireDecoder_decs (s : State) (d : Nat) : (s.retireDecoder d).decs = s.decs := by
  unfold State.retireDecoder
  extract_lets u spare
  have h := State.PoolSet.refl u
  have hu : State.PoolSet u (s.retireDecoder d) := h.ite ((h.setF.ite h.setF).ite (h.setF.setF.ite h.setF.setF))
  exact hu.decs.trans (State.raise_decs _ _)

/-- The decoder whose turn it is, is next. -/
def State.turnTaken (s : State) (d : Nat) : State :=
  ({ s with decs := { s.decs with
    nextUp := (((s.testOrder.findIdx? (· == d)).getD 0) + 1) % s.testOrder.length, lastTick := s.tickno, ctx := none } } : State).peStep 8

theorem exec_decoderTest (ha : s.awake = true) (hp : s.pfail = false) (hh : s.peHalted = false) (hc : s.decs.cur = none)
    (hper : s.getF F.DEC_TEST.PERIOD ≠ 0) (hdue : s.decs.lastTick + s.getF F.DEC_TEST.PERIOD ≤ s.tickno)
    (hf : ((s.testOrder.drop s.decs.nextUp) ++ s.testOrder.take s.decs.nextUp).find? s.mayTest = some d) :
    exec .decoderTest s = .next ((s.turnTaken d).testDecoder d false) := by
  have hgo : (!s.awake || s.pfail || s.peHalted || s.decs.cur.isSome || s.getF F.DEC_TEST.PERIOD == 0 ||
      decide (s.tickno < s.decs.lastTick + s.getF F.DEC_TEST.PERIOD)) = false := by
    simp [ha, hp, hh, hc, hper, hdue]
  show execDecoderTest s = _
  simp only [execDecoderTest, hgo, hf, Bool.false_eq_true, if_false]
  rfl

/-- One more failed test is counted. -/
def State.failureNoted (s : State) : State :=
  let n := satAdd 32 s.decs.testFails 1
  let s := s.noteSat s.decs.testFails n (2 ^ 32 - 1)
  { s with decs := { s.decs with testFails := n } }

/-- A test is over and counted; what it leads to follows. -/
def State.testEnded (s : State) (d : Nat) (pass : Bool) : State :=
  let n := if pass then s.decs.testFails else satAdd 32 s.decs.testFails 1
  let s := s.noteSat s.decs.testFails n (2 ^ 32 - 1)
  ({ s with decs := { s.decs with cur := none, again := false, testFails := n } } : State).testOver d

theorem State.testEnded_spec (s : State) (d : Nat) (pass : Bool) : (s.testEnded d pass).decs = { s.decs with
      cur := none, again := false, testFails := if pass then s.decs.testFails else satAdd 32 s.decs.testFails 1 } ∧
    (s.testEnded d pass).flag F.DEC_TEST.BUSY = false := by
  obtain ⟨hdecs, hbusy⟩ := State.testOver_spec _ d
  refine ⟨hdecs.trans ?_, hbusy⟩
  rw [State.noteSat_decs]

section
variable (ha : s.awake = true) (hc : s.decs.cur = some d)
include ha hc

/-- A first failure repeats the test. -/
theorem exec_decoderTestDone_repeats (hg : s.decs.again = false) :
    exec (.decoderTestDone false) s = .next (s.failureNoted.testDecoder d true) := by
  refine congrArg Host.Outcome.next ?_
  rw [hc]
  exact (if_neg (by simp [ha])).trans (if_pos (by simp [hg]))

/-- The test is over, with a second failure or none. -/
theorem exec_decoderTestDone_ends {pass : Bool} (hg : pass = true ∨ s.decs.again = true) (hctx : s.decs.ctx = none) :
    exec (.decoderTestDone pass) s = .next
      (if pass then s.testEnded d pass else (s.testEnded d pass).retireDecoder d).selfPump := by
  have hend : ¬ (!pass && !s.decs.again) = true := by rcases hg with hg | hg <;> simp [hg]
  have hfree : (if pass then s.testEnded d pass else (s.testEnded d pass).retireDecoder d).decs.ctx = none := by
    rw [apply_ite State.decs, State.retireDecoder_decs, ite_self, (s.testEnded_spec d pass).1]
    exact hctx
  refine congrArg Host.Outcome.next ?_
  rw [hc]
  refine (if_neg (by simp [ha])).trans ((if_neg hend).trans ?_)
  extract_lets n noted k counted ended u
  have hu : u.decs.ctx = none := hfree
  rw [hu]
  rfl

end

/-- Settles O47: measurements begin where the first zone is due, the scan leaves matching tables by induction over the keys it verifies, and the test of a
decoder changes DEC_POOL and its own record alone. -/
theorem measurementsOfThePolicyEngine : Obligations.MeasurementsOfThePolicyEngine := by
  refine ⟨fun s v z g b w sp l hr hh hl => ⟨fun hf => ?_, fun hf => ⟨_, exec_valleySearch hr hh hl hf, rfl⟩⟩, fun s ha => ?_,
    fun s d ha hp hh hc hper hdue hf => ?_, fun s d pass ha hc => ⟨?_, fun hg hctx => ?_⟩⟩
  · obtain ⟨hactivity, hdies, hplane⟩ := s.planeTaken_spec v sp z (((s.lev v sp).zone z).plane % max 1 (s.sset g).planes)
    exact ⟨_, _, exec_levelSample hr hh hl hf, hactivity, hdies, hplane, rfl⟩
  · refine ⟨_, exec_tableScan ha, fun h => if_neg h, fun h v sp => ?_⟩
    rw [if_pos h]
    exact s.tableScan_matching v sp
  · obtain ⟨hdecs, hbusy⟩ := (s.turnTaken d).testDecoder_spec d false
    exact ⟨_, exec_decoderTest ha hp hh hc hper hdue hf, congrArg Decoders.cur hdecs, congrArg Decoders.again hdecs,
      congrArg Decoders.lastTick hdecs, congrArg Decoders.tests hdecs, hbusy⟩
  · rintro rfl hg
    obtain ⟨hdecs, -⟩ := s.failureNoted.testDecoder_spec d true
    exact ⟨_, exec_decoderTestDone_repeats ha hc hg, congrArg Decoders.cur hdecs, congrArg Decoders.again hdecs,
      congrArg Decoders.testFails hdecs⟩
  · obtain ⟨hdecs, hbusy⟩ := s.testEnded_spec d pass
    exact ⟨_, _, exec_decoderTestDone_ends ha hc hg hctx, congrArg Decoders.cur hdecs, hbusy, congrArg Decoders.testFails hdecs, rfl⟩

end Sys2Proof.Machine
end

section
/-! SUPPORT. CALIBRATE (R399, R403 to R405): the zones that an entry names, the tables after a step for each of them, and what the entry begins with. -/

namespace Sys2Proof.Machine

variable {s : State} {c v k z j : Nat} {sp : Bool}

/-! ## The zones of an entry (R403, R404) -/

/-- The zones that a CALIBRATE entry names. -/
def State.calNamed (s : State) (c : Nat) : List Nat :=
  if ent (s.ctx c).entry 33 1 = 255 then List.range 16 else [ent (s.ctx c).entry 33 1]

theorem State.calNamed_nodup (s : State) (c : Nat) : (s.calNamed c).Nodup := by
  unfold State.calNamed
  split
  · exact List.nodup_range
  · exact List.nodup_singleton _

theorem State.calCheck_of_above (h255 : ent (s.ctx c).entry 33 1 ≠ 255) (h : 15 < ent (s.ctx c).entry 33 1) : s.calCheck c = some (0x40, 33) :=
  if_pos ⟨h255, .inl h⟩

/-- The checks let no zone pass that the format does not have. -/
theorem State.lt_of_mem_calNamed (h : s.calCheck c = none) (hz : z ∈ s.calNamed c) : z < 16 := by
  unfold State.calNamed at hz
  split at hz
  case isTrue => exact List.mem_range.1 hz
  case isFalse h255 =>
    obtain rfl := List.mem_singleton.1 hz
    refine Nat.lt_of_not_le fun habove => ?_
    rw [State.calCheck_of_above h255 habove] at h
    exact nomatch h

/-! ## The tables, zone by zone -/

/-- No search of the zone is pending (R399). -/
def Levels.withdrawn (x : Levels) (z : Nat) : Levels := x.setZone z { x.zone z with search := false }

/-- The target with the offsets of `n` in the zone, which is no longer SUSPECT (Table 10-6, KIND 2). -/
def Levels.restored (n : List Int) (x : Levels) (z : Nat) : Levels :=
  let t := setOffs x.target z ((List.range 15).map (fun i => offAt n z i))
  { x with target := t, crcT := tableCrc t }.setZone z { x.zone z with suspect := false, run := 0, search := false, outcome := 1 }

theorem Levels.zone_setZone_ne {x : Levels} {y : Zone} {a : Nat} (h : z ≠ a) : (x.setZone a y).zone z = x.zone z := storeGet_storePut_ne h

theorem Levels.zone_withdrawn_ne {x : Levels} {a : Nat} (h : z ≠ a) : (x.withdrawn a).zone z = x.zone z := Levels.zone_setZone_ne h

theorem Levels.zone_restored_ne {n : List Int} {x : Levels} {a : Nat} (h : z ≠ a) : (x.restored n a).zone z = x.zone z := Levels.zone_setZone_ne h

theorem Levels.zone_restored {n : List Int} {x : Levels} :
    (x.restored n z).zone z = { x.zone z with suspect := false, run := 0, search := false, outcome := 1 } := Levels.zone_setZone _ _ _

theorem offAt_setOffs (t l : List Int) {a : Nat} (hz : z < 16) (hj : j < 15) :
    offAt (setOffs t a l) z j = if z = a then l.getD j 0 else offAt t z j := by
  have hdiv : (15 * z + j) / 15 = z := by omega
  have hmod : (15 * z + j) % 15 = j := by omega
  rw [offAt, setOffs, List.getD_eq_getElem _ _ (by simp; omega), List.getElem_map, List.getElem_range, hdiv, hmod, offAt]

theorem Levels.offAt_restored {n : List Int} {x : Levels} (hz : z < 16) (hj : j < 15) : offAt (x.restored n z).target z j = offAt n z j := by
  refine (offAt_setOffs _ _ hz hj).trans ?_
  rw [if_pos rfl, List.getD_eq_getElem _ _ (by simpa using hj), List.getElem_map, List.getElem_range]

theorem Levels.offAt_restored_ne {n : List Int} {x : Levels} {a : Nat} (hz : z < 16) (hj : j < 15) (h : z ≠ a) :
    offAt (x.restored n a).target z j = offAt x.target z j := (offAt_setOffs _ _ hz hj).trans (if_neg h)

section
variable {zones : List Nat} (x : Levels)

/-- Where the pending searches of several zones are withdrawn, nothing else of the tables changes. -/
theorem Levels.foldl_withdrawn_spec (hl : zones.Nodup) : (zones.foldl Levels.withdrawn x).target = x.target ∧
    (∀ z, z ∉ zones → (zones.foldl Levels.withdrawn x).zone z = x.zone z) ∧
    (∀ z ∈ zones, (zones.foldl Levels.withdrawn x).zone z = { x.zone z with search := false }) := by
  refine ⟨foldl_keeps (f := Levels.withdrawn) (g := Levels.target) (fun _ _ _ => rfl) x, fun z hz => ?_, fun z hz => ?_⟩
  · exact foldl_keeps (g := (·.zone z)) (fun _ _ ha => Levels.zone_withdrawn_ne (ne_of_mem_of_not_mem ha hz).symm) x
  · obtain ⟨y, hy, hfold⟩ := foldl_changes_once (f := Levels.withdrawn) (g := (·.zone z)) hl hz
      (fun _ _ _ ha => Levels.zone_withdrawn_ne ha.symm) x
    rw [hfold, Levels.withdrawn, Levels.zone_setZone, hy]

/-- Where several zones are restored, each has the offsets of `n`, and no other zone's state changes. -/
theorem Levels.foldl_restored_spec (n : List Int) (hl : zones.Nodup) (h16 : ∀ z ∈ zones, z < 16) :
    (∀ z, z ∉ zones → (zones.foldl (Levels.restored n) x).zone z = x.zone z) ∧
    (∀ z ∈ zones, ((zones.foldl (Levels.restored n) x).zone z).suspect = false ∧ ((zones.foldl (Levels.restored n) x).zone z).run = 0 ∧
      ∀ j, j < 15 → offAt (zones.foldl (Levels.restored n) x).target z j = offAt n z j) := by
  refine ⟨fun z hz => ?_, fun z hz => ?_⟩
  · exact foldl_keeps (g := (·.zone z)) (fun _ _ ha => Levels.zone_restored_ne (ne_of_mem_of_not_mem ha hz).symm) x
  · obtain ⟨y, -, hzone⟩ := foldl_changes_once (f := Levels.restored n) (g := (·.zone z)) hl hz
      (fun _ _ _ ha => Levels.zone_restored_ne ha.symm) x
    rw [hzone, Levels.zone_restored]
    refine ⟨rfl, rfl, fun j hj => ?_⟩
    obtain ⟨w, -, htarget⟩ := foldl_changes_once (f := Levels.restored n) (g := fun y => offAt y.target z j) hl hz
      (fun _ _ _ ha => Levels.offAt_restored_ne (h16 z hz) hj ha.symm) x
    rw [htarget, Levels.offAt_restored (h16 z hz) hj]

end

/-! ## The entry begins -/

@[simp] theorem State.setLev_ctxs (s : State) (v : Nat) (sp : Bool) (x : Levels) : (s.setLev v sp x).ctxs = s.ctxs := by rw [State.setLev_eq]

/-- The tables of a vdie, or of its spare, after a step for each of the zones. -/
def State.setZones (s : State) (v : Nat) (sp : Bool) (f : Levels → Nat → Levels) (zones : List Nat) : State :=
  zones.foldl (fun s z => s.setLev v sp (f (s.lev v sp) z)) s

theorem State.setZones_spec (s : State) (v : Nat) (sp : Bool) (f : Levels → Nat → Levels) (zones : List Nat) :
    (s.setZones v sp f zones).lev v sp = zones.foldl f (s.lev v sp) ∧ (s.setZones v sp f zones).ctxs = s.ctxs ∧
    (s.setZones v sp f zones).dies = s.dies :=
  ⟨(List.foldl_hom (State.lev · v sp) fun u _ => (u.lev_setLev v sp _).symm).symm,
    foldl_keeps (fun u _ _ => u.setLev_ctxs v sp _) s, foldl_keeps (fun u _ _ => u.setLev_dies v sp _) s⟩

/-- The entry runs, with all its zones to do and no results yet. -/
def State.calRuns (s : State) (c : Nat) : State :=
  s.setCtx c { s.ctx c with state := .running, groups := s.calNamed c, fields := [], r1 := 0, status := 0 }

/-- KIND 0 or 1 begins. -/
def State.calMeasures (s : State) (c : Nat) : State :=
  (s.calRuns c).setZones (s.calVdie c) (s.calSpare (s.calVdie c)) Levels.withdrawn (s.calNamed c)

/-- INIT of the vdie whose zones an entry calibrates. -/
def State.calInit (s : State) (c : Nat) : List Int := s.initTable (s.vdie (s.calVdie c)).family (s.vdieMode (s.calVdie c))

/-- KIND 2 has restored the zones. -/
def State.calRestored (s : State) (c : Nat) : State :=
  (((s.calRuns c).setLev (s.calVdie c) (s.calSpare (s.calVdie c)) (s.lev (s.calVdie c) (s.calSpare (s.calVdie c)))).setZones
    (s.calVdie c) (s.calSpare (s.calVdie c)) (Levels.restored (s.calInit c)) (s.calNamed c)).suspectReg

/-- A zone restored to the offsets of `n` is in the entry's results. -/
def State.zoneNoted (n : List Int) (c : Nat) (s : State) (z : Nat) : State :=
  s.calZone c z ((List.range 15).map (fun i => offAt n z i)) ((List.range 15).map (fun i => offAt n z i)) 1 false

/-- KIND 2 has all its zones in its results. -/
def State.calNoted (s : State) (c : Nat) : State := (s.calNamed c).foldl (State.zoneNoted (s.calInit c) c) (s.calRestored c)

theorem State.calRuns_ctx (s : State) (c : Nat) : ((s.calRuns c).ctx c).state = .running ∧ ((s.calRuns c).ctx c).groups = s.calNamed c := by
  rw [State.calRuns, State.ctx_setCtx]
  exact ⟨rfl, rfl⟩

/-- What the entry's context, the dies and the tables are when KIND 0 or 1 begins with its first zone. -/
theorem State.calMeasures_spec (hv : v = s.calVdie c) (hsp : sp = s.calSpare v) : ((s.calMeasures c).ctx c).state = .running ∧
    ((s.calMeasures c).ctx c).groups = s.calNamed c ∧ (s.calMeasures c).dies = s.dies ∧
    (s.calMeasures c).lev v sp = (s.calNamed c).foldl Levels.withdrawn (s.lev v sp) := by
  subst hv hsp
  obtain ⟨hlev, hctxs, hdies⟩ := (s.calRuns c).setZones_spec (s.calVdie c) (s.calSpare (s.calVdie c)) Levels.withdrawn (s.calNamed c)
  have hctx : (s.calMeasures c).ctx c = (s.calRuns c).ctx c := State.ctx_of_ctxs hctxs c
  obtain ⟨hstate, hgroups⟩ := s.calRuns_ctx c
  rw [hctx]
  exact ⟨hstate, hgroups, hdies, hlev⟩

theorem State.zoneNoted_ctx (n : List Int) (c : Nat) (s : State) (z : Nat) :
    ((s.zoneNoted n c z).ctx c).state = (s.ctx c).state ∧ ((s.zoneNoted n c z).ctx c).groups = (s.ctx c).groups := by
  unfold State.zoneNoted State.calZone
  rw [State.ctx_setCtx]
  exact ⟨rfl, rfl⟩

theorem State.calRestored_spec (hv : v = s.calVdie c) (hsp : sp = s.calSpare v) : (s.calRestored c).ctx c = (s.calRuns c).ctx c ∧
    (s.calRestored c).dies = s.dies ∧ (s.calRestored c).lev v sp = (s.calNamed c).foldl (Levels.restored (s.calInit c)) (s.lev v sp) := by
  subst hv hsp
  obtain ⟨hlev, hctxs, hdies⟩ := ((s.calRuns c).setLev (s.calVdie c) (s.calSpare (s.calVdie c))
    (s.lev (s.calVdie c) (s.calSpare (s.calVdie c)))).setZones_spec (s.calVdie c) (s.calSpare (s.calVdie c)) (Levels.restored (s.calInit c))
    (s.calNamed c)
  rw [State.lev_setLev] at hlev
  rw [State.setLev_ctxs] at hctxs
  rw [State.setLev_dies] at hdies
  exact ⟨State.ctx_of_ctxs hctxs c, hdies, hlev⟩

/-- What the entry's context, the dies and the tables are when KIND 2 ends. -/
theorem State.calNoted_spec (hv : v = s.calVdie c) (hsp : sp = s.calSpare v) : ((s.calNoted c).ctx c).state = .running ∧
    ((s.calNoted c).ctx c).groups = s.calNamed c ∧ (s.calNoted c).dies = s.dies ∧
    (s.calNoted c).lev v sp = (s.calNamed c).foldl (Levels.restored (s.calInit c)) (s.lev v sp) := by
  obtain ⟨hctx, hdies, hlev⟩ := State.calRestored_spec hv hsp
  have hruns : ((s.calNoted c).ctx c).state = .running ∧ ((s.calNoted c).ctx c).groups = s.calNamed c := by
    refine List.foldlRecOn _ _ (motive := fun u : State => (u.ctx c).state = .running ∧ (u.ctx c).groups = s.calNamed c) ?_ fun u hu z _ => ?_
    · rw [hctx]
      exact s.calRuns_ctx c
    · obtain ⟨hstate, hgroups⟩ := u.zoneNoted_ctx (s.calInit c) c z
      exact ⟨hstate.trans hu.1, hgroups.trans hu.2⟩
  exact ⟨hruns.1, hruns.2, (foldl_keeps (f := State.zoneNoted _ c) (g := State.dies) (fun _ _ _ => rfl) _).trans hdies,
    (foldl_keeps (f := State.zoneNoted _ c) (g := fun u : State => u.lev v sp) (fun _ _ _ => rfl) _).trans hlev⟩

/-! ## The commands -/

theorem exec_calibrate {i : Instr} (hi : (i, k) ∈ [(Instr.calibrateSample c, 0), (.calibrateSearch c, 1), (.calibrateReset c, 2)]) :
    exec i s = .next (s.startCal c k) := by
  simp only [List.mem_cons, Prod.mk.injEq, List.not_mem_nil, or_false] at hi
  rcases hi with ⟨rfl, rfl⟩ | ⟨rfl, rfl⟩ | ⟨rfl, rfl⟩ <;> rfl

section
variable (hs : s.starts c opCALIBRATE = true) (hk : ent (s.ctx c).entry 32 1 = k)
include hs hk

theorem State.startCal_refused {st d : Nat} (h : s.calCheck c = some (st, d)) : s.startCal c k = s.finish c st d 0 0 0 := by
  simp only [State.startCal, hs, hk, h, Bool.not_true, bne_self_eq_false, Bool.or_false, Bool.false_eq_true, if_false]

theorem State.startCal_passed (h : s.calCheck c = none) :
    s.startCal c k = if k = 2 then (s.calNoted c).calEnd c else (s.calMeasures c).calNext c := by
  simp only [State.startCal, hs, hk, h, Bool.not_true, bne_self_eq_false, Bool.or_false, Bool.false_eq_true, if_false]
  rfl

end

/-- Settles O43: the checks end the entry, or its zones are restored or prepared one by one, each changing its own state alone. -/
theorem calibrationEntries : Obligations.CalibrationEntries := by
  intro s c k i hi hs hk v sp zones hv hsp hzones
  obtain rfl : zones = s.calNamed c := hzones
  have hrefused (st d : Nat) (h : s.calCheck c = some (st, d)) : ∃ t, exec i s = .next t ∧ finished s t c st d 0 0 0 :=
    exists_finished ((exec_calibrate hi).trans (by rw [State.startCal_refused hs hk h]))
  refine ⟨fun h255 habove => hrefused _ _ (State.calCheck_of_above h255 habove), hrefused, fun h => ?_⟩
  have hexec := (exec_calibrate hi).trans (congrArg _ (State.startCal_passed hs hk h))
  by_cases h2 : k = 2
  · obtain ⟨hstate, hgroups, hdies, hlev⟩ := State.calNoted_spec hv hsp
    obtain ⟨hother, hnamed⟩ := (s.lev v sp).foldl_restored_spec (s.calInit c) (s.calNamed_nodup c) fun z hz => State.lt_of_mem_calNamed h hz
    rw [State.calInit, ← hv] at hnamed
    refine ⟨s.calNoted c, _, hexec, ?_, hstate, hgroups, hdies, ?_, fun _ => ?_, fun hne => absurd h2 hne⟩
    · rw [if_pos h2, if_pos h2]
    · rwa [hlev]
    · rwa [hlev, State.calInit, ← hv]
  · obtain ⟨hstate, hgroups, hdies, hlev⟩ := State.calMeasures_spec hv hsp
    obtain ⟨htarget, hother, hnamed⟩ := (s.lev v sp).foldl_withdrawn_spec (s.calNamed_nodup c)
    refine ⟨s.calMeasures c, _, hexec, ?_, hstate, hgroups, hdies, ?_, fun he => absurd he h2, fun _ => ?_⟩
    · rw [if_neg h2, if_neg h2]
    · rwa [hlev]
    · rw [hlev]
      exact ⟨htarget, hnamed⟩

end Sys2Proof.Machine
end

section
/-! SUPPORT. The journal's rows (R449, R450): what joins a namespace's records, what the pump moves of them into a row, and what neither touches. -/

namespace Sys2Proof.Machine

/-! ## Records of a row -/

/-- The records that fit and those that do not are the records that waited, in order. -/
theorem takeFit_append (room : Nat) (l : List JItem) : (takeFit room l).1 ++ (takeFit room l).2 = l := by
  induction l generalizing room with
  | nil => rfl
  | cons j rest ih =>
    unfold takeFit
    split
    · exact congrArg (j :: ·) (ih _)
    · rfl

@[simp] theorem State.journal_setJournal (s : State) (ns : Nat) (x : Journal) : (s.setJournal ns x).journal ns = x := storeGet_storePut_self
theorem State.journal_setJournal_ne {s : State} {ns k : Nat} {x : Journal} (h : k ≠ ns) : (s.setJournal ns x).journal k = s.journal k :=
  storeGet_storePut_ne h

/-! ## The pump -/

/-- The programs of a journal row wait for their dies. -/
theorem State.journalProgs_waiting (s : State) (ns b row : Nat) (bytes : List Byte) : ∀ p ∈ s.journalProgs ns b row bytes, p.running = false := by
  intro p hp
  obtain ⟨pos, -, hpos⟩ := List.mem_filterMap.1 hp
  split at hpos
  · cases hpos
  · cases hpos
    rfl

/-- What the pump can do: nothing, or, with no row in flight, it starts the next row with the first of the records that wait. -/
theorem State.journalPump_cases (s : State) (ns : Nat) : s.journalPump ns = s ∨
    (s.journal ns).flight = [] ∧ ∃ (progs : List Prog) (b : Nat) (x : Band) (j : Journal), (∀ p ∈ progs, p.running = false) ∧
      j.flight ++ j.pend = (s.journal ns).pend ∧
      s.journalPump ns = ((progs.foldl State.addProg s).setBand (jset ns) b x).setJournal ns j := by
  unfold State.journalPump
  extract_lets j d cut recs flags progs
  split
  · exact .inl rfl
  · next hstart =>
    have hidle : j.flight = [] := by
      simp only [Bool.or_eq_true, Bool.not_eq_true', not_or, Bool.not_eq_false, List.isEmpty_iff] at hstart
      exact hstart.1.1
    exact .inr ⟨hidle, progs, _, _, _, s.journalProgs_waiting _ _ _ _, takeFit_append d.rowRoom j.pend, rfl⟩

theorem State.foldl_addProg_journals (l : List Prog) (s : State) : (l.foldl State.addProg s).journals = s.journals :=
  foldl_keeps (f := State.addProg) (g := State.journals) (fun _ _ _ => rfl) s

section
variable (s : State) (ns : Nat)

/-- The pump moves records within the journal: none is lost, and their order stays (R449). -/
theorem State.journalPump_records : ((s.journalPump ns).journal ns).flight ++ ((s.journalPump ns).journal ns).pend =
    (s.journal ns).flight ++ (s.journal ns).pend := by
  obtain h | ⟨hflight, progs, b, x, j, -, hrecs, h⟩ := s.journalPump_cases ns
  · rw [h]
  · rw [h, State.journal_setJournal, hrecs, hflight, List.nil_append]

theorem State.journalPump_other {k : Nat} (hk : k ≠ ns) : (s.journalPump ns).journal k = s.journal k := by
  obtain h | ⟨-, progs, b, x, j, -, -, h⟩ := s.journalPump_cases ns
  · rw [h]
  · rw [h, State.journal_setJournal_ne hk]
    exact congrArg (storeGet _ · k) (State.foldl_addProg_journals progs s)

/-- While a row is in flight the pump does nothing: rows are written one at a time (R449). -/
theorem State.journalPump_inFlight (h : (s.journal ns).flight ≠ []) : s.journalPump ns = s :=
  (s.journalPump_cases ns).resolve_right fun ⟨hflight, _⟩ => h hflight

end

/-! ## Records that join -/

/-- The state in which the pump finds records that have joined. -/
def State.journalJoined (s : State) (ns : Nat) (l : List JItem) : State :=
  s.setJournal ns { s.journal ns with pend := (s.journal ns).pend ++ l }

theorem State.journalAdd_eq (s : State) (ns : Nat) (l : List JItem) : s.journalAdd ns l = (s.journalJoined ns l).journalPump ns := rfl

@[simp] theorem State.journal_journalJoined (s : State) (ns : Nat) (l : List JItem) :
    (s.journalJoined ns l).journal ns = { s.journal ns with pend := (s.journal ns).pend ++ l } := State.journal_setJournal _ _ _

/-- Settles O38: records join behind those that wait, and the pump moves them into a row in their order, only with no row in flight. -/
theorem journalKeepsOrder : Obligations.JournalKeepsOrder := by
  unfold Obligations.JournalKeepsOrder
  intro s ns l
  rw [State.journalAdd_eq]
  refine ⟨?records, ?others, ?inFlight⟩
  case records => rw [State.journalPump_records, State.journal_journalJoined, List.append_assoc]
  case others => exact fun k hk => (State.journalPump_other _ ns hk).trans (State.journal_setJournal_ne hk)
  case inFlight =>
    intro h
    have hflight : ((s.journalJoined ns l).journal ns).flight ≠ [] := by rwa [State.journal_journalJoined]
    rw [State.journalPump_inFlight _ ns hflight]
    rfl

end Sys2Proof.Machine
end

section
/-! SUPPORT. Acceptance of a power fail (R438 to R442): what phase 1 stops, what it leaves of the registers, and what a sleeping unit notes. -/

namespace Sys2Proof.Machine

variable {s t u : State} {drill : Bool}

/-! ## What phase 1 leaves -/

/-- The registers that phase 1 writes beside its own: the pools of tile buffers and the config store's. -/
def stopRegs : List Nat := [F.PTY_PIN_STAT.FAB_FREE.reg, F.PTY_ROWSTORE.SP_FREE.reg, F.CFS_BRIM.POS.reg, F.CFS_CMD.BUSY.reg]

/-- The step from `s` to `t` writes none but these registers and leaves the sequence's own state. -/
structure State.StopStep (s t : State) : Prop where
  regs : regsKept s t stopRegs
  pf : t.pf = s.pf

namespace State.StopStep

theorem refl (s : State) : State.StopStep s s := ⟨fun _ _ => rfl, rfl⟩

theorem trans (h : State.StopStep s t) (h' : State.StopStep t u) : State.StopStep s u :=
  ⟨fun o ho => (h'.regs o ho).trans (h.regs o ho), h'.pf.trans h.pf⟩

theorem foldl {α : Type} {f : State → α → State} (hf : ∀ u a, State.StopStep u (f u a)) (l : List α) (s : State) : State.StopStep s (l.foldl f s) :=
  List.foldlRecOn l f (motive := State.StopStep s) (refl s) fun u hu a _ => hu.trans (hf u a)

theorem setF {f : Field} (v : Nat) (h : f.reg ∈ stopRegs) : State.StopStep s (s.setF f v) :=
  ⟨fun _ ho => State.reg_setF_ne (ne_of_mem_of_not_mem h ho).symm, rfl⟩

theorem getF (h : State.StopStep s t) {f : Field} (hf : f.reg ∉ stopRegs) : t.getF f = s.getF f := State.getF_congr (h.regs _ hf)

end State.StopStep

theorem State.fabAbandon_stopStep (s : State) (drop : FabWho → Bool) : State.StopStep s (s.fabAbandon drop) := by
  rw [State.fabAbandon_frame]
  exact ⟨fun _ _ => rfl, rfl⟩

theorem State.setPoolFree_stopStep (s : State) (pool n : Nat) : State.StopStep s (s.setPoolFree pool n) := by
  unfold State.setPoolFree
  split
  · exact .setF n (by decide)
  · exact .setF n (by decide)

theorem State.freeBufs_stopStep (s : State) (c : Nat) : State.StopStep s (s.freeBufs c) := by
  unfold State.freeBufs
  extract_lets x n held s₁
  split
  · exact .refl s
  · have hpool : State.StopStep s s₁ := s.setPoolFree_stopStep _ _
    exact hpool.trans ⟨fun _ _ => rfl, rfl⟩

theorem State.tornBytes_stopStep (s : State) (m : Store Byte) (n : Nat) (f : Cfs → Cfs) : State.StopStep s (((s.setNor m).drawMany n).updCfs f) :=
  ⟨fun _ _ => rfl, rfl⟩

theorem State.updCfs_stopStep (s : State) (f : Cfs → Cfs) : State.StopStep s (s.updCfs f) := ⟨fun _ _ => rfl, rfl⟩

/-- A NOR operation that is cut off leaves torn bytes and the position of the record under way. -/
theorem State.norTorn_stopStep (s : State) : State.StopStep s s.norTorn := by
  unfold State.norTorn
  split
  · exact .refl s
  · split
    · exact s.tornBytes_stopStep _ _ _
    · exact s.tornBytes_stopStep _ _ _
    · exact ((s.tornBytes_stopStep _ _ _).trans (State.updCfs_stopStep _ _)).trans (.setF (f := F.CFS_BRIM.POS) _ (by decide))

theorem State.cfsStop_stopStep (s : State) : State.StopStep s s.cfsStop := by
  unfold State.cfsStop
  extract_lets s₁ s₂ keep
  have htorn : State.StopStep s s₁ := by
    simp only [s₁]
    split
    · exact s.norTorn_stopStep
    · exact .refl s
  exact (htorn.trans (s₁.fabAbandon_stopStep _)).trans 
    ((State.updCfs_stopStep _ _).trans (.setF (f := F.CFS_CMD.BUSY) _ (by decide)))

/-! ## What phase 1 withdraws -/

theorem State.markPage_frame (s : State) (g b row pos v : Nat) : s.markPage g b row pos v = { s with wbands := (s.markPage g b row pos v).wbands } := by
  unfold State.markPage
  split <;> rfl

/-- Programs that no die runs are withdrawn, and their pages are marked. -/
theorem State.dropProgs_frame (s : State) : s.dropProgs = { s with progs := s.dropProgs.progs, wbands := s.dropProgs.wbands } := by
  unfold State.dropProgs
  extract_lets stays gone s₁
  refine List.foldlRecOn gone _ (motive := fun t : State => t = { s with progs := t.progs, wbands := t.wbands }) rfl fun t ht e _ => ?_
  split
  · rw [State.markPage_frame, ht]
  · rw [State.markPage_frame, ht]
  · exact ht

theorem State.dropProgs_cws (s : State) : s.dropProgs.cws = s.cws := by rw [State.dropProgs_frame]
theorem State.dropProgs_bursts (s : State) : s.dropProgs.bursts = s.bursts := by rw [State.dropProgs_frame]

theorem State.dropProgs_stopStep (s : State) : State.StopStep s s.dropProgs := by
  rw [State.dropProgs_frame]
  exact ⟨fun _ _ => rfl, rfl⟩

/-- No erase is left on a die, and what is left is of class U (Table 12-2, R440). -/
theorem State.stopDies_ops (s : State) : ∀ e ∈ s.stopDies.dies, ∀ o, e.2.op = some o → o.kind ≠ .erase ∧ o.cls = 0 := by
  intro e he o ho
  obtain ⟨x, -, rfl⟩ := List.mem_map.1 he
  dsimp only at ho
  split at ho
  · split at ho
    · cases ho
    · next hkind =>
      cases ho
      exact ⟨hkind, rfl⟩
  · next hnone =>
    rw [hnone] at ho
    cases ho

/-! ## Phase 1 -/

/-- The sequence has begun: its phase, its cause and its time. -/
def State.pfailMarked (s : State) (drill : Bool) : State :=
  (({ s with pf := { PowerFail.zero with start := s.mtime } } : State).setF F.PWR_PFAIL_STAT.PHASE 1).setF F.PWR_PFAIL_STAT.DRILL
    (if drill then 1 else s.getF F.PWR_PFAIL_STAT.DRILL)

/-- The fabric's requests but the Liner's are dropped, tiles in intake are released, and the config store stops. -/
def State.enginesStopped (s : State) : State :=
  let s := s.fabAbandon (fun w => match w with
    | .fill _ => false
    | .writeback _ => false
    | .cfsBuffer => false
    | _ => true)
  ((storeKeys s.ctxs).foldl (fun s c => s.freeBufs c) s).cfsStop

/-- The tick's items of array operations and transfers are skipped (R441), and records that no row has taken are dropped. -/
def State.itemsStopped (s : State) : State :=
  let s := s.bumpPln (fun p => { p with exec := p.exec.map (fun e => (e.1, e.2.filter (fun i => !i.act.stopped))) })
  { s with journals := s.journals.map (fun e => (e.1, { e.2 with pend := [] })) }

/-- Phase 1 is over but for the plan of the next tick. -/
def State.pfailStopped (s : State) (drill : Bool) : State :=
  ((((s.pfailMarked drill).enginesStopped.dropReads).dropProgs).stopDies).itemsStopped

theorem State.pfailBegin_eq (s : State) (drill : Bool) : s.pfailBegin drill =
    if (s.pfailStopped drill).pln.planTick = (s.pfailStopped drill).tickno + 1 then (s.pfailStopped drill).commitPlans
    else s.pfailStopped drill := rfl

theorem State.enginesStopped_stopStep (s : State) : State.StopStep s s.enginesStopped :=
  ((s.fabAbandon_stopStep _).trans (.foldl State.freeBufs_stopStep _ _)).trans (State.cfsStop_stopStep _)

/-- Withdrawing reads, erases and items touches no register. -/
theorem State.dropReads_stopStep (s : State) : State.StopStep s s.dropReads := ⟨fun _ _ => rfl, rfl⟩
theorem State.stopDies_stopStep (s : State) : State.StopStep s s.stopDies := ⟨fun _ _ => rfl, rfl⟩
theorem State.itemsStopped_stopStep (s : State) : State.StopStep s s.itemsStopped := ⟨fun _ _ => rfl, rfl⟩

theorem State.pfailStopped_stopStep (s : State) (drill : Bool) : State.StopStep (s.pfailMarked drill) (s.pfailStopped drill) :=
  ((((State.enginesStopped_stopStep _).trans (State.dropReads_stopStep _)).trans (State.dropProgs_stopStep _)).trans
    (State.stopDies_stopStep _)).trans (State.itemsStopped_stopStep _)

theorem State.pfailMarked_phase (s : State) (drill : Bool) : (s.pfailMarked drill).getF F.PWR_PFAIL_STAT.PHASE = 1 := by
  rw [State.pfailMarked, State.getF_setF_apart _ _ _ _ (by decide) (by decide), State.getF_setF_self _ _ _ (by decide)]
  rfl

theorem State.pfailMarked_drill (s : State) (drill : Bool) : (s.pfailMarked drill).getF F.PWR_PFAIL_STAT.DRILL =
    if drill then 1 else s.getF F.PWR_PFAIL_STAT.DRILL := by
  have hbit : s.getF F.PWR_PFAIL_STAT.DRILL < 2 := s.getF_lt F.PWR_PFAIL_STAT.DRILL
  rw [State.pfailMarked, State.getF_setF_self _ _ _ (by decide)]
  refine Nat.mod_eq_of_lt ?_
  split
  · decide
  · exact hbit

/-- The sequence's registers stand as it began. -/
theorem State.pfailStopped_status (s : State) (drill : Bool) : (s.pfailStopped drill).getF F.PWR_PFAIL_STAT.PHASE = 1 ∧
    (s.pfailStopped drill).getF F.PWR_PFAIL_STAT.DRILL = (if drill then 1 else s.getF F.PWR_PFAIL_STAT.DRILL) ∧
    (s.pfailStopped drill).pf.start = s.mtime := by
  have hstop := s.pfailStopped_stopStep drill
  refine ⟨?phase, ?drill, ?start⟩
  case phase => rw [hstop.getF (by decide), State.pfailMarked_phase]
  case drill => rw [hstop.getF (by decide), State.pfailMarked_drill]
  case start => rw [hstop.pf]; rfl

theorem State.pfailStopped_pending (s : State) (drill : Bool) :
    (s.pfailStopped drill).isPending Ev.powerFailAccepted = s.isPending Ev.powerFailAccepted := by
  refine State.isPending_congr rfl (((s.pfailStopped_stopStep drill).getF (by decide)).trans ?_)
  rw [State.pfailMarked, State.getF_setF_apart _ _ _ _ (by decide) (by decide), State.getF_setF_apart _ _ _ _ (by decide) (by decide)]
  rfl

/-- Acting on the dies' operations and on the tick's items leaves the reads as they are. -/
theorem State.itemsStopped_work (s : State) : s.stopDies.itemsStopped.cws = s.cws ∧ s.stopDies.itemsStopped.bursts = s.bursts ∧
    s.stopDies.itemsStopped.erases = [] ∧
    ∀ e ∈ s.stopDies.itemsStopped.dies, ∀ o, e.2.op = some o → o.kind ≠ .erase ∧ o.cls = 0 :=
  ⟨rfl, rfl, rfl, s.stopDies_ops⟩

/-- No codeword read, no burst and no erase goes on (R441, Table 12-2). -/
theorem State.pfailStopped_work (s : State) (drill : Bool) : (s.pfailStopped drill).cws = [] ∧ (s.pfailStopped drill).bursts = [] ∧
    (s.pfailStopped drill).erases = [] ∧
    ∀ e ∈ (s.pfailStopped drill).dies, ∀ o, e.2.op = some o → o.kind ≠ .erase ∧ o.cls = 0 := by
  have hreads (v : State) : v.dropReads.cws = [] ∧ v.dropReads.bursts = [] := ⟨rfl, rfl⟩
  obtain ⟨hcws, hbursts, herases, hdies⟩ := (s.pfailMarked drill).enginesStopped.dropReads.dropProgs.itemsStopped_work
  rw [State.dropProgs_cws, (hreads _).1] at hcws
  rw [State.dropProgs_bursts, (hreads _).2] at hbursts
  rw [State.pfailStopped]
  exact ⟨hcws, hbursts, herases, hdies⟩

/-! ## Acceptance (R438, R439) -/

/-- The registers above those of events read as before an event. -/
theorem State.getF_raise_above {f : Field} {src : Nat} (h : src < 512) (hf : 0x20840 ≤ f.reg) : (s.raise src).getF f = s.getF f :=
  State.getF_congr (State.reg_raise_above h hf)

/-- What acceptance reads, as the event that it raises leaves it. -/
theorem State.accepted_reads (s : State) : (s.raise Ev.powerFailAccepted).stage = s.stage ∧
    (s.raise Ev.powerFailAccepted).asleep = s.asleep ∧ (s.raise Ev.powerFailAccepted).mtime = s.mtime ∧
    (s.raise Ev.powerFailAccepted).getF F.PWR_PFAIL_STAT.DRILL = s.getF F.PWR_PFAIL_STAT.DRILL := by
  have habove {f : Field} (hf : 0x20840 ≤ f.reg) : (s.raise Ev.powerFailAccepted).getF f = s.getF f := State.getF_raise_above (by decide) hf
  refine ⟨habove (by decide), ?asleep, ?mtime, habove (by decide)⟩
  case asleep => rw [State.asleep, State.asleep, habove (by decide)]
  case mtime => rw [State.mtime, State.mtime, State.raise_subUs, habove (by decide), habove (by decide)]

theorem State.accepted_pending (s : State) : (s.raise Ev.powerFailAccepted).isPending Ev.powerFailAccepted = true := State.isPending_raise rfl rfl

/-- A sequence that has begun, or is to begin, is not begun anew. -/
theorem State.pfailAccept_again (h : s.pfail = true ∨ s.pf.settle = true ∨ s.pf.due = true) : s.pfailAccept drill = s :=
  if_pos (by tauto)

/-- A sequence that waits for the wake. -/
def State.pfailWaits (s : State) (drill : Bool) : State := { s with pf := { s.pf with due := true, drill := drill } }

section
variable (hon : s.phase = .on) (hfatal : s.fatal = false) (hpair : s.getF F.PAIR_STAT.STATE ≠ 6) (hlo : 6 ≤ s.stage) (hhi : s.stage < 15)
  (hp : s.pfail = false) (hsettle : s.pf.settle = false) (hdue : s.pf.due = false)
include hon hfatal hpair hlo hhi hp hsettle hdue

/-- An acceptance from census stage 6 on, on a unit that has no other. -/
theorem State.pfailAccept_taken : s.pfailAccept drill =
    if s.asleep then ((s.raise Ev.powerFailAccepted).pfailWaits drill).startWake 3
    else (s.raise Ev.powerFailAccepted).pfailBegin drill := by
  obtain ⟨hstage, hasleep, -, -⟩ := s.accepted_reads
  unfold State.pfailAccept
  rw [if_neg (by simp [hon, hfatal, hpair, hp, hsettle, hdue])]
  extract_lets s'
  have hlate : ¬ (s'.stage < 6 ∨ s'.stage = 15) := by rw [hstage]; omega
  rw [if_neg hlate, hasleep]
  rfl

end

/-- Awake, phase 1 begins (R440, R441). -/
theorem State.pfailBegin_spec (s : State) (drill : Bool) : ∃ u t, (s.raise Ev.powerFailAccepted).pfailBegin drill = t ∧
    t = (if u.pln.planTick = u.tickno + 1 then u.commitPlans else u) ∧
    u.getF F.PWR_PFAIL_STAT.PHASE = 1 ∧ u.isPending Ev.powerFailAccepted = true ∧
    u.getF F.PWR_PFAIL_STAT.DRILL = (if drill then 1 else s.getF F.PWR_PFAIL_STAT.DRILL) ∧
    u.pf.start = s.mtime ∧ u.cws = [] ∧ u.bursts = [] ∧ u.erases = [] ∧
    ∀ e ∈ u.dies, ∀ o, e.2.op = some o → o.kind ≠ .erase ∧ o.cls = 0 := by
  obtain ⟨-, -, hmtime, hwas⟩ := s.accepted_reads
  obtain ⟨hphase, hdrill, hstart⟩ := (s.raise Ev.powerFailAccepted).pfailStopped_status drill
  refine ⟨_, _, rfl, State.pfailBegin_eq _ _, hphase, ?pending, ?drill, hstart.trans hmtime, State.pfailStopped_work _ _⟩
  case pending => rw [State.pfailStopped_pending, State.accepted_pending]
  case drill => rw [hdrill, hwas]

/-- Asleep, the sequence waits for the wake (log entry 36). -/
theorem State.pfailWaits_spec (hasleep : s.asleep = true) (hwake : s.sleep.wake = 0) :
    ∃ t, ((s.raise Ev.powerFailAccepted).pfailWaits drill).startWake 3 = t ∧
      t.pf = { s.pf with due := true, drill := drill } ∧ t.sleep.wake = 3 ∧ t.getF F.PWR_STAT.LAST_WAKE = 3 ∧
      t.isPending Ev.powerFailAccepted = true ∧
      t = { s with regs := t.regs, evc := t.evc, pf := t.pf, sleep := { s.sleep with wake := 3 } } := by
  obtain ⟨-, hsleeps, -, -⟩ := s.accepted_reads
  have hsleep : (s.raise Ev.powerFailAccepted).sleep = s.sleep := State.raise_sleep _ _
  have hpf : (s.raise Ev.powerFailAccepted).pf = s.pf := State.raise_pf _ _
  have hwakes := (((s.raise Ev.powerFailAccepted).pfailWaits drill).startWake_spec 3).1 (hsleeps.trans hasleep) (by rw [State.pfailWaits, hsleep, hwake])
  refine ⟨_, hwakes, ?pf, rfl, State.getF_setF_self _ _ _ (by decide), ?pending, ?frame⟩
  case pf => rw [State.setF_pf, State.pfailWaits, hpf]
  case pending =>
    rw [State.isPending_congr (s := s.raise Ev.powerFailAccepted) rfl ?_, State.accepted_pending]
    rw [State.getF_setF_apart _ _ _ _ (by decide) (by decide)]
    rfl
  case frame => rw [State.pfailWaits, State.raise_eq]; rfl

end Sys2Proof.Machine
end

section
/-! SUPPORT. The phases of a brown-out sequence (Table 12-1, R443 to R446): the fold, the choice of shelter pages, the directory and the seal change
bands, rows, journals and programs that wait, and of the registers PWR_PFAIL_STAT alone. -/

namespace Sys2Proof.Machine

variable {s t u : State} {l : List Nat}

/-! ## Work on bands, rows and journals -/

/-- No program runs on a die. -/
def State.noneRuns (s : State) : Bool := s.progs.all (fun e => !e.2.running)

/-- The step from `s` to `t` is one on bands, rows, journals and programs, starts no program on a die and writes no register but those of the list. -/
structure State.MediaStep (l : List Nat) (s t : State) : Prop where
  frame : t = { s with
    regs := t.regs, bands := t.bands, wbands := t.wbands, journals := t.journals, progs := t.progs, nextJob := t.nextJob }
  regs : regsKept s t l
  waiting : s.noneRuns = true → t.noneRuns = true

namespace State.MediaStep

theorem refl (s : State) : State.MediaStep l s s := ⟨rfl, fun _ _ => rfl, id⟩

theorem trans (h : State.MediaStep l s t) (h' : State.MediaStep l t u) : State.MediaStep l s u :=
  ⟨by rw [h'.frame, h.frame], fun o ho => (h'.regs o ho).trans (h.regs o ho), h'.waiting ∘ h.waiting⟩

theorem foldl {α : Type} {f : State → α → State} (hf : ∀ u a, State.MediaStep l u (f u a)) (m : List α) (s : State) :
    State.MediaStep l s (m.foldl f s) :=
  List.foldlRecOn m f (motive := State.MediaStep l s) (refl s) fun u hu a _ => hu.trans (hf u a)

theorem setF {f : Field} (v : Nat) (h : f.reg ∈ l) : State.MediaStep l s (s.setF f v) :=
  ⟨rfl, fun _ ho => State.reg_setF_ne (ne_of_mem_of_not_mem h ho).symm, id⟩

theorem setBand (s : State) (g b : Nat) (x : Band) : State.MediaStep l s (s.setBand g b x) := ⟨rfl, fun _ _ => rfl, id⟩
theorem setWband (s : State) (g b : Nat) (x : WBand) : State.MediaStep l s (s.setWband g b x) := ⟨rfl, fun _ _ => rfl, id⟩
theorem setJournal (s : State) (ns : Nat) (x : Journal) : State.MediaStep l s (s.setJournal ns x) := ⟨rfl, fun _ _ => rfl, id⟩

/-- A program that waits for its die joins. -/
theorem addProg (s : State) {p : Prog} (hp : p.running = false) : State.MediaStep l s (s.addProg p) := by
  refine ⟨rfl, fun _ _ => rfl, fun hs => ?_⟩
  simp only [State.noneRuns, List.all_eq_true, Bool.not_eq_true'] at hs ⊢
  intro e he
  obtain rfl | he := storeIns_mem he
  · exact hp
  · exact hs e he

theorem pf (h : State.MediaStep l s t) : t.pf = s.pf := by rw [h.frame]

end State.MediaStep

/-! ## The journal -/

theorem State.journalPump_mediaStep (s : State) (ns : Nat) : State.MediaStep l s (s.journalPump ns) := by
  obtain h | ⟨-, progs, b, x, j, hwait, -, h⟩ := s.journalPump_cases ns
  · rw [h]
    exact .refl s
  · have hprogs : State.MediaStep l s (progs.foldl State.addProg s) :=
      List.foldlRecOn progs State.addProg (motive := State.MediaStep l s) (.refl s) fun u hu p hp => hu.trans (.addProg u (hwait p hp))
    rw [h]
    exact (hprogs.trans (.setBand _ _ _ _)).trans (.setJournal _ _ _)

theorem State.journalAdd_mediaStep (s : State) (ns : Nat) (m : List JItem) : State.MediaStep l s (s.journalAdd ns m) :=
  (State.MediaStep.setJournal s ns { s.journal ns with pend := (s.journal ns).pend ++ m }).trans (State.journalPump_mediaStep _ ns)

/-! ## The fold and the choice of shelter pages (R443, R444) -/

theorem State.voidSlot_mediaStep (s : State) (g b boi : Nat) : State.MediaStep l s (s.voidSlot g b boi) := by
  unfold State.voidSlot
  extract_lets d w row
  split
  · exact .refl s
  · extract_lets k sl r x
    split
    · exact .refl s
    · exact (State.MediaStep.setWband s g b _).trans (.setBand _ _ _ _)

/-- The slots that the fold voids are counted in PWR_PFAIL_STAT. -/
theorem State.foldRows_mediaStep (s : State) : State.MediaStep [F.PWR_PFAIL_STAT.PHASE.reg] s s.foldRows := by
  unfold State.foldRows
  refine .foldl (fun u e => ?_) _ _
  dsimp only
  exact (State.MediaStep.foldl (fun v boi => v.voidSlot_mediaStep _ _ boi) _ _).trans (.setF (f := F.PWR_PFAIL_STAT.FOLDED) _ (by decide))

/-- The shelter pages chosen are noted in their rows. -/
theorem State.chooseShelters_mediaStep (s : State) : State.MediaStep l s s.chooseShelters := by
  unfold State.chooseShelters
  exact List.foldlRecOn s.shelterRows _ (motive := fun x : State × Store Nat × Store Nat => State.MediaStep l s x.1) (.refl s)
    fun x hx e _ => hx.trans (.setWband x.1 _ _ _)

/-! ## The directory and the seal (R445, R446) -/

/-- Records that join the journal of each of some namespaces, whatever they are, leave the registers and the sequence's own state. -/
theorem State.joinAll_mediaStep (items : State → Nat → List JItem) (m : List Nat) (s : State) :
    State.MediaStep l s (m.foldl (fun s ns => s.journalAdd ns (items s ns)) s) :=
  .foldl (fun u ns => u.journalAdd_mediaStep ns _) m s

/-- The sequence goes to a phase, with its own state. -/
def State.inPhase (s : State) (n : Nat) (x : PowerFail) : State := { s.setF F.PWR_PFAIL_STAT.PHASE n with pf := x }

theorem State.inPhase_phase (s : State) {n : Nat} (hn : n < 16) (x : PowerFail) : (s.inPhase n x).getF F.PWR_PFAIL_STAT.PHASE = n :=
  (State.getF_setF_self s F.PWR_PFAIL_STAT.PHASE n (by decide)).trans (Nat.mod_eq_of_lt hn)

theorem State.inPhase_regs (s : State) (n : Nat) (x : PowerFail) : regsKept s (s.inPhase n x) [F.PWR_PFAIL_STAT.PHASE.reg] :=
  fun _ ho => State.reg_setF_ne (s := s) (f := F.PWR_PFAIL_STAT.PHASE) (by simpa using ho)

/-- The sequence's state as phase 4 begins: the namespaces whose directories are to commit, each with the number of its row. -/
def State.dirsDue (s : State) : PowerFail :=
  { s.pf with wait := s.journalNs.length, dir := s.journalNs.map (fun ns => (ns, (s.journal ns).seq + 1)) }

theorem State.startDirectory_eq (s : State) : s.startDirectory =
    s.journalNs.foldl (fun s ns => s.journalAdd ns (s.directory ns)) (s.inPhase 4 s.dirsDue) := rfl

theorem State.startSeal_eq (s : State) : s.startSeal =
    s.journalNs.foldl (fun s ns => s.journalAdd ns [jrec 0x51 (leBytes 8 (cnt s.pf.dir ns) ++ leBytes 4 (s.mtime - s.pf.start) ++ leBytes 4 0) .plSeal])
      (s.inPhase 6 { s.pf with wait := s.journalNs.length }) := rfl

/-- A phase that begins with records for journals. -/
theorem State.inPhase_joined {n : Nat} (hn : n < 16) {x : PowerFail} (h : State.MediaStep [] (s.inPhase n x) t) :
    t.getF F.PWR_PFAIL_STAT.PHASE = n ∧ t.pf = x ∧ regsKept s t [F.PWR_PFAIL_STAT.PHASE.reg] ∧ (s.noneRuns = true → t.noneRuns = true) :=
  ⟨(State.getF_congr (h.regs _ List.not_mem_nil)).trans (s.inPhase_phase hn x), h.pf,
    fun o ho => (h.regs o List.not_mem_nil).trans (s.inPhase_regs n x o ho), h.waiting⟩

theorem State.startDirectory_spec (s : State) : s.startDirectory.getF F.PWR_PFAIL_STAT.PHASE = 4 ∧ s.startDirectory.pf = s.dirsDue ∧
    regsKept s s.startDirectory [F.PWR_PFAIL_STAT.PHASE.reg] ∧ (s.noneRuns = true → s.startDirectory.noneRuns = true) :=
  State.inPhase_joined (by decide) (s.startDirectory_eq ▸ State.joinAll_mediaStep State.directory _ _)

theorem State.startSeal_spec (s : State) : s.startSeal.getF F.PWR_PFAIL_STAT.PHASE = 6 ∧
    s.startSeal.pf = { s.pf with wait := s.journalNs.length } ∧
    regsKept s s.startSeal [F.PWR_PFAIL_STAT.PHASE.reg] ∧ (s.noneRuns = true → s.startSeal.noneRuns = true) :=
  State.inPhase_joined (by decide) (s.startSeal_eq ▸ State.joinAll_mediaStep _ _ _)

/-! ## BROWNOUT_DRAIN_END -/

/-- The fold waits for no tile where none is in the fabric pool. -/
theorem State.startFold_noPins (h : s.pinReads = []) : s.startFold = s.setF F.PWR_PFAIL_STAT.PHASE 3 := by
  have hpins : (s.setF F.PWR_PFAIL_STAT.PHASE 3).pinReads = [] := h
  unfold State.startFold
  extract_lets s₁ m
  rw [show m = [] from hpins]
  rfl

theorem State.endFold_noFab (h : s.fab = []) : s.endFold = s.foldRows.chooseShelters.startDirectory := by
  unfold State.endFold
  extract_lets s₁
  have hsame : s₁ = s := by
    simp only [s₁]
    rw [h, List.filter_nil, ← h]
  rw [hsame]

/-- Without a resident row nothing is folded and nothing sheltered. -/
theorem State.foldRows_noRows (h : s.residentRows = []) : s.foldRows.chooseShelters = s := by
  have hfold : s.foldRows = s := by
    rw [State.foldRows, h]
    rfl
  rw [hfold, State.chooseShelters, State.shelterRows, h, List.filter_nil, List.mergeSort_nil]
  rfl

/-- Without a journal no directory is written. -/
theorem State.startDirectory_noJournals (h : s.journals = []) : s.startDirectory = s.inPhase 4 { s.pf with wait := 0, dir := [] } := by
  have hns : s.journalNs = [] := by
    rw [State.journalNs, h]
    rfl
  rw [State.startDirectory_eq, State.dirsDue, hns]
  rfl

/-- Phase 2 goes on while a program runs (R440). -/
theorem brownoutDrainEnd_waits (h2 : s.getF F.PWR_PFAIL_STAT.PHASE = 2) (hprogs : s.progs ≠ []) : exec .brownoutDrainEnd s = .next s := by
  change execBrownoutDrainEnd s = _
  unfold execBrownoutDrainEnd
  simp [h2, hprogs]

section
variable (hon : s.phase = .on) (h2 : s.getF F.PWR_PFAIL_STAT.PHASE = 2) (hprogs : s.progs = [])
  (hdies : s.dies.all (fun e => e.2.op.isNone) = true) (hfab : s.fab = []) (hpins : s.pinReads = [])
include hon h2 hprogs hdies hfab hpins

/-- Phases 3 and 4 follow where no tile must come from the pin region. -/
theorem exec_brownoutDrainEnd : exec .brownoutDrainEnd s =
    .next (s.setF F.PWR_PFAIL_STAT.PHASE 3).foldRows.chooseShelters.startDirectory := by
  have hfab' : (s.setF F.PWR_PFAIL_STAT.PHASE 3).fab = [] := hfab
  change execBrownoutDrainEnd s = _
  unfold execBrownoutDrainEnd
  rw [if_neg (not_not_intro hon), if_neg (by rw [h2]; decide), if_neg ?programs, State.startFold_noPins hpins]
  case programs =>
    rintro (hphase | hsome | hop)
    · exact hphase h2
    · exact hsome hprogs
    · obtain ⟨e, he, hop⟩ := List.any_eq_true.1 hop
      rw [Option.isNone_iff_eq_none.1 (List.all_eq_true.1 hdies e he)] at hop
      cases hop
  simp only [hfab', List.any_nil, Bool.false_eq_true, if_false, State.endFold_noFab hfab']

/-- The directory is under way, no program runs on a die, and PWR_PFAIL_STAT alone was written. -/
theorem brownoutDrainEnd_folds : ∃ t, exec .brownoutDrainEnd s = .next t ∧ t.getF F.PWR_PFAIL_STAT.PHASE = 4 ∧
    t.progs.all (fun e => !e.2.running) = true ∧ regsKept s t [F.PWR_PFAIL_STAT.PHASE.reg] := by
  have hset : State.MediaStep [F.PWR_PFAIL_STAT.PHASE.reg] s (s.setF F.PWR_PFAIL_STAT.PHASE 3) := .setF 3 (by decide)
  have hfolded := (hset.trans (State.foldRows_mediaStep _)).trans (State.chooseShelters_mediaStep _)
  obtain ⟨hphase, -, hregs, hwait⟩ := State.startDirectory_spec (s.setF F.PWR_PFAIL_STAT.PHASE 3).foldRows.chooseShelters
  have hnone : s.noneRuns = true := by rw [State.noneRuns, hprogs]; rfl
  exact ⟨_, exec_brownoutDrainEnd hon h2 hprogs hdies hfab hpins, hphase, hwait (hfolded.waiting hnone),
    fun o ho => (hregs o ho).trans (hfolded.regs o ho)⟩

/-- With no resident row and no journal the phases alone pass. -/
theorem brownoutDrainEnd_empty (hrows : s.residentRows = []) (hjournals : s.journals = []) : ∃ t, exec .brownoutDrainEnd s = .next t ∧
    t.getF F.PWR_PFAIL_STAT.PHASE = 4 ∧ t.getF F.PWR_PFAIL_STAT.FOLDED = s.getF F.PWR_PFAIL_STAT.FOLDED ∧
    regsKept s t [F.PWR_PFAIL_STAT.PHASE.reg] ∧ t = { s with regs := t.regs, pf := { s.pf with wait := 0, dir := [] } } := by
  have hrows' : (s.setF F.PWR_PFAIL_STAT.PHASE 3).residentRows = [] := hrows
  have hjournals' : (s.setF F.PWR_PFAIL_STAT.PHASE 3).journals = [] := hjournals
  have hexec := exec_brownoutDrainEnd hon h2 hprogs hdies hfab hpins
  rw [State.foldRows_noRows hrows', State.startDirectory_noJournals hjournals'] at hexec
  refine ⟨_, hexec, State.inPhase_phase _ (by decide) _, ?folded, fun o ho => ?regs, ?frame⟩
  case folded =>
    exact (State.getF_setF_apart (s.setF F.PWR_PFAIL_STAT.PHASE 3) F.PWR_PFAIL_STAT.FOLDED F.PWR_PFAIL_STAT.PHASE 4 (by decide) (by decide)).trans
      (State.getF_setF_apart s _ _ _ (by decide) (by decide))
  case frame => rfl
  case regs => exact (State.inPhase_regs _ _ _ o ho).trans (State.reg_setF_ne (by simpa using ho))

end

/-! ## BROWNOUT_SHELTER_END and POWER_RESTORED -/

/-- A program of phase 5 has not ended. -/
def State.sheltering (s : State) : Bool := s.progs.any (fun e => match e.2.use with | .shelter _ => true | _ => false)

theorem exec_brownoutShelterEnd (hon : s.phase = .on) (h5 : s.getF F.PWR_PFAIL_STAT.PHASE = 5) :
    exec .brownoutShelterEnd s = .next (if s.sheltering then s else s.startSeal) := by
  change Host.Outcome.next (if s.phase = .on ∧ s.getF F.PWR_PFAIL_STAT.PHASE = 5 ∧ !s.sheltering then s.startSeal else s) = _
  cases hshelter : s.sheltering <;> simp [hon, h5]

theorem exec_powerRestored (hon : s.phase = .on) (h7 : s.getF F.PWR_PFAIL_STAT.PHASE = 7) :
    exec .powerRestored s = .next (s.raise Ev.powerRestored) := congrArg Host.Outcome.next (if_pos ⟨hon, h7⟩)

/-! ## Acceptance, glitches and the phases together -/

/-- The commands that accept a power fail or a drill. -/
theorem exec_acceptance {c : Instr} {drill : Bool} (h : (∃ n, c = .powerFailAccept n ∧ drill = false ∧ s.pfailLen ≤ n) ∨
    (c = .pfailDrill ∧ drill = true ∧ s.served = true ∧ s.asleep = false)) : exec c s = .next (s.pfailAccept drill) := by
  obtain ⟨n, rfl, rfl, hlen⟩ | ⟨rfl, rfl, hserved, hawake⟩ := h
  · exact congrArg Host.Outcome.next (if_pos hlen)
  · change execPfailDrill s = _
    rw [execPfailDrill, hserved, hawake]
    rfl

theorem exec_pfailGlitch {n : Nat} (hon : s.phase = .on) (hmitten : s.getF F.PWR_STAT.STATE ≠ 3) (hpos : 0 < n)
    (hshort : n < max 1 (s.getF F.PWR_PFAIL_CFG.FILTER)) : exec (.pfailGlitch n) s =
    .next (s.setF F.PWR_PFAIL_STAT.GLITCHES (satAdd 16 (s.getF F.PWR_PFAIL_STAT.GLITCHES) 1)) := by
  have hlen : n < s.pfailLen := by rwa [State.pfailLen, if_neg hmitten]
  exact congrArg Host.Outcome.next (if_pos ⟨hon, hmitten, hpos, hlen⟩)

/-- A short pulse counts, and nothing else comes of it (R438). -/
theorem State.glitch_spec (s : State) (n : Nat) :
    (s.setF F.PWR_PFAIL_STAT.GLITCHES (satAdd 16 n 1)).getF F.PWR_PFAIL_STAT.GLITCHES = satAdd 16 n 1 ∧
    (s.setF F.PWR_PFAIL_STAT.GLITCHES (satAdd 16 n 1)).getF F.PWR_PFAIL_STAT.PHASE = s.getF F.PWR_PFAIL_STAT.PHASE ∧
    regsKept s (s.setF F.PWR_PFAIL_STAT.GLITCHES (satAdd 16 n 1)) [F.PWR_PFAIL_STAT.GLITCHES.reg] := by
  have hle := satAdd_le 16 n 1
  refine ⟨(State.getF_setF_self _ _ _ (by decide)).trans (Nat.mod_eq_of_lt ?_), State.getF_setF_apart _ _ _ _ (by decide) (by decide),
    fun o ho => State.reg_setF_ne (by simpa using ho)⟩
  change satAdd 16 n 1 < 2 ^ 16
  omega

/-- Settles O21: an acceptance begins phase 1 or waits for the wake, a short pulse is counted, and each phase ends as Table 12-1 has it. -/
theorem powerFailAndBrownout : Obligations.PowerFailAndBrownout := by
  unfold Obligations.PowerFailAndBrownout
  refine ⟨⟨?acceptance, ?glitch⟩, ?drain, ?shelter, ?restored⟩
  case acceptance =>
    intro s c drill hc hon hfatal hpair hlo hhi
    rw [exec_acceptance hc]
    refine ⟨fun hagain => congrArg _ (State.pfailAccept_again hagain), fun hp hsettle hdue => ?_⟩
    rw [State.pfailAccept_taken hon hfatal hpair hlo hhi hp hsettle hdue]
    refine ⟨fun hawake => ?_, fun hasleep hwake => ?_⟩
    · rw [hawake, if_neg Bool.false_ne_true]
      obtain ⟨u, t, hbegin, hspec⟩ := s.pfailBegin_spec drill
      exact ⟨u, t, congrArg _ hbegin, hspec⟩
    · rw [hasleep, if_pos rfl]
      obtain ⟨t, hwaits, hspec⟩ := State.pfailWaits_spec (drill := drill) hasleep hwake
      exact ⟨t, congrArg _ hwaits, hspec⟩
  case glitch =>
    intro s n hon hmitten hpos hshort
    obtain ⟨hcount, hphase, hregs⟩ := s.glitch_spec (s.getF F.PWR_PFAIL_STAT.GLITCHES)
    exact ⟨_, exec_pfailGlitch hon hmitten hpos hshort, hcount, hphase, hregs, rfl⟩
  case drain =>
    exact fun s hon h2 => ⟨brownoutDrainEnd_waits h2, fun hprogs hdies hfab =>
      ⟨brownoutDrainEnd_folds hon h2 hprogs hdies hfab, brownoutDrainEnd_empty hon h2 hprogs hdies hfab⟩⟩
  case shelter =>
    intro s hon h5
    rw [exec_brownoutShelterEnd hon h5]
    refine ⟨fun hrun => ?_, fun hdone => ?_⟩
    · rw [show s.sheltering = true from hrun]
      rfl
    · obtain ⟨hphase, hpf, hregs, -⟩ := s.startSeal_spec
      rw [show s.sheltering = false from hdone]
      exact ⟨_, rfl, hphase, hpf, hregs⟩
  case restored =>
    intro s hon h7
    refine ⟨_, exec_powerRestored hon h7, State.isPending_raise rfl rfl, fun o ho => State.reg_raise ?_, s.raise_eq _⟩
    exact fun h => ho (h ▸ List.mem_cons_self)

end Sys2Proof.Machine
end
